-- ==== Sys2Proof/Word.lean ====
section
/-!
DEFINITION. The word types of the module and the numbers that name its units (00 R2, R3; 01 R10).
-/

namespace Sys2Proof

abbrev Byte := BitVec 8
abbrev Word16 := BitVec 16
abbrev Word32 := BitVec 32
abbrev Word64 := BitVec 64

/-- A byte address of the 42-bit module address space, once computed (05 R142). -/
abbrev Addr := Nat

/-- A logical Stream, 0 to 63 (00 R3). -/
abbrev StreamId := Fin 64

/-- A physical Stream slot Tt.j, numbered 17t + j (01 R10). -/
abbrev SlotId := Fin 68

/-- A physical GDDR7 port P0 to P31 (01 R10). -/
abbrev PortId := Fin 32

/-- A Yunaran queue pair (11, Yunaran queues). -/
abbrev QueueId := Fin 16

/-- One of the four accumulators Q0 to Q3 (04 R126). -/
abbrev Acc := BitVec 4288

end Sys2Proof
end

