-- ==== Sys2Proof/Config.lean ====
section
/-!
DEFINITION. What the spec leaves open: free values (no body, so nothing can be proved of them) and the constants that
one module carries and the spec does not print. Every entry names its assumption-log number.
-/

namespace Sys2Proof.Config

/-- A 64-bit value that the spec leaves open, one for each value of the model's counter `State.free` (log 13). -/
opaque freeWord : Nat → Word64

/-- A two-way choice that the spec leaves open (log 13). -/
opaque freeBit : Nat → Bool

/-- A byte that the spec leaves open (log 13). -/
opaque freeByte : Nat → Byte

/-- What a byte of memory reads as after a coverage run has destroyed it, for each epoch and address (log 13; 13 R384). -/
opaque freeMem : (epoch a : Nat) → Byte

/-- For each draw, a two-way choice for each 8-byte word (log 12). -/
opaque freeChoice : (draw word : Nat) → Bool

/-- SHAKE256 with a 256-bit output, which the spec names and does not define (log 17; 14, 13 R381, 09 R283). -/
opaque shake256 : List Byte → BitVec 256

/-- Whether a 2,820-byte XMSS-SHAKE256_20_256 signature verifies under a 68-byte key (log 17; 14 R396, R408). -/
opaque xmssVerify : (key msg sig : List Byte) → Bool

/-- The identity signature made with one-time key `index` (log 17; 14 R399, R403). -/
opaque xmssSign : (index : Nat) → (msg : List Byte) → List Byte

/-- Brirel's public key in the fuses, 68 bytes (log 18; 14 R395). -/
opaque brirelKey : List Byte

/-- The signed image that the module is shipped with in every place of type 1 (firmware) or 2 (boot image) (log 18; 14 R395). -/
opaque shippedImage : (type : Nat) → List Byte

/-- The identity public key, 68 bytes (log 18; 14 R398). -/
opaque identityKey : List Byte

/-- Brirel's certificate of the identity key (log 18; 14 R398, 6010h/07h). -/
opaque identityCertificate : List Byte

/-- The sixteen characters of the serial number (log 18; 12, 1000h/03h). -/
opaque serialChar : Fin 16 → Byte

/-- The calibrated baseline power before its bound of 280 W is applied (log 18; 06, 5000h/02h). -/
opaque pBaseRaw : Nat

/-- P_base in W: calibrated, at most 280 (06, 5000h/02h). -/
def pBase : Nat := min 280 pBaseRaw

/-- The minimum security version in the fuses (log 18; 14, 6001h/02h). -/
opaque minSvn : Word32

/-- The compactor state of BIST block `b` after `n` patterns of a program (log 18; 13 R380, R381: "the pattern generators
belong to the module"). -/
opaque bistCompactor : (program : List Byte) → (b n : Nat) → BitVec 256

/-- The fixed power-up plan in the fuses, as bytes (log 18; 13 R380, 14 R402 M3). -/
opaque fixedBistPlan : List Byte

/-- The fuse words for options, as bytes, of which M4 is taken together with the life-cycle state and the factory repair map
(log 18; 14 R402). -/
opaque optionFuses : List Byte

/-- Free journal bytes in the device with less of them, by the records each device holds (log 18; 12, 9000h/04h: the spec gives no size). -/
opaque journalFree : (recordsA recordsB : Nat) → Word32

end Sys2Proof.Config
end

