-- ==== Sys2Proof/Syntax.lean ====
section
/-!
DEFINITION. The commands of the module: one constructor for each row of spec/opcode_table.json, with the row's operands.
Instruction operands carry every field of the spec's format tables (07 R250, 02 R63), the reserved fields included.
-/

namespace Sys2Proof

/-! ### Scalar instruction formats (07 R250) -/

/-- Format R. -/
structure RFmt where
  rd : BitVec 5
  ra : BitVec 5
  rb : BitVec 5
  w : BitVec 2
  rsv : BitVec 5
  deriving DecidableEq, Repr

/-- Format I. -/
structure IFmt where
  rd : BitVec 5
  ra : BitVec 5
  imm : BitVec 12
  deriving DecidableEq, Repr

/-- Format F. -/
structure FFmt where
  rd : BitVec 5
  ra : BitVec 5
  rb : BitVec 5
  rnd : BitVec 3
  p : BitVec 1
  rsv : BitVec 3
  deriving DecidableEq, Repr

/-- Format F4. -/
structure F4Fmt where
  rd : BitVec 5
  ra : BitVec 5
  rb : BitVec 5
  rc : BitVec 5
  p : BitVec 1
  rsv : BitVec 1
  deriving DecidableEq, Repr

/-- Format FC. -/
structure FCFmt where
  rd : BitVec 5
  ra : BitVec 5
  dt : BitVec 4
  st : BitVec 4
  rnd : BitVec 3
  rsv : BitVec 1
  deriving DecidableEq, Repr

/-- Format A. -/
structure AFmt where
  ad : BitVec 4
  aa : BitVec 4
  imm : BitVec 14
  deriving DecidableEq, Repr

/-- Format AR. -/
structure ARFmt where
  ad : BitVec 4
  aa : BitVec 4
  ab : BitVec 4
  sc : BitVec 2
  rsv : BitVec 8
  deriving DecidableEq, Repr

/-- Format AX. -/
structure AXFmt where
  ad : BitVec 4
  aa : BitVec 4
  rx : BitVec 5
  rsv : BitVec 9
  deriving DecidableEq, Repr

/-- Format M. -/
structure MFmt where
  rd : BitVec 5
  ab : BitVec 4
  disp : BitVec 13
  deriving DecidableEq, Repr

/-- Format B: `cond` is COND, or AD for JAL. -/
structure BFmt where
  cond : BitVec 4
  disp : BitVec 18
  deriving DecidableEq, Repr

/-- Format BZ. -/
structure BZFmt where
  rd : BitVec 5
  disp : BitVec 17
  deriving DecidableEq, Repr

/-- Format J. -/
structure JFmt where
  disp : BitVec 22
  deriving DecidableEq, Repr

/-- Format L of LOOPI. -/
structure LoopIFmt where
  count : BitVec 12
  endw : BitVec 10
  deriving DecidableEq, Repr

/-- Format L of LOOPR. -/
structure LoopRFmt where
  rd : BitVec 5
  rsv : BitVec 7
  endw : BitVec 10
  deriving DecidableEq, Repr

/-- Format S of the string instructions. -/
structure SFmt where
  rd : BitVec 5
  sz : BitVec 2
  ck : BitVec 1
  rsv : BitVec 14
  deriving DecidableEq, Repr

/-- Format P of the REP prefix. -/
structure PFmt where
  untl : BitVec 4
  rsv : BitVec 18
  deriving DecidableEq, Repr

/-- Format X. -/
structure XFmt where
  rd : BitVec 5
  sn : BitVec 5
  imm : BitVec 12
  deriving DecidableEq, Repr

/-- Format Q. -/
structure QFmt where
  qn : BitVec 2
  qm : BitVec 2
  rd : BitVec 5
  rnd : BitVec 3
  rsv : BitVec 10
  deriving DecidableEq, Repr

/-- Format W. -/
structure WFmt where
  rd : BitVec 5
  rsv : BitVec 1
  imm : BitVec 16
  deriving DecidableEq, Repr

/-- The fields of a 64-bit vector instruction apart from VOP and CLASS (02 R63). -/
structure VFmt where
  ad : BitVec 4
  as1 : BitVec 4
  as2 : BitVec 4
  as3 : BitVec 4
  ds : BitVec 5
  qn : BitVec 2
  scl : BitVec 1
  rnd : BitVec 3
  fn : BitVec 5
  cnt : BitVec 4
  rsv : BitVec 16
  deriving DecidableEq, Repr

/-- The five string instructions (07 R241). -/
inductive StringOp where
  | movs | fills | cmps | scans | crcs
  deriving DecidableEq, Repr

/-- What stands after a REP prefix (07 R242, R243). -/
inductive AfterRep where
  | string (op : StringOp) (f : SFmt)
  | rep
  | other
  deriving DecidableEq, Repr

/-! ### Operands of the other commands -/

/-- How a read or fill comes back: with data, or as an error response or uncorrectable (07 R229, 10 R308). -/
inductive BusResp where
  | ok | error
  deriving DecidableEq, Repr

/-- How the commit of a store-buffer entry ends (07 R233). -/
inductive CommitOutcome where
  | ok
  /-- the entry fails its parity check: nothing of it is written -/
  | parity
  /-- the write is answered with an error: nothing of it is written -/
  | errorResp
  /-- a split store: the lower half is written, the upper half is answered with an error -/
  | upperError
  deriving DecidableEq, Repr

/-- Why the core enters a handler (08 R257, R271). -/
inductive EntryWhy where
  /-- what the core holds: an exception raised while loads were out, else the choice of R271 at this boundary -/
  | pending
  /-- the word at PC has no row in the opcode map (07 R252) -/
  | undefined
  /-- a class-Fh word at an address with bit 2 set (07 R250) -/
  | misplaced
  /-- the first byte at PC lies outside the fetchable ranges (07 R220) -/
  | fetchAddress
  /-- the line that holds PC came back uncorrectable (08 R257, vector 06h) -/
  | fetchData
  /-- the instruction at PC reads a register whose parity fails: its number as FADDR numbers it (07 R255; 08 R261) -/
  | parity (reg : Byte)
  deriving DecidableEq, Repr

/-- A client of the timetable: a logical Stream or an excursion engine (06 R176). -/
inductive Client where
  | stream (s : StreamId)
  | engine (e : Fin 2)
  deriving DecidableEq, Repr

/-- A unit that can be retired (01, 10 R296). -/
inductive UnitRef where
  | lane (k : SlotId) (l : Fin 66)
  | slot (k : SlotId)
  | bank (p : PortId) (b : Fin 128)
  | port (p : PortId)
  deriving DecidableEq, Repr

/-- What a step of a recess slice comes to (13 R385, R386). -/
inductive SliceOutcome where
  | stepped | completed | failed | abandoned
  deriving DecidableEq, Repr

/-- What a block retry repeats (05 R154, 10 R299): a link attempt, the re-read, a flit, or an access of a block in reconstruction mode whose two
results disagreed (10 R303). -/
inductive RetryKind where
  | link | reread | flit | disagree
  deriving DecidableEq, Repr

/-- A block that a port keeps (05 R149, R155): one of the interleave, the work area included, or a row of a port's bank spare. -/
inductive MemBlock where
  | mapped (block : Nat)
  | spare (p : PortId) (row : Nat)
  deriving DecidableEq, Repr

/-- What the decoder makes of an error of three or more bytes in a block (05 R153): it is detected, or its syndrome is that of an error of one or
two bytes, and the bytes given are delivered as corrected, with those bytes taken for the wrong ones. -/
inductive BlockError where
  | detected
  | miscorrected (data : List Byte) (fixes : List (Fin 68))
  deriving DecidableEq, Repr

/-- An error that arises in a memory or on a network, by no row of its own (05 R152-R156, R166; 09 R285; 10 R292, R312; 12 R365; log 139). -/
inductive Upset where
  /-- the bytes of a block that an error hits, those from 64 up its check bytes, and what the decoder makes of them when, with those hit before, they
  are three or more -/
  | block (b : MemBlock) (hit : List (Fin 68)) (e : BlockError)
  | deskWord (k : SlotId) (word : Nat) (double : Bool)
  /-- a word of a slot's decode-table copy: VOP × 100h + j -/
  | tableWord (k : SlotId) (word : Nat) (double : Bool)
  /-- a row that needs hard post-package repair -/
  | row (p : PortId) (bank : Fin 128) (row : Nat)
  /-- a report of a device's on-die ECC -/
  | onDie (p : PortId)
  /-- a Stream-network flit of a block corrected by SECDED -/
  | flit (block : Nat)
  /-- an error of an IOT memory -/
  | iot (uncorrectable : Bool)
  /-- a flash page that fails its CRC on a read -/
  | flashPage
  deriving DecidableEq, Repr

/-- What a bank's refresh of a row comes with: the bank, and the errors that have arisen since the command before (05 R152, log 139). -/
structure BankRefresh where
  bank : Fin 128
  upsets : List Upset
  deriving DecidableEq, Repr

/-- The unit that a step of a recess slice tests, of every unit of the module (13 R385, R387): a lane, slot, bank or port; a desk bank by bank; the
stream-network path of a slot; a tile hub; a half of the dictionary store or of the trace buffer; the rest of the IOT. -/
inductive SliceUnit where
  | unit (u : UnitRef)
  | deskBank (k : SlotId) (b : Fin 32)
  | path (k : SlotId)
  | tileHub (t : Fin 4)
  | dictHalf (h : Fin 2)
  | traceHalf (h : Fin 2)
  | iot
  deriving DecidableEq, Repr

/-- The wake of a slot's desk, `dt` clk after the command before (05 R167). -/
structure WakeStart where
  slot : SlotId
  dt : Nat
  deriving DecidableEq, Repr

/-- One retry of a block access (10 R298): `access` numbers the block's accesses from 1 (the first retry is access 2). -/
structure RetryOp where
  client : Option Client
  block : Nat
  write : Bool
  kind : RetryKind
  access : Nat
  cured : Bool
  late : Bool
  deriving DecidableEq, Repr

/-- A product that fails its residue check (10 R300): the position of its operation in the entry, and its element. -/
structure ResidueMiss where
  op : Nat
  elem : Nat
  deriving DecidableEq, Repr

/-- How far the running entry of a Stream has come: the residue mismatches met since the command before, and whether it has ended (02, 10 R300). -/
structure EntryRun where
  stream : StreamId
  misses : List ResidueMiss
  done : Bool
  deriving DecidableEq, Repr

/-- Where a suspension stops the running entry: the element group at whose first element it does, and the residue mismatches met up to there
(02 R60, 10 R300). -/
structure SuspendPoint where
  group : Nat
  misses : List ResidueMiss
  deriving DecidableEq, Repr

/-- A line access of the desk DMA port (05 R163): 64 bytes at a line-aligned offset; a byte that is `none` is not enabled. -/
structure DmaLine where
  off : Nat
  write : Option (List (Option Byte))
  deriving DecidableEq, Repr

/-- The engine/core access that meets the DMA access in its clk, if any (05 R163, R165). -/
inductive EngineAccess where
  | idle
  | read
  | write (bytes : List (Option Byte))
  deriving DecidableEq, Repr

/-- A far memory response (05 R170, R172): its latency in ns, whether it is poisoned, and a far-to-near block's 64 bytes. -/
structure FarResponse where
  ns : Nat
  poison : Bool
  data : List Byte
  deriving DecidableEq, Repr

/-- Masters of the service matrix (11). -/
inductive Master where
  | th (t : Fin 4)
  | hdma
  | xe (e : Fin 2)
  | dam
  | mgmt
  | bist
  | sec
  deriving DecidableEq, Repr

/-- Targets of the service matrix (11). -/
inductive Target where
  | tp (t : Fin 4)
  | gsp | xp | flc | trb | dict | secr | deflt
  deriving DecidableEq, Repr

/-- A piece that waits at a target, with its transaction's ID, first address and length (11 R334); `enables = false` is a write whose byte
enables are all clear (R339). -/
structure Piece where
  master : Master
  id : BitVec 6
  addr : Addr
  len : Nat
  write : Option (List Byte)
  enables : Bool
  start : Addr
  whole : Nat
  deriving DecidableEq, Repr

/-- The pieces that wait when a target grants one, and whether the piece granted meets a parity error on its way (11 R337, R338; 10 R308). -/
structure PieceWait where
  waiting : List Piece
  parity : Bool
  deriving DecidableEq, Repr

/-- A block request that waits at the GDDR7 service port (11 R337): from a tile hub for a core (with its age, and whether it is a prefetch), or
from another master. -/
inductive GspReq where
  | hub (t : Fin 4) (k : SlotId) (age : Nat) (block : Nat) (prefetch : Bool)
  | other (m : Master) (block : Nat)
  deriving DecidableEq, Repr

/-- The host's base address registers (11). -/
inductive Bar where
  | bar0 | bar2 | bar4
  deriving DecidableEq, Repr

/-- A host's memory read request: its length, and whether its end-to-end CRC is wrong (11 R317, log 146). -/
structure ReadTlp where
  len : Nat
  badEcrc : Bool
  deriving DecidableEq, Repr

/-- How a host's write request arrives: sound, poisoned, or with a wrong end-to-end CRC (11 R317, log 146). -/
inductive TlpState where
  | sound | poisoned | badEcrc
  deriving DecidableEq, Repr

/-- What auxiliary power finds when it comes on: the strap of the module's pins, which flash bank's firmware image fails its check (13 R368), and
which device's record of RT fails its CRC32C (14 R399, R400). -/
structure AuxPins where
  sb : BitVec 6
  badA : Bool
  badB : Bool
  badRtA : Bool
  badRtB : Bool
  deriving DecidableEq, Repr

/-- An access of the debug access master (14 R419). -/
structure Access where
  addr : Addr
  len : Nat
  write : Option (List Byte)
  deriving DecidableEq, Repr

/-- What the management controller's sensors show at a frame boundary (06, 5000h/04h; 15 R435; 05 R152). -/
structure Sensors where
  tj : Int
  lid : Int
  vin10mV : Nat
  watts : Nat
  /-- of the hotter device of each port -/
  portTemp : Vector Byte 32
  deriving DecidableEq, Repr

/-- A frame on the CAN FD bus (12 R342). -/
inductive CanFrame where
  /-- an FD base frame with DLC 1111b and its 64 data bytes -/
  | fd (id : BitVec 11) (data : List Byte)
  /-- an FD frame with another DLC -/
  | fdShort (id : BitVec 11)
  | classical | remote | extended
  /-- a frame in which the controller, as receiver, detects an error -/
  | error
  deriving DecidableEq, Repr

/-- The management transports (12 R346). -/
inductive Transport where
  | can | mailbox
  deriving DecidableEq, Repr

/-- How a CAN transmission ends (12 R342). -/
inductive TxOutcome where
  | sent | lostArbitration | error
  deriving DecidableEq, Repr

/-- What a host reset comes from (11 R318). -/
inductive HostResetKind where
  | perst | hot | linkDown
  deriving DecidableEq, Repr

/-- The expander that the expansion port finds at training (05 R168, R169, R175). -/
structure FarDevice where
  present : Bool
  supported : Bool
  capacity : Nat
  latencyNs : Nat
  lanes : Nat
  rate : Nat
  deriving DecidableEq, Repr

/-- The steps of a start-up, 2 to 6 (13 R371). -/
inductive StartStep where
  | fuses | configuration | selfTest | memory | release
  deriving DecidableEq, Repr

/-- What the physical module shows while a start-up runs (13 R371-R375): the outcomes that the spec leaves to the silicon. -/
structure StartupObs where
  fuseOk : Bool
  /-- stored decode-table images that fail their flash check, boot banks with a page that fails its CRC, and repair-map records (device B's when
  true, by sequence number) that fail theirs (09 R283; 13 R373) -/
  badImages : List (Fin 64)
  badPageA : Bool
  badPageB : Bool
  badRecords : List (Bool × Nat)
  bistFailed : List UnitRef
  bistShared : Bool
  bistPatterns : Nat
  untrained : List PortId
  /-- hard-repair resources that each port's devices report before and after the repair, and their temperature (05 R156) -/
  pprFree : Vector Byte 32
  pprLeft : Vector Byte 32
  portTemp : Vector Byte 32
  /-- the step in which a thermal trip strikes (13 R377, R391) -/
  thermal : Option StartStep
  /-- ms from main power good, or from the bell of 13 R390, to READY -/
  ms : Nat
  deriving DecidableEq, Repr

/-- A host configuration write that the row names (11 R317). -/
inductive ConfigWrite where
  | powerState (d3hot : Bool)
  | functionMask (on : Bool)
  | aer (on : Bool)
  | ecrc (generate check : Bool)
  deriving DecidableEq, Repr

/-- Levels at the sideband pins that the module does not hold as state: CAN, SB_ADDR, TICK, and the trace port's lanes and clock (15). -/
structure PinLevels where
  can : Bool
  sbAddr : BitVec 6
  tick : Bool
  trcD : BitVec 4
  trcClk : Bool
  deriving DecidableEq, Repr

/-- The pins that the boundary-scan register covers: the static main-connector pins, and those of the sideband connector that are neither
supplies nor the TAP's own (14 R422, 15). -/
structure ScanCells where
  perstN : Bool
  pwrgd : Bool
  faultN : Bool
  thermtripN : Bool
  side : PinLevels
  deriving DecidableEq, Repr

/-- The commands: one constructor for each row of the table of operations and events, in its order. -/
inductive Instr where
  /-- ADD (R252): Writes D[RA] + D[RB], wrapping, to D[RD]. -/
  | add (s : StreamId) (f : RFmt)
  /-- SUB (R252): Writes D[RA] − D[RB], wrapping, to D[RD]. -/
  | sub (s : StreamId) (f : RFmt)
  /-- ADDV (R134): Adds two D registers with a signed overflow check. -/
  | addv (s : StreamId) (f : RFmt)
  /-- SUBV (R134): Subtracts two D registers with a signed overflow check. -/
  | subv (s : StreamId) (f : RFmt)
  /-- ADDC (R135): Adds two D registers and CC.C, and sets CC.C to the carry out. -/
  | addc (s : StreamId) (f : RFmt)
  /-- SUBC (R135): Subtracts a D register and CC.C from another, and sets CC.C to the borrow. -/
  | subc (s : StreamId) (f : RFmt)
  /-- CMP (R217): Sets CC from D[RA] − D[RB]. -/
  | cmp (s : StreamId) (f : RFmt)
  /-- MUL (R252): Writes the low 64 bits of a product. -/
  | mul (s : StreamId) (f : RFmt)
  /-- MULV (R134): Multiplies with a signed overflow check. -/
  | mulv (s : StreamId) (f : RFmt)
  /-- MULH (R252): Writes the high 64 bits of a signed product. -/
  | mulh (s : StreamId) (f : RFmt)
  /-- MULHU (R252): Writes the high 64 bits of an unsigned product. -/
  | mulhu (s : StreamId) (f : RFmt)
  /-- MULW (R136): Writes the signed 128-bit product to an even D register pair. -/
  | mulw (s : StreamId) (f : RFmt)
  /-- MULWU (R136): Writes the unsigned 128-bit product to an even D register pair. -/
  | mulwu (s : StreamId) (f : RFmt)
  /-- DIVS (R137): Signed divide, truncating toward zero, with overflow and divide-by-zero handling. -/
  | divs (s : StreamId) (f : RFmt)
  /-- DIVU (R137): Unsigned divide, with divide-by-zero handling. -/
  | divu (s : StreamId) (f : RFmt)
  /-- REMS (R137): Signed remainder, which takes the sign of the dividend. -/
  | rems (s : StreamId) (f : RFmt)
  /-- REMU (R137): Unsigned remainder. -/
  | remu (s : StreamId) (f : RFmt)
  /-- AND (R252): Bitwise AND of two D registers. -/
  | and (s : StreamId) (f : RFmt)
  /-- OR (R252): Bitwise OR of two D registers. -/
  | or (s : StreamId) (f : RFmt)
  /-- XOR (R252): Bitwise XOR of two D registers. -/
  | xor (s : StreamId) (f : RFmt)
  /-- ANDN (R252): D[RA] AND NOT D[RB]. -/
  | andn (s : StreamId) (f : RFmt)
  /-- SHL (R252): Shifts left by D[RB] mod 64. -/
  | shl (s : StreamId) (f : RFmt)
  /-- SHR (R252): Shifts right logically by D[RB] mod 64. -/
  | shr (s : StreamId) (f : RFmt)
  /-- SAR (R252): Shifts right arithmetically by D[RB] mod 64. -/
  | sar (s : StreamId) (f : RFmt)
  /-- ROR (R252): Rotates right by D[RB] mod 64. -/
  | ror (s : StreamId) (f : RFmt)
  /-- MIN (R252): Signed minimum of two D registers. -/
  | min (s : StreamId) (f : RFmt)
  /-- MAX (R252): Signed maximum of two D registers. -/
  | max (s : StreamId) (f : RFmt)
  /-- MINU (R252): Unsigned minimum of two D registers. -/
  | minu (s : StreamId) (f : RFmt)
  /-- MAXU (R252): Unsigned maximum of two D registers. -/
  | maxu (s : StreamId) (f : RFmt)
  /-- POPC (R252): Counts the 1 bits of D[RA]. -/
  | popc (s : StreamId) (f : RFmt)
  /-- CLZ (R252): Counts the leading zero bits of D[RA]. -/
  | clz (s : StreamId) (f : RFmt)
  /-- CTZ (R252): Counts the trailing zero bits of D[RA]. -/
  | ctz (s : StreamId) (f : RFmt)
  /-- PARITY (R141): Writes 1 when D[RA] has an odd number of 1 bits, and 0 otherwise. -/
  | parity (s : StreamId) (f : RFmt)
  /-- BREV (R141): Reverses the bit order of D[RA]. -/
  | brev (s : StreamId) (f : RFmt)
  /-- SEXT (R252): Sign-extends the low W bytes of D[RA]. -/
  | sext (s : StreamId) (f : RFmt)
  /-- ZEXT (R252): Zero-extends the low W bytes of D[RA]. -/
  | zext (s : StreamId) (f : RFmt)
  /-- CRC32C (R140): Performs a CRC32C step over the low W bytes of D[RB]. -/
  | crc32c (s : StreamId) (f : RFmt)
  /-- CRC64 (R140): Performs a CRC64 step over the low W bytes of D[RB]. -/
  | crc64 (s : StreamId) (f : RFmt)
  /-- ADDI (R252): Adds a signed immediate to a D register. -/
  | addi (s : StreamId) (f : IFmt)
  /-- ADDVI (R134): Adds a signed immediate with a signed overflow check. -/
  | addvi (s : StreamId) (f : IFmt)
  /-- CMPI (R217): Sets CC from D[RA] − IMM12. -/
  | cmpi (s : StreamId) (f : IFmt)
  /-- ANDI (R251): ANDs a D register with the zero-extended IMM12. -/
  | andi (s : StreamId) (f : IFmt)
  /-- ORI (R251): ORs a D register with the zero-extended IMM12. -/
  | ori (s : StreamId) (f : IFmt)
  /-- XORI (R251): XORs a D register with the zero-extended IMM12. -/
  | xori (s : StreamId) (f : IFmt)
  /-- SHLI (R252): Shifts left by an immediate. -/
  | shli (s : StreamId) (f : IFmt)
  /-- SHRI (R252): Shifts right logically by an immediate. -/
  | shri (s : StreamId) (f : IFmt)
  /-- SARI (R252): Shifts right arithmetically by an immediate. -/
  | sari (s : StreamId) (f : IFmt)
  /-- RORI (R252): Rotates right by an immediate. -/
  | rori (s : StreamId) (f : IFmt)
  /-- ADDA (R252): Adds a byte immediate to an A register. -/
  | adda (s : StreamId) (f : AFmt)
  /-- ADDAR (R252): Adds a scaled A register to an A register. -/
  | addar (s : StreamId) (f : ARFmt)
  /-- SUBAR (R252): Subtracts a scaled A register from an A register. -/
  | subar (s : StreamId) (f : ARFmt)
  /-- MOVAD (R212): Moves a D register into an A register. -/
  | movad (s : StreamId) (f : AXFmt)
  /-- MOVDA (R212): Moves an A register into a D register. -/
  | movda (s : StreamId) (f : AXFmt)
  /-- CMPA (R217): Sets CC from AA − AB. -/
  | cmpa (s : StreamId) (f : ARFmt)
  /-- LEAPC (R251): Writes a PC-relative word address to an A register. -/
  | leapc (s : StreamId) (f : AFmt)
  /-- FADD (R103): Scalar floating-point add with static rounding. -/
  | fadd (s : StreamId) (f : FFmt)
  /-- FSUB (R103): Scalar floating-point subtract with static rounding. -/
  | fsub (s : StreamId) (f : FFmt)
  /-- FMUL (R103): Scalar floating-point multiply with static rounding. -/
  | fmul (s : StreamId) (f : FFmt)
  /-- FDIV (R103): Scalar floating-point divide with static rounding. -/
  | fdiv (s : StreamId) (f : FFmt)
  /-- FSQRT (R103): Scalar floating-point square root. -/
  | fsqrt (s : StreamId) (f : FFmt)
  /-- FMA (R103): Scalar fused multiply-add with one rounding in FPCSR.RM. -/
  | fma (s : StreamId) (f : F4Fmt)
  /-- FMS (R103): Scalar fused multiply-subtract. -/
  | fms (s : StreamId) (f : F4Fmt)
  /-- FNMA (R103): Scalar negated fused multiply-add. -/
  | fnma (s : StreamId) (f : F4Fmt)
  /-- FMIN (R117): Scalar minimumNumber. -/
  | fmin (s : StreamId) (f : FFmt)
  /-- FMAX (R117): Scalar maximumNumber. -/
  | fmax (s : StreamId) (f : FFmt)
  /-- FABS (R108): Clears the sign bit without interpreting the value. -/
  | fabs (s : StreamId) (f : FFmt)
  /-- FNEG (R108): Inverts the sign bit without interpreting the value. -/
  | fneg (s : StreamId) (f : FFmt)
  /-- FCMP (R217): Quiet floating-point comparison into CC. -/
  | fcmp (s : StreamId) (f : FFmt)
  /-- FCMPS (R217): Signalling floating-point comparison into CC. -/
  | fcmps (s : StreamId) (f : FFmt)
  /-- FCLASS (R118): Writes the class code of an operand. -/
  | fclass (s : StreamId) (f : FFmt)
  /-- FRINT (R122): Rounds to an integral value without raising inexact. -/
  | frint (s : StreamId) (f : FFmt)
  /-- FCVT (R120): Converts from type ST to type DT. -/
  | fcvt (s : StreamId) (f : FCFmt)
  /-- LDB (R227): Loads a sign-extended byte. -/
  | ldb (s : StreamId) (f : MFmt)
  /-- LDBU (R227): Loads a zero-extended byte. -/
  | ldbu (s : StreamId) (f : MFmt)
  /-- LDH (R227): Loads a sign-extended halfword. -/
  | ldh (s : StreamId) (f : MFmt)
  /-- LDHU (R227): Loads a zero-extended halfword. -/
  | ldhu (s : StreamId) (f : MFmt)
  /-- LDW (R227): Loads a sign-extended word. -/
  | ldw (s : StreamId) (f : MFmt)
  /-- LDWU (R227): Loads a zero-extended word. -/
  | ldwu (s : StreamId) (f : MFmt)
  /-- LDD (R227): Loads 8 bytes into a D register. -/
  | ldd (s : StreamId) (f : MFmt)
  /-- STB (R230): Stores a byte through the store buffer. -/
  | stb (s : StreamId) (f : MFmt)
  /-- STH (R230): Stores a halfword through the store buffer. -/
  | sth (s : StreamId) (f : MFmt)
  /-- STW (R230): Stores a word through the store buffer. -/
  | stw (s : StreamId) (f : MFmt)
  /-- STD (R230): Stores 8 bytes through the store buffer. -/
  | std (s : StreamId) (f : MFmt)
  /-- LDA (R227): Loads an A register from memory. -/
  | lda (s : StreamId) (f : MFmt)
  /-- STA (R230): Stores an A register. -/
  | sta (s : StreamId) (f : MFmt)
  /-- LDV (R228): Loads 32 bytes into a V register. -/
  | ldv (s : StreamId) (f : MFmt)
  /-- STV (R230): Stores a V register as one 32-byte entry. -/
  | stv (s : StreamId) (f : MFmt)
  /-- LDL (R234): Loads 8 bytes and sets a reservation on their block. -/
  | ldl (s : StreamId) (f : MFmt)
  /-- STC (R234): Stores conditionally on the reservation and sets CC.Z. -/
  | stc (s : StreamId) (f : MFmt)
  /-- QLD (R132): Loads a 536-byte image into an accumulator. -/
  | qld (s : StreamId) (f : MFmt)
  /-- QST (R132): Stores an accumulator as a 536-byte image. -/
  | qst (s : StreamId) (f : MFmt)
  /-- BCC (R223): Branches on a condition code, with a delay slot. -/
  | bcc (s : StreamId) (f : BFmt)
  /-- BZ (R223): Branches when a D register is zero. -/
  | bz (s : StreamId) (f : BZFmt)
  /-- BNZ (R223): Branches when a D register is not zero. -/
  | bnz (s : StreamId) (f : BZFmt)
  /-- JMP (R223): Jumps PC-relative, with a delay slot. -/
  | jmp (s : StreamId) (f : JFmt)
  /-- JAL (R223): Jumps and writes the link value to AD. -/
  | jal (s : StreamId) (f : BFmt)
  /-- JR (R226): Jumps to a register-relative target. -/
  | jr (s : StreamId) (f : AFmt)
  /-- JALR (R226): Jumps to a register-relative target and links. -/
  | jalr (s : StreamId) (f : AFmt)
  /-- LOOPI (R237): Sets up a hardware loop with an immediate count. -/
  | loopi (s : StreamId) (f : LoopIFmt)
  /-- LOOPR (R237): Sets up a hardware loop with a register count. -/
  | loopr (s : StreamId) (f : LoopRFmt)
  /-- MOVS (R241): Performs one string move iteration. -/
  | movs (s : StreamId) (f : SFmt)
  /-- FILLS (R241): Performs one string fill iteration. -/
  | fills (s : StreamId) (f : SFmt)
  /-- CMPS (R241): Performs one string compare iteration into CC. -/
  | cmps (s : StreamId) (f : SFmt)
  /-- SCANS (R241): Performs one string scan iteration into CC. -/
  | scans (s : StreamId) (f : SFmt)
  /-- CRCS (R241): Performs one CRC step over a memory element. -/
  | crcs (s : StreamId) (f : SFmt)
  /-- REP (R242): Repeats the following string instruction until A10 is 0 or the UNTIL condition holds. -/
  | rep (s : StreamId) (f : PFmt) (next : AfterRep) (iters : Nat)
  /-- NOP (R252): Has no effect. -/
  | nop (s : StreamId) (f : XFmt)
  /-- MFS (R214): Reads a special register. -/
  | mfs (s : StreamId) (f : XFmt)
  /-- MTS (R215): Writes a special register, effective for the next instruction. -/
  | mts (s : StreamId) (f : XFmt)
  /-- SETC (R217): Sets CC.C to 1. -/
  | setc (s : StreamId) (f : XFmt)
  /-- CLRC (R217): Sets CC.C to 0. -/
  | clrc (s : StreamId) (f : XFmt)
  /-- FENCE (R252): Waits until the store buffer is empty. -/
  | fence (s : StreamId) (f : XFmt)
  /-- IFLUSH (R235): Drains stores, invalidates the line buffer and branch-target buffer, and refetches. -/
  | iflush (s : StreamId) (f : XFmt)
  /-- RTE (R265): Returns from the TSB at CTSB and restores registers and accumulators. -/
  | rte (s : StreamId) (f : XFmt)
  /-- TRAP (R257): Raises the Trap exception carrying IMM12. -/
  | trap (s : StreamId) (f : XFmt)
  /-- BKPT (R410): Raises a debug event, or completes as a counted no-operation. -/
  | bkpt (s : StreamId) (f : XFmt)
  /-- END (R253): Begins the end of the lesson, waiting for the vector queue and store buffer to drain. -/
  | endLesson (s : StreamId) (f : XFmt)
  /-- QCLR (R131): Clears an accumulator and its state. -/
  | qclr (s : StreamId) (f : QFmt)
  /-- QADDD (R128): Adds a binary64 D value exactly to an accumulator. -/
  | qaddd (s : StreamId) (f : QFmt)
  /-- QADDQ (R128): Adds one accumulator to another. -/
  | qaddq (s : StreamId) (f : QFmt)
  /-- QRND (R130): Rounds an accumulator to binary64 in a D register. -/
  | qrnd (s : StreamId) (f : QFmt)
  /-- IMMS (R252): Loads a sign-extended 16-bit immediate. -/
  | imms (s : StreamId) (f : WFmt)
  /-- IMMX (R252): Shifts a D register left 16 bits and ORs in an immediate. -/
  | immx (s : StreamId) (f : WFmt)
  /-- VCOPY (R66): Issues a bit-copy vector instruction to the queue. -/
  | vcopy (s : StreamId) (f : VFmt)
  /-- VCVT (R66): Issues an element conversion. -/
  | vcvt (s : StreamId) (f : VFmt)
  /-- VFILL (R66): Issues a fill from D[DS]. -/
  | vfill (s : StreamId) (f : VFmt)
  /-- VIOTA (R66): Issues a write of the element index. -/
  | viota (s : StreamId) (f : VFmt)
  /-- VSEL (R66): Issues an element select. -/
  | vsel (s : StreamId) (f : VFmt)
  /-- VPERM (R66): Issues an in-group permutation. -/
  | vperm (s : StreamId) (f : VFmt)
  /-- VBREV (R66): Issues a per-element bit reverse. -/
  | vbrev (s : StreamId) (f : VFmt)
  /-- CHAIN (R73): Opens a chained group and enters it into the queue with its members. -/
  | chain (s : StreamId) (f : VFmt)
  /-- VFENCE (R66): Waits until the vector queue is empty and all vector writes are visible. -/
  | vfence (s : StreamId) (f : VFmt)
  /-- VSUSPEND (R60): Requests a stop of the running vector entry at the next element-group boundary. -/
  | vsuspend (s : StreamId) (f : VFmt)
  /-- VRESUME (R58): Restarts the stopped instruction or group from VX. -/
  | vresume (s : StreamId) (f : VFmt)
  /-- VDISCARD (R59): Drops the stopped entry and the queue behind it. -/
  | vdiscard (s : StreamId) (f : VFmt)
  /-- VFADD (R66): Issues a vector floating-point add. -/
  | vfadd (s : StreamId) (f : VFmt)
  /-- VFSUB (R66): Issues a vector floating-point subtract. -/
  | vfsub (s : StreamId) (f : VFmt)
  /-- VFMUL (R66): Issues a vector floating-point multiply. -/
  | vfmul (s : StreamId) (f : VFmt)
  /-- VFDIV (R66): Issues a vector floating-point divide. -/
  | vfdiv (s : StreamId) (f : VFmt)
  /-- VFSQRT (R66): Issues a vector square root. -/
  | vfsqrt (s : StreamId) (f : VFmt)
  /-- VFMA (R66): Issues a vector fused multiply-add. -/
  | vfma (s : StreamId) (f : VFmt)
  /-- VFMS (R66): Issues a vector fused multiply-subtract. -/
  | vfms (s : StreamId) (f : VFmt)
  /-- VFNMA (R66): Issues a vector negated fused multiply-add. -/
  | vfnma (s : StreamId) (f : VFmt)
  /-- VFMIN (R66): Issues a vector minimumNumber. -/
  | vfmin (s : StreamId) (f : VFmt)
  /-- VFMAX (R66): Issues a vector maximumNumber. -/
  | vfmax (s : StreamId) (f : VFmt)
  /-- VFABS (R66): Issues a vector absolute value. -/
  | vfabs (s : StreamId) (f : VFmt)
  /-- VFNEG (R66): Issues a vector negate. -/
  | vfneg (s : StreamId) (f : VFmt)
  /-- VFCMP (R116): Issues a vector floating-point comparison. -/
  | vfcmp (s : StreamId) (f : VFmt)
  /-- VFCLASS (R118): Issues a vector classification. -/
  | vfclass (s : StreamId) (f : VFmt)
  /-- VFRINT (R122): Issues a vector round to integral. -/
  | vfrint (s : StreamId) (f : VFmt)
  /-- VFMAW (R66): Issues a widening 16-bit multiply with a binary32 add. -/
  | vfmaw (s : StreamId) (f : VFmt)
  /-- VADD (R66): Issues a vector integer add. -/
  | vadd (s : StreamId) (f : VFmt)
  /-- VSUB (R66): Issues a vector integer subtract. -/
  | vsub (s : StreamId) (f : VFmt)
  /-- VMUL (R66): Issues a vector low-half multiply. -/
  | vmul (s : StreamId) (f : VFmt)
  /-- VMULH (R66): Issues a vector high-half multiply. -/
  | vmulh (s : StreamId) (f : VFmt)
  /-- VADDC (R66): Issues a vector add with carry-in. -/
  | vaddc (s : StreamId) (f : VFmt)
  /-- VADDCO (R66): Issues a vector carry-out computation. -/
  | vaddco (s : StreamId) (f : VFmt)
  /-- VSUBB (R66): Issues a vector subtract with borrow-in. -/
  | vsubb (s : StreamId) (f : VFmt)
  /-- VSUBBO (R66): Issues a vector borrow-out computation. -/
  | vsubbo (s : StreamId) (f : VFmt)
  /-- VAND (R66): Issues a vector AND. -/
  | vand (s : StreamId) (f : VFmt)
  /-- VOR (R66): Issues a vector OR. -/
  | vor (s : StreamId) (f : VFmt)
  /-- VXOR (R66): Issues a vector XOR. -/
  | vxor (s : StreamId) (f : VFmt)
  /-- VANDN (R66): Issues a vector AND NOT. -/
  | vandn (s : StreamId) (f : VFmt)
  /-- VSHL (R66): Issues a vector shift left. -/
  | vshl (s : StreamId) (f : VFmt)
  /-- VSHR (R66): Issues a vector logical shift right. -/
  | vshr (s : StreamId) (f : VFmt)
  /-- VSAR (R66): Issues a vector arithmetic shift right. -/
  | vsar (s : StreamId) (f : VFmt)
  /-- VICMP (R66): Issues a vector integer comparison. -/
  | vicmp (s : StreamId) (f : VFmt)
  /-- VIMIN (R66): Issues a vector integer minimum. -/
  | vimin (s : StreamId) (f : VFmt)
  /-- VIMAX (R66): Issues a vector integer maximum. -/
  | vimax (s : StreamId) (f : VFmt)
  /-- VPOPC (R66): Issues a vector population count. -/
  | vpopc (s : StreamId) (f : VFmt)
  /-- VCLZ (R66): Issues a vector leading-zero count. -/
  | vclz (s : StreamId) (f : VFmt)
  /-- QDOT (R69): Issues an exact dot product into an accumulator. -/
  | qdot (s : StreamId) (f : VFmt)
  /-- QSUM (R69): Issues an exact sum into an accumulator. -/
  | qsum (s : StreamId) (f : VFmt)
  /-- VISUM (R54): Issues an integer sum reduction into D[DS]. -/
  | visum (s : StreamId) (f : VFmt)
  /-- VIMAXR (R54): Issues an integer maximum reduction. -/
  | vimaxr (s : StreamId) (f : VFmt)
  /-- VIMINR (R54): Issues an integer minimum reduction. -/
  | viminr (s : StreamId) (f : VFmt)
  /-- VFMAXR (R117): Issues a floating-point maximum reduction. -/
  | vfmaxr (s : StreamId) (f : VFmt)
  /-- VFMINR (R117): Issues a floating-point minimum reduction. -/
  | vfminr (s : StreamId) (f : VFmt)
  /-- VCRC (R68): Issues a CRC step over the element bytes. -/
  | vcrc (s : StreamId) (f : VFmt)
  /-- VMCNT (R68): Issues a count of non-zero active elements. -/
  | vmcnt (s : StreamId) (f : VFmt)
  /-- USER_INSTRUCTION (R286): Decodes a user slot and enters its resolved micro-operations into the queue. -/
  | userInstruction (s : StreamId) (i : Fin 64) (f : VFmt)
  /-- VECTOR_ENTRY_EXECUTE (R79): The engine starts the next queue entry, checks its descriptors and processes its elements to completion. -/
  | vectorEntryExecute (e : EntryRun)
  /-- RUN_AHEAD_READ (R81): After the drain point, the engine reads ahead for the next queue entry. -/
  | runAheadRead (s : StreamId) (accesses : Nat)
  /-- VECTOR_SUSPEND_STOP (R60): A pending suspension stops the engine at an element-group boundary or before the next entry. -/
  | vectorSuspendStop (s : StreamId) (p : SuspendPoint)
  /-- LOAD_DATA_RETURN (R229): Load data returns, or an uncorrectable error cancels the shadow and raises the exception. -/
  | loadDataReturn (s : StreamId) (resp : BusResp)
  /-- LINE_FILL (R220): An instruction line arrives in the line buffer. -/
  | lineFill (s : StreamId) (addr : Word64) (resp : BusResp)
  /-- STORE_COMMIT (R230): The oldest store-buffer entry commits to memory or the desk. -/
  | storeCommit (s : StreamId) (o : CommitOutcome)
  /-- EXCEPTION_ENTRY (R260): The core enters a handler through the descriptor and the TSB, for an exception or an accepted interrupt. -/
  | exceptionEntry (s : StreamId) (why : EntryWhy)
  /-- LAZY_Q_SAVE (R264): A guarded accumulator is saved before a handler writes it. -/
  | lazyQSave (s : StreamId) (n : Fin 4)
  /-- MONITOR_ENTRY (R412): A debug event enters the monitor through the monitor descriptor and TSB. -/
  | monitorEntry (s : StreamId)
  /-- WATCHDOG_EXPIRY (R269): The watchdog count reaches 0, and the watchdog sets EXP and raises its exception, or checkstops. -/
  | watchdogExpiry (s : StreamId) (dt : Nat)
  /-- LESSON_START (R189): The module starts an admitted lesson at its offset with the initial core state. -/
  | lessonStart (s : StreamId) (dt : Nat)
  /-- LESSON_END (R253): END's drain completes, and the lesson ends. -/
  | lessonEnd (s : StreamId) (dt : Nat)
  /-- BUDGET_POINT_STOP (R198): A booking that reaches its budget point is stopped. -/
  | budgetPointStop (c : Client) (dt : Nat)
  /-- ENERGY_LIMIT_STOP (R196): A booking whose counted energy reaches ENERGY is stopped as OVERRUN. -/
  | energyLimitStop (c : Client) (dt : Nat)
  /-- LESSON_RERUN (R204): A lesson stopped by a slot retirement is re-run on the spare. -/
  | lessonRerun (s : StreamId)
  /-- STREAM_DESK_COPY (R302): The tile copies a retired slot's desk to the spare. -/
  | streamDeskCopy (s : StreamId)
  /-- COMPLETION_RECORD_POST (R210): The unit posts a booking's completion record. -/
  | completionRecordPost (c : Client)
  /-- BOOKING_DECISION (R193): The timetable unit takes a queued booking and admits or declines it. -/
  | bookingDecision (q : QueueId)
  /-- CQ_ENTRY_WRITE (R323): The module writes a completion-queue entry when the ring has room. -/
  | cqEntryWrite (q : QueueId) (refused : Bool)
  /-- MSIX_MESSAGE (R329): The module sends an MSI-X message for a requested, unmasked vector. -/
  | msixMessage (v : Fin 2048)
  /-- TICK_EDGE (R180): A TICK edge is accepted as the bell, or it is rejected or measured. -/
  | tickEdge (dt : Nat)
  /-- BELL_TIMER_EXPIRY (R181): The internal bell timer generates a bell. -/
  | bellTimerExpiry (dt : Nat)
  /-- RECESS_END (R177): Recess work stops, and the period's seat assignment takes effect. -/
  | recessEnd (dt : Nat)
  /-- RECESS_SLICE_STEP (R385): A recess BIST slice step runs, and is restored when abandoned. -/
  | recessSliceStep (u : SliceUnit) (o : SliceOutcome)
  /-- FIELD_TRIP_COPY (R304): A field trip copies one block to the spare in a recess position. -/
  | fieldTripCopy (committed : Bool)
  /-- SCRUB (R155): A scrub slot reads a block and writes back a corrected block. -/
  | scrub (b : MemBlock) (overtaken : Bool)
  /-- REFRESH (R152): The controller issues a per-bank refresh in a refresh slot. -/
  | refresh (p : PortId) (r : BankRefresh)
  /-- BLOCK_RETRY (R298): A retry of a block access is served in a retry position. -/
  | blockRetry (r : RetryOp)
  /-- DESK_ECC_WRITE_BACK (R166): A corrected desk word is written back at the bank's next idle clk. -/
  | deskEccWriteBack (k : SlotId) (word : Nat)
  /-- DESK_DMA_LINE_ISSUE (R163): The desk DMA port issues or reissues a line access. -/
  | deskDmaLineIssue (k : SlotId) (excursion other : Option DmaLine) (eng : EngineAccess)
  /-- DESK_WAKE_START (R167): A desk in retention starts waking. -/
  | deskWakeStart (w : WakeStart)
  /-- DESK_WAKE_COMPLETE (R167): Desk wake-up ends, and held accesses are served. -/
  | deskWakeComplete (k : SlotId)
  /-- EXCURSION_START (R172): An excursion engine starts its next excursion. -/
  | excursionStart (e : Fin 2) (dt : Nat)
  /-- EXCURSION_COMPLETE (R172): An excursion completes with its status. -/
  | excursionComplete (e : Fin 2) (dt : Nat)
  /-- FAR_RESPONSE (R170): A far memory response arrives, and slow or poisoned responses are noted. -/
  | farResponse (e : Fin 2) (r : FarResponse)
  /-- SM_PIECE_GRANT (R336): A service-matrix target grants a waiting piece. -/
  | smPieceGrant (t : Target) (w : PieceWait)
  /-- GSP_BLOCK_SERVICE (R337): The GDDR7 service port serves one block request. -/
  | gspBlockService (waiting : List GspReq)
  /-- HOST_READ_REQUEST (R319): A host BAR0 or BAR2 read is decoded and answered. -/
  | hostReadRequest (bar : Bar) (off : Nat) (r : ReadTlp)
  /-- HOST_WRITE_REQUEST (R319): A host BAR0 or BAR2 write is decoded and performed or discarded. -/
  | hostWriteRequest (bar : Bar) (off : Nat) (data : List Byte) (tlp : TlpState)
  /-- DEBUG_ACCESS (R419): The debug access master makes a level-checked read or write. -/
  | debugAccess (a : Access)
  /-- SUBMISSION_TAIL_DOORBELL (R322): A host write sets a submission tail. -/
  | submissionTailDoorbell (q : QueueId) (v : Word32) (whole : Bool)
  /-- COMPLETION_HEAD_DOORBELL (R326): A host write sets a completion head and frees ring space. -/
  | completionHeadDoorbell (q : QueueId) (v : Word32) (whole : Bool)
  /-- QUEUE_PAIR_ENABLE (R325): A write of EN 1 over 0 resets the heads, tails and phase and enables the pair. -/
  | queuePairEnable (q : QueueId) (ien : Bool) (cqsz : BitVec 12) (iv : BitVec 11)
  /-- QUEUE_PAIR_DISABLE (R327): A write of EN 0 over 1 disables the pair. -/
  | queuePairDisable (q : QueueId) (ien : Bool) (iv : BitVec 11)
  /-- HOST_EVENT_RAISE (R330): A write to HL.HOSTEV raises host events. -/
  | hostEventRaise (raise : Byte)
  /-- MAILBOX_REQUEST (R354): A host write to the last word takes the mailbox request frame. -/
  | mailboxRequest (off : Nat) (data : List Byte)
  /-- STREAM_RESET (R389): A write to TILE.SRESET resets a Stream slot. -/
  | streamReset (tile : Fin 4) (slots : BitVec 17)
  /-- DEBUG_RESET (R421): A write to DBG.RESET resets the debug access master and one Stream. -/
  | debugReset (m : Master) (go : Bool) (s : StreamId)
  /-- HALT_REQUEST (R409): A write of HALT requests a halt debug event. -/
  | haltRequest (m : Master) (k : SlotId)
  /-- HALT_CANCEL (R409): A write of HCAN cancels a pending halt. -/
  | haltCancel (m : Master) (k : SlotId)
  /-- REGISTER_WRITE (R5): A write to a register with no row of its own acts by its access codes. -/
  | registerWrite (m : Master) (addr : Addr) (wide : Bool) (v : Word64)
  /-- REGISTER_READ_CLEAR (R7): A read of an RC field returns it and clears it without losing events. -/
  | registerReadClear (m : Master) (addr : Addr) (wide : Bool)
  /-- MGMT_FRAME_BOUNDARY (R340): A frame boundary applies writes, starts commands, evaluates trends and publishes values. -/
  | mgmtFrameBoundary (dt : Nat) (sensors : Sensors)
  /-- JOURNAL_PERSIST (R359): A journal record is programmed to both flash devices. -/
  | journalPersist (okA okB : Bool)
  /-- CAN_FRAME_RECEIVE (R342): A CAN FD frame is received, and queued, counted or ignored. -/
  | canFrameReceive (f : CanFrame)
  /-- CAN_BUS_OFF_RECOVERY (R342): Bus-off ends after 128 occurrences of 11 recessive bits. -/
  | canBusOffRecovery
  /-- READ (R349): An expedited read returns an object's published value. -/
  | read (t : Transport)
  /-- WRITE (R347): An expedited write is checked and accepted for the next boundary. -/
  | write (t : Transport)
  /-- SREAD_INIT (R352): Opens a segmented read with a snapshot. -/
  | sreadInit (t : Transport)
  /-- SREAD_SEG (R352): Returns one segment of the snapshot. -/
  | sreadSeg (t : Transport)
  /-- SWRITE_INIT (R351): Opens a segmented write. -/
  | swriteInit (t : Transport)
  /-- SWRITE_SEG (R351): Stores the expected segment, and checks the value at the last segment. -/
  | swriteSeg (t : Transport)
  /-- ABORT (R353): Closes both open transfers of the transport. -/
  | abort (t : Transport)
  /-- UNKNOWN_REQUEST (R346): A request with an unknown CMD is answered MALFORMED. -/
  | unknownRequest (t : Transport)
  /-- SEGMENT_TRANSFER_TIMEOUT (R353): A segmented transfer idle for 2,000 frames is closed. -/
  | segmentTransferTimeout (t : Transport)
  /-- MODULE_WARM_RESET (R390): Command 1 of 1010h/01h holds bookings until the next bell. -/
  | moduleWarmReset
  /-- WARM_RESET_EXECUTE (R390): At the bell, the module stops, persists, resets the main domain and runs the warm start-up. -/
  | warmResetExecute (obs : StartupObs)
  /-- ENTER_MODULE_STANDBY (R390): Command 2 of 1010h/01h holds bookings until the next bell. -/
  | enterModuleStandby
  /-- STANDBY_ENTRY_EXECUTE (R390): At the bell, the module stops, persists and turns the main rails off. -/
  | standbyEntryExecute
  /-- LEAVE_MODULE_STANDBY (R370): Command 3 of 1010h/01h enables main power and starts start-up. -/
  | leaveModuleStandby
  /-- TIMETABLE_HOLD (R178): Command 1 of 2002h/01h declines new bookings with HELD. -/
  | timetableHold
  /-- TIMETABLE_RESUME (R178): Command 2 of 2002h/01h resumes admission. -/
  | timetableResume
  /-- RETIRE_UNIT (R296): Command 3036h/01h decides a retirement at the boundary. -/
  | retireUnit (v : Word32)
  /-- DELETE_FIELD_RECORD (R367): Command 3050h/05h with k deletes one field record. -/
  | deleteFieldRecord (k : Nat)
  /-- DELETE_ALL_FIELD_RECORDS (R367): Command 3050h/05h with FFFFh deletes every field record. -/
  | deleteAllFieldRecords
  /-- RESTORE_DEFAULTS (R361): Command 9000h/05h returns every RWP object to its default. -/
  | restoreDefaults
  /-- DECODE_IMAGE_WRITE (R282): A write to a slot's stored image replaces it and validates it. -/
  | decodeImageWrite (i : Fin 64) (image : List Byte)
  /-- COVERAGE_RUN_START (R384): Command 1 of 7000h/02h starts a BIST coverage run. -/
  | coverageRunStart
  /-- BIST_ABORT (R383): Command 2 of 7000h/02h cuts short the running run. -/
  | bistAbort (patterns us : Nat)
  /-- ATTESTATION_REQUEST (R403): A nonce written to a channel produces a signed report. -/
  | attestationRequest (c : Fin 4) (nonce : List Byte) (flashOk : Bool)
  /-- LIFE_CYCLE_TRANSITION (R405): A write of 6000h/02h blows the transition fuses. -/
  | lifeCycleTransition (code : Byte)
  /-- FIRMWARE_IMAGE_UPLOAD (R397): A management firmware image is verified and programmed. -/
  | firmwareImageUpload (image : List Byte) (flashOk : Bool)
  /-- BOOT_IMAGE_UPLOAD (R397): A control-core boot image is verified and programmed. -/
  | bootImageUpload (image : List Byte) (flashOk : Bool)
  /-- HALL_PASS_SUBMIT (R407): A hall pass is written to 8000h/01h. -/
  | hallPassSubmit (pass : List Byte)
  /-- HALL_PASS_DECISION (R408): The security engine checks a pass and applies it at the next boundary. -/
  | hallPassDecision
  /-- END_ALL_PASSES (R408): Command 8000h/03h ends every hall pass. -/
  | endAllPasses
  /-- TRACE_PORT_SEND (R434): The trace port sends a queued packet. -/
  | tracePortSend
  /-- AUX_ON (R368): AUX enters range, and the controller boots and enters module standby. -/
  | auxOn (a : AuxPins)
  /-- AUX_LOSS (R391): Loss of AUX turns the main rails off as a cold reset. -/
  | auxLoss
  /-- MAIN_INPUT_RETURN (R370): The 48 V input returns to its range and may start a leave from standby. -/
  | mainInputReturn
  /-- MAIN_INPUT_LOSS (R391): The 48 V input leaves its range, and the main rails go off. -/
  | mainInputLoss
  /-- MAIN_POWER_GOOD (R371): PWRGD rises, and the start-up sequence runs to release. -/
  | mainPowerGood (obs : StartupObs)
  /-- PWRGD_TIMEOUT (R370): PWRGD fails to rise within 50 ms, and start-up fails. -/
  | pwrgdTimeout
  /-- THERMAL_TRIP (R435): A junction at 110 °C trips the power stage. -/
  | thermalTrip
  /-- HOST_RESET (R318): PERST#, hot reset or link-down resets the host link. -/
  | hostReset (why : HostResetKind)
  /-- HOST_LINK_TRAINING (R378): The host link trains after step 2 and PERST# deassertion. -/
  | hostLinkTraining (lanes rate : Nat)
  /-- EXPANSION_LINK_UP (R169): The expansion link comes up, and the HDM decoder is programmed. -/
  | expansionLinkUp (d : FarDevice)
  /-- EXPANSION_LINK_DOWN (R168): The expansion link fails and stays down. -/
  | expansionLinkDown
  /-- DEVICE_FAILURE (R310): A GDDR7 device dies, and its port's reads become uncorrectable. -/
  | deviceFailure (p : PortId)
  /-- TAP_RESET (R422): TMS resets the TAP. -/
  | tapReset
  /-- BYPASS (R422): TAP instruction BYPASS. -/
  | bypass
  /-- IDCODE (R422): TAP instruction that shifts out the identification code. -/
  | idcode
  /-- SAMPLE_PRELOAD (R422): TAP instruction SAMPLE/PRELOAD. -/
  | samplePreload (levels : PinLevels) (preload : ScanCells)
  /-- EXTEST (R422): TAP boundary-scan EXTEST, in BLANK and RETURNED only. -/
  | extest
  /-- CLAMP (R422): TAP instruction CLAMP, in BLANK and RETURNED only. -/
  | clamp
  /-- HIGHZ (R422): TAP instruction HIGHZ, in BLANK and RETURNED only. -/
  | highz
  /-- DBGACC (R422): TAP access to the debug access master. -/
  | dbgacc (a : Access)
  /-- PORT_TRAINING_FAILURE (R295): A GDDR7 port's continuous timing tracking fails in run, PORT.LINKSTAT.TRAIN becomes 11b, and the port is decided retired and marked lost at the next frame boundary. -/
  | portTrainingFailure (p : PortId)
  /-- SUBMISSION_QUEUE_ENTRY_WRITE (R322): A host write to BAR4 submission-queue memory stores booking bytes that a later decision reads, or not, depending on the clk of the decision. -/
  | submissionQueueEntryWrite (off : Nat) (data : List Byte)
  /-- MSIX_VECTOR_UNMASK (R329): A host write to the MSI-X table clears a vector mask, and a pending vector then sends one message. -/
  | msixVectorUnmask (v : Fin 2048)
  /-- CONFIG_SPACE_WRITE (R317): A host configuration write changes the PCI power state between D0 and D3hot, the MSI-X function mask, or the AER and ECRC enables. -/
  | configSpaceWrite (w : ConfigWrite)
  /-- CAN_FRAME_TRANSMIT (R342): The module transmits a response or roll-call frame on CAN FD, with arbitration, retransmission on error and entry into error-passive or bus-off. -/
  | canFrameTransmit (o : TxOutcome)
  /-- JOURNAL_COMPACTION (R360): The module compacts the persistence journal in one flash device at a time, while 9000h/03h reads 1. -/
  | journalCompaction (ok : Bool)
  /-- COVERAGE_RUN_END (R382): A BIST coverage run ends when its plan completes or it reaches LIMIT, publishes its result in 7001h and returns the roll call to READY. -/
  | coverageRunEnd (patterns us : Nat)
  /-- POWER_STAGE_RAIL_WARNING (R365): The power stage reports a rail warning, which counts in 4220h/07h and can set roll-call FLAGS bit 5. -/
  | powerStageRailWarning
  deriving DecidableEq, Repr

end Sys2Proof
end

