-- ==== Sys2Proof/Machine/State.lean ====
section
/-!
DEFINITION. The state of the module as plain data, the reasons a step stops, and the state after a cold reset (00 R4).
Every field cites the rule that gives it. Fields marked MODEL are the model's own (their log entries are named).
-/

namespace Sys2Proof.Machine

/-- Why a step faults. -/
inductive Fault where
  /-- Raised by a meaning whose operands are no event of the module (Sys2Proof.wellFormed says which: a 64-byte line with
  another number of bytes, a block beyond the memory). Safe: the hardware has no such event. -/
  | illFormed
  deriving DecidableEq, Repr

/-- Why a step is refused. -/
inductive Refusal where
  /-- Raised by exec for a row that has no meaning yet. Safe: nothing is claimed of it. -/
  | notModelled (mnemonic : String)
  deriving DecidableEq, Repr

/-- Memory: address and byte, addresses strictly rising, no entry equal to what an unlisted address reads as. An unlisted address reads 0 in
epoch 0 (log 14). A coverage run (13 R384) starts an even epoch, in which it reads a free value (log 13); the withdrawal of the addresses between the
29-port and the 31-port visible range (01 R20) an odd one, in which those read a free value and the others 0 (log 142). -/
structure Mem where
  epoch : Nat
  cells : List Host.Cell
  deriving DecidableEq, Repr

/-- Memory that lists nothing, after a release that zeroed it (13 R374, R375) or a cold reset. -/
def Mem.zero : Mem := ⟨0, []⟩

/-- What an unlisted address reads as. -/
def Mem.unlisted (epoch a : Nat) : Byte :=
  if epoch = 0 ∨ (epoch % 2 = 1 ∧ (a < 0x35F26F6480 ∨ 0x39AAE10180 ≤ a)) then 0 else Config.freeMem epoch a

/-! ### Fields that a read clears, and bits that a write of 1 clears (00 R5-R7) -/

/-- An RC field: its value from before the current clk, which a read returns and clears, and what hardware has added in this clk, which stays for
the next read (00 R7). -/
structure Rc (w : Nat) where
  before : BitVec w
  new : BitVec w
  deriving DecidableEq, Repr

/-- An RC field at 0. -/
def Rc.zero {w : Nat} : Rc w := ⟨0, 0⟩

/-- MODEL (log 156): the W1C bits of a slot that hardware has set in the current clk (00 R6), COLL with the word of the clk's first collision (05,
COLLOFF). -/
structure SetNow where
  evpend : Word32
  coll : Option (BitVec 19)
  exp : Bool
  cstop : Bool
  monErr : Bool
  deriving DecidableEq, Repr

/-- None. -/
def SetNow.none : SetNow := ⟨0, .none, false, false, false⟩

/-! ### The control core (07) -/

/-- CC (07 R216, R217). -/
structure CC where
  n : Bool
  z : Bool
  v : Bool
  c : Bool
  deriving DecidableEq, Repr

/-- The registers of a control core that instructions name (07 R212, R214). -/
structure Regs where
  a : Vector Word64 16
  d : Vector Word64 32
  q : Vector Acc 4
  pc : Word64
  cc : CC
  vl : Word32
  vx : Word32
  lc : Word32
  ls : Word64
  le : Word64
  tsbp : Word64
  edb : Word64
  fpcsr : Word32
  /-- SR.QD (07, SR map) -/
  qd : BitVec 4
  /-- SR.IML -/
  iml : BitVec 4
  /-- the internal register CTSB (08 R259) -/
  ctsb : Word64
  /-- the guard set QG (08 R260, R264) -/
  qg : BitVec 4
  deriving DecidableEq, Repr

/-- STREAM.CORESTAT.STATE (07 R256). -/
inductive CoreStatus where
  | quiet | running | monitor | checkstopped
  deriving DecidableEq, Repr

/-- The next instruction stands in the delay slot of the branch at `branch`; it goes on at `target` (07 R223). -/
structure DelaySlot where
  branch : Word64
  target : Word64
  deriving DecidableEq, Repr

/-- What the core waits for at an instruction that may be abandoned: VFENCE, END, or the engine or the store buffer in a delay slot
(02 R62, 08 R266, 07 R225). -/
inductive WaitKind where
  | vfence | endLesson | slot
  deriving DecidableEq, Repr

/-- An exception record before entry (08 R260, R261). -/
structure Exc where
  vec : Byte
  ret : Word64
  ds : Bool
  faddr : Word64
  code : BitVec 12
  flags : BitVec 6
  offs : Byte
  deriving DecidableEq, Repr

/-- A pending asynchronous store error (07 R233, 08 R261): the entry's address, CODE bits [1:0], and whether more occurred. -/
structure StoreErr where
  addr : Word64
  kind : BitVec 2
  more : Bool
  deriving DecidableEq, Repr

/-- A debug event that is raised and not yet taken (14 R409). -/
structure DebugEvent where
  code : BitVec 12
  faddr : Word64
  ds : Bool
  deriving DecidableEq, Repr

/-- The register a load writes. -/
inductive Dest where
  | a (i : Fin 16)
  | d (i : Fin 32)
  deriving DecidableEq, Repr

/-- A load whose data is out (07 R228, R229). `undo` is the register state before and after its shadow instruction ran. -/
structure PendingLoad where
  vals : List (Dest × Word64)
  addr : Word64
  /-- the data is uncorrectable: CODE 001h local memory or 002h desk, and the lowest failing address (07 R229, 08 R261) -/
  bad : Option (BitVec 12 × Word64)
  local_ : Bool
  ret : Word64
  ds : Bool
  returned : Bool
  shadowed : Bool
  undo : Option (Regs × Regs)
  /-- parity errors of the registers that the shadow has written since (07 R229, R255) -/
  marks : List Byte
  /-- LC before the load: the loop test of a load that ends at LE is undone with it (07 R240) -/
  lc : Word32
  deriving DecidableEq, Repr

/-- A store-buffer entry: 1 to 8 bytes, or 32 (07 R230). -/
structure StoreEntry where
  addr : Addr
  bytes : List Byte
  /-- entered by the shadow of a load that is still out (07 R229; log 9) -/
  inShadow : Bool
  deriving DecidableEq, Repr

/-- A line of the line buffer (07 R220): its address and its 256 bytes as filled; the list holds the latest entered first. -/
structure Line where
  addr : Addr
  bytes : List Byte
  deriving DecidableEq, Repr

/-- An entry of the branch-target buffer (07 R221). -/
structure BtbEntry where
  branch : Word64
  target : Word64
  deriving DecidableEq, Repr

/-! ### The vector engine (02, 03) -/

/-- A vector operation with what the core captured at its issue (02 R26, 04 R104, R114). -/
structure VOp where
  vop : Byte
  f : VFmt
  aAd : Word64
  a1 : Word64
  a2 : Word64
  a3 : Word64
  scalar : Word64
  rm : BitVec 3
  traps : BitVec 7
  /-- user slot and micro-operation index (09 R289) -/
  user : Option (Fin 64 × BitVec 5)
  deriving DecidableEq, Repr

/-- A queue entry: a standalone instruction, or a CHAIN with its group (02 R27). -/
structure VEntry where
  ops : List VOp
  slots : Nat
  vl : Word32
  vx : Word32
  deriving DecidableEq, Repr

/-- A CHAIN whose `count` members are still being decoded (03 R73). -/
structure OpenChain where
  at_ : Word64
  count : Nat
  ops : List VOp
  vl : Word32
  vx : Word32
  deriving DecidableEq, Repr

/-- STREAM.VFCAUSE (02). -/
structure VfCause where
  valid : Bool
  opnd : BitVec 4
  gop : BitVec 4
  cause : Byte
  sub : Byte
  deriving DecidableEq, Repr

/-- The vector engine of a slot. STREAM.VSTATUS follows from `stopped` and `queue` (02 R27, R32). -/
structure Engine where
  queue : List VEntry
  stopped : Bool
  suspend : Bool
  cause : VfCause
  vfaddr : Word64
  vfinsn : Word64
  vfvl : Word32
  veflags : BitVec 6
  /-- STREAM.RASTAT.ISSUED and DROPPED (03) -/
  raIssued : Rc 32
  raDropped : Rc 32
  /-- run-ahead block reads and desk line reads made for the next entry, which has not started (03 R81, R83) -/
  raHeld : Nat
  raLines : Nat
  /-- those made for the entry at the front, which uses them -/
  raFront : Nat
  raFrontLines : Nat
  deriving DecidableEq, Repr

/-! ### The desk, the event controller, the watchdog and the debug registers of a slot -/

/-- STREAM.DESKSTAT.PSTATE (05). -/
inductive DeskPower where
  | on | entering | retention | waking
  deriving DecidableEq, Repr

/-- The transaction of a matrix master that a line at a desk's DMA port serves, by its tag, and the bytes of the line that it reads (05 R163; 11
R334). -/
structure LineTag where
  master : Master
  tag : Nat
  first : Nat
  n : Nat
  deriving DecidableEq, Repr

/-- A line access that waits at the DMA port, with the bytes still to be written, the excursion engine or the transaction that it serves, and the clk
of its arrival (05 R163, R165; 13 R387). -/
structure DmaPending where
  off : Nat
  write : Option (List (Option Byte))
  engine : Option (Fin 2)
  txn : Option LineTag
  since : Nat
  deriving DecidableEq, Repr

/-- The desk of a slot (05 R162-R167). -/
structure Desk where
  mem : Mem
  /-- words that read as a double-bit error (05 R162, R166) -/
  bad : List Nat
  /-- words with a single-bit error not yet written back (05 R166) -/
  soft : List Nat
  power : DeskPower
  coll : Bool
  collOff : BitVec 19
  ce : Rc 16
  ue : Rc 16
  /-- line accesses that wait at the DMA port, a preempted one first -/
  dma : List DmaPending
  /-- whole periods without a lesson (05 R167) -/
  idlePeriods : Nat
  /-- where the recess scrub goes on (05 R166) -/
  scrubLine : Nat
  deriving DecidableEq, Repr

/-- STREAM.EVLINE (08 R270). -/
structure EvLine where
  en : Bool
  level : BitVec 4
  src : BitVec 9
  deriving DecidableEq, Repr

/-- STREAM.CSTOP and CSTOPPC (08 R268). -/
structure CStop where
  vec : Byte
  ovec : Byte
  ecause : Byte
  valid : Bool
  pc : Word64
  deriving DecidableEq, Repr

/-- STREAM.WDCTL and WDCNT (08 R269). -/
structure Watchdog where
  mode : BitVec 2
  load : BitVec 24
  exp : Bool
  count : BitVec 24
  /-- clk within the current unit of 64 -/
  phase : Nat
  /-- a Watchdog exception waits for a boundary -/
  pending : Bool
  deriving DecidableEq, Repr

/-- STREAM.WP (14). -/
structure Watchpoint where
  en : Bool
  rd : Bool
  wr : Bool
  size : BitVec 3
  addr : BitVec 42
  deriving DecidableEq, Repr

/-- The debug and trace registers of a slot (14 R409-R418). -/
structure Debug where
  monen : Bool
  wdpause : Bool
  step : Bool
  halt : Bool
  entries : Rc 8
  bkptNop : Rc 8
  monErr : Bool
  desc0 : Word64
  desc1 : Word64
  tsb : Word64
  ibp : Vector (Bool × BitVec 40) 4
  wp : Vector Watchpoint 2
  trEn : Bool
  trDest : BitVec 2
  trOvw : Bool
  trSys : Bool
  stimBase : BitVec 14
  stimEn : Word32
  /-- an event that is raised and waits for a boundary -/
  event : Option DebugEvent
  /-- the instruction at this address is exempt once (14 R411) -/
  exempt : Option Word64
  deriving DecidableEq, Repr

/-- One Stream slot (01, 07). -/
structure Slot where
  regs : Regs
  status : CoreStatus
  /-- a 64-byte block index of the module address space (07 R234) -/
  resv : Option Nat
  delay : Option DelaySlot
  waitAt : Option WaitKind
  /-- an exception whose entry waits for loads (07 R249) -/
  exc : Option Exc
  storeErr : Option StoreErr
  chain : Option OpenChain
  loads : List PendingLoad
  sbuf : List StoreEntry
  /-- MODEL: what the long instruction at PC has done so far: words of a QST that have entered the store buffer, iterations of a REP pair
  since it was entered (07 R230, R244, R248; log 16) -/
  partsDone : Nat
  lines : List Line
  /-- lines that have come and that the core has not entered (07 R220, R222; log 160) -/
  ahead : List Line
  /-- the line that the core entered last, and the next sequential lines that it has requested and not received (07 R220, R222) -/
  line : Option Addr
  prefetch : List Addr
  btb : Vector (Option BtbEntry) 64
  /-- registers with a parity error, numbered as FADDR numbers them (07 R255, 08 R261) -/
  parity : List Byte
  /-- the clk by which the last Stream or debug reset is complete, and how a lesson that would start before is reported (06 R208; 13 R389) -/
  resetHold : Option (Nat × Byte × Byte)
  eng : Engine
  desk : Desk
  lines32 : Vector EvLine 32
  evpend : Word32
  setNow : SetNow
  wd : Watchdog
  cstop : CStop
  dbg : Debug
  /-- decode-table copy words with a double-bit error: VOP × 100h + j (09 R285) -/
  tableBad : List Nat
  /-- decode-table copy words with a single-bit error (09 R285) -/
  tableSoft : List Nat
  retired : Bool
  laneRet : BitVec 66
  /-- physical lane serving each logical lane (01 R14) -/
  laneMap : Vector (Fin 66) 64
  /-- trend counts of the slot and its lanes, and weights since the last boundary (10 R293) -/
  trend : Word32
  weight : Nat
  laneTrend : Vector Word32 66
  laneWeight : Vector Nat 66
  deriving DecidableEq, Repr

/-! ### Ports and local memory (05) -/

/-- PORT.MAPSTAT.STATE (01 R24). -/
inductive PortState where
  | unreleased | active | spare | retired | source
  deriving DecidableEq, Repr

/-- PORT.LINKSTAT.TRAIN (05). -/
inductive Train where
  | untrained | training | trained | failed
  deriving DecidableEq, Repr

/-- One GDDR7 port controller. -/
structure Port where
  state : PortState
  logical : BitVec 5
  spareBank : Byte
  retBank : Byte
  edcRd : Rc 16
  edcWr : Rc 16
  corr : Rc 16
  uncorr : Rc 16
  train : Train
  /-- reports of the devices' on-die ECC, which are counted only (05 R152) -/
  onDie : Nat
  pprLeft : Byte
  temp : Byte
  /-- marked lost in the repair map (10 R295) -/
  lost : Bool
  /-- one of the port's devices is dead (10 R310) -/
  dead : Bool
  trend : Word32
  weight : Nat
  bankTrend : Vector Word32 128
  bankWeight : Vector Nat 128
  /-- distinct banks with uncorrectable reads in this frame (10 R295) -/
  badBanks : List (Fin 128)
  /-- banks not in use: retired by the factory or in the field -/
  bankRetired : List (Fin 128)
  /-- physical bank of each logical bank (01 R14) -/
  bankMap : Vector (Fin 128) 127
  deriving DecidableEq, Repr

/-- Local memory by module address (05 R142), and the error state of its blocks (05 R153, R154; log 15). Rows of a port's bank spare have block
numbers of their own past the interleave (log 139). -/
structure LocalMem where
  mem : Mem
  /-- block indexes that read uncorrectable until the whole block is written -/
  bad : List Nat
  /-- block indexes that read corrected until they are written back -/
  soft : List Nat
  /-- the wrong bytes of the blocks in `soft`, 64 to 67 the check bytes; an entry of another block has no meaning (05 R153; log 158) -/
  errs : List (Nat × List (Fin 68))
  /-- blocks whose read has failed its last retry, with the DATA subcode; the reader meets the error when it takes the data (02 R56; 05 R154
  step 3; 10 R299) -/
  failed : List (Nat × Nat)
  /-- corrected reads whose write-back is scheduled: the block, and the data that are written back, none for a row of a bank spare (05 R154) -/
  writeBacks : List (Nat × List Byte)
  deriving DecidableEq, Repr

/-! ### Repair (01, 10) -/

/-- A repair-map record (12 R366). -/
structure RepairRec where
  kind : Byte
  unit1 : Byte
  unit2 : Byte
  unit3 : Byte
  spare : Byte
  flags : Byte
  period : Word64
  deriving DecidableEq, Repr

/-- A field trip (10 R303-R307; 05 R150). -/
structure FieldTrip where
  /-- 1 bank; 2 port; 3 rebuild -/
  kind : Nat
  srcPort : PortId
  srcBank : Option (Fin 128)
  spare : Option Nat
  total : Nat
  moved : Nat
  poisoned : Nat
  /-- the field trip begins no earlier than this bell (06 R205: c + 1) -/
  notBefore : Nat
  /-- period whose recess began it; `none` while it is queued -/
  began : Option Nat
  /-- the retirement was decided by the loss of the port (10 R295) -/
  lost : Bool
  entry : RepairRec
  deriving DecidableEq, Repr

/-- A retirement decided in the clk `clk` and waiting for a later bell (01 R16). -/
structure Substitution where
  unit : UnitRef
  spare : Option Nat
  clk : Nat
  entry : RepairRec
  deriving DecidableEq, Repr

/-- The ladder of 01 R19; 4 stands for beyond repair in 3000h/02h. -/
inductive Ladder where
  | a | b | c | d | ended
  deriving DecidableEq, Repr

/-- Sparing, trends' bookkeeping and field trips. -/
structure Repair where
  ladder : Ladder
  /-- physical port of each logical port (01 R14, R19) -/
  portMap : List PortId
  /-- slot serving each logical Stream; `none` when it is absent (01 R14, R18) -/
  serving : Vector (Option SlotId) 64
  /-- slot that serves a Stream until the next bell in place of a retired one (06 R204) -/
  standIn : Vector (Option SlotId) 64
  /-- lane and slot retirements that wait for a bell -/
  subs : List Substitution
  /-- a port has been marked lost since release (12, roll call FLAGS) -/
  lostSince : Bool
  /-- field records in effect this run, saved or not (01 R15, 10 R309, 12 R366) -/
  field : List RepairRec
  /-- units that a frame boundary retires whatever their trend: the record's FLAGS, and whether the port is lost (10 R295) -/
  failed : List (UnitRef × Byte × Bool)
  /-- records decided and not yet in flash (01 R15) -/
  toSave : List RepairRec
  trips : List FieldTrip
  /-- the withdrawal of 01 R20 takes effect at this bell -/
  withdrawAt : Option Nat
  withdrawn : Bool
  /-- the ladder ends at the next bell (01 R19) -/
  endAtBell : Bool
  /-- periods later than this one have a degraded class, and whether it is RB (06 R205) -/
  degradedAfter : Option Nat
  rebuildAfter : Option Nat
  deriving DecidableEq, Repr

/-! ### The timetable (06) -/

/-- The booking header (06 R185) with the body (06 R186 or 05 R171). -/
structure Booking where
  lesson : Bool
  early : Bool
  repeat_ : Bool
  mode : Nat
  target : Nat
  budget : Nat
  weight : Nat
  stream : StreamId
  energy : Nat
  tag : Word16
  lmBase : Nat
  lmLen : Nat
  dPages : Nat
  dBase : Nat
  entry : Word64
  arg : Word64
  stack : Word64
  tsbp : Word64
  edb : Word64
  far : Nat
  near : Nat
  len : Nat
  nearToFar : Bool
  deriving DecidableEq, Repr

/-- A booking that is admitted and not started (06 R193). -/
structure Admitted where
  b : Booking
  period : Nat
  offset : Nat
  client : Client
  queue : QueueId
  /-- its energy charge in pJ and the seats it needs (06 R194, R190) -/
  charge : Nat
  deriving DecidableEq, Repr

/-- A booking that runs. -/
structure Run where
  adm : Admitted
  start : Nat
  /-- retry extension X (06 R202) -/
  ext : Nat
  /-- metered energy, counted and in all, in pJ (06 R196) -/
  counted : Nat
  metered : Nat
  rerun : Bool
  extCap : Bool
  farSlow : Bool
  excused : Bool
  /-- excursion: blocks moved in ascending order; poisoned; link down; collision -/
  blocks : Nat
  poison : Bool
  linkDown : Bool
  collision : Bool
  /-- the seats that it uses of its client's holding (06 R190) -/
  seats : List Nat
  /-- what was metered before a re-run started, in pJ (06 R196, R204) -/
  before : Nat
  deriving DecidableEq, Repr

/-- A completion record (06 R209). -/
structure Record where
  lesson : Bool
  status : Byte
  period : Nat
  start : Word32
  used : Nat
  energy : Nat
  cause : Byte
  rerun : Bool
  extCap : Bool
  farSlow : Bool
  tag : Word16
  ext : Nat
  blocks : Nat
  client : Client
  queue : QueueId
  /-- the booking started after its start offset (10 R315) -/
  lateStart : Bool
  /-- the clk since release by which R197 or R210 want it posted -/
  due : Nat
  deriving DecidableEq, Repr

/-- What the timetable keeps for one client. -/
structure ClientState where
  run : Option Run
  /-- clk of the current period at or after which its next booking starts (06 R189) -/
  nextStart : Nat
  /-- draws on the fault reserve in this period (06 R202) -/
  drawn : Nat
  exhausted : Bool
  /-- a stopped lesson that may be re-run, and the clk of its stop (06 R204) -/
  rerun : Option (Run × Nat)
  /-- the desk copy of 10 R302 that waits: retired slot and spare -/
  copy : Option (SlotId × SlotId)
  /-- what the remaining bookings of the period are reported as, when they may not start -/
  lostCause : Option Byte
  deriving DecidableEq, Repr

/-- The period parameters (06 R176). -/
structure Params where
  us : Nat
  recess : Nat
  reserve : Nat
  deriving DecidableEq, Repr

/-- TT.BELLSTAT.SRC (06 R184). -/
inductive BellSrc where
  | internal | searching | locked | holdover
  deriving DecidableEq, Repr

/-- What registers read in the clk of a bell, `clk`: their values from before it (01 R24; 06 R184). -/
structure BellBefore where
  clk : Nat
  bellNum : BitVec 48
  pclk : Word32
  phys : Vector Word64 68
  laneRet : Vector (BitVec 66) 68
  mapstat : Vector Word64 32
  deriving DecidableEq, Repr

/-- What a booking decision sees of a queue pair (11 R328). -/
structure QueueView where
  running : Bool
  head : Byte
  tail : Byte
  deriving DecidableEq, Repr

/-- What a booking decision sees of the module besides the bookings: its state in the clk before (06 R188). -/
structure DecisionView where
  repair : Repair
  pAdm10 : Nat
  held : Bool
  farLatency : Word32
  link : Byte
  mapped : Word64
  /-- Streams in debug monitor mode -/
  monitored : List StreamId
  params : Params
  /-- what it sees of the queue pairs, and of the submission-queue memory (11 R328) -/
  queues : Vector QueueView 16
  sqMem : Mem
  deriving DecidableEq, Repr

/-- The bell and the timetable. -/
structure Timetable where
  params : Params
  /-- the bell source object in effect (06 R179) -/
  source : Bool
  bellNum : BitVec 48
  pclk : Word32
  src : BellSrc
  rej : Rc 16
  rejTotal : Word32
  phase : Word32
  holdPeriods : Word32
  /-- clk left until the internal timer rings, from the current bell or from READY (06 R181-R183) -/
  timer : Nat
  /-- consecutive edges in range while searching, and the clk since the last edge (06 R182) -/
  goodEdges : Nat
  sinceEdge : Option Nat
  slewing : Bool
  /-- B<0> has rung (06 R183) -/
  open_ : Bool
  inRecess : Bool
  /-- 2002h/01h holds admission (06 R178) -/
  held : Bool
  admitted : List Admitted
  streams : Vector ClientState 64
  engines : Vector ClientState 2
  /-- seats of the period's clients: seat to client (06 R159) -/
  seats : List (Nat × Client)
  /-- records that wait to be posted, in order (06 R210) -/
  due : List Record
  /-- the round-robin turn among the queues (06 R188) -/
  turn : QueueId
  /-- P_adm as last published, in tenths of a W (06 R195) -/
  pAdm10 : Nat
  /-- T_j as last published -/
  tj : Int
  /-- statistics since release (06 R211) -/
  bells : Word64
  nAdmitted : Word64
  nDeclined : Word64
  nOverrun : Word64
  nExcused : Word64
  nMissed : Word64
  nCut : Word64
  maxDraw : Word32
  nExhausted : Word32
  nReruns : Word32
  declines : Vector Word32 16
  exhaustedThisPeriod : Bool
  before : Option BellBefore
  /-- the module as the decision of the current clk sees it -/
  view : DecisionView
  deriving DecidableEq, Repr

/-- What the work area holds, beside local memory: the spec does not say where in the area or in what form, so a read at its addresses shows none of it
(DESIGN CHOICE, log 153). It is (01 R13; 05 R150) the field-trip progress log, the roll-call history, and whether phase 4 of a rebuild has copied
them to its mode-29 rows. The excursion engines' descriptor rings hold the bookings that are admitted for them. -/
structure WorkArea where
  rings : Vector (List Admitted) 2
  history : List (List Byte)
  log : List FieldTrip
  in29 : Bool
  deriving DecidableEq, Repr

/-- The availability counters (10 R315, R316). -/
structure Avail where
  judged : Word64
  failed : Word64
  missed : Vector Word64 5
  lateStarts : Word64
  latePosts : Word64
  runLength : Word64
  bestRun : Word64
  retries : Word64
  lateRetries : Word64
  recomputes : Word64
  /-- periods not yet judged that have failed -/
  failing : List Nat
  /-- a booking was admitted for the current period -/
  booked : Bool
  deriving DecidableEq, Repr

/-! ### Host link (11) -/

/-- HL.QSTAT.STATE. -/
inductive PairState where
  | disabled | running | error
  deriving DecidableEq, Repr

/-- A Yunaran queue pair (11 R322-R327). -/
structure QueuePair where
  cqbase : BitVec 52
  ien : Bool
  cqsz : BitVec 12
  iv : BitVec 11
  state : PairState
  err : BitVec 6
  sqHead : Byte
  sqTail : Byte
  cqHead : BitVec 12
  cqTail : BitVec 12
  phase : Bool
  fullw : Rc 32
  drop : Rc 32
  /-- entries that wait for their posted write: ETYPE and the 32-byte payload -/
  wait : List (Byte × List Byte)
  /-- enabled anew in this clk: a decision of this clk was for the pair as it was (R328; log 156) -/
  renewed : Bool
  deriving DecidableEq, Repr

/-- An MSI-X table entry (11 R329). -/
structure MsixEntry where
  addr : Word64
  data : Word32
  masked : Bool
  deriving DecidableEq, Repr

/-- What the host reads in configuration space beside the fields that it writes (11 R317). -/
structure ConfigSpace where
  classCode : BitVec 24
  vendor : Word16
  device : Word16
  maxPayload : Nat
  maxReadRequest : Nat
  vectors : Nat
  /-- the CXL 3.1 DVSEC -/
  cacheCapable : Bool
  memCapable : Bool
  deriving DecidableEq, Repr

/-- The host link (11). -/
structure HostLink where
  config : ConfigSpace
  linkUp : Bool
  lanes : Nat
  rate : Nat
  perstN : Bool
  d3hot : Bool
  aer : Bool
  ecrcGen : Bool
  ecrcCheck : Bool
  /-- errors logged in AER -/
  aerLog : Nat
  fnMask : Bool
  msix : Vector MsixEntry 2048
  /-- pending bit array (11 R329) -/
  pba : BitVec 2048
  /-- vectors requested and not yet sent -/
  asked : BitVec 2048
  sqMem : Mem
  pairs : Vector QueuePair 16
  mbReq : Vector Byte 64
  mbResp : Vector Byte 64
  /-- the response half has not been read since it was written (12, 1002h/02h) -/
  mbUnread : Bool
  deriving DecidableEq, Repr

/-- SM.ERRLOG (11 R333). -/
structure ErrLog where
  valid : Bool
  master : BitVec 4
  kind : BitVec 3
  addr : BitVec 42
  deriving DecidableEq, Repr

/-- How an access from outside ends. -/
inductive RespStatus where
  | ok | unsupported | decodeError | targetError | poisoned | parityError
  deriving DecidableEq, Repr

/-- A transaction that is outstanding (11 R334). -/
structure Txn where
  master : Master
  id : BitVec 6
  addr : Addr
  whole : Nat
  /-- bytes of it whose pieces have not ended -/
  left : Nat
  /-- the pieces that it has put to the matrix and that have not ended, in address order; none while it waits for the grant of its next piece -/
  rest : List Piece
  /-- the first of them has been granted, and its lines wait at a desk's DMA port with the tag `tag` (05 R163, R167); otherwise the transaction waits
  behind an earlier one of its master with its ID (11 R335) -/
  granted : Bool
  /-- MODEL: what its waiting lines carry -/
  tag : Nat
  /-- MODEL: the first of them has won its arbitration already, and waits to be served in order -/
  won : Bool
  /-- what the lines of that piece have given, and whether one of them was uncorrectable -/
  part : List Byte
  partBad : Bool
  status : RespStatus
  got : List Byte
  /-- a request of the host link: a read's completions leave as its pieces end, and a write is posted (11 R319) -/
  link : Bool
  /-- its master has been reset: the response is discarded (11 R339) -/
  dropped : Bool
  deriving DecidableEq, Repr

/-- The service matrix (11 R331-R338). -/
structure ServiceMatrix where
  txns : List Txn
  /-- MODEL: the tag of the next piece whose lines wait at a desk -/
  nextTag : Nat
  errlog : ErrLog
  /-- MODEL (log 156): the first error of the current clk, which stays logged when a write clears VALID in this clk (00 R6; 11 R333) -/
  errNow : Option ErrLog
  prio : Vector (BitVec 44) 11
  /-- last winner at each target, on which it is parked (11 R336, R338) -/
  last : Vector (Fin 11) 11
  /-- arbitrations lost in a row by the piece of each master at each target -/
  losses : Vector (Vector Nat 11) 11
  /-- the hub served last at GSP (11 R337) -/
  hubTurn : Fin 4
  /-- the core whose request each hub served last (11 R337) -/
  hubCore : Vector (Option SlotId) 4
  deriving DecidableEq, Repr

/-- The expansion port and the excursion engines' link state (05 R168-R175). -/
structure Expansion where
  /-- 3020h/01h -/
  link : Byte
  lanes : Byte
  mapped : Word64
  latency : Word32
  slow : Word32
  rate : Byte
  deriving DecidableEq, Repr

/-! ### Management (12) -/

/-- The RWP objects (12 R357; each row's own chapter). -/
structure Rwp where
  autoLeave : Bool
  periodUs : Word32
  recess : Word16
  reserve : Word16
  bellSource : Byte
  holdoverReport : Word32
  retention : Bool
  retentionPeriods : Byte
  farLatency : Word32
  thresholds : Vector Word32 8
  rollInterval : Word16
  pLim : Word16
  ownerKey : List Byte
  bistMode : Byte
  bistProgram : List Byte
  bistAtPowerUp : Bool
  slices : Bool
  images : Vector (List Byte) 64
  deriving DecidableEq, Repr

/-- An object key: index and subindex. -/
abbrev ObjKey := Nat × Nat

/-- Status of a CMD object (12 R348). -/
inductive CmdStatus where
  | idle | pending | done | refused
  deriving DecidableEq, Repr

/-- Statuses of the CMD objects that follow R348. -/
structure CmdStatuses where
  power : CmdStatus
  /-- 2002h/01h, whose table gives another read value: it shows only whether a command is pending (12 R345) -/
  hold : CmdStatus
  retire : CmdStatus
  delete : CmdStatus
  bist : CmdStatus
  defaults : CmdStatus
  lifeCycle : CmdStatus
  endPasses : CmdStatus
  attest : Vector CmdStatus 4
  deriving DecidableEq, Repr

/-- An open segmented read: the object, its snapshot, frames since the last segment frame (12 R352, R353). -/
structure SegRead where
  key : ObjKey
  data : List Byte
  idle : Nat
  deriving DecidableEq, Repr

/-- An open segmented write (12 R351). -/
structure SegWrite where
  key : ObjKey
  total : Nat
  got : List Byte
  expected : Nat
  idle : Nat
  deriving DecidableEq, Repr

/-- A request frame in a receive queue, with its response once it has been checked: a frame is checked by the boundary that follows its
receipt (12 R346, R347). `stamp` orders the receipts of both transports (12 R340). -/
structure Request where
  frame : List Byte
  stamp : Nat
  reply : Option (List Byte)
  deriving DecidableEq, Repr

/-- A management transport (12 R346, R350). -/
structure TransportState where
  queue : List Request
  rd : Option SegRead
  wr : Option SegWrite
  deriving DecidableEq, Repr

/-- An accepted write that waits for the frame boundary (12 R340, R347). -/
structure AcceptedWrite where
  stamp : Nat
  key : ObjKey
  val : List Byte
  persist : Option Word32
  deriving DecidableEq, Repr

/-- A journal record (12 R359). -/
structure JournalRec where
  key : ObjKey
  val : List Byte
  persist : Word32
  deriving DecidableEq, Repr

/-- CAN controller state, 1001h/02h (12 R342). -/
inductive CanState where
  | offBus | errorActive | errorPassive | busOff
  deriving DecidableEq, Repr

/-- Where the module stands between off and run (13 R368-R377). -/
inductive Phase where
  | off | recovery | standby | enabling | starting | run
  deriving DecidableEq, Repr

/-- Life-cycle states (14 R404). -/
inductive Life where
  | blank | provisioned | deployed | returned | void
  deriving DecidableEq, Repr

/-- What the checks of a request see of the module's state: what the last boundary sampled (12 R347). -/
structure Sampled where
  phase : Phase
  sinceTrip : Option Nat
  life : Life
  fuseLife : Life
  /-- a hall pass of Brirel's is in force (14 R405) -/
  vendorPass : Bool
  retired : List UnitRef
  deriving DecidableEq, Repr

/-- The management controller (12). -/
structure Mgmt where
  node : BitVec 6
  canState : CanState
  /-- the transmit error counter behind error-passive and bus-off (12 R342) -/
  txErrors : Nat
  /-- the receive error counter behind error-passive -/
  rxErrors : Nat
  canRx : Word32
  canDropped : Word32
  canOtherDlc : Word32
  canIgnored : Word32
  canBusOffs : Word32
  mbTaken : Word32
  mbOverwritten : Word32
  mbDropped : Word32
  frames : Word64
  framesRelease : Word32
  can : TransportState
  mailbox : TransportState
  /-- the transport whose request is taken next when both have one (12 R346), and the receipts so far -/
  turn : Transport
  stamp : Nat
  /-- frames that wait for the bus (12 R342, R364) -/
  txq : List (BitVec 11 × List Byte)
  accepted : List AcceptedWrite
  rwp : Rwp
  cmds : CmdStatuses
  persistLast : Word32
  persistSafe : Word32
  /-- records assigned and not yet programmed in both devices -/
  toPersist : List JournalRec
  /-- 9000h/03h: compacting, device A failed, device B failed -/
  compacting : Bool
  failA : Bool
  failB : Bool
  seen : Sampled
  /-- every object's published value (12 R340, R347) -/
  pub : List (ObjKey × List Byte)
  rcSeq : Word64
  rollCall : List Byte
  lastState : Byte
  releaseRoll : Bool
  /-- a Stream checkstopped, or a health counter rose, since the last publication -/
  sawCheckstop : Bool
  sawHealth : Bool
  /-- event counters of sources 0 to 511 (08 R276) -/
  events : Vector Word32 512
  /-- health counters 4220h/01h-07h (12 R365) -/
  health : Vector Word32 7
  evroute : Vector (Bool × BitVec 11) 512
  sensors : Sensors
  deriving DecidableEq, Repr

/-! ### Power, fuses, flash, security (13, 14) -/

/-- Supplies and start-up (13). -/
structure Power where
  phase : Phase
  main48 : Bool
  pwrgd : Bool
  result : Byte
  duration : Word32
  /-- MODEL: the time to READY of the start-up under way, in ms, which 1010h/04h shows once it has succeeded (13 R370) -/
  startMs : Word32
  cause : Byte
  bank : Byte
  thermtripN : Bool
  /-- frames since the last thermal trip, while the wait of 1010h/01h lasts -/
  sinceTrip : Option Nat
  trips : Word32
  /-- a warm reset or a standby entry waits for the bell (13 R390) -/
  warmPending : Bool
  standbyPending : Bool
  /-- the bell of 13 R390 has rung, and the frame boundaries since -/
  bellRung : Bool
  waited : Nat
  /-- 1010h/01h was written with 3 and the 48 V input is awaited (13 R370) -/
  leaveAsked : Bool
  ready : Bool
  deriving DecidableEq, Repr

/-- The fuses that change or that the maps are built from (13 R372, R379; 01 R14). -/
structure Fuses where
  life : Life
  /-- the first start-up in RETURNED has taken place (14 R405) -/
  returnedOnce : Bool
  /-- the identity key has been generated (14 R398, R403) -/
  identity : Bool
  factory : List RepairRec
  deriving DecidableEq, Repr

/-- A signed image as held in flash (14 R395), with what verification found when it was programmed. -/
structure Image where
  type : Byte
  version : Word32
  svn : Word32
  bytes : List Byte
  verified : Bool
  deriving DecidableEq, Repr

/-- The two flash devices (13 R368, R373; 12 R359; 14 R399). -/
structure Flash where
  fwA : Image
  fwB : Image
  bootA : Image
  bootB : Image
  journalA : List JournalRec
  journalB : List JournalRec
  field : List RepairRec
  /-- deleted field records, with their sequence numbers, until the release that drops them: a module warm reset still maps by them (12 R367) -/
  kept : List (Nat × RepairRec)
  /-- each device's copy of the field records, with their sequence numbers (13 R373) -/
  fieldA : List (Nat × RepairRec)
  fieldB : List (Nat × RepairRec)
  /-- rows marked for hard post-package repair (05 R156) -/
  rows : List (PortId × Fin 128 × Nat)
  rtA : Nat
  rtB : Nat
  releases : Word32
  deriving DecidableEq, Repr

/-- A hall pass in force for a Stream (14 R408). -/
structure Grant where
  level : BitVec 2
  expiry : BitVec 48
  signer : BitVec 1
  deriving DecidableEq, Repr

/-- An attestation channel (14 R403). -/
structure Channel where
  report : List Byte
  reason : Byte
  deriving DecidableEq, Repr

/-- The security engine (14). -/
structure Security where
  /-- life-cycle state read at step 2 (13 R379) -/
  life : Life
  /-- running firmware is in device B -/
  fwInB : Bool
  index : Nat
  flashFault : Bool
  meas : Vector (BitVec 256) 8
  channels : Vector Channel 4
  upload : Byte
  grants : Vector (Option Grant) 64
  /-- a release has been made since AUX on (14 R402) -/
  released : Bool
  lastPass : Byte
  pass : Option (List Byte)
  /-- an accepted pass that takes effect at the next boundary -/
  accepted : Option (List Byte)
  deriving DecidableEq, Repr

/-- A program of the live decode table: its image words (09 R283). -/
structure LiveTable where
  sealed : Bool
  slots : Vector (List Word64) 64
  skipped : Byte
  digest : BitVec 256
  deriving DecidableEq, Repr

/-- A trace packet (14 R417). -/
structure Packet where
  bell : BitVec 48
  stream : StreamId
  port : BitVec 5
  kind : BitVec 3
  offset : Word32
  seq : Word32
  data : Word64
  deriving DecidableEq, Repr

/-- A trace ring: its pointers and its 4 MiB of trace buffer (14 R418). -/
structure Ring where
  rd : BitVec 17
  wr : BitVec 17
  mem : Mem
  seq : Word32
  lostRing : Nat
  deriving DecidableEq, Repr

/-- Debug access and the trace buffer (14 R416-R422). -/
structure DebugUnit where
  side : Bool
  rings : Vector Ring 64
  portq : List Packet
  portStarted : Bool
  /-- whether the running disparity of each lane of the trace port is positive (15 R434; log 167) -/
  portRd : Vector Bool 4
  portLost : Nat
  deriving DecidableEq, Repr

/-- The BIST controller (13 R380-R387). -/
structure Bist where
  running : Bool
  lastResult : Byte
  lastSig : List Byte
  lastN : Word32
  lastPlanned : Word32
  lastPpm : Word32
  lastUs : Word32
  lastKind : Byte
  slicesDone : Word64
  slicesFailed : Word32
  stepsAbandoned : Word32
  passPeriods : Word32
  maxHold : Word32
  /-- the unit under test, and the clk at which its test began (13 R387) -/
  unit : Option SliceUnit
  since : Nat
  /-- units that a slice has worked on for 80,000 clk in this recess (13 R385) -/
  barred : List SliceUnit
  /-- clk that a slice has spent in this recess on the units that it has left (13 R385) -/
  spent : List (SliceUnit × Nat)
  /-- the pass over all units: those whose slice has ended, and the period in which its first slice began (7002h/04h; log 157) -/
  passed : List SliceUnit
  passFrom : Option Nat
  deriving DecidableEq, Repr

/-- What a code in the TAP's 8-bit instruction register selects (14 R422). -/
inductive TapInstr where
  | bypass | idcode | samplePreload | extest | clamp | highz | dbgacc
  deriving DecidableEq, Repr

/-- The instruction of a code: FFh and every code that is no other instruction's act as BYPASS. -/
def TapInstr.ofCode (c : Byte) : TapInstr :=
  if c = 0x00 then .extest
  else if c = 0x01 then .idcode
  else if c = 0x02 then .samplePreload
  else if c = 0x03 then .clamp
  else if c = 0x04 then .highz
  else if c = 0x10 then .dbgacc
  else .bypass

/-- The TAP (14 R422): what its instruction register selects, sampled and preloaded boundary cells, and whether the pins are driven from them. -/
structure Tap where
  ir : TapInstr
  sampled : ScanCells
  preload : ScanCells
  driven : Bool
  highz : Bool
  deriving DecidableEq, Repr

/-! ### The module -/

/-- What leaves the module (MODEL, log 20). -/
inductive Output where
  /-- the end of an access of a matrix master: status and data -/
  | response (st : RespStatus) (data : List Byte)
  /-- a completion of a host read; this and the host link's two requests carry an ECRC while its generation is enabled in AER (11 R317) -/
  | completion (st : RespStatus) (data : List Byte) (ecrc : Bool)
  | cqWrite (q : QueueId) (addr : Word64) (bytes : List Byte) (ecrc : Bool)
  | msix (v : Fin 2048) (addr : Word64) (data : Word32) (ecrc : Bool)
  | can (id : BitVec 11) (data : List Byte)
  | farWrite (e : Fin 2) (addr : Nat) (data : List Byte) (poison : Bool)
  /-- what each lane of the trace port sends: 10-bit code groups (15 R434) -/
  | traceSymbols (lanes : Vector (List (BitVec 10)) 4)
  | tdo (bits : Word32)
  deriving DecidableEq, Repr

/-- The whole module. -/
structure State where
  /-- the commands that wait, first in first out -/
  pending : List Instr
  /-- MODEL (log 13): the counter that free values are applied to -/
  free : Nat
  /-- clk since release: the slot position counter runs on it (05 R157) -/
  clk : Nat
  /-- MODEL (log 20): what has left the module, in order -/
  out : List Output
  power : Power
  fuses : Fuses
  flash : Flash
  sec : Security
  mgmt : Mgmt
  slots : Vector Slot 68
  ports : Vector Port 32
  mem : LocalMem
  work : WorkArea
  repair : Repair
  tt : Timetable
  avail : Avail
  host : HostLink
  sm : ServiceMatrix
  xp : Expansion
  table : LiveTable
  dbg : DebugUnit
  bist : Bist
  tap : Tap
  deriving DecidableEq, Repr

/-! ### The state after a cold reset

Each value is the Reset column's, or the value that rule or log entry names (00 R4, 13 R393). -/

/-- Every special register resets to 0, FPCSR.RM to 001b (07 R214, 04 FPCSR map); A, D and Q start at 0 (log 21). -/
def Regs.reset : Regs where
  a := Vector.replicate 16 0
  d := Vector.replicate 32 0
  q := Vector.replicate 4 0
  pc := 0
  cc := ⟨false, false, false, false⟩
  vl := 0
  vx := 0
  lc := 0
  ls := 0
  le := 0
  tsbp := 0
  edb := 0
  fpcsr := 0x00010000
  qd := 0
  iml := 0
  ctsb := 0
  qg := 0

/-- STREAM.VSTATUS, VFCAUSE, VFADDR, VFINSN, VFVL, VEFLAGS and RASTAT reset to 0 (02, 03, 04). -/
def Engine.reset : Engine where
  queue := []
  stopped := false
  suspend := false
  cause := ⟨false, 0, 0, 0, 0⟩
  vfaddr := 0
  vfinsn := 0
  vfvl := 0
  veflags := 0
  raIssued := Rc.zero
  raDropped := Rc.zero
  raHeld := 0
  raLines := 0
  raFront := 0
  raFrontLines := 0

/-- STREAM.DESKSTAT and DESKECC reset to 0 (05). -/
def Desk.reset : Desk where
  mem := Mem.zero
  bad := []
  soft := []
  power := .on
  coll := false
  collOff := 0
  ce := Rc.zero
  ue := Rc.zero
  dma := []
  idlePeriods := 0
  scrubLine := 0

/-- STREAM.WDCTL and WDCNT reset to 0 (08). -/
def Watchdog.reset : Watchdog where
  mode := 0
  load := 0
  exp := false
  count := 0
  phase := 0
  pending := false

/-- The debug and trace registers reset to 0 (14). -/
def Debug.reset : Debug where
  monen := false
  wdpause := false
  step := false
  halt := false
  entries := Rc.zero
  bkptNop := Rc.zero
  monErr := false
  desc0 := 0
  desc1 := 0
  tsb := 0
  ibp := Vector.replicate 4 (false, 0)
  wp := Vector.replicate 2 ⟨false, false, false, 0, 0⟩
  trEn := false
  trDest := 0
  trOvw := false
  trSys := false
  stimBase := 0
  stimEn := 0
  event := none
  exempt := none

/-- A Stream slot after a cold reset (01 R22, R23; 07; 08). -/
def Slot.reset : Slot where
  regs := Regs.reset
  status := .quiet
  resv := none
  delay := none
  waitAt := none
  exc := none
  storeErr := none
  chain := none
  loads := []
  sbuf := []
  partsDone := 0
  lines := []
  ahead := []
  line := none
  prefetch := []
  btb := Vector.replicate 64 none
  parity := []
  resetHold := none
  eng := Engine.reset
  desk := Desk.reset
  lines32 := Vector.replicate 32 ⟨false, 0, 0⟩
  evpend := 0
  setNow := SetNow.none
  wd := Watchdog.reset
  cstop := ⟨0, 0, 0, false, 0⟩
  dbg := Debug.reset
  tableBad := []
  tableSoft := []
  retired := false
  laneRet := 0
  laneMap := Vector.ofFn fun i => i.castLE (by decide)
  trend := 0
  weight := 0
  laneTrend := Vector.replicate 66 0
  laneWeight := Vector.replicate 66 0

/-- A port controller after a cold reset: MAPSTAT, ERRCNT and LINKSTAT at their Reset columns (01 R24, 05). -/
def Port.reset : Port where
  state := .unreleased
  logical := 0
  spareBank := 0xFF
  retBank := 0xFF
  edcRd := Rc.zero
  edcWr := Rc.zero
  corr := Rc.zero
  uncorr := Rc.zero
  train := .untrained
  onDie := 0
  pprLeft := 0
  temp := 0
  lost := false
  dead := false
  trend := 0
  weight := 0
  bankTrend := Vector.replicate 128 0
  bankWeight := Vector.replicate 128 0
  badBanks := []
  bankRetired := []
  bankMap := Vector.ofFn fun i => i.castLE (by decide)

/-- No map before the first release (01 R14). -/
def Repair.reset : Repair where
  ladder := .a
  portMap := []
  serving := Vector.replicate 64 none
  standIn := Vector.replicate 64 none
  subs := []
  lostSince := false
  field := []
  failed := []
  toSave := []
  trips := []
  withdrawAt := none
  withdrawn := false
  endAtBell := false
  degradedAfter := none
  rebuildAfter := none

/-- Nothing is in the work area. -/
def WorkArea.reset : WorkArea where
  rings := Vector.replicate 2 []
  history := []
  log := []
  in29 := false

/-- A client with nothing admitted. -/
def ClientState.reset : ClientState where
  run := none
  nextStart := 0
  drawn := 0
  exhausted := false
  rerun := none
  copy := none
  lostCause := none

/-- Nothing is seen before the first clk. -/
def DecisionView.reset : DecisionView where
  repair := Repair.reset
  pAdm10 := 0
  held := false
  farLatency := 0
  link := 0
  mapped := 0
  monitored := []
  params := ⟨250, 20, 10⟩
  queues := Vector.replicate 16 ⟨false, 0, 0⟩
  sqMem := Mem.zero

/-- TT.BELLNUM, BELLSTAT and PCLK reset to 0 (06 R184); the parameters are the defaults (06 R176). -/
def Timetable.reset : Timetable where
  params := ⟨250, 20, 10⟩
  source := false
  bellNum := 0
  pclk := 0
  src := .internal
  rej := Rc.zero
  rejTotal := 0
  phase := 0
  holdPeriods := 0
  timer := 0
  goodEdges := 0
  sinceEdge := none
  slewing := false
  open_ := false
  inRecess := false
  held := false
  admitted := []
  streams := Vector.replicate 64 ClientState.reset
  engines := Vector.replicate 2 ClientState.reset
  seats := []
  due := []
  turn := 0
  pAdm10 := 0
  tj := 0
  bells := 0
  nAdmitted := 0
  nDeclined := 0
  nOverrun := 0
  nExcused := 0
  nMissed := 0
  nCut := 0
  maxDraw := 0
  nExhausted := 0
  nReruns := 0
  declines := Vector.replicate 16 0
  exhaustedThisPeriod := false
  before := none
  view := DecisionView.reset

/-- The availability counters start at 0 at release (10 R316). -/
def Avail.reset : Avail where
  judged := 0
  failed := 0
  missed := Vector.replicate 5 0
  lateStarts := 0
  latePosts := 0
  runLength := 0
  bestRun := 0
  retries := 0
  lateRetries := 0
  recomputes := 0
  failing := []
  booked := false

/-- HL.CQBASE, QCTL, QSTAT and QCNT reset to 0 (11 R325). -/
def QueuePair.reset : QueuePair where
  cqbase := 0
  ien := false
  cqsz := 0
  iv := 0
  state := .disabled
  err := 0
  sqHead := 0
  sqTail := 0
  cqHead := 0
  cqTail := 0
  phase := false
  fullw := Rc.zero
  drop := Rc.zero
  wait := []
  renewed := false

/-- The host link after a cold reset; PERST# has a pull-down, so it is asserted (15; log 22). -/
def HostLink.reset : HostLink where
  config := ⟨0x120000, 0x1E9A, 0xC064, 512, 4096, 2048, false, false⟩
  linkUp := false
  lanes := 0
  rate := 0
  perstN := false
  d3hot := false
  aer := false
  ecrcGen := false
  ecrcCheck := false
  aerLog := 0
  fnMask := false
  msix := Vector.replicate 2048 ⟨0, 0, true⟩
  pba := 0
  asked := 0
  sqMem := Mem.zero
  pairs := Vector.replicate 16 QueuePair.reset
  mbReq := Vector.replicate 64 0
  mbResp := Vector.replicate 64 0
  mbUnread := false

/-- The reset value of SM.PRIO[m] (11 R336): 8 everywhere but TH at GSP 15, XE at TP0-TP3 12 and MGMT at DICT 12. -/
def prioReset (m : Fin 11) : BitVec 44 :=
  if m.val ≤ 3 then 0x888888F8888
  else if m.val = 5 ∨ m.val = 6 then 0x8888888CCCC
  else if m.val = 8 then 0x88C88888888
  else 0x88888888888

/-- The service matrix after a cold reset (11 R333, R336; the winners of log 23). -/
def ServiceMatrix.reset : ServiceMatrix where
  txns := []
  nextTag := 0
  errlog := ⟨false, 0, 0, 0⟩
  errNow := none
  prio := Vector.ofFn prioReset
  last := Vector.replicate 11 10
  losses := Vector.replicate 11 (Vector.replicate 11 0)
  hubTurn := 3
  hubCore := Vector.replicate 4 none

/-- No device before training (05 R175). -/
def Expansion.reset : Expansion where
  link := 0
  lanes := 0
  mapped := 0
  latency := 0
  slow := 0
  rate := 0

/-- The defaults of the RWP objects (06 R176, R179, R184; 05 R175; 10 R294; 12 R364; 13; 14; 09 R281). -/
def Rwp.defaults : Rwp where
  autoLeave := true
  periodUs := 250
  recess := 20
  reserve := 10
  bellSource := 0
  holdoverReport := 4000
  retention := true
  retentionPeriods := 4
  farLatency := 0
  thresholds := #v[64, 1, 128, 2, 1024, 4, 1024, 8]
  rollInterval := 16
  pLim := 1200
  ownerKey := []
  bistMode := 0
  bistProgram := []
  bistAtPowerUp := false
  slices := true
  images := Vector.replicate 64 []

/-- No command given (12 R348). -/
def CmdStatuses.reset : CmdStatuses where
  power := .idle
  hold := .idle
  retire := .idle
  delete := .idle
  bist := .idle
  defaults := .idle
  lifeCycle := .idle
  endPasses := .idle
  attest := Vector.replicate 4 .idle

/-- An empty transport. -/
def TransportState.reset : TransportState where
  queue := []
  rd := none
  wr := none

/-- The management controller before AUX comes on: counters at 0, objects at their defaults. -/
def Mgmt.reset : Mgmt where
  node := 0
  canState := .offBus
  txErrors := 0
  rxErrors := 0
  canRx := 0
  canDropped := 0
  canOtherDlc := 0
  canIgnored := 0
  canBusOffs := 0
  mbTaken := 0
  mbOverwritten := 0
  mbDropped := 0
  frames := 0
  framesRelease := 0
  can := TransportState.reset
  mailbox := TransportState.reset
  turn := .can
  stamp := 0
  txq := []
  accepted := []
  rwp := Rwp.defaults
  cmds := CmdStatuses.reset
  persistLast := 0
  persistSafe := 0
  toPersist := []
  compacting := false
  failA := false
  failB := false
  seen := ⟨.off, none, .provisioned, .provisioned, false, []⟩
  pub := []
  rcSeq := 0
  rollCall := List.replicate 64 0
  lastState := 3
  releaseRoll := false
  sawCheckstop := false
  sawHealth := false
  events := Vector.replicate 512 0
  health := Vector.replicate 7 0
  evroute := Vector.replicate 512 (false, 0)
  sensors := ⟨0, 0, 0, 0, Vector.replicate 32 0⟩

/-- No supply is on; the cause object resets to 1 and every other to 0 (13). -/
def Power.reset : Power where
  phase := .off
  main48 := false
  pwrgd := false
  result := 0
  duration := 0
  startMs := 0
  cause := 1
  bank := 0
  thermtripN := true
  sinceTrip := none
  trips := 0
  warmPending := false
  standbyPending := false
  bellRung := false
  waited := 0
  leaveAsked := false
  ready := false

/-- A module as shipped (14 R398, 01 R21; log 19). -/
def Fuses.shipped : Fuses where
  life := .provisioned
  returnedOnce := false
  identity := true
  factory := []

/-- An image that verifies, of version 1; its bytes are Brirel's (log 18, log 19). -/
def Image.shipped (type : Byte) : Image where
  type := type
  version := 1
  svn := Config.minSvn
  bytes := Config.shippedImage type.toNat
  verified := true

/-- The flash devices as shipped: no journal record, no field record (log 19). -/
def Flash.shipped : Flash where
  fwA := Image.shipped 1
  fwB := Image.shipped 1
  bootA := Image.shipped 2
  bootB := Image.shipped 2
  journalA := []
  journalB := []
  field := []
  kept := []
  fieldA := []
  fieldB := []
  rows := []
  rtA := 0
  rtB := 0
  releases := 0

/-- The security engine before AUX comes on (14). -/
def Security.reset : Security where
  life := .provisioned
  fwInB := false
  index := 0
  flashFault := false
  meas := Vector.replicate 8 0
  channels := Vector.replicate 4 ⟨[], 0⟩
  upload := 0
  grants := Vector.replicate 64 none
  released := false
  lastPass := 0
  pass := none
  accepted := none

/-- An unsealed, empty live table (09 R281). Its digest, 9010h/03h, has no default in the spec: until a release builds the table, and again while the main
rails are off, it reads 32 zero bytes, DESIGN CHOICE (log 177). -/
def LiveTable.reset : LiveTable where
  sealed := false
  slots := Vector.replicate 64 []
  skipped := 0
  digest := 0

/-- DBG registers reset to 0 (14). -/
def DebugUnit.reset : DebugUnit where
  side := false
  rings := Vector.replicate 64 ⟨0, 0, Mem.zero, 0, 0⟩
  portq := []
  portStarted := false
  portRd := Vector.replicate 4 false
  portLost := 0

/-- No run since AUX on (13). -/
def Bist.reset : Bist where
  running := false
  lastResult := 0
  lastSig := List.replicate 32 0
  lastN := 0
  lastPlanned := 0
  lastPpm := 0
  lastUs := 0
  lastKind := 0
  slicesDone := 0
  slicesFailed := 0
  stepsAbandoned := 0
  passPeriods := 0
  maxHold := 0
  unit := none
  since := 0
  barred := []
  spent := []
  passed := []
  passFrom := none

/-- Boundary cells that carry no level. -/
def ScanCells.low : ScanCells := ⟨false, false, false, false, ⟨false, 0, false, 0, false⟩⟩

/-- The TAP after its reset selects IDCODE (log 27). -/
def Tap.reset : Tap where
  ir := .idcode
  sampled := ScanCells.low
  preload := ScanCells.low
  driven := false
  highz := false

/-- The module after a cold reset: AUX and main off, nothing waiting. -/
def State.reset : State where
  pending := []
  free := 0
  clk := 0
  out := []
  power := Power.reset
  fuses := Fuses.shipped
  flash := Flash.shipped
  sec := Security.reset
  mgmt := Mgmt.reset
  slots := Vector.replicate 68 Slot.reset
  ports := Vector.replicate 32 Port.reset
  mem := ⟨Mem.zero, [], [], [], [], []⟩
  work := WorkArea.reset
  repair := Repair.reset
  tt := Timetable.reset
  avail := Avail.reset
  host := HostLink.reset
  sm := ServiceMatrix.reset
  xp := Expansion.reset
  table := LiveTable.reset
  dbg := DebugUnit.reset
  bist := Bist.reset
  tap := Tap.reset

end Sys2Proof.Machine
end

