-- ==== Sys2Proof/Machine/Mem.lean ====
section
/-!
DEFINITION. Memory as a canonical list of cells, and little-endian words (00 R2).
-/

namespace Sys2Proof.Machine

/-- The byte at `a` of cells whose unlisted addresses read as `d` says. -/
def Cells.read (d : Nat → Byte) : List Host.Cell → Nat → Byte
  | [], a => d a
  | (b, x) :: r, a => if a = b then x else if a < b then d a else Cells.read d r a

/-- The cells with byte `x` at `a`, still canonical: writing what an unlisted address reads as removes the entry. -/
def Cells.write (d : Nat → Byte) : List Host.Cell → Nat → Byte → List Host.Cell
  | [], a, x => if x = d a then [] else [(a, x)]
  | (b, y) :: r, a, x =>
    if a < b then (if x = d a then (b, y) :: r else (a, x) :: (b, y) :: r)
    else if a = b then (if x = d a then r else (a, x) :: r)
    else (b, y) :: Cells.write d r a x

/-- The canonical form: addresses strictly rise, and no entry is what its address reads as unlisted. -/
def Cells.wf (d : Nat → Byte) : List Host.Cell → Bool
  | [] => true
  | [(a, x)] => x != d a
  | (a, x) :: (b, y) :: r => x != d a && decide (a < b) && Cells.wf d ((b, y) :: r)

/-- The byte at `a`. -/
def Mem.read (m : Mem) (a : Nat) : Byte := Cells.read (Mem.unlisted m.epoch) m.cells a

/-- `m` with byte `x` at `a`. -/
def Mem.write (m : Mem) (a : Nat) (x : Byte) : Mem := ⟨m.epoch, Cells.write (Mem.unlisted m.epoch) m.cells a x⟩

/-- The canonical form. -/
def Mem.wf (m : Mem) : Bool := Cells.wf (Mem.unlisted m.epoch) m.cells

/-- `n` bytes from `a` upward. -/
def Mem.readBytes (m : Mem) : Nat → Nat → List Byte
  | _, 0 => []
  | a, n + 1 => Mem.read m a :: Mem.readBytes m (a + 1) n

/-- The bytes `xs` from `a` upward. -/
def Mem.writeBytes (m : Mem) : Nat → List Byte → Mem
  | _, [] => m
  | a, x :: xs => Mem.writeBytes (Mem.write m a x) (a + 1) xs

/-- Bytes with enables, as a DMA line carries them (05 R163): a byte that is `none` is left unchanged. -/
def Mem.writeMasked (m : Mem) : Nat → List (Option Byte) → Mem
  | _, [] => m
  | a, none :: xs => Mem.writeMasked m (a + 1) xs
  | a, some x :: xs => Mem.writeMasked (Mem.write m a x) (a + 1) xs

/-- The number that little-endian bytes spell (00 R2). -/
def leNat : List Byte → Nat
  | [] => 0
  | b :: bs => b.toNat + 256 * leNat bs

/-- The `n` little-endian bytes of a number. -/
def leBytes : Nat → Nat → List Byte
  | 0, _ => []
  | n + 1, w => BitVec.ofNat 8 w :: leBytes n (w / 256)

/-- A little-endian 64-bit word of `m`. -/
def Mem.read64 (m : Mem) (a : Nat) : Word64 := BitVec.ofNat 64 (leNat (Mem.readBytes m a 8))

/-- `m` with a little-endian 64-bit word at `a`. -/
def Mem.write64 (m : Mem) (a : Nat) (w : Word64) : Mem := Mem.writeBytes m a (leBytes 8 w.toNat)

/-- `xs` cut or filled with zero bytes to `n` bytes. -/
def fitBytes : Nat → List Byte → List Byte
  | 0, _ => []
  | n + 1, [] => 0 :: fitBytes n []
  | n + 1, x :: xs => x :: fitBytes n xs

/-- The numbers from `a` up, `n` of them. -/
def upFrom : Nat → Nat → List Nat
  | _, 0 => []
  | a, n + 1 => a :: upFrom (a + 1) n

/-- `x` added at its place in a rising list without repeats. -/
def insertNat (x : Nat) : List Nat → List Nat
  | [] => [x]
  | y :: ys => if x < y then x :: y :: ys else if x = y then y :: ys else y :: insertNat x ys

/-- The bits hi to lo of a word, as a number (00, Numbers). -/
def bits {w : Nat} (x : BitVec w) (hi lo : Nat) : Nat := (x.toNat >>> lo) % 2 ^ (hi + 1 - lo)

/-- A saturating increment of an n-bit counter (00; each counter's own rule). -/
def satAdd {w : Nat} (x : BitVec w) (n : Nat) : BitVec w :=
  if x.toNat + n < 2 ^ w then BitVec.ofNat w (x.toNat + n) else BitVec.allOnes w

/-- `n` events in the current clk: they join what a read after this clk returns (00 R7). -/
def Rc.add {w : Nat} (c : Rc w) (n : Nat) : Rc w := { c with new := satAdd c.new n }

/-- The clk ends: its events are part of the value. -/
def Rc.tick {w : Nat} (c : Rc w) : Rc w := ⟨satAdd c.before c.new.toNat, 0⟩

/-- A read clears the value that it returned; the events of its own clk remain (00 R7). -/
def Rc.clear {w : Nat} (c : Rc w) : Rc w := { c with before := 0 }

end Sys2Proof.Machine
end

