-- ==== Sys2Proof/Machine/Base.lean ====
section
/-!
DEFINITION. Named operations that every unit shares: slots and their Streams, events and error weights, the address map, and
reads and writes of desks and local memory with their error states.
-/

namespace Sys2Proof

/-- Master numbers (11). -/
def Master.num : Master → Fin 11
  | .th t => ⟨t.val, by omega⟩
  | .hdma => 4
  | .xe e => ⟨5 + e.val, by omega⟩
  | .dam => 7
  | .mgmt => 8
  | .bist => 9
  | .sec => 10

end Sys2Proof

namespace Sys2Proof.Machine

/-! ### Free values (log 13) -/

/-- The next free value's number, and the state after it is drawn. -/
def State.draw (s : State) : Nat × State := (s.free, { s with free := s.free + 1 })

/-! ### Slots -/

def State.slot (s : State) (k : SlotId) : Slot := s.slots[k]

def State.setSlot (s : State) (k : SlotId) (x : Slot) : State := { s with slots := s.slots.set k x }

def State.modSlot (s : State) (k : SlotId) (f : Slot → Slot) : State := s.setSlot k (f (s.slot k))

def State.setPort (s : State) (p : PortId) (x : Port) : State := { s with ports := s.ports.set p x }

def State.modPort (s : State) (p : PortId) (f : Port → Port) : State := s.setPort p (f s.ports[p])

/-- The slot that serves a logical Stream: the stand-in until the bell (06 R204), else the map (01 R14); `none` when the Stream is
absent (01 R18). -/
def State.slotOf (s : State) (i : StreamId) : Option SlotId :=
  match s.repair.standIn[i] with
  | some k => some k
  | none => s.repair.serving[i]

/-- The logical Stream that a slot serves. -/
def State.streamOf (s : State) (k : SlotId) : Option StreamId :=
  (List.finRange 64).find? fun i => s.slotOf i == some k

/-- The registers of the core in slot `k`. -/
def State.regs (s : State) (k : SlotId) : Regs := (s.slot k).regs

def State.setRegs (s : State) (k : SlotId) (r : Regs) : State := s.modSlot k fun x => { x with regs := r }

/-! ### Debug levels (14 R404, R406) -/

/-- The level of a logical Stream. -/
def State.level (s : State) (i : StreamId) : Nat :=
  match s.sec.life with
  | .blank => 2
  | .provisioned => 2
  | .returned => 2
  | .void => 0
  | .deployed =>
    match s.sec.grants[i] with
    | some g => g.level.toNat
    | none => 0

/-- The lowest level of all logical Streams present; 2 when none is. -/
def State.moduleLevel (s : State) : Nat :=
  (List.finRange 64).foldl (fun l i => if (s.slotOf i).isSome then min l (s.level i) else l) 2

/-! ### Events (08 R270, R274-R276; 11 R329) -/

/-- A request of MSI-X vector `v`: pending while it is masked, to be sent otherwise (11 R329). -/
def State.requestVector (s : State) (v : BitVec 11) : State :=
  let h := s.host
  let m := 1#2048 <<< v.toNat
  if h.fnMask || h.msix[v.toFin].masked then { s with host := { h with pba := h.pba ||| m } }
  else { s with host := { h with asked := h.asked ||| m } }

/-- Lines of one slot that select source `n`. -/
def Slot.lineBits (x : Slot) (n : Nat) : Word32 :=
  (List.finRange 32).foldl (fun w i => if x.lines32[i].en && x.lines32[i].src.toNat == n then w ||| (1#32 <<< i.val) else w) 0

/-- An occurrence of event source `n`: its counter, the lines that select it, and its MSI-X vector. -/
def State.raise (s : State) (n : Nat) : State :=
  if h : n < 512 then
    let s1 := { s with
      mgmt := { s.mgmt with events := s.mgmt.events.set n (satAdd s.mgmt.events[n] 1) }
      slots := s.slots.map fun x => { x with evpend := x.evpend ||| x.lineBits n, setNow := { x.setNow with evpend := x.setNow.evpend ||| x.lineBits n } } }
    let r := s.mgmt.evroute[n]
    if r.1 then s1.requestVector r.2 else s1
  else s

/-- An occurrence of the per-Stream source `k` of the Stream that slot `x` serves (08 R274). -/
def State.raiseStream (s : State) (x : SlotId) (k : Nat) : State :=
  match s.streamOf x with
  | some i => s.raise (6 * i.val + k)
  | none => s

/-! ### Error weights (10 R292) -/

def State.chargeSlot (s : State) (k : SlotId) (w : Nat) : State := s.modSlot k fun x => { x with weight := x.weight + w }

def State.chargeLane (s : State) (k : SlotId) (l : Fin 66) (w : Nat) : State :=
  s.modSlot k fun x => { x with laneWeight := x.laneWeight.set l (x.laneWeight[l] + w) }

def State.chargePort (s : State) (p : PortId) (w : Nat) : State := s.modPort p fun x => { x with weight := x.weight + w }

def State.chargeBank (s : State) (p : PortId) (b : Fin 128) (w : Nat) : State :=
  s.modPort p fun x => { x with bankWeight := x.bankWeight.set b (x.bankWeight[b] + w) }

/-- A health counter of units without spares (12 R365). -/
def State.countHealth (s : State) (i : Fin 7) : State :=
  { s with mgmt := { s.mgmt with health := s.mgmt.health.set i (satAdd s.mgmt.health[i] 1), sawHealth := true } }

/-! ### Service-matrix errors (11 R333; 10 R308) -/

/-- The first error after VALID was last 0 is recorded. -/
def State.logError (s : State) (m : Master) (kind : BitVec 3) (a : Nat) : State :=
  let e : ErrLog := ⟨true, BitVec.ofNat 4 m.num.val, kind, BitVec.ofNat 42 a⟩
  { s with sm := { s.sm with errlog := if s.sm.errlog.valid then s.sm.errlog else e, errNow := s.sm.errNow.or (some e) } }

/-- A parity error in a transaction of master `m` (10 R308): the error is logged and counted, and event 431 occurs. -/
def State.parityError (s : State) (m : Master) (a : Nat) : State := (((s.logError m 2 a).countHealth 0).raise 431)

/-- An error response that the matrix gives a core at a local address is a parity error of the core's transaction (10 R308). -/
def State.coreParity (s : State) (k : SlotId) (a : Nat) : State :=
  if a < 0x3A00000000 then s.parityError (.th ⟨k.val / 17, by omega⟩) a else s

/-! ### The module address space (05 R142-R144) -/

/-- Active ports, 31 or 29 (01, the port ladder). -/
def State.portCount (s : State) : Nat := if s.repair.portMap.length = 29 then 29 else 31

def visible31 : Nat := 0x39AAE10180
def visible29 : Nat := 0x35F26F6480
def deskBase : Nat := 0x3A00000000
def deskBytes : Nat := 0x400000
def deskArray : Nat := 0x3B00000000

/-- First address past the visible local range (05 R142). -/
def State.visibleEnd (s : State) : Nat :=
  if s.portCount = 29 then visible29 else if s.repair.withdrawn then visible29 else visible31

/-- The kinds of address of R142 that a Stream meets. -/
inductive AddrClass where
  | visible | desk | work | withdrawn | far | outside | other
  deriving DecidableEq, Repr

/-- The class of a byte address as a Stream sees it (05 R142, R143). -/
def State.classify (s : State) (a : Int) : AddrClass :=
  if a < 0 ∨ 0x40000000000 ≤ a then .outside
  else if 0x4000000000 ≤ a then .far
  else if a < s.visibleEnd then .visible
  else if s.portCount = 29 then
    if a < 0x35F3400000 then .work
    else if a < 0x39ABC00000 then .withdrawn
    else if (deskBase : Int) ≤ a ∧ a < deskBase + deskBytes then .desk
    else .other
  else if a < visible31 then .withdrawn
  else if a < 0x39ABC00000 then .work
  else if (deskBase : Int) ≤ a ∧ a < deskBase + deskBytes then .desk
  else .other

def AddrClass.ok : AddrClass → Bool
  | .visible => true
  | .desk => true
  | _ => false

/-- The lowest byte of `n` bytes at `a` that lies outside the range of the others: `none` when the access lies wholly in the
visible local range or wholly in the own-desk window (02 R38, 07 R227). -/
def State.badByte (s : State) (a : Int) (n : Nat) : Option Int :=
  ((List.range n).find? fun i => !(s.classify (a + i)).ok).map fun i => a + i

/-- Whether `n` bytes at `a` lie wholly in the own-desk window. -/
def inOwnDesk (a n : Nat) : Bool := deskBase ≤ a && a + n ≤ deskBase + deskBytes

/-! ### Where a local block lives (05 R149-R151, 10 R304, 01 R14) -/

/-- Logical port, logical bank and row of block `b` under the map of P ports. -/
def interleave (p b : Nat) : Nat × Nat × Nat := (b % p, b / p % 127, b / p / 127)

/-- Rebuild progress `n` (05 R150): whether block `b` already has its home under the 29-port map, and the block index that names its
home under the 31-port map otherwise. -/
def rebuildHome (n b : Nat) : Bool × Nat :=
  let stage := 55245
  let top := 3620322706
  let moves := top - stage
  if b < stage then
    if stage + moves + b < n then (true, b)
    else if b < n then (false, 3870000134 + b)
    else (false, b)
  else if top - b ≤ n - stage ∧ stage < n ∧ b < top then (true, b)
  else (false, b)

/-- The field trip that runs, if any. -/
def State.runningTrip (s : State) : Option FieldTrip := s.repair.trips.head?.bind fun t => if t.began.isSome then some t else none

/-- Physical ports of the 29-port map: the first 29 of the ports not retired, the port that the rebuild retires left out (01 R19). -/
def State.ports29 (s : State) : List PortId :=
  let gone := match s.runningTrip with
    | some t => some t.srcPort
    | none => none
  ((List.finRange 32).filter fun p => s.ports[p].state != .retired && gone != some p).take 29

/-- The number of a row of port `p`'s bank spare, past every block of the interleave (log 139). -/
def spareBase : Nat := 2 ^ 40
def spareBlock (p : PortId) (row : Nat) : Nat := spareBase + 983040 * p.val + row

/-- Physical port and bank that hold block `b` of the interleave now; on a spare port the bank map is the spare's own (01 R14; 10 R304). -/
def State.mappedHome (s : State) (b : Nat) : PortId × Fin 128 :=
  let phys (p : PortId) (bank : Nat) : PortId × Fin 128 :=
    (p, if h : bank < 127 then s.ports[p].bankMap[bank] else 0)
  let plain (b : Nat) : PortId × Fin 128 :=
    let (l, bank, _) := interleave s.portCount b
    phys (s.repair.portMap.getD l 0) bank
  match s.runningTrip with
  | none => plain b
  | some t =>
    let (p, bank) := plain b
    let (_, _, row) := interleave s.portCount b
    if t.kind = 1 then
      if p = t.srcPort ∧ t.srcBank = some bank ∧ row < t.moved then
        (p, match t.spare with | some x => if h : x < 128 then ⟨x, h⟩ else bank | none => bank)
      else (p, bank)
    else if t.kind = 2 then
      if p = t.srcPort ∧ b / s.portCount < t.moved then
        match t.spare with
        | some x => if h : x < 32 then phys ⟨x, h⟩ (interleave s.portCount b).2.1 else (p, bank)
        | none => (p, bank)
      else (p, bank)
    else
      let (new, b') := rebuildHome t.moved b
      if new then
        let (l, bk, _) := interleave 29 b
        phys ((s.ports29).getD l 0) bk
      else plain b'

/-- The home of a block: of the interleave, or of a row of a bank spare. -/
def State.homeOf (s : State) (b : Nat) : PortId × Fin 128 :=
  if b < spareBase then s.mappedHome b
  else
    let p : PortId := Fin.ofNat 32 ((b - spareBase) / 983040)
    (p, if h : s.ports[p].spareBank.toNat < 128 then ⟨_, h⟩ else 0)

/-- The home of block `b` is a retired bank or port in reconstruction mode: from B<c+1> until its field trip completes (10 R303; 06 R205). -/
def State.reconstructing (s : State) (b : Nat) : Bool :=
  let (p, bank) := s.homeOf b
  s.repair.trips.any fun t =>
    decide (t.notBefore ≤ s.tt.bellNum.toNat) && t.srcPort == p && (t.kind != 1 || t.srcBank == some bank)

/-! ### Load-locked reservations (07 R234) -/

/-- A write to local block `b`: every reservation on it is cleared. -/
def State.clearLocalResv (s : State) (b : Nat) : State :=
  if s.slots.toList.any (fun x => x.resv == some b) then
    { s with slots := s.slots.map fun x => if x.resv == some b then { x with resv := none } else x }
  else s

/-- A write to bytes `off` to `off + n - 1` of the desk of slot `k`: a reservation of that slot on them is cleared. -/
def Slot.clearDeskResv (x : Slot) (off n : Nat) : Slot :=
  match x.resv with
  | some b =>
    let o := b * 64
    if deskBase ≤ o ∧ o - deskBase < off + n ∧ off < o - deskBase + 64 then { x with resv := none } else x
  | none => x

/-! ### Local memory (05 R153, R154; log 15) -/

/-- A port that is lost: one of its devices is dead, or its training has failed (10 R295, R310; 13 R375). -/
def Port.gone (x : Port) : Bool := x.dead || x.train == .failed

/-- A block that memory holds uncorrectable: its check symbols, or a lost port (05 R154, 10 R310). -/
def State.blockLost (s : State) (b : Nat) : Bool := s.mem.bad.contains b || s.ports[(s.homeOf b).1].gone

/-- The DATA subcode of a read of block `b` that has failed its last retry (05 R154; 10 R299). -/
def State.lastFailed (s : State) (b : Nat) : Option Nat := (s.mem.failed.find? fun f => f.1 == b).map Prod.snd

/-- The DATA subcode with which a read of block `b` fails now: 01h, or 03h for a flit that failed its last retry (02 R56; 05 R154; 10 R299). -/
def State.readFails (s : State) (b : Nat) : Option Nat := (s.lastFailed b).or (if s.blockLost b then some 1 else none)

/-- A block that a read finds uncorrectable. -/
def State.blockBad (s : State) (b : Nat) : Bool := (s.readFails b).isSome

/-- The reader has met the failed read of block `b`, which its last retry has counted already. -/
def State.deliverFailure (s : State) (b : Nat) : State :=
  { s with mem := { s.mem with failed := s.mem.failed.filter fun f => f.1 != b } }

/-- An uncorrectable read or a poisoned write of block `b`: UNCORR, the port error event and the weights (05 R154, 10 R292, R295). -/
def State.noteUncorrectable (s : State) (b : Nat) : State :=
  let (p, bank) := s.homeOf b
  let s1 := s.modPort p fun x => { x with
    uncorr := x.uncorr.add 1
    badBanks := if x.badBanks.contains bank then x.badBanks else x.badBanks ++ [bank] }
  (s1.chargeBank p bank 64).raise (384 + p.val)

/-- A poisoned write of block `b` after its fourth link attempt (05 R154 step 4). -/
def State.notePoisonedWrite (s : State) (b : Nat) : State :=
  let p := (s.homeOf b).1
  ((s.modPort p fun x => { x with uncorr := x.uncorr.add 1 }).chargePort p 64).raise (384 + p.val)

/-- A block corrected by its check symbols (05 R154, 10 R292): both of the reads that reconstruction mode makes count (10 R303; log 132). -/
def State.noteCorrected (s : State) (b : Nat) : State :=
  let (p, bank) := s.homeOf b
  let n := if s.reconstructing b then 2 else 1
  (s.modPort p fun x => { x with corr := x.corr.add n }).chargeBank p bank n

/-- A corrected read of block `b` schedules the write-back of the data that it delivers (05 R154). -/
def State.scheduleWriteBack (s : State) (b : Nat) : State :=
  if s.mem.writeBacks.any fun w => w.1 == b then s
  else
    let data := if b < spareBase then s.mem.mem.readBytes (64 * b) 64 else []
    { s with mem := { s.mem with writeBacks := s.mem.writeBacks ++ [(b, data)] } }

/-- A write-back of block `b` that is scheduled is dropped (05 R155). -/
def LocalMem.dropWriteBack (m : LocalMem) (b : Nat) : LocalMem := { m with writeBacks := m.writeBacks.filter fun w => w.1 != b }

/-- The blocks that `n` bytes at `a` touch, ascending. -/
def blocksOf (a n : Nat) : List Nat := if n = 0 then [] else upFrom (a / 64) ((a + n - 1) / 64 - a / 64 + 1)

/-- What reading the blocks counts, and the first of them that is uncorrectable. -/
def State.touchBlocks (s : State) : List Nat → State × Option Nat
  | [] => (s, none)
  | b :: bs =>
    if s.blockBad b then
      let (s', _) := State.touchBlocks (if (s.lastFailed b).isSome then s.deliverFailure b else s.noteUncorrectable b) bs
      (s', some b)
    else
      State.touchBlocks (if s.mem.soft.contains b then (s.noteCorrected b).scheduleWriteBack b else s) bs

/-- `n` bytes of local memory at `a`, and the first uncorrectable block (05 R154). -/
def State.readLocal (s : State) (a n : Nat) : List Byte × Option Nat × State :=
  let (s', bad) := s.touchBlocks (blocksOf a n)
  (s.mem.mem.readBytes a n, bad, s')

/-- The state of block `b` after a write of `whole` or part of it (05 R154 step 4 and the merge; 10 R310). A merge whose read has failed its last
retry, which has counted, writes poison. A corrected write-back of the block is overtaken (05 R155). -/
def State.writeBlockState (s : State) (b : Nat) (whole : Bool) : State :=
  let s := { s.clearLocalResv b with mem := s.mem.dropWriteBack b }
  let failed := (s.lastFailed b).isSome
  let s := if failed then s.deliverFailure b else s
  if s.ports[(s.homeOf b).1].gone then
    ({ s with mem := { s.mem with bad := insertNat b s.mem.bad, soft := s.mem.soft.erase b } }).notePoisonedWrite b
  else if whole then { s with mem := { s.mem with bad := s.mem.bad.erase b, soft := s.mem.soft.erase b } }
  else if failed then { s with mem := { s.mem with bad := insertNat b s.mem.bad, soft := s.mem.soft.erase b } }
  else if s.mem.bad.contains b then s.noteUncorrectable b
  else if s.mem.soft.contains b then ({ s with mem := { s.mem with soft := s.mem.soft.erase b } }).noteCorrected b
  else s

/-- A write of bytes at `a`: each block's state, then the bytes. -/
def State.writeLocal (s : State) (a : Nat) (bs : List Byte) : State :=
  let n := bs.length
  let s' := (blocksOf a n).foldl (fun s b => s.writeBlockState b (a ≤ 64 * b ∧ 64 * b + 64 ≤ a + n)) s
  { s' with mem := { s'.mem with mem := s'.mem.mem.writeBytes a bs } }

/-! ### Desks (05 R162, R166) -/

/-- What reading the words `ws` of a desk counts (CE and UE), and whether one is a double-bit error. -/
def Desk.noteWords (d : Desk) (ws : List Nat) : Desk × Nat × Option Nat :=
  let ue := ws.filter fun w => d.bad.contains w
  let ce := ws.filter fun w => !d.bad.contains w && d.soft.contains w
  ({ d with ue := d.ue.add ue.length, ce := d.ce.add ce.length }, 32 * ue.length + ce.length, ue.head?)

def wordsOf (off n : Nat) : List Nat := if n = 0 then [] else upFrom (off / 8) ((off + n - 1) / 8 - off / 8 + 1)

/-- `n` bytes of the desk of slot `k` at `off`, and the first word with a double-bit error. -/
def State.readDesk (s : State) (k : SlotId) (off n : Nat) : List Byte × Option Nat × State :=
  let x := s.slot k
  let (d, w, bad) := x.desk.noteWords (wordsOf off n)
  (x.desk.mem.readBytes off n, bad, s.setSlot k { x with desk := d, weight := x.weight + w })

/-- A write of bytes to a desk: a whole word clears its error, a part of one merges (05 R162). -/
def Slot.writeDesk (x : Slot) (off : Nat) (bs : List Byte) : Slot :=
  let n := bs.length
  let ws := wordsOf off n
  let part := ws.filter fun w => !(off ≤ 8 * w && 8 * w + 8 ≤ off + n)
  let (d, wt, _) := x.desk.noteWords part
  let d := { d with
    mem := d.mem.writeBytes off bs
    bad := d.bad.filter fun w => !(ws.contains w && !part.contains w)
    soft := d.soft.filter fun w => !ws.contains w }
  ({ x with desk := d, weight := x.weight + wt }).clearDeskResv off n

def State.writeDesk (s : State) (k : SlotId) (off : Nat) (bs : List Byte) : State := s.modSlot k fun x => x.writeDesk off bs

/-! ### A Stream's own accesses (05 R143, R144) -/

/-- A read by the Stream in slot `k`: the bytes, and the CODE of R261 (001h local memory, 002h desk) when it is uncorrectable. -/
def State.streamRead (s : State) (k : SlotId) (a n : Nat) : List Byte × Option (BitVec 12) × State :=
  if deskBase ≤ a then
    let (bs, bad, s') := s.readDesk k (a - deskBase) n
    (bs, bad.map fun _ => 2#12, s')
  else
    let (bs, bad, s') := s.readLocal a n
    (bs, bad.map fun _ => 1#12, s')

/-- A write by the Stream in slot `k`. -/
def State.streamWrite (s : State) (k : SlotId) (a : Nat) (bs : List Byte) : State :=
  if deskBase ≤ a then s.writeDesk k (a - deskBase) bs else s.writeLocal a bs

/-- The bytes a Stream would read, errors apart. -/
def State.peek (s : State) (k : SlotId) (a n : Nat) : List Byte :=
  if deskBase ≤ a then (s.slot k).desk.mem.readBytes (a - deskBase) n else s.mem.mem.readBytes a n

/-! ### The host's base address registers (11 R317) -/

/-- Base addresses of the host's BARs are decoded: the link is up, and the power state is not D3hot (11 R317; 13 R378). -/
def State.barOn (s : State) : Bool := s.host.linkUp && !s.host.d3hot && s.power.phase == .run

/-- A write through a BAR reaches the module only while the BARs are decoded (11 R317). -/
def State.barWrite (s : State) (f : State → State) : Host.Outcome State Fault Refusal := .next (if s.barOn then f s else s)

/-! ### Reset of a master (11 R339) -/

/-- A line at a DMA port whose transaction is discarded: it writes nothing. -/
def DmaPending.cleared (l : DmaPending) : DmaPending := { l with write := l.write.map fun _ => List.replicate 64 none }

/-- A master is reset (11 R339): a piece that has not been granted is never issued; a granted one whose lines wait at a desk keeps its
transaction's ID, writes nothing, and its response is discarded. Its pieces have lost no arbitration any more (11 R336). -/
def State.dropMaster (s : State) (m : Master) : State :=
  let of (l : DmaPending) : Bool := l.txn.any fun g => g.master == m
  { s with
    slots := s.slots.map fun x => if x.desk.dma.any of then
        { x with desk := { x.desk with dma := x.desk.dma.map fun l => if of l then l.cleared else l } }
      else x
    sm := { s.sm with
      losses := s.sm.losses.map fun r => r.set m.num 0
      txns := s.sm.txns.filterMap fun t =>
        if t.master ≠ m then some t
        else if t.granted then
          let rest := (t.rest.take 1).map fun p => { p with enables := false }
          some { t with dropped := true, rest := rest, left := (rest.map Piece.len).sum }
        else none } }

/-! ### Time within a period (06 R184) -/

/-- clk since the current bell. -/
def State.now (s : State) : Nat := s.tt.pclk.toNat

end Sys2Proof.Machine
end

