-- ==== Sys2Proof/Machine/Float.lean ====
section
/-!
DEFINITION. Floating-point arithmetic in the four formats, exact and rounded once (04 R100-R125).
-/

namespace Sys2Proof.Machine

/-- A binary format: exponent and fraction widths (04, format table). -/
structure FloatFmt where
  ew : Nat
  fw : Nat
  deriving DecidableEq, Repr

def binary64 : FloatFmt := ⟨11, 52⟩
def binary32 : FloatFmt := ⟨8, 23⟩
def binary16 : FloatFmt := ⟨5, 10⟩
def bfloat16 : FloatFmt := ⟨8, 7⟩

/-- Significand precision p, hidden bit included. -/
def FloatFmt.p (f : FloatFmt) : Nat := f.fw + 1

/-- emax, which is also the exponent bias. -/
def FloatFmt.emax (f : FloatFmt) : Int := 2 ^ (f.ew - 1) - 1

def FloatFmt.emin (f : FloatFmt) : Int := 1 - f.emax

/-- The exponent of the last place of a subnormal. -/
def FloatFmt.qmin (f : FloatFmt) : Int := f.emin - f.fw

/-- Bits of the format in all. -/
def FloatFmt.width (f : FloatFmt) : Nat := 1 + f.ew + f.fw

/-- What an encoding stands for: a NaN, an infinity, or (−1)^neg · m · 2^e. -/
inductive FVal where
  | nan (signalling : Bool)
  | inf (neg : Bool)
  | fin (neg : Bool) (m : Nat) (e : Int)
  deriving DecidableEq, Repr

/-- The value of an encoding (04 R100). -/
def FloatFmt.decode (f : FloatFmt) (x : Nat) : FVal :=
  let frac := x % 2 ^ f.fw
  let ex := (x >>> f.fw) % 2 ^ f.ew
  let neg := (x >>> (f.fw + f.ew)) % 2 = 1
  if ex = 2 ^ f.ew - 1 then
    if frac = 0 then .inf neg else .nan (frac < 2 ^ (f.fw - 1))
  else if ex = 0 then .fin neg frac f.qmin
  else .fin neg (frac + 2 ^ f.fw) (f.qmin + ex - 1)

def FloatFmt.signBit (f : FloatFmt) (neg : Bool) : Nat := if neg then 2 ^ (f.fw + f.ew) else 0

/-- The default NaN (04, format table; R108). -/
def FloatFmt.defaultNaN (f : FloatFmt) : Nat := (2 ^ f.ew - 1) * 2 ^ f.fw + 2 ^ (f.fw - 1)

def FloatFmt.infinity (f : FloatFmt) (neg : Bool) : Nat := f.signBit neg + (2 ^ f.ew - 1) * 2 ^ f.fw

/-- Ω, the largest finite value, with a sign. -/
def FloatFmt.largest (f : FloatFmt) (neg : Bool) : Nat := f.signBit neg + (2 ^ f.ew - 1) * 2 ^ f.fw - 1

def FloatFmt.zero (f : FloatFmt) (neg : Bool) : Nat := f.signBit neg

/-- The flag set of R113, in the layout of STREAM.VEFLAGS: IO, IX, UF, OF, DZ, IV in bits 5 to 0. -/
abbrev FlagSet := BitVec 6

def flIV : FlagSet := 1
def flDZ : FlagSet := 2
def flOF : FlagSet := 4
def flUF : FlagSet := 8
def flIX : FlagSet := 16
def flIO : FlagSet := 32

/-- A result and the flags it raises. -/
structure FRes where
  val : Nat
  flags : FlagSet
  deriving DecidableEq, Repr

/-- The number of significant bits. -/
def bitLen (m : Nat) : Nat := if m = 0 then 0 else Nat.log2 m + 1

/-- Whether rounding in mode `rm` goes up in magnitude, from how the discarded part compares with half a last place
(04 R103, rounding table; codes 001b RNE, 010b RTZ, 011b RUP, 100b RDN, 101b RNA). -/
def roundsUp (rm : BitVec 3) (neg odd : Bool) (cmpHalf : Ordering) (exact : Bool) : Bool :=
  if exact then false
  else if rm = 2 then false
  else if rm = 3 then !neg
  else if rm = 4 then neg
  else if rm = 5 then cmpHalf != .lt
  else cmpHalf = .gt || (cmpHalf = .eq && odd)

/-- (m + δ)·2^e, with 0 ≤ δ < 1 and δ ≠ 0 when `sticky`, rounded to a multiple of 2^q: the multiple, and whether it is inexact. -/
def roundAt (rm : BitVec 3) (neg : Bool) (m : Nat) (e : Int) (sticky : Bool) (q : Int) : Nat × Bool :=
  if q ≤ e then (m * 2 ^ (e - q).toNat, sticky)
  else
    let k := (q - e).toNat
    let hi := m >>> k
    let rem := m % 2 ^ k
    let half := 2 ^ (k - 1)
    let cmp := if rem < half then Ordering.lt else if rem = half then (if sticky then .gt else .eq) else .gt
    let exact := rem = 0 && !sticky
    ((if roundsUp rm neg (hi % 2 = 1) cmp exact then hi + 1 else hi), !exact)

/-- The result delivered on overflow (04 R111). -/
def FloatFmt.overflow (f : FloatFmt) (rm : BitVec 3) (neg : Bool) : Nat :=
  if rm = 2 ∨ (rm = 3 ∧ neg) ∨ (rm = 4 ∧ ¬neg) then f.largest neg else f.infinity neg

/-- A non-zero exact value (or one known to within its last place, `sticky`) rounded once to the format, with OF, UF and IX
(04 R103, R111, R112). IX stands beside OF whether or not overflow traps: R111 speaks of overflow without a trap, and a trapping element
delivers only its flag set (DESIGN CHOICE, log 131). -/
def FloatFmt.round (f : FloatFmt) (rm : BitVec 3) (neg : Bool) (m : Nat) (e : Int) (sticky : Bool) : FRes :=
  let qu := e + bitLen m - f.p
  let (mu, _) := roundAt rm neg m e sticky qu
  let top : Int := qu + bitLen mu - 1
  if top > f.emax then ⟨f.overflow rm neg, flOF ||| flIX⟩
  else
    let q := max qu f.qmin
    let (r, inexact) := roundAt rm neg m e sticky q
    let tiny := top < f.emin
    let enc :=
      if r < 2 ^ f.fw then r
      else if r = 2 ^ f.p then ((q + f.fw + f.emax + 1).toNat) * 2 ^ f.fw
      else ((q + f.fw + f.emax).toNat) * 2 ^ f.fw + (r - 2 ^ f.fw)
    ⟨f.signBit neg + enc, (if inexact then flIX else 0) ||| (if tiny && inexact then flUF else 0)⟩

/-- A signed exact value i·2^e rounded; an exact zero takes the sign given. -/
def FloatFmt.roundInt (f : FloatFmt) (rm : BitVec 3) (i : Int) (e : Int) (zeroNeg : Bool) : FRes :=
  if i = 0 then ⟨f.zero zeroNeg, 0⟩ else f.round rm (i < 0) i.natAbs e false

/-- IV when an operand is a signalling NaN (04 R109). -/
def FVal.snan : FVal → FlagSet
  | .nan true => flIV
  | _ => 0

def FVal.isNaN : FVal → Bool
  | .nan _ => true
  | _ => false

def FVal.neg : FVal → FVal
  | .nan s => .nan s
  | .inf n => .inf !n
  | .fin n m e => .fin (!n) m e

/-- m·2^e as a signed multiple of 2^e0, for e0 ≤ e. -/
def scaled (neg : Bool) (m : Nat) (e e0 : Int) : Int :=
  let v : Int := m * 2 ^ (e - e0).toNat
  if neg then -v else v

/-- a + b (04 R109, R110). -/
def FloatFmt.addV (f : FloatFmt) (rm : BitVec 3) (x y : FVal) : FRes :=
  let iv := x.snan ||| y.snan
  match x, y with
  | .nan _, _ => ⟨f.defaultNaN, iv⟩
  | _, .nan _ => ⟨f.defaultNaN, iv⟩
  | .inf a, .inf b => if a = b then ⟨f.infinity a, 0⟩ else ⟨f.defaultNaN, flIV⟩
  | .inf a, _ => ⟨f.infinity a, 0⟩
  | _, .inf b => ⟨f.infinity b, 0⟩
  | .fin a m e, .fin b n g =>
    let e0 := min e g
    let i := scaled a m e e0 + scaled b n g e0
    let zeroNeg := if m = 0 ∧ n = 0 ∧ a = b then a else rm = 4
    f.roundInt rm i e0 zeroNeg

/-- a × b exactly, where a NaN product carries its flags. -/
def mulV (x y : FVal) : FVal × FlagSet :=
  let iv := x.snan ||| y.snan
  match x, y with
  | .nan _, _ => (.nan false, iv)
  | _, .nan _ => (.nan false, iv)
  | .inf a, .inf b => (.inf (a != b), 0)
  | .inf a, .fin b n _ => if n = 0 then (.nan false, flIV) else (.inf (a != b), 0)
  | .fin a m _, .inf b => if m = 0 then (.nan false, flIV) else (.inf (a != b), 0)
  | .fin a m e, .fin b n g => (.fin (a != b) (m * n) (e + g), 0)

/-- An exact value rounded to the format; a NaN gives the default NaN without a flag. -/
def FloatFmt.ofVal (f : FloatFmt) (rm : BitVec 3) (x : FVal) : FRes :=
  match x with
  | .nan _ => ⟨f.defaultNaN, 0⟩
  | .inf n => ⟨f.infinity n, 0⟩
  | .fin n m e => if m = 0 then ⟨f.zero n, 0⟩ else f.round rm n m e false

/-- a × b. -/
def FloatFmt.mul (f : FloatFmt) (rm : BitVec 3) (x y : FVal) : FRes :=
  let (v, iv) := mulV x y
  let r := f.ofVal rm v
  ⟨r.val, r.flags ||| iv⟩

/-- a × b + c with one rounding (04 R103, R109): 0 × ∞ raises IV even with a quiet NaN addend. -/
def FloatFmt.fma (f : FloatFmt) (rm : BitVec 3) (x y z : FVal) : FRes :=
  let (v, iv) := mulV x y
  match v with
  | .nan _ => ⟨f.defaultNaN, iv ||| z.snan⟩
  | v => f.addV rm v z

/-- a ÷ b (04 R109-R111). -/
def FloatFmt.div (f : FloatFmt) (rm : BitVec 3) (x y : FVal) : FRes :=
  let iv := x.snan ||| y.snan
  match x, y with
  | .nan _, _ => ⟨f.defaultNaN, iv⟩
  | _, .nan _ => ⟨f.defaultNaN, iv⟩
  | .inf _, .inf _ => ⟨f.defaultNaN, flIV⟩
  | .inf a, .fin b _ _ => ⟨f.infinity (a != b), 0⟩
  | .fin a _ _, .inf b => ⟨f.zero (a != b), 0⟩
  | .fin a m e, .fin b n g =>
    if n = 0 then (if m = 0 then ⟨f.defaultNaN, flIV⟩ else ⟨f.infinity (a != b), flDZ⟩)
    else if m = 0 then ⟨f.zero (a != b), 0⟩
    else
      let k := f.p + 3 + bitLen n
      let num := m * 2 ^ k
      f.round rm (a != b) (num / n) (e - g - k) (num % n != 0)

/-- The integer square root of a number of at most 2·`fuel` bits, bit by bit. -/
def isqrtGo (n : Nat) : Nat → Nat → Nat
  | 0, r => r
  | k + 1, r =>
    let t := r + 2 ^ k
    isqrtGo n k (if t * t ≤ n then t else r)

def isqrt (n : Nat) : Nat := isqrtGo n (bitLen n / 2 + 1) 0

/-- √a (04 R109, R110). -/
def FloatFmt.sqrt (f : FloatFmt) (rm : BitVec 3) (x : FVal) : FRes :=
  match x with
  | .nan _ => ⟨f.defaultNaN, x.snan⟩
  | .inf n => if n then ⟨f.defaultNaN, flIV⟩ else ⟨f.infinity false, 0⟩
  | .fin n m e =>
    if m = 0 then ⟨f.zero n, 0⟩
    else if n then ⟨f.defaultNaN, flIV⟩
    else
      let k := 2 * f.p + 6 + (if (e - (2 * f.p + 6 : Nat)) % 2 = 0 then 0 else 1)
      let big := m * 2 ^ k
      let r := isqrt big
      f.round rm false r ((e - k) / 2) (r * r != big)

/-- The order of two numbers, `none` when one is a NaN; −0 equals +0 (04 R116). -/
def compareV (x y : FVal) : Option Ordering :=
  match x, y with
  | .nan _, _ => none
  | _, .nan _ => none
  | .inf a, .inf b => some (if a = b then .eq else if a then .lt else .gt)
  | .inf a, _ => some (if a then .lt else .gt)
  | _, .inf b => some (if b then .gt else .lt)
  | .fin a m e, .fin b n g =>
    let e0 := min e g
    some (compare (scaled a m e e0) (scaled b n g e0))

/-- The order of minimumNumber and maximumNumber, where −0 lies below +0 (04 R117). -/
def belowNum (x y : FVal) : Bool :=
  match compareV x y with
  | some .lt => true
  | some .eq => (match x, y with | .fin a _ _, .fin b _ _ => a && !b | _, _ => false)
  | _ => false

/-- minimumNumber and maximumNumber of two encodings (04 R117). -/
def FloatFmt.minMax (f : FloatFmt) (isMax : Bool) (a b : Nat) : FRes :=
  let x := f.decode a
  let y := f.decode b
  let iv := x.snan ||| y.snan
  let v :=
    if x.isNaN && y.isNaN then f.defaultNaN
    else if x.isNaN then b
    else if y.isNaN then a
    else if isMax then (if belowNum x y then b else a)
    else (if belowNum y x then b else a)
  ⟨v, iv⟩

/-- Comparison predicates 00h to 07h (04 R116): the truth value and IV. -/
def fcmpHolds (fn : Nat) (x y : FVal) : Bool × FlagSet :=
  let nan := x.isNaN || y.isNaN
  let o := compareV x y
  let holds :=
    if fn = 0 then o = some .eq
    else if fn = 1 then o != some .eq
    else if fn = 2 then o = some .lt
    else if fn = 3 then o = some .lt || o = some .eq
    else if fn = 4 then o = some .gt
    else if fn = 5 then o = some .gt || o = some .eq
    else if fn = 6 then nan
    else !nan
  let signals := 2 ≤ fn && fn ≤ 5 && nan
  (holds, (if signals then flIV else 0) ||| x.snan ||| y.snan)

/-- The class codes 0 to 9 (04 R118). -/
def FloatFmt.classCode (f : FloatFmt) (x : Nat) : Nat :=
  match f.decode x with
  | .nan true => 0
  | .nan false => 1
  | .inf n => if n then 2 else 9
  | .fin n m _ =>
    if m = 0 then (if n then 5 else 6)
    else if m < 2 ^ f.fw then (if n then 4 else 7)
    else (if n then 3 else 8)

/-- The class code of an encoding; IV for a signalling NaN, since 04 R109 exempts only the operations of R108 (DEDUCED, log 128). -/
def FloatFmt.classify (f : FloatFmt) (x : Nat) : FRes := ⟨f.classCode x, (f.decode x).snan⟩

/-- The integral value of a finite number in the mode: its magnitude, and whether it differs (04 R120, R122). -/
def integral (rm : BitVec 3) (neg : Bool) (m : Nat) (e : Int) : Nat × Bool := roundAt rm neg m e false 0

/-- Round to integral, never IX (04 R122). -/
def FloatFmt.rint (f : FloatFmt) (rm : BitVec 3) (x : Nat) : FRes :=
  match f.decode x with
  | .nan s => ⟨f.defaultNaN, if s then flIV else 0⟩
  | .inf _ => ⟨x, 0⟩
  | .fin n m e =>
    if m = 0 ∨ 0 ≤ e then ⟨x, 0⟩
    else
      let (i, _) := integral rm n m e
      if i = 0 then ⟨f.zero n, 0⟩ else ⟨(f.round rm n i 0 false).val, 0⟩

/-- Float to float (04 R119). -/
def FloatFmt.convert (src dst : FloatFmt) (rm : BitVec 3) (x : Nat) : FRes :=
  let v := src.decode x
  let r := dst.ofVal rm v
  ⟨r.val, r.flags ||| v.snan⟩

/-- Float to an integer in lo..hi, as the integer delivered (04 R120). -/
def FloatFmt.toInt (f : FloatFmt) (rm : BitVec 3) (lo hi : Int) (x : Nat) : Int × FlagSet :=
  match f.decode x with
  | .nan _ => (0, flIV)
  | .inf n => ((if n then lo else hi), flIV)
  | .fin n m e =>
    let (a, inexact) := integral rm n m e
    let i : Int := if n then -(a : Int) else a
    if i < lo then (lo, flIV)
    else if hi < i then (hi, flIV)
    else (i, if inexact then flIX else 0)

/-- Integer to float (04 R121); zero converts to +0. -/
def FloatFmt.ofInt (f : FloatFmt) (rm : BitVec 3) (i : Int) : FRes := f.roundInt rm i 0 false

/-- |a| and −a copy bits (04 R108). -/
def FloatFmt.abs (f : FloatFmt) (x : Nat) : Nat := x % 2 ^ (f.ew + f.fw)

def FloatFmt.negate (f : FloatFmt) (x : Nat) : Nat :=
  let x := x % 2 ^ f.width
  if x < 2 ^ (f.ew + f.fw) then x + 2 ^ (f.ew + f.fw) else x - 2 ^ (f.ew + f.fw)

end Sys2Proof.Machine
end

