-- ==== Sys2Proof/Machine/Accum.lean ====
section
/-!
DEFINITION. The exact accumulators (04 R126-R132).
-/

namespace Sys2Proof.Machine

/-- An accumulator with its state field QnS: bit 2 NaN seen (A), bit 1 −∞ seen (M), bit 0 +∞ seen (P) (04 R126, R127). -/
structure QVal where
  n : Acc
  st : BitVec 3
  deriving DecidableEq, Repr

def QVal.zero : QVal := ⟨0, 0⟩

/-- IV when setting the state bit of one infinity finds the other already set (04 R128 step 2). -/
def infClash (st : BitVec 3) (neg : Bool) : FlagSet :=
  if neg then (if st.getLsbD 0 then flIV else 0) else (if st.getLsbD 1 then flIV else 0)

def infBit (neg : Bool) : BitVec 3 := if neg then 2 else 1

/-- The exact addition of an integer multiple of 2^−2148 (04 R128 step 3, R129). -/
def QVal.addInt (q : QVal) (i : Int) : QVal × FlagSet :=
  let e := q.n.toInt + i
  let n := BitVec.ofInt 4288 e
  if e < -2 ^ 4287 ∨ 2 ^ 4287 ≤ e then
    (⟨n, q.st ||| infBit (e < 0)⟩, flOF ||| infClash q.st (e < 0))
  else (⟨n, q.st⟩, 0)

/-- A finite value (−1)^neg · m · 2^e as a multiple of 2^−2148; it is one for every term (04 R126). -/
def toUnits (neg : Bool) (m : Nat) (e : Int) : Int :=
  let k := e + 2148
  let a : Int := if 0 ≤ k then m * 2 ^ k.toNat else m / 2 ^ (-k).toNat
  if neg then -a else a

/-- A floating-point term (04 R128 steps 1 to 3). -/
def QVal.addTerm (q : QVal) (x : FVal) (iv : FlagSet) : QVal × FlagSet :=
  match x with
  | .nan _ => (⟨q.n, q.st ||| 4⟩, iv)
  | .inf neg => (⟨q.n, q.st ||| infBit neg⟩, iv ||| infClash q.st neg)
  | .fin neg m e => let (q', f) := q.addInt (toUnits neg m e); (q', iv ||| f)

/-- One element of QSUM, or QADDD (04 R128). -/
def QVal.addValue (q : QVal) (f : FloatFmt) (x : Nat) : QVal × FlagSet :=
  let v := f.decode x
  q.addTerm v v.snan

/-- One element pair of QDOT (04 R128). -/
def QVal.addProduct (q : QVal) (f : FloatFmt) (x y : Nat) : QVal × FlagSet :=
  let (v, iv) := mulV (f.decode x) (f.decode y)
  q.addTerm v iv

/-- QADDQ: another accumulator as the term (04 R128 step 4, R129). -/
def QVal.addAcc (q t : QVal) : QVal × FlagSet :=
  let st := q.st ||| t.st
  let both (b : BitVec 3) : Bool := b.getLsbD 0 && b.getLsbD 1
  let iv := if both st && !both q.st && !both t.st then flIV else 0
  let (q', f) := (QVal.mk q.n st).addInt t.n.toInt
  (q', iv ||| f)

/-- QRND: the accumulator as binary64 (04 R127, R130). -/
def QVal.round (q : QVal) (rm : BitVec 3) : FRes :=
  if q.st.getLsbD 2 || (q.st.getLsbD 0 && q.st.getLsbD 1) then ⟨binary64.defaultNaN, 0⟩
  else if q.st.getLsbD 0 then ⟨binary64.infinity false, 0⟩
  else if q.st.getLsbD 1 then ⟨binary64.infinity true, 0⟩
  else binary64.roundInt rm q.n.toInt (-2148) false

/-- The 536-byte image (04 R132). -/
def accImage (n : Acc) : List Byte := leBytes 536 n.toNat

def accOfImage (bs : List Byte) : Acc := BitVec.ofNat 4288 (leNat bs)

/-- A CRC step by one byte: 04 R140. -/
def crcByteGo (k : Nat) : Nat → Nat → Nat
  | 0, c => c
  | n + 1, c => crcByteGo k n (if c % 2 = 1 then (c / 2) ^^^ k else c / 2)

/-- A CRC step over bytes in order: CRC32C (`wide` false) or CRC64 (04 R140). -/
def crcBytes (wide : Bool) (c : Nat) (bs : List Byte) : Nat :=
  let k := if wide then 0xC96C5795D7870F42 else 0x82F63B78
  bs.foldl (fun c b => crcByteGo k 8 (c ^^^ b.toNat)) c

/-- The CRC step of a 64-bit register over bytes; CRC32C uses and keeps bits [31:0] only (04 R140). -/
def crcStep (wide : Bool) (c : Word64) (bs : List Byte) : Word64 :=
  BitVec.ofNat 64 (crcBytes wide (if wide then c.toNat else c.toNat % 2 ^ 32) bs)

/-- CRC32C with initial value all ones and final inversion (12 R364, 14 R417). -/
def crc32c (bs : List Byte) : Nat := crcBytes false 0xFFFFFFFF bs ^^^ 0xFFFFFFFF

end Sys2Proof.Machine
end

