-- ==== Sys2Proof/Machine/Elements.lean ====
section
/-!
DEFINITION. Element types (02 R33), and what one vector operation does to one element (02 R66, R68; 04).
-/

namespace Sys2Proof.Machine

/-! ### Element types, by code 0h to Ah (02, element type table) -/

/-- Class F: the format. -/
def floatOf (ty : Nat) : Option FloatFmt :=
  if ty = 0 then some binary64 else if ty = 1 then some binary32 else if ty = 2 then some binary16
  else if ty = 3 then some bfloat16 else none

/-- Class I: signedness and bits. -/
def intOf (ty : Nat) : Option (Bool × Nat) :=
  if ty = 4 then some (true, 64) else if ty = 5 then some (false, 64) else if ty = 6 then some (true, 32)
  else if ty = 7 then some (false, 32) else if ty = 8 then some (true, 16) else if ty = 9 then some (true, 8) else none

def isF (ty : Nat) : Bool := (floatOf ty).isSome
def isI (ty : Nat) : Bool := (intOf ty).isSome
/-- The mask-bit type. -/
def isM (ty : Nat) : Bool := ty == 10

/-- Element size in bits. -/
def typeBits (ty : Nat) : Nat :=
  match floatOf ty, intOf ty with
  | some f, _ => f.width
  | _, some (_, b) => b
  | _, _ => 1

/-- Element size in bytes; a mask bit takes part of one byte. -/
def typeBytes (ty : Nat) : Nat := (typeBits ty + 7) / 8

/-- An element read as a number. -/
def asInt (ty x : Nat) : Int :=
  match intOf ty with
  | some (true, b) => if x % 2 ^ b < 2 ^ (b - 1) then x % 2 ^ b else (x % 2 ^ b : Int) - 2 ^ b
  | _ => x % 2 ^ typeBits ty

/-- The low bits of a number, as an element. -/
def ofInt (ty : Nat) (i : Int) : Nat := (i % 2 ^ typeBits ty).toNat

/-- The range of an integer type. -/
def intRange (ty : Nat) : Int × Int :=
  match intOf ty with
  | some (true, b) => (-2 ^ (b - 1), 2 ^ (b - 1) - 1)
  | some (false, b) => (0, 2 ^ b - 1)
  | none => (0, 1)

/-- IO for a signed type whose true result does not fit (04 R134). -/
def ioFlag (ty : Nat) (i : Int) : FlagSet :=
  match intOf ty with
  | some (true, _) => if i < (intRange ty).1 ∨ (intRange ty).2 < i then flIO else 0
  | _ => 0

/-- Bit order reversed within `n` bits (04 R141). -/
def revBits : Nat → Nat → Nat
  | 0, _ => 0
  | n + 1, x => (x % 2) * 2 ^ n + revBits n (x / 2)

/-- The number of 1 bits among the low `n`. -/
def popBits : Nat → Nat → Nat
  | 0, _ => 0
  | n + 1, x => x % 2 + popBits n (x / 2)

/-- Leading zero bits of an `n`-bit value. -/
def leadZeros (n x : Nat) : Nat := n - bitLen (x % 2 ^ n)

/-- Conversion between any two of the F and I types (04 R119-R121). -/
def convertElem (rm : BitVec 3) (src dst x : Nat) : FRes :=
  match floatOf src, floatOf dst with
  | some f, some g => f.convert g rm x
  | some f, none =>
    let (lo, hi) := intRange dst
    let (i, fl) := f.toInt rm lo hi x
    ⟨ofInt dst i, fl⟩
  | none, some g => g.ofInt rm (asInt src x)
  | none, none =>
    let i := asInt src x
    let (lo, hi) := intRange dst
    ⟨ofInt dst i, if i < lo ∨ hi < i then flIO else 0⟩

/-- Integer comparison predicates 00h to 05h. -/
def icmpHolds (fn : Nat) (a b : Int) : Bool :=
  if fn = 0 then a == b else if fn = 1 then a != b else if fn = 2 then a < b else if fn = 3 then a ≤ b
  else if fn = 4 then b < a else b ≤ a

def bit01 (b : Bool) : Nat := if b then 1 else 0

/-- A two-source floating-point operation 10h to 13h. -/
def floatArith (vop : Nat) (f : FloatFmt) (rm : BitVec 3) (x y : FVal) : FRes :=
  if vop = 0x10 then f.addV rm x y
  else if vop = 0x11 then f.addV rm x y.neg
  else if vop = 0x12 then f.mul rm x y
  else f.div rm x y

/-- VFMA, VFMS, VFNMA, where −(a1 × a2) negates the product exactly (02 R66, 04 R103). -/
def fmaArith (vop : Nat) (f g : FloatFmt) (rm : BitVec 3) (a1 a2 a3 : Nat) : FRes :=
  let x := f.decode a1
  let y := f.decode a2
  let z := g.decode a3
  if vop = 0x16 then g.fma rm x y z.neg
  else if vop = 0x17 then g.fma rm x.neg y z
  else g.fma rm x y z

/-- Element `i` of an operation that has a destination, in the row's order of the vector opcode table (02 R66); `td`, `t1` are the
types of AD and AS1. VFILL takes its scalar as `a1`; VPERM takes the selected element as `a1`. VSHR and VSAR shift by a2 mod element bits: R66
gives that count for VSHL only, DEDUCED for the two (log 129). -/
def elemResult (vop fn : Nat) (rm : BitVec 3) (td t1 a1 a2 a3 i : Nat) : FRes :=
  let b := typeBits td
  let m := 2 ^ b
  let x := asInt td a1
  let y := asInt td a2
  let c := a3 % 2
  let f := (floatOf t1).getD binary64
  if vop = 0x00 ∨ vop = 0x05 ∨ vop = 0x02 then ⟨a1 % m, 0⟩
  else if vop = 0x01 then convertElem rm t1 td a1
  else if vop = 0x03 then ⟨i % m, 0⟩
  else if vop = 0x04 then ⟨if a3 ≠ 0 then a1 % m else a2 % m, 0⟩
  else if vop = 0x06 then ⟨revBits b a1, 0⟩
  else if vop = 0x10 ∨ vop = 0x11 ∨ vop = 0x12 ∨ vop = 0x13 then floatArith vop f rm (f.decode a1) (f.decode a2)
  else if vop = 0x14 then f.sqrt rm (f.decode a1)
  else if vop = 0x15 ∨ vop = 0x16 ∨ vop = 0x17 then fmaArith vop f f rm a1 a2 a3
  else if vop = 0x18 then f.minMax false a1 a2
  else if vop = 0x19 then f.minMax true a1 a2
  else if vop = 0x1A then ⟨f.abs a1, 0⟩
  else if vop = 0x1B then ⟨f.negate a1, 0⟩
  else if vop = 0x1C then
    let (h, fl) := fcmpHolds fn (f.decode a1) (f.decode a2)
    ⟨bit01 h, fl⟩
  else if vop = 0x1D then f.classify a1
  else if vop = 0x1E then f.rint rm a1
  else if vop = 0x20 then fmaArith vop f binary32 rm a1 a2 a3
  else if vop = 0x30 then ⟨ofInt td (x + y), ioFlag td (x + y)⟩
  else if vop = 0x31 then ⟨ofInt td (x - y), ioFlag td (x - y)⟩
  else if vop = 0x32 then ⟨ofInt td (x * y), ioFlag td (x * y)⟩
  else if vop = 0x33 then ⟨ofInt td (x * y / m), 0⟩
  else if vop = 0x34 then ⟨(a1 + a2 + c) % m, 0⟩
  else if vop = 0x35 then ⟨(a1 + a2 + c) / m, 0⟩
  else if vop = 0x36 then ⟨ofInt td ((a1 : Int) - a2 - c), 0⟩
  else if vop = 0x37 then ⟨bit01 (a1 < a2 + c), 0⟩
  else if vop = 0x38 then ⟨a1 &&& a2, 0⟩
  else if vop = 0x39 then ⟨a1 ||| a2, 0⟩
  else if vop = 0x3A then ⟨a1 ^^^ a2, 0⟩
  else if vop = 0x3B then ⟨a1 &&& (m - 1 - a2), 0⟩
  else if vop = 0x3C then ⟨a1 * 2 ^ (a2 % b) % m, 0⟩
  else if vop = 0x3D then ⟨a1 / 2 ^ (a2 % b), 0⟩
  else if vop = 0x3E then
    let s : Int := if a1 < 2 ^ (b - 1) then a1 else (a1 : Int) - m
    ⟨ofInt td (s / 2 ^ (a2 % b)), 0⟩
  else if vop = 0x3F then ⟨bit01 (icmpHolds fn (asInt t1 a1) (asInt t1 a2)), 0⟩
  else if vop = 0x40 then ⟨if y < x then a2 else a1, 0⟩
  else if vop = 0x41 then ⟨if x < y then a2 else a1, 0⟩
  else if vop = 0x42 then ⟨popBits b a1, 0⟩
  else if vop = 0x43 then ⟨leadZeros b a1, 0⟩
  else ⟨0, 0⟩

/-- Element step of a reduction into D[DS], 52h to 58h (02 R54, R66, R68; 04 R101, R117, R140). A binary32 VFMAXR or VFMINR writes 0 to
D[DS][63:32] with each active element; one that completes with no active element leaves D[DS] unchanged, as 02 R68 says, where 04 R101 would
write the upper word: DESIGN CHOICE (log 130). -/
def reduceStep (vop fn t1 : Nat) (d : Word64) (a1 : Nat) : Word64 × FlagSet :=
  let x := asInt t1 a1
  let signed := match intOf t1 with | some (sg, _) => sg | none => false
  let dv : Int := if signed then d.toInt else d.toNat
  if vop = 0x52 then (d + BitVec.ofInt 64 x, 0)
  else if vop = 0x53 then ((if dv < x then BitVec.ofInt 64 x else d), 0)
  else if vop = 0x54 then ((if x < dv then BitVec.ofInt 64 x else d), 0)
  else if vop = 0x55 ∨ vop = 0x56 then
    let f := (floatOf t1).getD binary64
    let r := f.minMax (vop = 0x55) (d.toNat % 2 ^ f.width) a1
    (BitVec.ofNat 64 r.val, r.flags)
  else if vop = 0x57 then (crcStep (fn = 1) d (leBytes (typeBytes t1) a1), 0)
  else (d + (if a1 ≠ 0 then 1 else 0), 0)

end Sys2Proof.Machine
end

