-- ==== Sys2Proof/Machine/Descriptor.lean ====
section
/-!
DEFINITION. The rows of the vector opcode table (02 R66), stream descriptors and the checks that precede all elements
(02 R33-R42, R45, R50, R51, R55, R439; 03 R75, R76).
-/

namespace Sys2Proof.Machine

/-! ### The vector opcode table -/

/-- How a row uses FN. -/
inductive FnUse where
  | none | fcmp | icmp | crc
  deriving DecidableEq, Repr

/-- The fields that a row uses (02 R66). -/
structure VRow where
  ad : Bool
  as1 : Bool
  as2 : Bool
  as3 : Bool
  /-- DS used whatever SCL -/
  ds : Bool
  qn : Bool
  scl : Bool
  rnd : Bool
  fn : FnUse
  deriving DecidableEq, Repr

/-- The row of a vector operation, 00h-06h and 10h-58h; `none` for the rest (02 R66). -/
def vrow (vop : Nat) : Option VRow :=
  if vop = 0x00 ∨ vop = 0x06 ∨ vop = 0x1A ∨ vop = 0x1B ∨ vop = 0x1D ∨ vop = 0x42 ∨ vop = 0x43 then
    some ⟨true, true, false, false, false, false, false, false, .none⟩
  else if vop = 0x01 ∨ vop = 0x14 ∨ vop = 0x1E then some ⟨true, true, false, false, false, false, false, true, .none⟩
  else if vop = 0x02 then some ⟨true, false, false, false, true, false, false, false, .none⟩
  else if vop = 0x03 then some ⟨true, false, false, false, false, false, false, false, .none⟩
  else if vop = 0x04 then some ⟨true, true, true, true, false, false, true, false, .none⟩
  else if vop = 0x05 then some ⟨true, true, true, false, false, false, false, false, .none⟩
  else if 0x10 ≤ vop ∧ vop ≤ 0x13 then some ⟨true, true, true, false, false, false, true, true, .none⟩
  else if (0x15 ≤ vop ∧ vop ≤ 0x17) ∨ vop = 0x20 then some ⟨true, true, true, true, false, false, true, true, .none⟩
  else if vop = 0x18 ∨ vop = 0x19 then some ⟨true, true, true, false, false, false, true, false, .none⟩
  else if vop = 0x1C then some ⟨true, true, true, false, false, false, true, false, .fcmp⟩
  else if 0x34 ≤ vop ∧ vop ≤ 0x37 then some ⟨true, true, true, true, false, false, true, false, .none⟩
  else if vop = 0x3F then some ⟨true, true, true, false, false, false, true, false, .icmp⟩
  else if (0x30 ≤ vop ∧ vop ≤ 0x3E) ∨ vop = 0x40 ∨ vop = 0x41 then
    some ⟨true, true, true, false, false, false, true, false, .none⟩
  else if vop = 0x50 then some ⟨false, true, true, false, false, true, false, false, .none⟩
  else if vop = 0x51 then some ⟨false, true, false, false, false, true, false, false, .none⟩
  else if vop = 0x57 then some ⟨false, true, false, false, true, false, false, false, .crc⟩
  else if 0x52 ≤ vop ∧ vop ≤ 0x58 then some ⟨false, true, false, false, true, false, false, false, .none⟩
  else none

/-- Whether FN lies in the table of the opcode (02 R64). -/
def FnUse.ok (u : FnUse) (fn : Nat) : Bool :=
  match u with
  | .none => fn == 0
  | .fcmp => fn < 8
  | .icmp => fn < 6
  | .crc => fn < 2

/-- The decode rules of 02 R64 and R66 for the fields of an operation. -/
def VRow.fieldsOk (r : VRow) (f : VFmt) : Bool :=
  (r.ad || f.ad == 0) && (r.as1 || f.as1 == 0) && (r.as2 || f.as2 == 0) && (r.as3 || f.as3 == 0)
  && (r.scl || f.scl == 0) && (f.scl == 0 || f.as2 == 0)
  && (r.ds || (r.scl && f.scl == 1) || f.ds == 0) && (r.qn || f.qn == 0)
  && (if r.rnd then f.rnd.toNat < 6 else f.rnd == 0) && r.fn.ok f.fn.toNat && f.cnt == 0 && f.rsv == 0

/-- Element `k` of the Types column (0 AD, 1 AS1, 2 AS2, 3 AS3): whether type `t` is permitted, given the types of the operands
tested before it (02 R55, R66). -/
def typeOk (vop k t : Nat) (prev : Nat → Option Nat) : Bool :=
  let same (j : Nat) := prev j == some t
  let f64 := t == 0 || t == 1
  if vop = 0x00 then k == 0 || (prev 0).any fun u => typeBits u == typeBits t
  else if vop = 0x01 then isF t || isI t
  else if vop = 0x02 then isF t || isI t
  else if vop = 0x03 then isI t
  else if vop = 0x04 then if k = 3 then isI t || isM t else k == 0 || same 0
  else if vop = 0x05 then if k = 2 then isI t else k == 0 || same 0
  else if vop = 0x06 ∨ vop = 0x42 ∨ vop = 0x43 then isI t && (k == 0 || same 0)
  else if vop = 0x13 ∨ vop = 0x14 then f64 && (k == 0 || same 0)
  else if vop = 0x1C then if k = 0 then isI t || isM t else isF t && (k == 1 || same 1)
  else if vop = 0x1D then if k = 0 then isI t else isF t
  else if 0x10 ≤ vop ∧ vop ≤ 0x1E then isF t && (k == 0 || same 0)
  else if vop = 0x20 then if k = 0 ∨ k = 3 then t == 1 else (t == 2 || t == 3) && (k == 1 || same 1)
  else if vop = 0x3F then if k = 0 then isI t || isM t else isI t && (k == 1 || same 1)
  else if 0x30 ≤ vop ∧ vop ≤ 0x41 then isI t && (k == 0 || same 0)
  else if vop = 0x50 then f64 && (k == 1 || same 1)
  else if vop = 0x51 ∨ vop = 0x55 ∨ vop = 0x56 then f64
  else if vop = 0x57 then isF t || isI t
  else if vop = 0x58 then isI t || isM t
  else isI t

/-! ### Stream descriptors (02 R33) -/

/-- The four words of a descriptor. -/
structure Desc where
  w0 : Word64
  w1 : Word64
  w2 : Word64
  w3 : Word64
  deriving DecidableEq, Repr

def Desc.base (d : Desc) : Nat := bits d.w0 41 0
def Desc.stride (d : Desc) : Int := (d.w1.truncate 40).toInt
def Desc.trans (d : Desc) : Bool := d.w2.getLsbD 55
def Desc.link (d : Desc) : Nat := bits d.w2 54 52
def Desc.brw (d : Desc) : Nat := bits d.w2 51 46
def Desc.masken (d : Desc) : Bool := d.w2.getLsbD 39
def Desc.maskinv (d : Desc) : Bool := d.w2.getLsbD 38
def Desc.zero (d : Desc) : Bool := d.w2.getLsbD 37
def Desc.mode (d : Desc) : Nat := bits d.w2 33 32
def Desc.type (d : Desc) : Nat := bits d.w2 31 28
def Desc.maskptr (d : Desc) : Nat := bits d.w3 63 32
def Desc.idxptr (d : Desc) : Nat := bits d.w3 31 0

/-- Whether a pointer in use names a 32-byte-aligned location in the desk. -/
def ptrOk (p : Nat) : Bool := p % 32 == 0 && p < deskBytes

/-- The part that a descriptor plays. -/
inductive Part where
  | data | index | mask
  deriving DecidableEq, Repr

/-- The byte offsets of the offending fields (02 R34, R36, R439; R42 with `maskAllowed` false). The rule that a mask-bit operand is contiguous
or transient is tested on operand descriptors: an index descriptor of TYPE Ah, strided or not, breaks no rule here and is reported as TYPE
(R36), where R34 does not say whether its own rule comes first: DESIGN CHOICE (log 133). -/
def Desc.offending (d : Desc) (part : Part) (maskAllowed : Bool) : List Nat :=
  let on (b : Bool) (o : Nat) : List Nat := if b then [o] else []
  let ty := d.type
  on (bits d.w0 63 42 != 0) 5
  ++ on (bits d.w1 63 40 != (if d.w1.getLsbD 39 then 0xFFFFFF else 0)) 13
  ++ on (bits d.w2 27 0 != 0) 16
  ++ on (11 ≤ ty) 19
  ++ on (bits d.w2 36 34 != 0) 20
  ++ on (bits d.w2 45 40 != 0) 21
  ++ on (bits d.w2 63 56 != 0) 23
  ++ on (!d.trans && d.link != 0) 22
  ++ on (if d.mode = 3 then d.brw == 0 || 32 < d.brw else d.brw != 0) 21
  ++ on (!d.masken && d.maskinv) 20
  ++ on (!d.masken && d.maskptr != 0) 28
  ++ on (d.mode != 2 && d.idxptr != 0) 24
  ++ on ((d.mode == 0 || d.mode == 2) && d.stride != 0) 8
  ++ on (d.mode == 3 && d.stride == 0) 8
  ++ on (d.trans && d.base != 0) 0
  ++ on (d.trans && d.stride != 0) 8
  ++ on (d.trans && d.brw != 0) 21
  ++ on (d.trans && (d.mode != 0 || d.zero)) 20
  ++ on (d.trans && d.idxptr != 0) 24
  ++ (match part with
      | .data => on (ty == 10 && !d.trans && d.mode != 0) 20 ++ on (!maskAllowed && d.masken) 20
      | .index => on (d.masken || (!d.trans && d.mode != 0 && d.mode != 1)) 20 ++ on (d.idxptr != 0) 24 ++ on (d.maskptr != 0) 28
      | .mask => on (d.masken || (!d.trans && d.mode != 0)) 20 ++ on (d.idxptr != 0) 24 ++ on (d.maskptr != 0) 28)

/-- The DESC-RSV subcode, if a field breaks a rule. -/
def Desc.rsvFault (d : Desc) (part : Part) (maskAllowed : Bool) : Option Nat := (d.offending part maskAllowed).min?

/-- p(i) of bit-reversed mode (02 R37). -/
def revIndex (w i : Nat) : Nat := i / 2 ^ w * 2 ^ w + revBits w i

/-- Address of element `i`, with index element `x` in indexed mode, exact (02 R37). -/
def Desc.elemAddr (d : Desc) (i : Nat) (x : Int) : Int :=
  let s : Int := typeBytes d.type
  if d.type = 10 then d.base + i / 8
  else if d.mode = 0 then d.base + i * s
  else if d.mode = 1 then d.base + i * d.stride * s
  else if d.mode = 2 then d.base + x * s
  else d.base + revIndex d.brw i * d.stride * s

/-- Footprint hull over elements `vx` to `vl - 1`: lowest and highest byte (02 R50); none for links, indexed operands and no element. -/
def Desc.hull (d : Desc) (vx vl : Nat) : Option (Int × Int) :=
  if d.trans ∨ d.mode = 2 ∨ vl ≤ vx then none
  else
    let as := (upFrom vx (vl - vx)).map fun i => d.elemAddr i 0
    match as with
    | [] => none
    | a :: r => some (r.foldl min a, r.foldl max a + (typeBytes d.type - 1))

/-! ### Operands of an operation -/

/-- A descriptor reference: its operation, its place in the operand order (3 for each operand, then its index stream and its mask),
the OPND code, the value that names it, and the desk offset it names when it names one (02 R55, R57). -/
structure DRef where
  pos : Nat
  ord : Nat
  opnd : Nat
  val : Word64
  off : Option Nat
  part : Part
  maskAllowed : Bool
  d : Desc
  deriving DecidableEq, Repr

/-- The operand number 0 to 3 of a reference. -/
def DRef.k (r : DRef) : Nat := r.ord / 3

/-- Whether it is the destination. -/
def DRef.isDst (r : DRef) : Bool := r.ord == 0

/-- An operation with its descriptors. -/
structure ROp where
  pos : Nat
  v : VOp
  refs : List DRef
  deriving DecidableEq, Repr

def ROp.ref (o : ROp) (ord : Nat) : Option DRef := o.refs.find? fun r => r.ord == ord

/-- The mask reference. -/
def ROp.mask (o : ROp) : Option DRef := o.refs.find? fun r => r.part == .mask

/-- Types of the main operands. -/
def ROp.type (o : ROp) (k : Nat) : Option Nat := (o.ref (3 * k)).map fun r => r.d.type

/-- A stop before or at an element (02 R53, R57). -/
structure VStop where
  at_ : Nat
  cause : Nat
  sub : Nat
  opnd : Nat
  gop : Nat
  addr : Word64
  flags : FlagSet
  deriving DecidableEq, Repr

/-- A descriptor at a desk offset (02 R33, R35). -/
def Slot.readDesc (x : Slot) (off : Nat) : Desc :=
  ⟨x.desk.mem.read64 off, x.desk.mem.read64 (off + 8), x.desk.mem.read64 (off + 16), x.desk.mem.read64 (off + 24)⟩

/-- The address registers an operation names, by operand (02 R66: with SCL = 1, D[DS] replaces source 2). -/
def VOp.named (v : VOp) : List (Nat × Word64) :=
  match vrow v.vop.toNat with
  | none => []
  | some r =>
    (if r.ad then [(0, v.aAd)] else []) ++ (if r.as1 then [(1, v.a1)] else [])
    ++ (if r.as2 && v.f.scl == 0 then [(2, v.a2)] else []) ++ (if r.as3 then [(3, v.a3)] else [])

/-- The references of operation `pos`: every named descriptor, and the index and mask descriptors that are in use (02 R33, R42). -/
def Slot.refsOf (x : Slot) (pos : Nat) (v : VOp) : List DRef :=
  let bearer := (v.named.head?.map Prod.fst).getD 0
  v.named.flatMap fun (k, a) =>
    let n := a.toNat
    if n % 32 = 0 ∧ inOwnDesk n 32 then
      let off := n - deskBase
      let d := x.readDesc off
      let main : DRef := ⟨pos, 3 * k, k, a, some off, .data, k == bearer, d⟩
      let sub (ord opnd ptr : Nat) (part : Part) : DRef :=
        let ok := ptrOk ptr
        ⟨pos, ord, opnd, BitVec.ofNat 64 ptr, if ok then some ptr else none, part, true,
          if ok then x.readDesc ptr else d⟩
      if (wordsOf off 32).any fun w => x.desk.bad.contains w then [main]
      else
        [main] ++ (if d.mode = 2 then [sub (3 * k + 1) (4 + k) d.idxptr .index] else [])
        ++ (if d.masken then [sub (3 * k + 2) 8 d.maskptr .mask] else [])
    else [⟨pos, 3 * k, k, a, none, .data, k == bearer, ⟨0, 0, 0, 0⟩⟩]

/-- References whose descriptor the engine reads: an index stream of a transient operand, and a mask where R42 allows none, are not
read (their descriptor breaks a rule already). -/
def ROp.readRefs (o : ROp) : List DRef :=
  o.refs.filter fun r =>
    match r.part with
    | .data => true
    | .index => !((o.ref (r.ord - 1)).any fun m => m.d.trans)
    | .mask => (o.ref (r.ord - 2)).any fun m => m.maskAllowed

def resolve (x : Slot) (ops : List VOp) : List ROp :=
  ops.zipIdx.map fun (v, p) => ⟨p, v, x.refsOf p v⟩

/-! ### The checks, in the order of R55 -/

def allRefs (ops : List ROp) : List DRef := ops.flatMap fun o => o.refs

/-- DESC-ADDR (02 R33, R57). -/
def checkAddr (ops : List ROp) : Option VStop :=
  (allRefs ops).findSome? fun r => if r.off.isNone then some ⟨0, 1, 0, r.opnd, r.pos, r.val, 0⟩ else none

/-- DATA on a descriptor read (02 R56). -/
def checkRead (x : Slot) (ops : List ROp) : Option VStop :=
  (ops.flatMap ROp.readRefs).findSome? fun r =>
    match r.off with
    | some o =>
      ((wordsOf o 32).find? fun w => x.desk.bad.contains w).map fun w =>
        ⟨0, 9, 2, r.opnd, r.pos, BitVec.ofNat 64 (deskBase + 8 * w), 0⟩
    | none => none

/-- DESC-RSV (02 R34, R36, R42, R439). -/
def checkRsv (ops : List ROp) : Option VStop :=
  (ops.flatMap ROp.readRefs).findSome? fun r =>
    (r.d.rsvFault r.part r.maskAllowed).map fun b => ⟨0, 2, b, r.opnd, r.pos, 0, 0⟩

/-- TYPE of one reference (02 R36, R55, R66). -/
def ROp.typeFails (o : ROp) (r : DRef) : Bool :=
  match r.part with
  | .data => !typeOk o.v.vop.toNat r.k r.d.type fun j => if j < r.k then o.type j else none
  | .index => r.d.type != 4 && r.d.type != 6
  | .mask => r.d.type != 10

def checkType (ops : List ROp) : Option VStop :=
  ops.findSome? fun o => o.readRefs.findSome? fun r =>
    if o.typeFails r then some ⟨0, 3, 0, r.opnd, r.pos, 0, 0⟩ else none

/-- The link that an operation writes, and its type (03 R76). -/
def ROp.writesLink (o : ROp) : Option (Nat × Nat) :=
  (o.ref 0).bind fun r => if r.d.trans then some (r.d.link, r.d.type) else none

/-- LINK of one reference: outside a group, a second writer, a read without an earlier writer, of the own link, or of another type
(02 R41, 03 R76). -/
def linkFails (group : Bool) (ops : List ROp) (o : ROp) (r : DRef) : Bool :=
  if !r.d.trans then false
  else if !group then true
  else
    let before := ops.filter fun q => q.pos < o.pos
    let writers := before.filterMap ROp.writesLink
    if r.isDst then writers.any fun w => w.1 == r.d.link
    else if o.writesLink.any fun w => w.1 == r.d.link then true
    else !(writers.find? fun w => w.1 == r.d.link).any fun w => w.2 == r.d.type

/-- The stream counts of a group (03 R75): the operation whose operand first exceeds 4 sources or 2 destinations. -/
def streamExcess (ops : List ROp) : Option Nat :=
  let rec go : List DRef → Nat → Nat → Option Nat
    | [], _, _ => none
    | r :: rs, src, dst =>
      if r.d.trans then go rs src dst
      else if r.isDst then (if dst = 2 then some r.pos else go rs src (dst + 1))
      else if src = 4 then some r.pos else go rs (src + 1) dst
  go (ops.flatMap ROp.readRefs) 0 0

/-- LINK: the first break of a link rule, and in a group an excess of streams. R55 and R75 do not rank OPND 9 against the operand order: for a
group whose same operation breaks both 03 R75 and 03 R76 the link operand is reported, DESIGN CHOICE (log 134). -/
def checkLink (group : Bool) (ops : List ROp) : Option VStop :=
  let link := ops.findSome? fun o => o.readRefs.findSome? fun r =>
    if linkFails group ops o r then some (⟨0, 4, 0, r.opnd, r.pos, 0, 0⟩ : VStop) else none
  let excess := if group then (streamExcess ops).map fun p => (⟨0, 4, 0, 9, p, 0, 0⟩ : VStop) else none
  match link, excess with
  | some a, some b => if b.gop < a.gop then some b else some a
  | some a, none => some a
  | none, b => b

/-- ALIGN (02 R39). -/
def checkAlign (ops : List ROp) : Option VStop :=
  (ops.flatMap ROp.readRefs).findSome? fun r =>
    if !r.d.trans && r.d.type != 10 && r.d.base % typeBytes r.d.type != 0 then some ⟨0, 5, 0, r.opnd, r.pos, 0, 0⟩ else none

/-- Exact identity of a destination and a source (02 R51). -/
def exactIdentity (dst src : DRef) : Bool :=
  src.part == .data && !src.isDst && src.pos ≤ dst.pos && src.d.base == dst.d.base && src.d.mode == dst.d.mode
  && src.d.stride == dst.d.stride && src.d.brw == dst.d.brw && typeBits src.d.type == typeBits dst.d.type

/-- Two hulls share a byte. Addresses of the desk window and of local memory differ, so an operand in the desk never overlaps one in local memory
(02 R50). -/
def hullsMeet (a b : Option (Int × Int)) : Bool :=
  match a, b with
  | some (l, h), some (l', h') => l ≤ h' && l' ≤ h
  | _, _ => false

/-- OVERLAP named at destination `r` (02 R40, R50, R55): a stride of 0, a source, index or mask that it overlaps, or an earlier
destination. -/
def overlapFails (vx vl : Nat) (refs : List DRef) (r : DRef) : Bool :=
  if !r.isDst || r.d.trans then false
  else if r.d.mode == 1 && r.d.stride == 0 && 1 < vl - vx then true
  else refs.any fun q =>
    hullsMeet (r.d.hull vx vl) (q.d.hull vx vl)
    && (if q.isDst then q.pos < r.pos else !exactIdentity r q)

def checkOverlap (vx vl : Nat) (ops : List ROp) : Option VStop :=
  let refs := ops.flatMap ROp.readRefs
  refs.findSome? fun r => if overlapFails vx vl refs r then some ⟨0, 6, 0, r.opnd, r.pos, 0, 0⟩ else none

/-- The first fault that precedes all elements (02 R55). -/
def checkEntry (x : Slot) (group : Bool) (ops : List ROp) (vx vl : Nat) : Option VStop :=
  (checkAddr ops).or <| (checkRead x ops).or <| (checkRsv ops).or <| (checkType ops).or <| (checkLink group ops).or <|
  (if vl < vx then some ⟨0, 7, 0, 9, 0, 0, 0⟩ else none : Option VStop).or <| (checkAlign ops).or (checkOverlap vx vl ops)

end Sys2Proof.Machine
end

