-- ==== Sys2Proof/Machine/Engine.lean ====
section
/-!
DEFINITION. The vector engine: one queue entry from its checks to its completion or stop (02 R43-R60, R441; 03 R76-R80; 04 R113,
R114; 06 R196).
-/

namespace Sys2Proof.Machine

/-! ### Element reads -/

/-- A fault at an element, with its rank of R55. -/
structure EFault where
  rank : Nat
  pos : Nat
  ord : Nat
  stop : VStop
  deriving DecidableEq, Repr

/-- An access that an element made (06 R196), or a descriptor read. -/
structure Access1 where
  pos : Nat
  ord : Nat
  addr : Nat
  /-- first bit in the byte at `addr`: of a mask bit, else 0 -/
  bit : Nat
  bits : Nat
  desk : Bool
  indexed : Bool
  dense : Bool
  group : Nat
  write : Bool
  /-- its block, or a word of it, was in error when it was read -/
  err : Bool
  deriving DecidableEq, Repr

/-- What reading one element gave. -/
structure ERead where
  val : Option Nat
  faults : List EFault
  acc : List Access1
  deriving DecidableEq, Repr

/-- The ADDR subcode of the class of the lowest byte outside the valid ranges (02 R38, cause table). -/
def addrSub : AddrClass → Nat
  | .far => 2
  | .withdrawn => 3
  | .work => 4
  | .outside => 5
  | _ => 1

/-- Whether a destination or source is dense: contiguous, or strided by less than a block (03 R93). -/
def Desc.dense (d : Desc) : Bool := d.mode == 0 || (d.mode == 1 && d.stride.natAbs * typeBytes d.type < 64 && d.stride != 0)

def mkAccess (r : DRef) (a i : Nat) (write err : Bool) : Access1 :=
  ⟨r.pos, r.ord, a, if r.d.type = 10 then i % 8 else 0, typeBits r.d.type, deskBase ≤ a, r.d.mode == 2, r.d.dense, i / 64, write, err⟩

/-- Whether a block or a desk word of these bytes holds an error, corrected or not. -/
def State.inError (s : State) (k : SlotId) (a n : Nat) : Bool :=
  if deskBase ≤ a then (wordsOf (a - deskBase) n).any fun w => (s.slot k).desk.bad.contains w || (s.slot k).desk.soft.contains w
  else (blocksOf a n).any fun b => s.blockBad b || s.mem.soft.contains b

/-- A read of bytes by the engine: the data, and the DATA subcode when it is uncorrectable (02 R56): 01h local memory, 02h desk, 03h a flit
that failed its retries (10 R299). -/
def State.engineRead (s : State) (k : SlotId) (a n : Nat) : List Byte × Option Nat :=
  if deskBase ≤ a then
    let x := s.slot k
    (x.desk.mem.readBytes (a - deskBase) n, if (wordsOf (a - deskBase) n).any fun w => x.desk.bad.contains w then some 2 else none)
  else (s.mem.mem.readBytes a n, (blocksOf a n).findSome? s.readFails)

/-- The value of a link at an element, with the read faults met in computing it early (R441). -/
abbrev LinkFn := Nat → Nat → Option Nat × List EFault

/-- Element `i` of operand `r`, at index element `x`; `ra` and `rb` are the ranks of ADDR and DATA. VFADDR is 64 bits wide: for an exact
address below 0 or at or above 2^64, which R57 does not cover, it holds the address modulo 2^64, DESIGN CHOICE (log 135). -/
def readElem (s : State) (k : SlotId) (link : LinkFn) (r : DRef) (ra rb i : Nat) (x : Int) : ERead :=
  if r.d.trans then
    let (v, fs) := link r.d.link i
    ⟨v, fs, []⟩
  else
    let n := typeBytes r.d.type
    let a := r.d.elemAddr i x
    match s.badByte a n with
    | some b => ⟨none, [⟨ra, r.pos, r.ord, ⟨0, 8, addrSub (s.classify b), r.opnd, r.pos, BitVec.ofInt 64 a, 0⟩⟩], []⟩
    | none =>
      let (bs, bad) := s.engineRead k a.toNat n
      let ac := [mkAccess r a.toNat i false (s.inError k a.toNat n)]
      match bad with
      | some sub => ⟨none, [⟨rb, r.pos, r.ord, ⟨0, 9, sub, r.opnd, r.pos, BitVec.ofInt 64 a, 0⟩⟩], ac⟩
      | none =>
        let w := leNat bs
        ⟨some (if r.d.type = 10 then w / 2 ^ (i % 8) % 2 else w), [], ac⟩

/-- An index element, sign-extended (02 R36, R37, R48). -/
def readIndex (s : State) (k : SlotId) (link : LinkFn) (o : ROp) (kk i : Nat) : Option Int × ERead :=
  match o.ref (3 * kk + 1) with
  | none => (some 0, ⟨some 0, [], []⟩)
  | some r =>
    let e := readElem s k link r 2 2 i 0
    (e.val.map fun v => asInt r.d.type v, e)

/-- Source `kk` (1 to 3) at element `i`. -/
def readSource (s : State) (k : SlotId) (link : LinkFn) (o : ROp) (kk i : Nat) : ERead :=
  match o.ref (3 * kk) with
  | none => ⟨some 0, [], []⟩
  | some r =>
    let (x, e) := readIndex s k link o kk i
    match x with
    | none => e
    | some x =>
      let d := readElem s k link r 3 4 i x
      ⟨d.val, e.faults ++ d.faults, e.acc ++ d.acc⟩

/-! ### One operation at one element -/

/-- What one operation does at one element. -/
structure EOut where
  faults : List EFault
  active : Bool
  /-- the sources of an active element, or the zero of an inactive one -/
  vals : Option (Nat × Nat × Nat)
  /-- index element of an indexed destination -/
  dstIdx : Int
  acc : List Access1
  deriving DecidableEq, Repr

/-- Whether the mask makes element `i` active (02 R43, R44). With MASKINV = 1 the layout table of R33 makes the elements with mask bit 0
active, and R43's sentence would make those with mask bit 1 active too; the model follows the table, DEDUCED (log 136). -/
def readMask (s : State) (k : SlotId) (link : LinkFn) (o : ROp) (i : Nat) : Option Bool × ERead :=
  match o.mask with
  | none => (some true, ⟨some 1, [], []⟩)
  | some m =>
    let e := readElem s k link m 1 1 i 0
    let inv := (o.ref (m.ord - 2)).any fun r => r.d.maskinv
    (e.val.map fun b => (b == 1) != inv, e)

/-- The scalar that replaces source 2, in the type of the operand it replaces (02 R65, R66). -/
def ROp.scalar (o : ROp) : Nat :=
  let t := (if o.v.vop = 0x04 then o.type 0 else o.type 1).getD 0
  o.v.scalar.toNat % 2 ^ typeBits t

/-- The reads of an operation at element `i` of a run to `vl` (02 R43, R44, R48, R66 VPERM). -/
def evalReads (s : State) (k : SlotId) (link : LinkFn) (vl : Nat) (o : ROp) (i : Nat) : EOut :=
  let (m, me) := readMask s k link o i
  match m with
  | none => ⟨me.faults, false, none, 0, me.acc⟩
  | some false =>
    let zeroed := (o.ref 0).any fun r => !r.d.trans && r.d.zero
    if zeroed then
      -- an index element that cannot be read raises no fault, and no zero is written (R43)
      let (x, xe) := readIndex s k link o 0 i
      match x with
      | none => ⟨me.faults, false, none, 0, me.acc ++ xe.acc⟩
      | some x => ⟨me.faults, false, some (0, 0, 0), x, me.acc ++ xe.acc⟩
    else ⟨me.faults, false, none, 0, me.acc⟩
  | some true =>
    let (x, xe) := readIndex s k link o 0 i
    let e2 := if o.v.f.scl = 1 then ⟨some o.scalar, [], []⟩ else readSource s k link o 2 i
    let e1 : ERead :=
      if o.v.vop = 0x05 then
        match e2.val with
        | none => ⟨none, [], []⟩
        | some a2 =>
          let j := 64 * (i / 64) + a2 % 64
          if j < vl then readSource s k link o 1 j else ⟨some 0, [], []⟩
      else if o.v.vop = 0x02 then ⟨some o.v.scalar.toNat, [], []⟩
      else readSource s k link o 1 i
    let e3 := readSource s k link o 3 i
    let fs := me.faults ++ xe.faults ++ e1.faults ++ e2.faults ++ e3.faults
    let ac := me.acc ++ xe.acc ++ e1.acc ++ e2.acc ++ e3.acc
    match x, e1.val, e2.val, e3.val with
    | some x, some a1, some a2, some a3 => ⟨fs, true, some (a1, a2, a3), x, ac⟩
    | _, _, _, _ => ⟨fs, true, none, 0, ac⟩

/-- The value that an operation with a destination delivers at element `i` (02 R43: zero when inactive). -/
def ROp.value (o : ROp) (out : EOut) (i : Nat) : Option FRes :=
  match out.active, out.vals with
  | true, some (a1, a2, a3) =>
    some (elemResult o.v.vop.toNat o.v.f.fn.toNat o.v.rm ((o.type 0).getD 0) ((o.type 1).getD 0) a1 a2 a3 i)
  | true, none => none
  | false, _ => some ⟨0, 0⟩

/-- Whether this mask read (or a read for a link) failed. -/
def EOut.failed (out : EOut) : Bool := !out.faults.isEmpty

/-- The value of link `l` at element `j`: computed already in this element group, or computed now from its writer (R441). For a VPERM
whose AS1 is a link, a read fault of the writer at a link element above `i` is reported at element `i` (02 R56) with the writer's own OPND,
GOP and address: R56 gives the element alone, and R441 the operand only below VX. DESIGN CHOICE (log 172). -/
def linkValue (s : State) (k : SlotId) (vl : Nat) (ops : List ROp) (done : List (Nat × Nat × Option Nat)) : Nat → LinkFn
  | 0, _, _ => (none, [])
  | fuel + 1, l, j =>
    match done.find? fun e => e.1 == l && e.2.1 == j with
    | some e => (e.2.2, [])
    | none =>
      match ops.find? fun o => o.writesLink.any fun w => w.1 == l with
      | none => (some 0, [])
      | some o =>
        let out := evalReads s k (linkValue s k vl ops done fuel) vl o j
        ((if out.failed then none else (o.value out j).map FRes.val), out.faults)

/-! ### The element loop -/

/-- What an entry has done so far. -/
structure VRun where
  s : State
  /-- links of the current element group: link, element, value -/
  links : List (Nat × Nat × Option Nat)
  acc : List Access1
  stop : Option VStop
  /-- destination writes held to the end of the element group (R48): address, bytes or one bit -/
  held : List (Nat × Sum (List Byte) (Nat × Bool))
  /-- read faults met below the start element, which count as faults at it (R441) -/
  pre : List EFault
  /-- the flags raised by the elements done (04 R107) -/
  flags : FlagSet
  /-- operations that some element met so far does not leave inactive (02 R68) -/
  live : List Nat
  deriving DecidableEq, Repr

/-- A raw write of bytes by the engine; what it counts follows at the end of the entry. -/
def State.rawWrite (s : State) (k : SlotId) (a : Nat) (bs : List Byte) : State :=
  if deskBase ≤ a then s.modSlot k fun x => { x with desk := { x.desk with mem := x.desk.mem.writeBytes (a - deskBase) bs } }
  else { s with mem := { s.mem with mem := s.mem.mem.writeBytes a bs } }

/-- A write of bytes, or of one bit of a byte. -/
def State.applyWrite (s : State) (k : SlotId) (w : Nat × Sum (List Byte) (Nat × Bool)) : State :=
  match w.2 with
  | .inl bs => s.rawWrite k w.1 bs
  | .inr (j, b) =>
    let old := (s.engineRead k w.1 1).1.headD 0
    let m : Byte := 1#8 <<< j
    s.rawWrite k w.1 [if b then old ||| m else old &&& ~~~m]

/-- The write of value `v` to element `i` at address `a`. -/
def elemWrite (d : Desc) (i a v : Nat) : Nat × Sum (List Byte) (Nat × Bool) :=
  if d.type = 10 then (a, .inr (i % 8, v % 2 == 1)) else (a, .inl (leBytes (typeBytes d.type) v))

/-- The trap that a flag set takes, by the enables captured at issue (04 R114): CAUSE and SUB. -/
def trapOf (fl : FlagSet) (en : BitVec 7) : Option (Nat × Nat) :=
  let t := fl &&& en.truncate 6
  if t.getLsbD 0 then some (0x0A, 1)
  else if t.getLsbD 1 then some (0x0A, 2)
  else if t.getLsbD 2 then some (0x0A, 3)
  else if t.getLsbD 3 then some (0x0A, 4)
  else if t.getLsbD 4 then some (0x0A, 5)
  else if t.getLsbD 5 then some (0x0B, 1)
  else none

/-- QnS of accumulator `n` in FPCSR (04). -/
def qState (fp : Word32) (n : Fin 4) : BitVec 3 := (fp >>> (20 + 3 * n.val)).truncate 3

def setQState (fp : Word32) (n : Fin 4) (st : BitVec 3) : Word32 :=
  (fp &&& ~~~(7#32 <<< (20 + 3 * n.val))) ||| ((st.zeroExtend 32) <<< (20 + 3 * n.val))

def Regs.qval (r : Regs) (n : Fin 4) : QVal := ⟨r.q[n], qState r.fpcsr n⟩

def Regs.setQval (r : Regs) (n : Fin 4) (v : QVal) : Regs :=
  { r with q := r.q.set n v.n, fpcsr := setQState r.fpcsr n v.st }

/-- The flag set of an element or operation, ORed into the sticky bits (04 R107, R113). -/
def Regs.orFlags (r : Regs) (fl : FlagSet) : Regs := { r with fpcsr := r.fpcsr ||| fl.zeroExtend 32 }

/-- Flags that the engine has set stay set when a load's shadow is cancelled: "No setting is lost" (04 R107; 07 R229). -/
def Slot.keepFlags (x : Slot) (fl : FlagSet) : Slot :=
  { x with loads := x.loads.map fun l => { l with undo := l.undo.map fun u => (u.1.orFlags fl, u.2.orFlags fl) } }

/-- The effect of a computed element on registers: the reduction's register, and its flags. -/
def ROp.computeReduce (o : ROp) (r : Regs) (vals : Nat × Nat × Nat) : Regs × FlagSet :=
  let (a1, a2, _) := vals
  let t1 := (o.type 1).getD 0
  let vop := o.v.vop.toNat
  if vop = 0x50 ∨ vop = 0x51 then
    let n : Fin 4 := o.v.f.qn.toFin
    let f := (floatOf t1).getD binary64
    let (q, fl) := if vop = 0x50 then (r.qval n).addProduct f a1 a2 else (r.qval n).addValue f a1
    (r.setQval n q, fl)
  else
    let (d, fl) := reduceStep vop o.v.f.fn.toNat t1 r.d[o.v.f.ds.toFin] a1
    ({ r with d := r.d.set o.v.f.ds.toFin d }, fl)

/-- What one operation of the running entry does at element `i`, given what the earlier operations of that element did. -/
structure Step1 where
  regs : Regs
  writes : List (Nat × Sum (List Byte) (Nat × Bool))
  links : List (Nat × Nat × Option Nat)
  acc : List Access1
  faults : List EFault
  flags : FlagSet
  live : List Nat
  deriving DecidableEq, Repr

/-- Whether the mask leaves element `i` of the operation active, or cannot be read there. R68 and R101 do not say how an element with an
unreadable mask bit counts: it is not inactive, DESIGN CHOICE (log 130). -/
def ROp.liveAt (o : ROp) (s : State) (k : SlotId) (link : LinkFn) (i : Nat) : Bool := (readMask s k link o i).1 != some false

/-- One operation of the entry at element `i`. When it traps, VEFLAGS takes that operation's own flag set; R114 does not say whether the
other operations of a group at the element join it: DESIGN CHOICE (log 137). -/
def elemStep (s : State) (k : SlotId) (vl : Nat) (ops : List ROp) (i : Nat) (a : Step1) (o : ROp) : Step1 :=
  let link : LinkFn := fun l j => linkValue s k vl ops a.links (ops.length + 1) l j
  let out := evalReads s k link vl o i
  let a := { a with
    acc := a.acc ++ out.acc
    faults := a.faults ++ out.faults
    live := if o.liveAt s k link i then insertNat o.pos a.live else a.live }
  match o.ref 0 with
  | none =>
    match out.active, out.vals with
    | true, some v =>
      let (r, fl) := o.computeReduce a.regs v
      match trapOf fl o.v.traps with
      | some (c, sub) => { a with faults := a.faults ++ [⟨5, o.pos, 99, ⟨0, c, sub, 9, o.pos, 0, fl⟩⟩] }
      | none => { a with regs := r, flags := a.flags ||| fl }
    | _, _ => a
  | some d =>
    let v := o.value out i
    let fl := match v with | some r => r.flags | none => 0
    let trap := trapOf fl o.v.traps
    let a := match trap with
      | some (c, sub) => { a with faults := a.faults ++ [⟨5, o.pos, 99, ⟨0, c, sub, 9, o.pos, 0, fl⟩⟩] }
      | none => { a with flags := a.flags ||| fl }
    if d.d.trans then
      { a with links := (d.d.link, i, if out.failed then none else v.map FRes.val) :: a.links }
    else
      match out.vals, v with
      | some _, some r =>
        let ad := d.d.elemAddr i out.dstIdx
        match s.badByte ad (typeBytes d.d.type) with
        | some b =>
          { a with faults := a.faults ++ [⟨6, o.pos, 0, ⟨0, 8, addrSub (s.classify b), 0, o.pos, BitVec.ofInt 64 ad, 0⟩⟩] }
        | none => { a with
            writes := a.writes ++ [elemWrite d.d i ad.toNat r.val]
            acc := a.acc ++ [mkAccess d ad.toNat i true false] }
      | _, _ => a

/-- The fault that R55 puts first. -/
def firstFault : List EFault → Option EFault
  | [] => none
  | f :: fs =>
    match firstFault fs with
    | none => some f
    | some g =>
      if (f.rank, f.pos, f.ord) = (g.rank, g.pos, g.ord) then some f
      else if f.rank < g.rank ∨ (f.rank = g.rank ∧ (f.pos < g.pos ∨ (f.pos = g.pos ∧ f.ord < g.ord))) then some f else some g

/-- Whether accesses of one destination cover bit `n` of memory. -/
def covers (ws : List Access1) (n : Nat) : Bool :=
  ws.any fun w => decide (8 * w.addr + w.bit ≤ n) && decide (n < 8 * w.addr + w.bit + w.bits)

/-- Whether the writes `ws` of one destination cover every bit of unit `u`, a unit being a 64-byte block or an 8-byte desk word (log 30). -/
def wholly (unit_ : Nat) (ws : List Access1) (u : Nat) : Bool := (List.range (8 * unit_)).all fun b => covers ws (8 * unit_ * u + b)

/-- The accesses of the same destination. -/
def Access1.mates (w : Access1) (ws : List Access1) : List Access1 := ws.filter fun v => v.write && v.pos == w.pos && v.ord == w.ord

/-- Whether the writes `ws` have written the desk word or the block of write `w` whole (05 R154, R162): a block only by a dense destination. -/
def Access1.whole (w : Access1) (ws : List Access1) : Bool :=
  if w.desk then wholly 8 (w.mates ws) (w.addr / 8) else w.dense && wholly 64 (w.mates ws) (w.addr / 64)

/-- A unit in error that the entry has now written whole reads sound to its later elements (02 R56; 05 R154, R162). -/
def State.soundAfter (s : State) (k : SlotId) (ws : List Access1) (w : Access1) : State :=
  if !w.write || !s.inError k w.addr 1 || !w.whole ws then s
  else if w.desk then
    let u := (w.addr - deskBase) / 8
    s.modSlot k fun x => { x with desk := { x.desk with bad := x.desk.bad.erase u, soft := x.desk.soft.erase u } }
  else { s with mem := { s.mem with bad := s.mem.bad.erase (w.addr / 64), soft := s.mem.soft.erase (w.addr / 64) } }

/-- Writes `now` are made, by the accesses `new`; `before` are the entry's earlier ones. -/
def State.applyWrites (s : State) (k : SlotId) (before new : List Access1) (now : List (Nat × Sum (List Byte) (Nat × Bool))) : State :=
  let s := now.foldl (fun s w => s.applyWrite k w) s
  new.foldl (fun s w => s.soundAfter k (before ++ new) w) s

/-- One element of the entry, every operation in position order (03 R80). `snap` is the memory that its reads see: the state at the
start of the element group for an entry with an indexed operand (02 R48), else the state now. -/
def elemRun (k : SlotId) (vl : Nat) (ops : List ROp) (indexed : Bool) (snap : State) (v : VRun) (i : Nat) : VRun :=
  let sr := if indexed then snap else v.s
  let a := ops.foldl (elemStep sr k vl ops i) ⟨v.s.regs k, [], v.links, [], [], 0, v.live⟩
  let v := { v with live := a.live }
  match firstFault (v.pre ++ a.faults) with
  | some f => { v with acc := v.acc ++ a.acc.filter (fun w => !w.write), stop := some { f.stop with at_ := i } }
  | none =>
    let s := v.s.setRegs k (a.regs.orFlags a.flags)
    let v := { v with flags := v.flags ||| a.flags }
    if indexed then { v with s := s, links := a.links, acc := v.acc ++ a.acc, held := v.held ++ a.writes }
    else { v with s := s.applyWrites k v.acc a.acc a.writes, links := a.links, acc := v.acc ++ a.acc }

/-- Elements `i` upward, `n` of them, of one element group, until a fault. -/
def elemsRun (k : SlotId) (vl : Nat) (ops : List ROp) (indexed : Bool) (snap : State) : Nat → Nat → VRun → VRun
  | 0, _, v => v
  | n + 1, i, v =>
    let v' := { elemRun k vl ops indexed snap v i with pre := [] }
    if v'.stop.isSome then v' else elemsRun k vl ops indexed snap n (i + 1) v'

/-- The link values of the elements `i` to `i + n - 1` below the start element (R441): read faults count as faults at the start element. -/
def linksBelow (k : SlotId) (vl : Nat) (ops : List ROp) : Nat → Nat → VRun → VRun
  | 0, _, v => v
  | n + 1, i, v =>
    let step (v : VRun) (o : ROp) : VRun :=
      match o.writesLink with
      | none => v
      | some w =>
        let out := evalReads v.s k (fun l j => linkValue v.s k vl ops v.links (ops.length + 1) l j) vl o i
        { v with
          links := (w.1, i, if out.failed then none else (o.value out i).map FRes.val) :: v.links
          acc := v.acc ++ out.acc
          pre := v.pre ++ out.faults }
    linksBelow k vl ops n (i + 1) (ops.foldl step v)

/-- The operations that elements `lo` to `hi - 1` do not all leave inactive, in memory as it is. -/
def State.liveOps (s : State) (k : SlotId) (vl : Nat) (ops : List ROp) (lo hi : Nat) : List Nat :=
  (ops.filter fun o => (upFrom lo (hi - lo)).any fun i => o.liveAt s k (linkValue s k vl ops [] (ops.length + 1)) i).map ROp.pos

/-- Element groups from `g` upward, `n` of them, over elements `vx` to `lim - 1` of a run to `vl` (02 R47, R48). An entry with an indexed operand
reads every mask of a group first (R48 step 1). -/
def groupsRun (k : SlotId) (vx vl lim : Nat) (ops : List ROp) (indexed : Bool) : Nat → Nat → VRun → VRun
  | 0, _, v => v
  | n + 1, g, v =>
    let lo := max vx (64 * g)
    let hi := min lim (64 * g + 64)
    let v := linksBelow k vl ops (lo - 64 * g) (64 * g) { v with links := [], held := [], pre := [] }
    let v := if indexed then { v with live := (v.s.liveOps k vl ops lo (min vl (64 * g + 64))).foldl (fun l p => insertNat p l) v.live } else v
    let v := elemsRun k vl ops indexed v.s (hi - lo) lo v
    let v := { v with s := v.s.applyWrites k [] v.acc v.held, held := [] }
    if v.stop.isSome then v else groupsRun k vx vl lim ops indexed n (g + 1) v

/-! ### What the accesses leave: error states, counts, energy -/

def dedupNat (l : List Nat) : List Nat := l.foldl (fun r x => insertNat x r) []

/-- The states of the blocks and words that the entry wrote: a dense destination that covers a whole block or word writes it whole
(05 R154, R162; log 30). -/
def State.settleWrites (s : State) (k : SlotId) (ws : List Access1) : State :=
  let per (s : State) (key : Nat × Nat) : State :=
    let mine := ws.filter fun w => w.pos == key.1 && w.ord == key.2
    let locals := dedupNat ((mine.filter fun w => !w.desk).map fun w => w.addr / 64)
    let words := dedupNat ((mine.filter fun w => w.desk).map fun w => (w.addr - deskBase) / 8)
    let s := locals.foldl (fun s b =>
      s.writeBlockState b (mine.all (fun w => w.dense) && wholly 64 mine b)) s
    words.foldl (fun s w => s.modSlot k fun x =>
      let whole := wholly 8 mine (w + deskBase / 8)
      let x := if whole then x else
        let (d, wt, _) := x.desk.noteWords [w]
        { x with desk := d, weight := x.weight + wt }
      let x := { x with desk := { x.desk with
        bad := if whole then x.desk.bad.erase w else x.desk.bad
        soft := x.desk.soft.erase w } }
      x.clearDeskResv (8 * w) 8) s
  let keys := ws.foldl (fun (l : List (Nat × Nat)) w => if l.contains (w.pos, w.ord) then l else l ++ [(w.pos, w.ord)]) []
  keys.foldl per s

/-- The error states of `s0` put back, before what an entry's accesses count is settled. -/
def State.errorsOf (s s0 : State) (k : SlotId) : State :=
  let s := { s with mem := { s.mem with bad := s0.mem.bad, soft := s0.mem.soft } }
  s.modSlot k fun x => { x with desk := { x.desk with bad := (s0.slot k).desk.bad, soft := (s0.slot k).desk.soft } }

/-- The counts of the blocks and words in error that these reads met (05 R154, R166). -/
def State.settleReads (s : State) (k : SlotId) (rs : List Access1) : State :=
  let rs := rs.filter fun w => w.err
  let blocks := dedupNat ((rs.filter fun w => !w.desk).map fun w => w.addr / 64)
  let words := dedupNat ((rs.filter fun w => w.desk).flatMap fun w => wordsOf (w.addr - deskBase) ((w.bits + 7) / 8))
  let s := (s.touchBlocks blocks).1
  s.modSlot k fun x =>
    let (d, wt, _) := x.desk.noteWords words
    { x with desk := d, weight := x.weight + wt }

/-- Occupancy energy per element group of an operation, in pJ (03 R70; 06 energy coefficients). -/
def ROp.occupancy (o : ROp) : Nat :=
  let vop := o.v.vop.toNat
  let td := (o.type 0).getD 0
  let t1 := (o.type 1).getD 0
  let fma (t : Nat) : Nat := 1280 * typeBits t / 128
  let wider := if isF td && isF t1 then (if typeBits t1 < typeBits td then td else t1) else if isF td then td else t1
  if vop = 0x00 ∨ vop = 0x02 then 0
  else if vop = 0x01 then if isF td || isF t1 then fma wider else 150
  else if vop = 0x13 ∨ vop = 0x14 then 64 * (if t1 = 0 then 32 else 16)
  else if 0x10 ≤ vop ∧ vop ≤ 0x20 then fma t1
  else if vop = 0x05 ∨ vop = 0x06 then 200
  else if vop = 0x32 ∨ vop = 0x33 then 150 * (if typeBits td = 64 then 2 else 1)
  else if vop = 0x50 ∨ vop = 0x51 then 1200 * 4
  else if vop = 0x55 ∨ vop = 0x56 then fma t1
  else if vop = 0x57 then 150 * typeBytes t1
  else 150

/-- Whether one metered access serves every element of its operand on its line (in its element group) or block (06 R196; log 31). -/
def Access1.once (w : Access1) : Bool := if w.desk then !w.indexed else w.dense

/-- What names the metered access of an element access. -/
def Access1.key (w : Access1) : List Nat :=
  if w.once then (if w.desk then [w.pos, w.ord, w.group, w.addr / 64] else [w.pos, w.ord, w.addr / 64])
  else [w.pos, w.ord, w.group, w.addr, w.bit]

/-- The desk line and local block accesses made, for the energy meter (06 R196; log 31): a non-indexed desk operand counts each line once in
an element group, a dense local operand each block once, every other operand each element. -/
def meterAccesses (acc : List Access1) : List Access1 :=
  let step (st : List (List Nat) × List Access1) (w : Access1) : List (List Nat) × List Access1 :=
    if w.once && st.1.contains w.key then st else (if w.once then w.key :: st.1 else st.1, st.2 ++ [w])
  (acc.foldl step ([], [])).2

/-- The metered accesses that none of `kept` made before, each of which serves one of them. -/
def meterFresh : List Access1 → List Access1 → List Access1
  | [], _ => []
  | w :: ws, kept =>
    match kept.find? fun v => !w.write && v.desk == w.desk && v.key == w.key with
    | some v => meterFresh ws (kept.erase v)
    | none => w :: meterFresh ws kept

/-- Desk lines and local blocks among them, and how many of the blocks reconstruction mode accesses a second time (10 R303). -/
def State.countAccesses (s : State) (ws : List Access1) : Nat × Nat × Nat :=
  let bs := ws.filter fun w => !w.desk
  (ws.length - bs.length, bs.length, (bs.filter fun w => s.reconstructing (w.addr / 64)).length)

/-- Energy added to the booking that runs on a client: counted only within the first BUDGET clk (06 R196). -/
def ClientState.meter (c : ClientState) (now pJ : Nat) : ClientState :=
  match c.run with
  | none => c
  | some r =>
    let within := now < r.start + r.adm.b.budget
    { c with run := some { r with metered := r.metered + pJ, counted := if within then r.counted + pJ else r.counted } }

def State.meterStream (s : State) (k : SlotId) (pJ : Nat) : State :=
  match s.streamOf k with
  | none => s
  | some i => { s with tt := { s.tt with streams := s.tt.streams.set i (s.tt.streams[i].meter s.now pJ) } }

/-- Energy that is metered and never counted toward ENERGY: further accesses to a block, and recomputations (06 R196). -/
def ClientState.meterOnly (c : ClientState) (pJ : Nat) : ClientState :=
  { c with run := c.run.map fun r => { r with metered := r.metered + pJ } }

def State.meterOnlyStream (s : State) (k : SlotId) (pJ : Nat) : State :=
  match s.streamOf k with
  | none => s
  | some i => { s with tt := { s.tt with streams := s.tt.streams.set i (s.tt.streams[i].meterOnly pJ) } }

/-! ### An entry -/

/-- The encoding of an operation, as STREAM.VFINSN holds it (02 R57, R63; 09 R289). -/
def VOp.word (v : VOp) : Word64 :=
  let n := v.vop.toNat * 2 ^ 56 + v.f.ad.toNat * 2 ^ 52 + v.f.as1.toNat * 2 ^ 48 + v.f.as2.toNat * 2 ^ 44 + v.f.as3.toNat * 2 ^ 40
    + v.f.ds.toNat * 2 ^ 35 + v.f.qn.toNat * 2 ^ 33 + v.f.scl.toNat * 2 ^ 32 + 0xF0000000 + v.f.rnd.toNat * 2 ^ 25
    + v.f.fn.toNat * 2 ^ 20
  let low := match v.user with
    | some (i, j) => 0x8000 + i.val * 256 + j.toNat
    | none => 0
  BitVec.ofNat 64 (n + low)

/-- Whether an entry is a chained group. -/
def VEntry.group (e : VEntry) : Bool := e.ops.length < e.slots

/-- The stop of the engine (02 R53, R57; 04 R114): VX, the cause registers, VEFLAGS and the vector-fault event. -/
def State.engineStop (s : State) (k : SlotId) (e : VEntry) (st : VStop) (vx : Word32) : State :=
  let s := s.modSlot k fun x => { x with
    regs := { x.regs with vx := vx }
    parity := x.parity.erase 0x43
    eng := { x.eng with
      stopped := true
      suspend := false
      cause := ⟨true, BitVec.ofNat 4 st.opnd, BitVec.ofNat 4 st.gop, BitVec.ofNat 8 st.cause, BitVec.ofNat 8 st.sub⟩
      vfaddr := st.addr
      vfinsn := (e.ops[st.gop]?.map VOp.word).getD 0
      vfvl := e.vl
      veflags := st.flags
      raDropped := x.eng.raDropped.add x.eng.raHeld
      raHeld := 0
      raLines := 0
      raFront := 0
      raFrontLines := 0 } }
  s.raiseStream k 0

/-- The SUSPENDED stop (02 R60). -/
def suspendedStop : VStop := ⟨0, 0x0C, 0, 9, 0, 0, 0⟩

/-- Watchdog progress in MODE 01b (08 R269, 14 R414). -/
def Slot.progress (x : Slot) : Slot :=
  if x.wd.mode = 1 ∧ ¬(x.dbg.wdpause ∧ x.status = .monitor) then { x with wd := { x.wd with count := x.wd.load, phase := 0 } } else x

/-- Operands of an entry with indexed mode. -/
def indexedOps (ops : List ROp) : Bool := (allRefs ops).any fun r => r.part == .data && r.d.mode == 2

/-- The entry `e` at the front of the queue of slot `k`, run over the elements below `lim` (`vl` for a whole run). -/
def State.runElements (s : State) (k : SlotId) (e : VEntry) (ops : List ROp) (lim : Nat) : VRun :=
  let vx := e.vx.toNat
  let indexed := indexedOps ops
  let groups := if vx < lim then (lim + 63) / 64 - vx / 64 else 0
  groupsRun k vx e.vl.toNat lim ops indexed groups (vx / 64) ⟨s, [], [], none, [], [], 0, []⟩

/-- A run that is to be suspended at element `lim`: a fault at the stop point itself is reported in its place (02 R60). -/
def State.runSuspended (s : State) (k : SlotId) (e : VEntry) (ops : List ROp) (lim : Nat) : VRun :=
  let v := s.runElements k e ops (lim + 1)
  if v.stop.isSome then v else s.runElements k e ops lim

/-- Lesson of the Stream in slot `k` with WEIGHT 0: its local accesses never complete (06 R190). -/
def State.weightless (s : State) (k : SlotId) : Bool :=
  match s.streamOf k with
  | none => false
  | some i => match s.tt.streams[i].run with | some r => r.adm.b.weight == 0 | none => false

/-- Whether the mask makes every element inactive (02 R68): those that the run met, as it read them, and those from `next` on, as memory shows them
at the stop. -/
def ROp.allInactive (o : ROp) (v : VRun) (k : SlotId) (ops : List ROp) (next vl : Nat) : Bool :=
  !v.live.contains o.pos && !(v.s.liveOps k vl ops next vl).contains o.pos

/-- A stop at an element writes 0 to the upper word of a binary32 VFMAXR or VFMINR target, though no element may be done (04 R101). -/
def ROp.clearUpper (o : ROp) (r : Regs) : Regs :=
  if (o.v.vop = 0x55 ∨ o.v.vop = 0x56) ∧ o.type 1 = some 1 then
    let n : Fin 32 := o.v.f.ds.toFin
    { r with d := r.d.set n (r.d[n] &&& 0xFFFFFFFF) }
  else r

/-- The descriptor reads of an entry, each one desk line access (06 R196). -/
def State.descriptorReads (s : State) (k : SlotId) (ops : List ROp) : List Access1 :=
  (ops.flatMap ROp.readRefs).filterMap fun r => r.off.map fun o =>
    ⟨r.pos, r.ord, deskBase + o, 0, 256, true, true, false, 0, false, s.inError k (deskBase + o) 32⟩

/-- What these descriptor reads count (05 R166; 10 R292) and take (06 R196). -/
def State.noteDescriptors (s : State) (k : SlotId) (ds : List Access1) : State :=
  (ds.foldl (fun (s : State) d => s.settleReads k [d]) s).meterStream k (40 * ds.length)

/-- The writes that entry `e` makes when it runs whole. -/
def Slot.entryWrites (x : Slot) (s : State) (k : SlotId) (e : VEntry) : List Access1 :=
  let ops := resolve x e.ops
  if (checkEntry x e.group ops e.vx.toNat e.vl.toNat).isSome then []
  else (s.runElements k e ops e.vl.toNat).acc.filter fun w => w.write

/-- A descriptor that engine reads can use: it is in the desk, reads without error and breaks no rule. -/
def DRef.usable (r : DRef) (x : Slot) : Bool :=
  (r.off.any fun o => !(wordsOf o 32).any fun w => x.desk.bad.contains w) && (r.d.rsvFault r.part r.maskAllowed).isNone

/-- The operation as run-ahead sees it: an operand without a usable descriptor names no element, and neither does any operand under a mask without
one (03 R82). -/
def ROp.ahead (o : ROp) (x : Slot) : ROp :=
  { o with refs := if o.mask.all fun m => m.usable x then o.refs.filter fun r => r.usable x else [] }

/-- The reads of run-ahead for entry `e`, in order: its descriptors, then the elements of its first 8 element groups, none of an address that R38
rejects, and of local memory none for a lesson of WEIGHT 0, which has no slots (03 R81, R82; 06 R190). -/
def State.aheadReads (s : State) (k : SlotId) (e : VEntry) : List Access1 :=
  let all := resolve (s.slot k) e.ops
  let ops := all.map fun o => o.ahead (s.slot k)
  let vx := e.vx.toNat
  let last := min e.vl.toNat (64 * (vx / 64 + 8))
  let reads := (upFrom vx (last - vx)).flatMap fun i => ops.flatMap fun o =>
    (evalReads s k (linkValue s k e.vl.toNat ops [] (ops.length + 1)) e.vl.toNat o i).acc
  s.descriptorReads k all ++ reads.filter fun w => w.desk || !s.weightless k

/-- Those reads as line and block accesses. -/
def State.aheadPlan (s : State) (k : SlotId) (e : VEntry) : List Access1 := meterAccesses (s.aheadReads k e)

/-- The reads of elements and descriptors that the line and block accesses `ws` serve. -/
def servedBy (ws reads : List Access1) : List Access1 := reads.filter fun r => ws.any fun w => w.desk == r.desk && w.key == r.key

/-- An access that reads uncorrectable. -/
def State.accessBad (s : State) (k : SlotId) (w : Access1) : Bool := (s.engineRead k w.addr ((w.bits + 7) / 8)).2.isSome

/-- The line and block accesses that run-ahead made for entry `e` at the front and that it uses: those on which no read met an uncorrectable
error (03 R85). -/
def State.keptReads (s : State) (k : SlotId) (e : VEntry) : List Access1 :=
  let n := (s.slot k).eng.raFront + (s.slot k).eng.raFrontLines
  if n = 0 then [] else ((s.aheadPlan k e).take n).filter fun w => !(servedBy [w] (s.aheadReads k e)).any fun r => s.accessBad k r

/-- The entry has ended: run-ahead reads made for the next one are now the front entry's (03 R83). -/
def Slot.nextEntry (x : Slot) : Slot :=
  { x with
    regs := { x.regs with vx := 0 }
    parity := x.parity.erase 0x43
    eng := { x.eng with
      queue := x.eng.queue.drop 1
      raFront := x.eng.raHeld
      raFrontLines := x.eng.raLines
      raHeld := 0
      raLines := 0 } }

/-- The entry at the front of the queue from its checks to its completion, its stop, or (with `lim`) its suspension at an
element-group boundary (02 R53, R60, R79). Its descriptors are those in the desk when it starts: R35 lets a store between issue and start show
the whole old or the whole new descriptor, and the model always takes the new one, DESIGN CHOICE (log 138). -/
def State.runEntry (s : State) (k : SlotId) (e : VEntry) (lim : Option Nat) : State :=
  let x := s.slot k
  let ops := resolve x e.ops
  let vl := e.vl.toNat
  let kept := s.keptReads k e
  let s0 := s
  let s := s.noteDescriptors k (meterFresh (s.descriptorReads k ops) kept)
  match checkEntry x e.group ops e.vx.toNat vl with
  | some st => (s.modSlot k fun x => { x with eng := { x.eng with suspend := false } }).engineStop k e st e.vx
  | none =>
    let stopAt := match lim with | some l => min l vl | none => vl
    let v := if stopAt < vl then s.runSuspended k e ops stopAt else s.runElements k e ops stopAt
    if s.weightless k && v.acc.any (fun w => !w.desk) then s0
    else
      let fresh := v.acc.filter fun w => !w.write && (servedBy kept [w]).isEmpty
      let next := match v.stop with
        | some st => if indexedOps ops then 64 * (st.at_ / 64 + 1) else st.at_ + 1
        | none => stopAt
      let inactive := ops.map fun o => o.allInactive v k ops next vl
      let s := ((v.s.errorsOf s k).settleReads k fresh).settleWrites k (v.acc.filter fun w => w.write)
      let (l, b, twice) := v.s.countAccesses (meterFresh (meterAccesses v.acc) kept)
      let last := match v.stop with | some st => st.at_ | none => stopAt
      let groups := if e.vx.toNat < last then (last + 63) / 64 - e.vx.toNat / 64 else 0
      let s := s.meterStream k (40 * l + 1300 * b + groups * (ops.foldl (fun n o => n + o.occupancy) 0))
      let s := s.meterOnlyStream k (1300 * twice)
      let whole := (if last = vl then groups else last / 64 - e.vx.toNat / 64)
      let s := s.modSlot k fun x => (if whole = 0 then x else x.progress).keepFlags v.flags
      let halt (s : State) : State := s.setRegs k ((ops.zip inactive).foldl (fun r o => if o.2 then r else o.1.clearUpper r) (s.regs k))
      match v.stop with
      | some st => (halt s).engineStop k e st (BitVec.ofNat 32 st.at_)
      | none =>
        if stopAt < vl then (halt s).engineStop k e suspendedStop (BitVec.ofNat 32 stopAt)
        else s.modSlot k Slot.nextEntry

end Sys2Proof.Machine
end

