-- ==== Sys2Proof/Machine/Lessons.lean ====
section
/-!
DEFINITION. Trace packets (14 R416-R418), and how a booking that runs ends or is stopped (06 R189, R196, R198, R203, R207, R209).
-/

namespace Sys2Proof.Machine

/-! ### Trace -/

/-- The 32 bytes of a packet (14 R417). -/
def Packet.bytes (p : Packet) : List Byte :=
  let b := leBytes 8 (p.bell.toNat * 2 ^ 16 + p.stream.val * 2 ^ 10 + p.port.toNat * 2 ^ 5 + p.kind.toNat * 2 ^ 2)
    ++ leBytes 8 (p.offset.toNat * 2 ^ 32 + p.seq.toNat) ++ leBytes 8 p.data.toNat
  b ++ leBytes 4 (crc32c b) ++ [0, 0, 0, 0]

/-- Packets in a ring. -/
def Ring.count (r : Ring) : Nat := (r.wr.toNat + 131072 - r.rd.toNat) % 131072

def Ring.full (r : Ring) : Bool := r.count == 131071

/-- A packet at WR, which advances (14 R418). -/
def Ring.push (r : Ring) (p : Packet) : Ring :=
  let w := r.wr.toNat
  { r with
    mem := r.mem.writeBytes (32 * w) p.bytes
    wr := BitVec.ofNat 17 ((w + 1) % 131072) }

/-- A packet for a ring: lost, written, or written over the oldest; whether the ring became full (14 R418). -/
def Ring.offer (r : Ring) (ovw : Bool) (p : Packet) : Ring × Bool :=
  let was := r.full
  if was && !ovw then ({ r with lostRing := r.lostRing + 1 }, false)
  else
    let r := if was then { r with rd := BitVec.ofNat 17 ((r.rd.toNat + 1) % 131072) } else r
    let r' := r.push p
    (r', !was && r'.full)

/-- A packet of a Stream that is emitted now (14 R417). -/
def State.packet (s : State) (i : StreamId) (kind : BitVec 3) (port : BitVec 5) (seq : Word32) (data : Word64) : Packet :=
  ⟨s.tt.bellNum, i, port, kind, s.tt.pclk, seq, data⟩

/-- A loss packet in front of `p`: how many packets were lost (14 R417, R418). -/
def Packet.loss (p : Packet) (lost : Nat) (seq : Word32) : Packet := { p with kind := 5, port := 0, data := BitVec.ofNat 64 lost, seq := seq }

/-- A ring that has lost packets and accepts one again. -/
def Ring.owes (r : Ring) (ovw : Bool) : Bool := 0 < r.lostRing && (!r.full || ovw)

/-- A packet to the ring of Stream `i`, after a loss packet numbered `seq` when packets were lost (14 R418). -/
def State.toRing (s : State) (i : StreamId) (ovw : Bool) (seq : Word32) (p : Packet) : State :=
  let r := s.dbg.rings[i]
  let (r, f1) := if r.owes ovw then { r with lostRing := 0 }.offer ovw (p.loss r.lostRing seq) else (r, false)
  let (r, f2) := r.offer ovw p
  let s := { s with dbg := { s.dbg with rings := s.dbg.rings.set i r } }
  let s := if f1 then s.raise (6 * i.val + 5) else s
  if f2 then s.raise (6 * i.val + 5) else s

/-- The trace port's queue of 4,096 has lost packets and accepts one again. -/
def DebugUnit.owes (d : DebugUnit) : Bool := 0 < d.portLost && d.portq.length < 4096

/-- A packet to the trace port's queue, after a loss packet numbered `seq` when packets were lost (14 R418). -/
def State.toPort (s : State) (seq : Word32) (p : Packet) : State :=
  let d := s.dbg
  let d := if d.owes then { d with portq := d.portq ++ [p.loss d.portLost seq], portLost := 0 } else d
  { s with dbg := if d.portq.length < 4096 then { d with portq := d.portq ++ [p] } else { d with portLost := d.portLost + 1 } }

/-- The Stream emits a packet, if its trace is on, its level allows it and, for lesson and monitor packets, SYS is 1 (14 R416-R418). The loss
packets that go in front of it are numbered before it, the ring's first (log 48). -/
def State.emit (s : State) (i : StreamId) (kind : BitVec 3) (port : BitVec 5) (data : Word64) : State :=
  match s.slotOf i with
  | none => s
  | some k =>
    let g := (s.slot k).dbg
    if g.trEn && 1 ≤ s.level i && (kind == 0 || g.trSys) then
      let n := s.dbg.rings[i].seq
      let ring := if g.trDest.getLsbD 0 && s.dbg.rings[i].owes g.trOvw then n + 1 else n
      let seq := if g.trDest.getLsbD 1 && s.dbg.owes then ring + 1 else ring
      let s := { s with dbg := { s.dbg with rings := s.dbg.rings.set i { s.dbg.rings[i] with seq := seq + 1 } } }
      let p := s.packet i kind port seq data
      let s := if g.trDest.getLsbD 0 then s.toRing i g.trOvw n p else s
      if g.trDest.getLsbD 1 then s.toPort ring p else s
    else s

/-! ### Writes of the control core -/

/-- The energy of a core access: each desk line or local block it touches (06 R196; log 31), and the second access of reconstruction mode
(10 R303). -/
def State.meterCore (s : State) (k : SlotId) (a n : Nat) : State :=
  let bs := blocksOf a n
  let s1 := s.meterStream k ((if deskBase ≤ a then 40 else 1300) * bs.length)
  if deskBase ≤ a then s1 else s1.meterOnlyStream k (1300 * (bs.filter s.reconstructing).length)

/-- The stimulus packets of a core store of `n` bytes at desk offset `off` that has committed (14 R416). -/
def State.stimulus (s : State) (k : SlotId) (off n : Nat) : State :=
  match s.streamOf k with
  | none => s
  | some i => (List.finRange 32).foldl (fun s p =>
      let x := s.slot k
      let w := 256 * x.dbg.stimBase.toNat + 8 * p.val
      if x.dbg.stimEn.getLsbD p.val && w < off + n && off < w + 8 then
        s.emit i 0 (BitVec.ofFin p) (x.desk.mem.read64 w)
      else s) s

/-- A store of the control core reaches memory or the desk. -/
def State.storeWrite (s : State) (k : SlotId) (a : Nat) (bs : List Byte) : State :=
  let s := s.streamWrite k a bs
  if deskBase ≤ a && (s.slot k).dbg.trEn then s.stimulus k (a - deskBase) bs.length else s

/-- A store of the lesson that runs: it is metered too. -/
def State.coreWrite (s : State) (k : SlotId) (a : Nat) (bs : List Byte) : State := (s.meterCore k a bs.length).storeWrite k a bs

/-- The oldest store-buffer entry of slot `k` commits (07 R230). -/
def State.commitOldest (s : State) (k : SlotId) : State :=
  match (s.slot k).sbuf with
  | [] => s
  | e :: es => (s.modSlot k fun x => { x with sbuf := es }).coreWrite k e.addr e.bytes

/-! ### Clients and their runs -/

def State.client (s : State) (c : Client) : ClientState :=
  match c with
  | .stream i => s.tt.streams[i]
  | .engine e => s.tt.engines[e]

def State.setClient (s : State) (c : Client) (x : ClientState) : State :=
  match c with
  | .stream i => { s with tt := { s.tt with streams := s.tt.streams.set i x } }
  | .engine e => { s with tt := { s.tt with engines := s.tt.engines.set e x } }

def State.modClient (s : State) (c : Client) (f : ClientState → ClientState) : State := s.setClient c (f (s.client c))

/-- The booking that runs on a client, changed. -/
def State.modRun (s : State) (c : Client) (f : Run → Run) : State := s.modClient c fun x => { x with run := x.run.map f }

/-- Microjoules of picojoules, rounded up (06 R209). -/
def microjoules (pJ : Nat) : Nat := (pJ + 999999) / 1000000

/-- The record of a booking that ran and stopped at `at_` clk from the bell (06 R209): its energy takes 1,500 pJ for each clk of a lesson (06
R196). -/
def State.recordAt (s : State) (c : Client) (r : Run) (status cause : Byte) (at_ : Nat) : Record :=
  let used := at_ - r.start
  { lesson := r.adm.b.lesson
    status := status
    period := s.tt.bellNum.toNat
    start := BitVec.ofNat 32 r.start
    used := used
    energy := microjoules (r.before + r.metered + if r.adm.b.lesson then 1500 * used else 0)
    cause := cause
    rerun := r.rerun
    extCap := r.extCap
    farSlow := r.farSlow
    tag := r.adm.b.tag
    ext := r.ext
    blocks := r.blocks
    client := c
    queue := r.adm.queue
    lateStart := r.adm.offset < r.start
    due := s.clk + 2000 }

/-- The record of a booking that ran and ends now. -/
def State.recordOf (s : State) (c : Client) (r : Run) (status cause : Byte) : Record := s.recordAt c r status cause s.now

/-- The record of a booking that never started (06 R209). -/
def State.recordUnstarted (s : State) (a : Admitted) (status cause : Byte) : Record :=
  { lesson := a.b.lesson
    status := status
    period := s.tt.bellNum.toNat
    start := 0xFFFFFFFF
    used := 0
    energy := 0
    cause := cause
    rerun := false
    extCap := false
    farSlow := false
    tag := a.b.tag
    ext := 0
    blocks := 0
    client := a.client
    queue := a.queue
    lateStart := false
    due := s.clk + 2000 }

/-- A record joins the records that wait to be posted (06 R210). -/
def State.pushRecord (s : State) (r : Record) : State := { s with tt := { s.tt with due := s.tt.due ++ [r] } }

/-- Word 0 of a completion record (06 R209). -/
def Record.word0 (r : Record) : Word64 :=
  BitVec.ofNat 64 ((if r.lesson then 1 else 2) * 2 ^ 56 + r.status.toNat * 2 ^ 48 + r.period % 2 ^ 48)

/-- A booking that runs ends now: EXCUSED when its Stream was in debug monitor mode (06 R207), else as given; the next booking may
start 400 clk later (06 R189). -/
def State.endRun (s : State) (c : Client) (status cause : Byte) : State :=
  let x := s.client c
  match x.run with
  | none => s
  | some r =>
    let (st, cs) := if r.excused then (3#8, 0#8) else (status, cause)
    let rec_ := s.recordOf c r st cs
    let s := s.pushRecord rec_
    let s := s.setClient c { x with run := none, nextStart := s.now + 400 }
    match c with
    | .stream i => s.emit i 2 0 rec_.word0
    | .engine _ => s

/-! ### Stopping a lesson (06 R198) -/

def Mem.addresses (m : Mem) : List Nat := m.cells.map Prod.fst

/-- Two contents of one memory mixed by 8-byte words (06 R198 step 3). -/
def Mem.blend (old new : Mem) (pick : Nat → Bool) : Mem :=
  (old.addresses ++ new.addresses).foldl (fun m a => if pick (a / 8) then Mem.write m a (new.read a) else m) old

/-- The energy metered for the booking of the Stream in slot `k`, in pJ. -/
def State.meteredOn (s : State) (k : SlotId) : Nat :=
  match s.streamOf k with
  | some i => ((s.client (.stream i)).run.map Run.metered).getD 0
  | none => 0

/-- A reservation that the whole entry clears (`full`) is cleared when one of the entry's writes `ws` to its block was made (07 R234). -/
def Slot.cutResv (x full : Slot) (ws : List Access1) (pick : Nat → Bool) : Slot :=
  match x.resv, full.resv with
  | some b, none =>
    if ws.any fun w => w.addr / 64 == b && pick ((if w.desk then w.addr - deskBase else w.addr) / 8) then { x with resv := none } else x
  | _, _ => x

/-- The entry that runs stops: each 8-byte word of its destinations holds its old or its new value, a write clears the reservations on its
block, and the energy of the accesses made so far is metered, an open part of that of the whole entry (06 R196, R198; 07 R234; log 12). -/
def State.cutEntry (s : State) (k : SlotId) : State :=
  let x := s.slot k
  match x.eng.queue with
  | [] => s
  | e :: _ =>
    if x.eng.stopped then s
    else
      let full := s.runEntry k e none
      let spent := full.meteredOn k - s.meteredOn k
      let (n, s) := s.draw
      let (m, s) := s.draw
      let pick := Config.freeChoice n
      let ws := x.entryWrites s k e
      let s := { s with
        mem := { s.mem with mem := s.mem.mem.blend full.mem.mem pick }
        slots := Vector.ofFn fun (j : SlotId) => s.slots[j].cutResv full.slots[j] ws pick }
      let s := s.modSlot k fun x => { x with desk := { x.desk with mem := x.desk.mem.blend (full.slot k).desk.mem pick } }
      s.meterStream k ((Config.freeWord m).toNat % (spent + 1))

/-- The energy of the stores of slot `k` that are still to commit: they complete after the stop (06 R196, R198 step 3). -/
def State.meterStores (s : State) (k : SlotId) : State :=
  (s.slot k).sbuf.foldl (fun s e => s.meterCore k e.addr e.bytes.length) s

/-- Every store-buffer entry that a stopped lesson has left in slot `k`, committed in order: at the latest when the slot's next lesson starts, when
its desk is copied, or when it is retired (06 R198 step 3; log 16). The stop has metered them for the lesson that retired them (06 R196, R200). -/
def State.drainStores (s : State) (k : SlotId) : State :=
  let es := (s.slot k).sbuf
  let s := s.modSlot k fun x => { x with sbuf := [] }
  es.foldl (fun s e => s.storeWrite k e.addr e.bytes) s

/-- The engine with nothing queued and not stopped; run-ahead reads that are held are dropped (03 R83). -/
def Engine.cleared (e : Engine) : Engine :=
  { e with
    queue := []
    stopped := false
    suspend := false
    cause := { e.cause with valid := false }
    raDropped := e.raDropped.add e.raHeld
    raHeld := 0
    raLines := 0
    raFront := 0
    raFrontLines := 0 }

/-- The values of the loads that are out, save uncorrectable ones, written to their destinations: the state at the last boundary (07 R256). The spec does
not say whether a load still out at the stop shows in the offsets: it does at a stop, and in monitor mode the register shows without it, DESIGN CHOICE
(log 174). -/
def Slot.lastBoundary (x : Slot) : Regs :=
  x.loads.foldl (fun r l => if l.bad.isSome then r else l.vals.foldl (fun (r : Regs) v =>
    match v.1 with
    | .a i => { r with a := r.a.set i v.2 }
    | .d i => { r with d := r.d.set i v.2 }) r) x.regs

/-- The core at rest after a stop: nothing of the lesson is carried on (06 R198, 13 R389); the registers and the reservation keep what the
debug offsets show (07 R256), and stores that have retired go on to commit (06 R198 step 3). -/
def Slot.quieted (x : Slot) (st : CoreStatus) : Slot :=
  { x with
    regs := x.lastBoundary
    status := st
    delay := none
    waitAt := none
    exc := none
    storeErr := none
    chain := none
    loads := []
    partsDone := 0
    prefetch := []
    eng := x.eng.cleared
    wd := { x.wd with pending := false }
    dbg := { x.dbg with event := none } }

/-- Core and engine of slot `k` stop as in R198. -/
def State.stopSlot (s : State) (k : SlotId) (st : CoreStatus) : State :=
  ((s.cutEntry k).meterStores k).modSlot k fun x => x.quieted st

/-- The lesson on Stream `i` is stopped and reported. -/
def State.stopLesson (s : State) (i : StreamId) (status cause : Byte) : State :=
  let s := match s.slotOf i with
    | some k => s.stopSlot k .quiet
    | none => s
  s.endRun (.stream i) status cause

end Sys2Proof.Machine
end

