-- ==== Sys2Proof/Machine/Flags.lean ====
section
/-!
DEFINITION. CC, FPCSR, SR: what instructions compute for them and test in them (04 FPCSR, R106, R115; 07 R216-R218, R251).
-/

namespace Sys2Proof.Machine

/-! ### CC -/

/-- N, Z, V and C of a − b (07 R217): C is the borrow. -/
def ccSub (a b : Word64) : CC :=
  let d := a - b
  ⟨d.msb, d == 0, (a.msb != b.msb) && (d.msb != a.msb), a.ult b⟩

/-- CC as the word MFS reads. -/
def CC.word (c : CC) : Word32 :=
  (if c.n then 8#32 else 0) ||| (if c.z then 4 else 0) ||| (if c.v then 2 else 0) ||| (if c.c then 1 else 0)

def CC.ofWord (w : Word64) : CC := ⟨w.getLsbD 3, w.getLsbD 2, w.getLsbD 1, w.getLsbD 0⟩

/-- The branch condition table (07 R251); code 1111b has no meaning and raises Reserved Field before it is tested. -/
def condHolds (code : BitVec 4) (c : CC) : Bool :=
  match code.toNat with
  | 0 => c.z
  | 1 => !c.z
  | 2 => c.n != c.v
  | 3 => c.n == c.v
  | 4 => c.z || c.n != c.v
  | 5 => !c.z && c.n == c.v
  | 6 => c.c
  | 7 => !c.c
  | 8 => c.c || c.z
  | 9 => !c.c && !c.z
  | 10 => c.n
  | 11 => !c.n
  | 12 => c.v
  | 13 => !c.v
  | _ => true

/-- CC of FCMP and FCMPS (07 R217). -/
def ccFloat (x y : FVal) : CC :=
  match compareV x y with
  | none => ⟨false, false, false, true⟩
  | some o => ⟨o == .lt, o == .eq, false, false⟩

/-! ### FPCSR (04) -/

/-- The dynamic rounding mode. -/
def Regs.rm (r : Regs) : BitVec 3 := (r.fpcsr >>> 16).truncate 3

/-- The mode that an RND field selects (04 R104). -/
def Regs.rounding (r : Regs) (rnd : BitVec 3) : BitVec 3 := if rnd = 0 then r.rm else rnd

/-- Trap enables IVE, DZE, OFE, UFE, IXE, IOE, IDZE. -/
def Regs.traps (r : Regs) : BitVec 7 := (r.fpcsr >>> 7).truncate 7

/-- A value that FPCSR may take: reserved bits 0 and a mode 001b to 101b (04 R106). -/
def fpcsrOk (w : Word64) : Bool :=
  w.toNat < 2 ^ 32 && !w.getLsbD 19 && !w.getLsbD 15 && !w.getLsbD 14 && 1 ≤ bits w 18 16 && bits w 18 16 ≤ 5

/-- Sticky IDZF. -/
def idzf : Word32 := 0x40

/-! ### SR (07) -/

/-- SR as MFS reads it; LLV is 1 while a reservation is held. -/
def Slot.sr (x : Slot) : Word32 :=
  (if x.resv.isSome then 0x10000#32 else 0) ||| (x.regs.qd.zeroExtend 32 <<< 8) ||| x.regs.iml.zeroExtend 32

/-- Bits that SR's map does not mark RSV (07 R215). -/
def srOk (w : Word64) : Bool := w &&& 0xFFFFFFFFFFFEF0F0 == 0

/-! ### The exceptions of arithmetic (04 R115) -/

/-- The vector of a scalar operation whose flag set holds an enabled condition: Floating-Point or Integer Overflow. -/
def arithTrap (r : Regs) (fl : FlagSet) : Option Byte :=
  match trapOf fl r.traps with
  | some (c, _) => some (if c = 0x0A then 7 else 8)
  | none => none

end Sys2Proof.Machine
end

