-- ==== Sys2Proof/Machine/Operands.lean ====
section
/-!
DEFINITION. Operand forms of the control core: registers by name, immediates, element widths, precisions (07 R212, R250, R251).
-/

namespace Sys2Proof.Machine

/-- A register that an instruction reads or writes. -/
inductive Reg where
  | a (n : BitVec 4)
  | d (n : BitVec 5)
  | q (n : BitVec 2)
  | special (n : Nat)
  deriving DecidableEq, Repr

/-- The register number that FADDR holds for a parity error (08 R261). -/
def Reg.code : Reg → Byte
  | .a n => n.zeroExtend 8
  | .d n => 0x20 + n.zeroExtend 8
  | .special n => 0x40 + BitVec.ofNat 8 n
  | .q n => 0x50 + n.zeroExtend 8

/-- The four D registers of V register `n` (07 R212). -/
def vregs (n : BitVec 3) : List Reg :=
  [.d (n.zeroExtend 5 * 4), .d (n.zeroExtend 5 * 4 + 1), .d (n.zeroExtend 5 * 4 + 2), .d (n.zeroExtend 5 * 4 + 3)]

def Regs.getA (r : Regs) (n : BitVec 4) : Word64 := r.a[n.toFin]
def Regs.setA (r : Regs) (n : BitVec 4) (v : Word64) : Regs := { r with a := r.a.set n.toFin v }
def Regs.getD (r : Regs) (n : BitVec 5) : Word64 := r.d[n.toFin]
def Regs.setD (r : Regs) (n : BitVec 5) (v : Word64) : Regs := { r with d := r.d.set n.toFin v }

/-- A write of a load's destination. -/
def Regs.setDest (r : Regs) (t : Dest) (v : Word64) : Regs :=
  match t with
  | .a i => { r with a := r.a.set i v }
  | .d i => { r with d := r.d.set i v }

def Dest.reg : Dest → Reg
  | .a i => .a (BitVec.ofFin i)
  | .d i => .d (BitVec.ofFin i)

/-- IMM12, IMM14, DISP13, DISP17, DISP18, DISP22, sign-extended (07 R251). -/
def simm {w : Nat} (x : BitVec w) : Word64 := x.signExtend 64

/-- A displacement in 4-byte words. -/
def swords {w : Nat} (x : BitVec w) : Word64 := simm x <<< 2

/-- W and SZ: 1, 2, 4 or 8 bytes (07 R251). -/
def widthBytes (w : BitVec 2) : Nat := 2 ^ w.toNat

/-- The low `n` bytes of a register. -/
def lowBytes (v : Word64) (n : Nat) : List Byte := leBytes n v.toNat

/-- The format that P selects (07 R251). -/
def precision (p : BitVec 1) : FloatFmt := if p = 0 then binary64 else binary32

/-- The low `n` bytes of a number, sign- or zero-extended to 64 bits. -/
def extend (signed : Bool) (n v : Nat) : Word64 :=
  let m := v % 2 ^ (8 * n)
  BitVec.ofInt 64 (if signed && 2 ^ (8 * n) ≤ 2 * m then (m : Int) - 2 ^ (8 * n) else m)

/-- A floating-point operand of a D register: the upper bits are ignored (04 R101). -/
def Regs.floatD (r : Regs) (f : FloatFmt) (n : BitVec 5) : Nat := (r.getD n).toNat % 2 ^ f.width

/-- An element of the type of a D register (02 R65, 04 R101). -/
def Regs.elemD (r : Regs) (ty : Nat) (n : BitVec 5) : Nat := (r.getD n).toNat % 2 ^ typeBits ty

/-- The line at `a` that the core has, entered or not (07 R220). -/
def Slot.lineAt (x : Slot) (a : Addr) : Option Line := (x.lines ++ x.ahead).find? fun l => l.addr == a

/-- The first word of the program `prog` of opcode `vop` whose copy in the slot's decode table is uncorrectable (09 R285). -/
def Slot.badCopy (x : Slot) (prog : List Word64) (vop : Nat) : Option Nat :=
  (List.range prog.length).find? fun j => x.tableBad.contains (vop * 256 + j)

/-- The value that MFS delivers for special register SN (07 R214); `none` for a reserved SN. -/
def Slot.special (x : Slot) (sn : Nat) : Option Word64 :=
  let r := x.regs
  match sn with
  | 0 => some r.pc
  | 1 => some (r.cc.word.zeroExtend 64)
  | 2 => some (r.vl.zeroExtend 64)
  | 3 => some (r.vx.zeroExtend 64)
  | 4 => some (r.lc.zeroExtend 64)
  | 5 => some r.ls
  | 6 => some r.le
  | 7 => some r.tsbp
  | 8 => some r.edb
  | 9 => some (r.fpcsr.zeroExtend 64)
  | 10 => some (x.sr.zeroExtend 64)
  | _ => none

/-- Whether MTS of `v` to SN breaks a field rule (07 R214, R215; 04 R106). -/
def mtsReserved (sn : Nat) (v : Word64) : Bool :=
  match sn with
  | 1 => 16 ≤ v.toNat
  | 2 => 2 ^ 32 ≤ v.toNat
  | 3 => 2 ^ 32 ≤ v.toNat
  | 4 => 2 ^ 32 ≤ v.toNat
  | 9 => !fpcsrOk v
  | 10 => !srOk v
  | _ => false

/-- The registers after MTS of a permitted value (07 R214, R218). -/
def Regs.mts (r : Regs) (sn : Nat) (v : Word64) : Regs :=
  match sn with
  | 1 => { r with cc := CC.ofWord v }
  | 2 => { r with vl := v.truncate 32 }
  | 3 => { r with vx := v.truncate 32 }
  | 4 => { r with lc := v.truncate 32 }
  | 5 => { r with ls := v }
  | 6 => { r with le := v }
  | 7 => { r with tsbp := v }
  | 8 => { r with edb := v }
  | 9 => { r with fpcsr := v.truncate 32 }
  | 10 => { r with qd := (v >>> 8).truncate 4, iml := v.truncate 4 }
  | _ => r

end Sys2Proof.Machine
end

