-- ==== Sys2Proof/Machine/Ops.lean ====
section
/-!
DEFINITION. Named operations of a control core: taking an exception, escalation, checkstop, the lazy accumulator save and the return
from an exception (08), debug events (14), and how an instruction starts and completes (07).
-/

namespace Sys2Proof.Machine

/-! ### Debug events (14 R409-R411) -/

/-- Whether a debug event may be raised at the core in slot `k`. -/
def State.debugOn (s : State) (k : SlotId) : Bool :=
  let x := s.slot k
  x.dbg.monen && x.status != .monitor && (match s.streamOf k with | some i => s.level i == 2 | none => false)

/-- A debug event is raised, if it may be and none waits. -/
def State.raiseDebug (s : State) (k : SlotId) (e : DebugEvent) : State :=
  if s.debugOn k then s.modSlot k fun x => { x with dbg := { x.dbg with event := x.dbg.event.or (some e) } } else s

/-- The lowest byte of an access of `n` bytes at `a` that watchpoint `w` matches. -/
def Watchpoint.hit (w : Watchpoint) (write : Bool) (a n : Nat) : Option Nat :=
  let size := 2 ^ w.size.toNat
  let base := w.addr.toNat / size * size
  if w.en && (if write then w.wr else w.rd) && a < base + size && base < a + n then some (max a base) else none

/-- A data access of the core, or of entry and RTE, as the watchpoints see it (14 R411). -/
def State.watch (s : State) (k : SlotId) (write : Bool) (a n : Nat) : State :=
  let x := s.slot k
  let s := match x.dbg.wp[0].hit write a n with
    | some b => s.raiseDebug k ⟨0x020, BitVec.ofNat 64 b, false⟩
    | none => s
  match x.dbg.wp[1].hit write a n with
  | some b => s.raiseDebug k ⟨0x021, BitVec.ofNat 64 b, false⟩
  | none => s

/-! ### Loads that are out (07 R228, R249) -/

/-- The values of a load written to their destinations. -/
def Regs.deliver (r : Regs) (vals : List (Dest × Word64)) : Regs := vals.foldl (fun r v => r.setDest v.1 v.2) r

/-- The values of a load come in: the destinations are written, and their old values with any parity error are gone (07 R228, R255). -/
def Slot.deliver (x : Slot) (vals : List (Dest × Word64)) : Slot :=
  { x with regs := x.regs.deliver vals, parity := x.parity.filter fun c => !(vals.any fun v => v.1.reg.code == c) }

/-- Every load has returned: the destinations of all of them are written. -/
def Slot.settleLoads (x : Slot) : Slot := { x.deliver (x.loads.flatMap fun l => l.vals) with loads := [] }

/-- Whether every load has returned its data. -/
def Slot.loadsIn (x : Slot) : Bool := x.loads.all fun l => l.returned

/-! ### Exception records (08 R261) -/

/-- The word that the core would execute at `a`: from the line buffer when the line is there, else from memory; 0 where nothing can be
fetched. -/
def State.iword (s : State) (k : SlotId) (a : Word64) : Word32 :=
  let n := a.toNat
  match (s.slot k).lineAt (n / 256 * 256) with
  | some l => BitVec.ofNat 32 (leNat ((l.bytes.drop (n % 256)).take 4))
  | none => if (s.badByte n 4).isSome then 0 else BitVec.ofNat 32 (leNat (s.peek k n 4))

/-- Vectors whose IWORD is 0 (08 R261): interrupts, the asynchronous store error and the watchdog. FFh stands for a lazy save or an RTE,
whose IWORD is that of the instruction (08 R267). -/
def asyncVector (v : Byte) : Bool := v == 0x0D || v == 0x0E || (0x20 ≤ v.toNat && v.toNat < 0x40)

/-- The 64 words of a task-state block (08, task-state block table); `zeroed` is the register that ECAUSE 08h writes as 0, for PC (40h) the
return address. -/
def tsbWords (x : Slot) (e : Exc) (vec ovec ecause : Byte) (iw : Word32) (zeroed : Option Byte) (faddr : Word64) : List Word64 :=
  let r := x.regs
  let put (code : Byte) (v : Word64) : Word64 := if zeroed = some code then 0 else v
  let sp (sn : Nat) : Word64 := put (0x40 + BitVec.ofNat 8 sn) ((x.special sn).getD 0)
  (List.finRange 16).map (fun n => put (BitVec.ofNat 8 n.val) r.a[n])
  ++ (List.finRange 32).map (fun n => put (0x20 + BitVec.ofNat 8 n.val) r.d[n])
  ++ [put 0x40 e.ret, sp 1, sp 2, sp 3, sp 4, sp 5, sp 6, sp 9, sp 10,
      (vec.zeroExtend 64 <<< 56) ||| (ovec.zeroExtend 64 <<< 48) ||| (ecause.zeroExtend 64 <<< 40) ||| (if e.ds then 1 <<< 32 else 0),
      faddr,
      (iw.zeroExtend 64 <<< 32) ||| (e.code.zeroExtend 64 <<< 20) ||| (e.offs.zeroExtend 64 <<< 8) ||| e.flags.zeroExtend 64,
      r.qg.zeroExtend 64,
      0x3A003FC400,
      1,
      r.ctsb]

def wordBytes (ws : List Word64) : List Byte := ws.flatMap fun w => leBytes 8 w.toNat

/-- The TSB at desk offset `o` written at entry: all of it but QSP, which only an escalation writes (08 R260, R267). -/
def Slot.writeTsb (x : Slot) (o : Nat) (ws : List Word64) (qsp : Bool) : Slot :=
  if qsp then x.writeDesk o (wordBytes ws)
  else (x.writeDesk o (wordBytes (ws.take 61))).writeDesk (o + 0x1F0) (wordBytes (ws.drop 62))

/-- Numbers of the registers that entry saves: A, D and the special registers but TSBP and EDB (08 R260). -/
def isSaved (c : Byte) : Bool := c.toNat < 0x50 && c != 0x47 && c != 0x48

/-- Registers that entry saves and that fail their parity check (07 R255, 08 R267): the lowest number. -/
def Slot.savedParity (x : Slot) : Option Byte := ((List.range 0x50).map (BitVec.ofNat 8)).find? fun c => isSaved c && x.parity.contains c

/-- The same for entry through EDB and TSBP (47h, 48h), which it reads but does not save: they count like those that it saves, DESIGN CHOICE
(log 163). -/
def Slot.entryParity (x : Slot) : Option Byte := ((List.range 0x50).map (BitVec.ofNat 8)).find? fun c => x.parity.contains c

/-- A read of the own desk by the core itself, at a desk offset. -/
def State.coreRead (s : State) (k : SlotId) (off n : Nat) : List Byte × Option Nat × State :=
  let (b, bad, s) := s.readDesk k off n
  (b, bad, s.meterCore k (deskBase + off) n)

/-! ### Descriptors (08 R258) -/

/-- The content of a descriptor that passes its checks. -/
structure EntryDesc where
  haddr : Word64
  iml : BitVec 4
  sel : BitVec 3
  nsp : Option Word64
  deriving DecidableEq, Repr

/-- The two words of a descriptor checked against R258 (ECAUSE 01h, 02h, 03h). -/
def State.checkDesc (s : State) (w0 w1 : Word64) : EntryDesc ⊕ Byte :=
  let h := bits w0 41 0
  let nsp := bits w1 41 0
  let ksp := w1.getLsbD 51
  if bits w0 63 42 ≠ 0 ∨ bits w1 63 60 ≠ 0 ∨ bits w1 50 42 ≠ 0 ∨ !w1.getLsbD 52 ∨ (ksp ∧ nsp ≠ 0) then .inr 1
  else if h % 4 ≠ 0 ∨ (s.badByte h 4).isSome then .inr 2
  else if !ksp ∧ (nsp % 16 ≠ 0 ∨ nsp < 16 ∨ (s.badByte (nsp - 16 : Nat) 16).isSome) then .inr 3
  else .inl ⟨BitVec.ofNat 64 h, BitVec.ofNat 4 (bits w1 59 56), BitVec.ofNat 3 (bits w1 55 53),
    if ksp then none else some (BitVec.ofNat 64 nsp)⟩

/-- A data access of the TSB at desk offset `o` by entry or RTE, which outside the monitor a watchpoint can match (14 R411). -/
def State.watchTsb (s : State) (k : SlotId) (write : Bool) (o n : Nat) : State :=
  if (s.slot k).status = .monitor then s else s.watch k write (deskBase + o) n

/-- The BUSY word of the TSB at desk offset `o`, as entry reads it (08 R260, R267). -/
def State.readBusy (s : State) (k : SlotId) (o : Nat) : Bool × Option Nat × State :=
  let (b, bad, s) := s.coreRead k (o + 0x1F0) 8
  (leNat b % 2 == 1, bad, s.watchTsb k false (o + 0x1F0) 8)

/-- What the writing of a TSB costs and shows: all of it but QSP, which only an escalation writes. -/
def State.noteTsb (s : State) (k : SlotId) (o : Nat) (qsp : Bool) : State :=
  let s := s.meterCore k (deskBase + o) 512
  if qsp then s.watchTsb k true o 512 else (s.watchTsb k true o 0x1E8).watchTsb k true (o + 0x1F0) 16

/-- Step 5 of R260. The registers that it writes whole hold sound values again (07 R255). -/
def Slot.enterHandler (x : Slot) (d : EntryDesc) (tsb : Word64) : Slot :=
  let r := x.regs
  let r := match d.nsp with | some v => { r with a := r.a.set 15 v } | none => r
  { x with
    regs := { r with iml := d.iml, qg := r.qg ||| r.qd, qd := 0, lc := 0, ctsb := tsb, pc := d.haddr }
    parity := x.parity.filter fun c => c != 0x40 && c != 0x44 && c != 0x4A && !(d.nsp.isSome && c == 0x0F)
    resv := none
    delay := none
    waitAt := none
    exc := none
    partsDone := 0
    chain := none }

/-! ### Checkstop (08 R268) -/

/-- The Stream checkstops: its lesson is stopped and reported CHECKSTOP, and the cause is recorded. -/
def State.checkstop (s : State) (k : SlotId) (vec ovec ecause : Byte) (ret : Word64) : State :=
  let s := s.stopSlot k .checkstopped
  let s := s.modSlot k fun x => { x with cstop := ⟨vec, ovec, ecause, true, ret⟩, setNow := { x.setNow with cstop := true } }
  match s.streamOf k with
  | none => s
  | some i =>
    let s := s.endRun (.stream i) 5 0
    ({ s with mgmt := { s.mgmt with sawCheckstop := true } }).raise (440 + i.val)

/-! ### Escalation (08 R267) -/

def escDesc : Nat := 0x3FC000
def escTsb : Nat := 0x3FC200

/-- Escalation entry for cause `ecause` of a failed entry of vector `ovec` (FFh for a lazy save or an RTE); a failure of it checkstops
the Stream. `failing` is the register of ECAUSE 08h. Every load has returned, and its value is part of the state saved (08 R260 step 1). -/
def State.escalate (s : State) (k : SlotId) (e : Exc) (ovec ecause : Byte) (failing : Option Byte := none) : State :=
  let s := s.modSlot k Slot.settleLoads
  let stop (s : State) (c : Byte) : State := s.checkstop k 0xFF ovec c e.ret
  let (db, bad, s) := s.coreRead k escDesc 16
  if bad.isSome then stop s 7
  else
    match s.checkDesc (BitVec.ofNat 64 (leNat (db.take 8))) (BitVec.ofNat 64 (leNat (db.drop 8))) with
    | .inr c => stop s c
    | .inl d =>
      if d.sel ≠ 0 then stop s 1
      else
        let (busy, bad, s) := s.readBusy k escTsb
        if bad.isSome then stop s 7
        else if busy then stop s 0x0C
        else
          let x := s.slot k
          if x.parity.any fun c => isSaved c && some c != failing then stop (s.chargeSlot k 32) 8
          else
            let fa := match failing with | some c => c.zeroExtend 64 | none => e.faddr
            let iw := if asyncVector ovec then 0 else s.iword k e.ret
            let ws := tsbWords x e 0xFF ovec ecause iw failing fa
            (s.setSlot k ((x.writeTsb escTsb ws true).enterHandler d (BitVec.ofNat 64 (deskBase + escTsb)))).noteTsb k escTsb true

/-! ### Taking an exception (08 R260) -/

/-- The one operation that takes an exception or an accepted interrupt: its checks, the task-state block, the new register values; any
failed check escalates. Every load has returned. -/
def State.enterException (s : State) (k : SlotId) (e : Exc) : State :=
  let s := s.modSlot k Slot.settleLoads
  let r := s.regs k
  let edb := r.edb.toNat
  if edb % 1024 ≠ 0 ∨ !inOwnDesk edb 1024 then s.escalate k e e.vec 4
  else
    let (db, bad, s) := s.coreRead k (edb - deskBase + 16 * e.vec.toNat) 16
    if bad.isSome then s.escalate k e e.vec 7
    else
      match s.checkDesc (BitVec.ofNat 64 (leNat (db.take 8))) (BitVec.ofNat 64 (leNat (db.drop 8))) with
      | .inr c => s.escalate k e e.vec c
      | .inl d =>
        let tb := r.tsbp.toNat + 512 * d.sel.toNat
        if r.tsbp.toNat % 512 ≠ 0 ∨ !inOwnDesk tb 512 then s.escalate k e e.vec 5
        else
          let o := tb - deskBase
          let (busy, bad, s) := s.readBusy k o
          if bad.isSome then s.escalate k e e.vec 7
          else if busy then s.escalate k e e.vec 6
          else
            let x := s.slot k
            if x.entryParity.isSome then (s.chargeSlot k 32).escalate k e e.vec 8 x.entryParity
            else
              let iw := if asyncVector e.vec then 0 else s.iword k e.ret
              let ws := tsbWords x e e.vec 0 0 iw none e.faddr
              (s.setSlot k ((x.writeTsb o ws false).enterHandler d (BitVec.ofNat 64 tb))).noteTsb k o false

/-- An exception is raised: it is entered at once when every load has returned, else when they have (07 R249; log 6). -/
def State.raiseExc (s : State) (k : SlotId) (e : Exc) : State :=
  if (s.slot k).loadsIn then s.enterException k e
  else s.modSlot k fun x => { x with exc := some e, chain := none, waitAt := none }

/-- Return address and DS at the instruction that stands at PC (07 R225). -/
def Slot.here (x : Slot) : Word64 × Bool :=
  match x.delay with
  | some d => (d.branch, true)
  | none => (x.regs.pc, false)

/-- The record of an exception at the instruction that stands at PC: the CHAIN inside a group, the branch in a delay slot (07 R225). 03 R73
names Undefined Instruction, Illegal Sequence and Reserved Field at a member; the model treats every other exception at a member (a fetch
fault, a register parity error, a decode-table copy error) the same way: DESIGN CHOICE (log 127). -/
def Slot.excAt (x : Slot) (vec : Byte) (code : BitVec 12) (faddr : Word64) (flags : BitVec 6) : Exc :=
  match x.chain with
  | some c => ⟨vec, c.at_, false, faddr, code, flags, (x.regs.pc - c.at_).truncate 8⟩
  | none => ⟨vec, x.here.1, x.here.2, faddr, code, flags, 0⟩

/-- Return address and DS of what the instruction at PC belongs to: the CHAIN, the branch, or itself. -/
def Slot.back (x : Slot) : Word64 × Bool :=
  match x.chain with
  | some c => (c.at_, false)
  | none => x.here

/-! ### The lazy accumulator save (08 R264) -/

/-- How a save goes: it waits for the engine, it is done, or it escalates. -/
inductive SaveRes where
  | wait
  | ok (s : State)
  | escalated (s : State)
  deriving DecidableEq, Repr

/-- Whether a queued or running vector instruction has Qn as destination. -/
def Engine.targetsQ (g : Engine) (n : Fin 4) : Bool :=
  g.queue.any fun e => e.ops.any fun v => (v.vop = 0x50 ∨ v.vop = 0x51) && v.f.qn.toFin == n

/-- Whether a queued or running vector instruction has Dn as destination. -/
def Engine.targetsD (g : Engine) (n : Fin 32) : Bool :=
  g.queue.any fun e => e.ops.any fun v => (0x52 ≤ v.vop.toNat && v.vop.toNat ≤ 0x58) && v.f.ds.toFin == n

/-- Whether an entry shares a byte with `n` bytes at `a`. -/
def StoreEntry.meets (e : StoreEntry) (a n : Nat) : Bool := e.addr < a + n && a < e.addr + e.bytes.length

/-- A store to these bytes still waits in the store buffer. RTE and a lazy save wait for it as a load waits for an entry that does not cover it (07
R231), so that a handler's change of its TSB is what RTE restores (R265): DEDUCED (log 164). -/
def Slot.storesTo (x : Slot) (a n : Nat) : Bool := x.sbuf.any fun e => e.meets a n

/-- QSP of the TSB at `tsb`: its desk offset when it keeps the rule of R264, and the state after its read. -/
def State.readQsp (s : State) (k : SlotId) (tsb : Nat) : Option Nat × State :=
  if !inOwnDesk tsb 512 then (none, s)
  else
    let (b, bad, s) := s.coreRead k (tsb - deskBase + 0x1E8) 8
    let q := leNat b
    if bad.isSome ∨ q % 8 ≠ 0 ∨ !inOwnDesk q 2176 then (none, s) else (some (q - deskBase), s)

/-- The state byte of an accumulator and seven zero bytes. -/
def qStateBytes (st : BitVec 3) : List Byte := leBytes 8 st.toNat

/-- Saves Qn if QG bit n is 1, with the instruction's return address; a save that must escalate waits for the loads that are out (08 R260
step 1, R267). An uncorrectable QWORD in step 4 is no cause of R267's table: the save goes on and writes the whole word, DESIGN CHOICE
(log 165). The save that an instruction makes as a member of an open group escalates with the CHAIN as its return address and OFFS 0, DESIGN CHOICE
(log 127). -/
def State.saveQ (s : State) (k : SlotId) (n : Fin 4) : SaveRes :=
  let x := s.slot k
  if !x.regs.qg.getLsbD n then .ok s
  else if x.eng.targetsQ n then .wait
  else
    let tsb := x.regs.ctsb.toNat
    if x.storesTo (tsb + 0x1E0) 16 then .wait else
    let (qsp, s) := s.readQsp k tsb
    match qsp with
    | none => if x.loadsIn then .escalated (s.escalate k ⟨0xFF, x.back.1, x.back.2, 0, 0, 0, 0⟩ 0xFF 9) else .wait
    | some q =>
      if x.storesTo (deskBase + q + 544 * n.val) 544 then .wait else
      let s := (s.writeDesk k (q + 544 * n.val) (accImage x.regs.q[n] ++ qStateBytes (qState x.regs.fpcsr n))).meterCore k
        (deskBase + q + 544 * n.val) 544
      let (b, _, s) := s.coreRead k (tsb - deskBase + 0x1E0) 8
      let w := leNat b ||| 2 ^ (8 + n.val)
      let s := s.writeDesk k (tsb - deskBase + 0x1E0) (leBytes 8 w)
      .ok (s.modSlot k fun x => { x with regs := { x.regs with qg := x.regs.qg &&& ~~~(1#4 <<< n.val) } })

/-- Saves each of the accumulators that an instruction is about to write. -/
def State.saveQs (s : State) (k : SlotId) : List (Fin 4) → SaveRes
  | [] => .ok s
  | n :: ns =>
    match s.saveQ k n with
    | .ok s' => s'.saveQs k ns
    | r => r

/-- SR.QD bit n is set at the issue of an instruction that writes Qn (08 R263). -/
def Regs.dirty (r : Regs) (n : Fin 4) : Regs := { r with qd := r.qd ||| (1#4 <<< n.val) }

/-! ### Returning (08 R265) -/

/-- What RTE comes to. -/
inductive RteRes where
  | wait
  | trap (vec : Byte) (code : BitVec 12) (faddr : Word64)
  /-- nothing is restored and the state is the handler's: escalation, or an uncorrectable read of the TSB -/
  | escalated (s : State)
  | done (s : State)
  deriving DecidableEq, Repr

/-- The registers that RTE restores from the words of the TSB (08 R265 step 5). -/
def Regs.restore (r : Regs) (w : List Word64) : Regs :=
  let g (n : Nat) : Word64 := w.getD n 0
  let fp := (g 55).truncate 32
  { r with
    a := Vector.ofFn fun i => g i.val
    d := Vector.ofFn fun i => g (16 + i.val)
    pc := g 48
    cc := CC.ofWord (g 49)
    vl := (g 50).truncate 32
    lc := (g 52).truncate 32
    ls := g 53
    le := g 54
    fpcsr := (r.fpcsr &&& 0xFFF00000) ||| (fp &&& 0x00073F80) ||| ((fp ||| r.fpcsr) &&& 0x7F)
    iml := (g 56).truncate 4
    qd := (g 56 >>> 8).truncate 4
    qg := (g 60).truncate 4
    ctsb := g 63 }

/-- What the TSB words must satisfy (08 R265 step 2). -/
def tsbOk (w : List Word64) : Bool :=
  let g (n : Nat) : Word64 := w.getD n 0
  (g 48).getLsbD 0 == false && (g 48).getLsbD 1 == false && (g 49).toNat < 16 && (g 50).toNat < 2 ^ 32 && (g 52).toNat < 2 ^ 32
  && fpcsrOk (g 55) && srOk (g 56)

/-- Accumulators after RTE (08 R265 step 6): a saved image, 0 for one that only the handler wrote, else unchanged. -/
def Regs.restoreQ (r : Regs) (qsaved dirty : BitVec 4) (img : Fin 4 → List Byte) : Regs :=
  (List.finRange 4).foldl (fun (r : Regs) (n : Fin 4) =>
    if qsaved.getLsbD n then
      let b := img n
      r.setQval n ⟨accOfImage (b.take 536), BitVec.ofNat 3 ((b.getD 536 0).toNat % 8)⟩
    else if dirty.getLsbD n then r.setQval n QVal.zero
    else r) r

/-- The Q images that RTE needs are read (08 R265 step 4): whether one of them is uncorrectable, and the state after the reads. -/
def State.readImages (s : State) (k : SlotId) (q : Nat) (qsaved : BitVec 4) : Bool × State :=
  (List.finRange 4).foldl (fun (r : Bool × State) (n : Fin 4) =>
    if qsaved.getLsbD n then
      let (_, bad, s) := r.2.coreRead k (q + 544 * n.val) 544
      (r.1 || bad.isSome, s)
    else r) (false, s)

/-- The 512 bytes at a TSB as 64 words. -/
def wordsAt (m : Mem) (o : Nat) : List Word64 := (upFrom 0 64).map fun i => m.read64 (o + 8 * i)

/-- RTE, with every earlier load returned (08 R265). It leaves monitor mode when CTSB is the TSB that STREAM.MONTSB names now (14 R413; log 149). R265
names no exception for a CTSB outside the own-desk window: the model raises Address with CODE 002h and FADDR = CTSB, and FADDR of the
Uncorrectable Data of a TSB read is CTSB too: DESIGN CHOICES (log 162). -/
def State.rte (s : State) (k : SlotId) : RteRes :=
  let x := s.slot k
  let r := x.regs
  let tsb := r.ctsb.toNat
  if r.ctsb = 0 then .trap 2 0 0
  else if !inOwnDesk tsb 512 then .trap 5 2 r.ctsb
  else if x.storesTo tsb 512 then .wait
  else
    let o := tsb - deskBase
    let w := wordsAt x.desk.mem o
    let (_, bad1, s) := s.coreRead k o 0x1E8
    let (_, bad2, s) := s.coreRead k (o + 0x1F0) 16
    let s := (s.watchTsb k false o 0x1E8).watchTsb k false (o + 0x1F0) 16
    let raise (vec : Byte) (code : BitVec 12) (faddr : Word64) : RteRes := .escalated (s.raiseExc k (x.excAt vec code faddr 0))
    match bad1.or bad2 with
    | some _ => raise 6 2 r.ctsb
    | none =>
      if !((w.getD 62 0).getLsbD 0) then raise 2 0 0
      else if !tsbOk w then raise 1 0 0
      else
        let qsaved : BitVec 4 := (w.getD 60 0 >>> 8).truncate 4
        if (List.finRange 4).any fun n => (qsaved.getLsbD n || r.qd.getLsbD n) && x.eng.targetsQ n then .wait
        else
          let (qsp, s) := (s.watchTsb k false (o + 0x1E8) 8).readQsp k tsb
          let esc (s : State) : RteRes := .escalated (s.escalate k ⟨0xFF, r.pc, false, 0, 0, 0, 0⟩ 0xFF 0x0A)
          match qsp with
          | none => esc s
          | some q =>
            if (List.finRange 4).any fun n => qsaved.getLsbD n && x.storesTo (deskBase + q + 544 * n.val) 544 then .wait else
            let (bad, s) := s.readImages k q qsaved
            if bad then esc s
            else
              let img (n : Fin 4) : List Byte := (s.slot k).desk.mem.readBytes (q + 544 * n.val) 544
              let regs := (r.restore w).restoreQ qsaved r.qd img
              let leaves := x.status = .monitor ∧ r.ctsb = x.dbg.tsb
              let s := ((s.meterCore k (tsb + 0x1F0) 8).watchTsb k true (o + 0x1F0) 8).modSlot k fun x =>
                let x := x.writeDesk (o + 0x1F0) (leBytes 8 0)
                { x with
                  regs := regs
                  resv := none
                  loads := []
                  parity := x.parity.filter fun c => c == 0x43 || c == 0x47 || c == 0x48
                    || (0x50 ≤ c.toNat && !(qsaved ||| r.qd).getLsbD (c.toNat - 0x50))
                  wd := if (w.getD 57 0).toNat / 2 ^ 56 = 0x0E then { x.wd with exp := false } else x.wd
                  status := if leaves then .running else x.status }
              let s := if leaves then
                  match s.streamOf k with
                  | some i => s.emit i 4 0 regs.pc
                  | none => s
                else s
              .done s

/-! ### How an instruction starts and completes -/

/-- What an instruction's body comes to. -/
inductive Done where
  /-- it completes; PC goes on in sequence -/
  | next (s : State)
  /-- a branch or jump: its target when it is taken -/
  | branch (s : State) (target : Option Word64)
  /-- it completes and PC is as given, without a delay slot or a loop test -/
  | goto (s : State) (pc : Word64)
  /-- it raises an exception and has written nothing -/
  | trap (vec : Byte) (code : BitVec 12) (faddr : Word64) (flags : BitVec 6)
  /-- it waits: it has not started -/
  | wait
  /-- the same, and the slot notes at what it waits -/
  | hold (w : WaitKind)
  /-- the state as given, with nothing completed -/
  | stay (s : State)
  deriving DecidableEq, Repr

/-- How an instruction stands in the rules of decode (07 R224, R229, R239, R254, R255; 02 R31). -/
structure Info where
  size : Nat := 4
  /-- a class-Fh word: at an address with bit 2 set it raises Illegal Sequence (07 R250) -/
  wide : Bool := false
  /-- an exception that comes before the decode rules (09 R284, R285) -/
  early : Option (Byte × BitVec 12 × Word64) := none
  /-- may stand in a delay slot -/
  slotOk : Bool := true
  /-- may end at LE -/
  endOk : Bool := true
  /-- can be cancelled in a load shadow -/
  cancel : Bool := true
  /-- may stand inside an open chained group -/
  member : Bool := false
  /-- breaks no rule on prefixes -/
  prefixOk : Bool := true
  /-- every reserved-field rule holds -/
  fieldsOk : Bool := true
  reads : List Reg := []
  writes : List Reg := []
  /-- registers that the vector engine reads for it, and accumulates onto: it does not wait for them -/
  accumulates : List Reg := []
  /-- single-bit errors that its decode corrects in the table copy (10 R292) -/
  soft : Nat := 0
  /-- accumulators that a scalar instruction writes, saved first when guarded (08 R264) -/
  saves : List (Fin 4) := []
  /-- bytes from PC that one instruction breakpoint covers (14 R411) -/
  span : Nat := 4
  /-- whether its second instruction is a delay slot -/
  isBranch : Bool := false
  deriving DecidableEq, Repr

def Reg.isD : Reg → Option (Fin 32)
  | .d n => some n.toFin
  | _ => none

def Reg.isQ : Reg → Option (Fin 4)
  | .q n => some n.toFin
  | _ => none

/-- The instruction waits for the scalar results of queued vector instructions (02 R31). -/
def Slot.interlocked (x : Slot) (f : Info) : Bool :=
  !x.eng.stopped
  && ((f.reads ++ f.writes).any fun g =>
    (g.isD.any fun n => x.eng.targetsD n) || (g.isQ.any fun n => x.eng.targetsQ n))

/-- Whether the word at PC is a QLD or QST, which may be abandoned in a delay slot (07 R225, R248). -/
def isQMove (w : Word32) : Bool := bits w 31 28 == 5 && (bits w 27 22 == 7 || bits w 27 22 == 8)

/-- A watchpoint has matched a QST that is still storing: its event returns to the next instruction, so the QST goes on to its end (14 R409). -/
def State.watchedQst (s : State) (k : SlotId) : Bool :=
  let x := s.slot k
  x.partsDone != 0 && (x.dbg.event.any fun e => e.code == 0x020 || e.code == 0x021) && isQMove (s.iword k x.regs.pc)

/-- Something is to be taken at this boundary before the next instruction (08 R271, 14 R412). -/
def State.boundaryBusy (s : State) (k : SlotId) : Bool :=
  let x := s.slot k
  x.delay.isNone && x.chain.isNone
  && (x.storeErr.isSome || x.wd.pending || ((x.dbg.event.isSome || x.dbg.halt) && s.debugOn k && !s.watchedQst k))

/-- The instruction breakpoint that matches before the instruction at PC starts: its number and address (14 R411); a QST or a REP pair that
has begun, and a VFENCE or END that waits, are past their start. -/
def State.breakpoint (s : State) (k : SlotId) (f : Info) : Option (Nat × Word64) :=
  let x := s.slot k
  let pc := x.regs.pc
  if x.delay.isSome || x.chain.isSome || x.partsDone ≠ 0 || x.waitAt == some .vfence || x.waitAt == some .endLesson || x.dbg.exempt == some pc || !s.debugOn k then none
  else
    (List.finRange 4).findSome? fun n =>
      let (en, a) := x.dbg.ibp[n]
      let ad := a.toNat * 4
      if en && pc.toNat ≤ ad && ad < pc.toNat + f.span then some (n.val, BitVec.ofNat 64 ad) else none

/-- The line that holds PC. -/
def Slot.pcLine (x : Slot) : Addr := x.regs.pc.toNat / 256 * 256

/-- Whether a block request of the core waits at the GSP: a load from local memory, or a line of local memory (07 R222, 11 R337). -/
def Slot.gspBusy (x : Slot) : Bool :=
  (x.loads.any fun l => l.local_ && !l.returned) || x.prefetch.any fun a => a < deskBase

/-- The requests outstanding after the core has entered the line before `n`: it requests line `n` when that is absent, a line of local memory
only with no other block request at the GSP (07 R222). -/
def Slot.requestLine (x : Slot) (n : Addr) : List Addr :=
  if (x.lineAt n).isSome || x.prefetch.contains n || (n < deskBase && x.gspBusy) then x.prefetch else x.prefetch ++ [n]

/-- The core starts an instruction in line `a`: a line other than that of the instruction before it is entered, becomes the most recently entered one of
8, and the next sequential line is requested if `more`, that is where it lies in the range of the line that is entered (07 R220, R222). -/
def Slot.enterLineAt (x : Slot) (a : Addr) (more : Bool) : Slot :=
  if x.line = some a then x
  else
    match x.lineAt a with
    | some l => { x with
        lines := l :: (x.lines.filter fun m => m.addr != a).take 7
        ahead := x.ahead.filter fun m => m.addr != a
        line := some a
        prefetch := if more then x.requestLine (a + 256) else x.prefetch }
    | none => { x with line := none }

/-- The line of PC is entered. An instruction that has begun has entered its lines. -/
def Slot.enterLine (x : Slot) (more : Bool) : Slot := if x.partsDone = 0 then x.enterLineAt x.pcLine more else x

/-- Whether the line at `a` begins in the range in which the line before it lies: no visible line ends at the desk window (07 R222). R222 says "within
the range" of a line that straddles its end neither way: such a line is requested, DESIGN CHOICE (log 173). -/
def State.lineBegins (s : State) (a : Addr) : Bool := (s.badByte a 1).isNone

/-- Whether the line after that of PC may be requested. -/
def State.moreLines (s : State) (k : SlotId) : Bool := s.lineBegins ((s.slot k).pcLine + 256)

/-- The line of the instruction at PC is entered. -/
def State.enterLine (s : State) (k : SlotId) : State := s.modSlot k fun x => x.enterLine (s.moreLines k)

/-- The line of the last word of an instruction or a pair of `size` bytes is entered after that of PC, when it is another one (07 R220). -/
def State.enterLast (s : State) (k : SlotId) (size : Nat) : State :=
  let a := ((s.regs k).pc.toNat + size - 4) / 256 * 256
  if a = (s.slot k).pcLine then s else s.modSlot k fun x => x.enterLineAt a (s.lineBegins (a + 256))

/-- An operand register of the instruction at PC fails its parity check as the instruction starts (07 R220, R255; 10 R292). -/
def State.parityFault (s : State) (k : SlotId) (size : Nat) (reg : Byte) : State :=
  (((s.enterLine k).enterLast k size).chargeSlot k 32).raiseExc k ((s.slot k).excAt 6 3 (reg.zeroExtend 64) 0)

/-- A taken branch enters the branch-target buffer (07 R221). -/
def Slot.branchTaken (x : Slot) (a t : Word64) : Slot :=
  { x with btb := x.btb.set ((a.toNat / 4) % 64) (some ⟨a, t⟩) (Nat.mod_lt _ (by decide)) }

/-- PC after an instruction of `size` bytes completes in sequence: the loop test, with LC as the instruction left it, then the delay slot's
target or the next address (07 R223, R238). An instruction in a delay slot can end at LE only when it has itself written LC or LE (R239; log
126). -/
def Slot.sequence (x : Slot) (size : Nat) : Slot :=
  let r := x.regs
  let n := r.pc + BitVec.ofNat 64 size
  let on := match x.delay with
    | some d => d.target
    | none => n
  let r' := if n = r.le then
      if 1 < r.lc.toNat then { r with lc := r.lc - 1, pc := r.ls } else { r with lc := 0, pc := on }
    else { r with pc := on }
  { x with regs := r', delay := none }

/-- The load whose shadow an instruction was (`shadow`: a load was out when it started): the shadow's own writes stand, and data that
has returned is written (07 R228). -/
def Slot.afterShadow (x : Slot) (shadow : Bool) (writes : List Reg) : Slot :=
  match x.loads with
  | [] => x
  | l :: ls =>
    if !shadow || l.shadowed then x
    else
      let vals := l.vals.filter fun v => !writes.contains v.1.reg
      if l.returned then { x.deliver vals with loads := ls }
      else { x with loads := { l with
        vals := vals
        shadowed := true
        undo := l.undo.map fun u => (u.1, x.regs) } :: ls }

/-- Registers whose values a load has still to bring. -/
def Slot.awaited (x : Slot) (c : Byte) : Bool := x.loads.any fun l => l.vals.any fun v => v.1.reg.code == c

/-- A register that the completed instruction has written is sound again (07 R255). -/
def Slot.cleansed (x : Slot) (f : Info) (c : Byte) : Bool := (f.writes.any fun g => g.code == c) && !x.awaited c

/-- What every completed instruction does to its slot besides its effect: a register that it has written is sound again, and the watchdog counts it
as progress unless it pauses in the monitor in which the instruction began (07 R229, R255; 08 R269; 14 R414). -/
def Slot.done (x : Slot) (f : Info) (inMon : Bool) : Slot :=
  let y := { x with
    parity := x.parity.filter fun c => !x.cleansed f c
    loads := x.loads.map fun l => { l with marks := l.marks ++ x.parity.filter fun c => x.cleansed f c }
    partsDone := 0
    waitAt := none }
  if inMon && x.dbg.wdpause then y else y.progress

/-- An instruction completes; a single step is an instruction completed outside the monitor (14 R409). -/
def State.complete (s : State) (k : SlotId) (f : Info) (inMon : Bool) : State :=
  let s := s.modSlot k fun x => x.done f inMon
  let x := s.slot k
  if x.dbg.step && !inMon then s.raiseDebug k ⟨0x002, 0, false⟩ else s

/-- An instruction of `size` bytes ends at LE of a loop that runs (07 R238, R239). -/
def Slot.atLoopEnd (x : Slot) (size : Nat) : Bool := x.regs.lc ≠ 0 && x.regs.pc + BitVec.ofNat 64 size == x.regs.le

/-- The decode exceptions, in the order of R254: Illegal Sequence, Illegal Prefix, Reserved Field. -/
def Slot.decodeFault (x : Slot) (f : Info) : Option Byte :=
  let atEnd := x.atLoopEnd f.size
  let inner := x.chain.any fun c => c.ops.length + 1 < c.count
  if (f.wide && x.regs.pc.getLsbD 2) || (x.delay.isSome && !f.slotOk) || (atEnd && (!f.endOk || inner || x.delay.isSome)) || (x.chain.isSome && !f.member) then some 2
  else if !f.prefixOk then some 3
  else if !f.fieldsOk then some 1
  else none

/-- The registers that an instruction reads, itself or by the engine: its operands, LC, LS and LE when it ends at LE of a loop that runs, and every guarded accumulator
that it saves first (07 R238, R255; 08 R264). -/
def Slot.readSet (x : Slot) (f : Info) : List Reg :=
  f.reads ++ f.accumulates ++ (if x.atLoopEnd f.size then [.special 4, .special 5, .special 6] else [])
  ++ (f.saves.filter fun (n : Fin 4) => x.regs.qg.getLsbD n.val).map fun (n : Fin 4) => Reg.q (BitVec.ofFin n)

/-- The first of the registers that fails its parity check (07 R255). When several fail, the record names the one that failed first: the spec does not
say which, DESIGN CHOICE (log 176). -/
def Slot.parityOf (x : Slot) (rs : List Reg) : Option Byte := x.parity.find? fun c => rs.any fun g => g.code == c

/-- Whether the core in slot `k` can start its next instruction now. -/
def State.canStart (s : State) (k : SlotId) (f : Info) : Bool :=
  let x := s.slot k
  (x.status == .running || x.status == .monitor) && x.exc.isNone && !s.boundaryBusy k
  && x.loads.all (fun l => !l.shadowed && (l.returned || f.cancel))

/-- The registers `c` with what a cancelled shadow wrote between `b` and `a` undone; what the engine wrote meanwhile stands (07 R229; 04
R107). -/
def Regs.undone (c b a : Regs) : Regs :=
  { b with
    d := Vector.ofFn fun n => if a.d[n] = b.d[n] then c.d[n] else b.d[n]
    q := Vector.ofFn fun n => if a.q[n] = b.q[n] then c.q[n] else b.q[n]
    vx := c.vx
    fpcsr := (c.fpcsr &&& ~~~(a.fpcsr ^^^ b.fpcsr)) ||| (b.fpcsr &&& (a.fpcsr ^^^ b.fpcsr)) }

/-- The registers before a load's shadow, kept for its cancellation (07 R229). -/
def Slot.keepUndo (x : Slot) : Slot :=
  match x.loads with
  | [l] => if l.returned then x else { x with loads := [{ l with undo := some (x.regs, x.regs) }] }
  | _ => x

/-- A delay-slot instruction waits for the engine or the store buffer: an interrupt may come before it (07 R225, R247). -/
def State.noteWait (s : State) (k : SlotId) : State :=
  if (s.slot k).delay.isSome then s.modSlot k fun x => { x with waitAt := some .slot } else s

/-- The breakpoint exemption once the instruction at PC has started: that of its own address is used up, outside the monitor (14 R411). -/
def Slot.exemptAfter (x : Slot) : Option Word64 :=
  if x.status = .running ∧ x.dbg.exempt = some x.regs.pc then none else x.dbg.exempt

/-- What starting an instruction does: its line is entered, a load's cancellation is prepared, and its own breakpoint exemption ends. -/
def Slot.start (x : Slot) (more : Bool) : Slot :=
  let y := (x.enterLine more).keepUndo
  { y with dbg := { y.dbg with exempt := x.exemptAfter } }

/-- The instruction at PC starts. -/
def State.start (s : State) (k : SlotId) : State := s.modSlot k fun x => x.start (s.moreLines k)

/-- What decode corrects in the slot's copy of the decode table (09 R285; 10 R292). -/
def State.noteCopies (s : State) (k : SlotId) (f : Info) : State := if f.soft = 0 then s else s.chargeSlot k f.soft

/-- One instruction of logical Stream `i`: it starts when it can, its decode rules are checked, its body runs, and it completes, waits
or raises its exception. A command for a core that cannot start it changes nothing (log 4, 7). A parity error in a register that a vector instruction
captures comes before the Vector Sequence that its body raises while the engine is stopped; the spec does not rank the two (02 R32, 07 R255): DESIGN
CHOICE (log 159). A reduction in a load shadow counts as writing its D[DS] at its issue, so that it accumulates on the value before the load (07 R228)
whether or not an element proves active: DESIGN CHOICE (log 181). -/
def State.instruction (s : State) (i : StreamId) (f : Info) (body : State → SlotId → Done) :
    Host.Outcome State Fault Refusal :=
  match s.slotOf i with
  | none => .next s
  | some k =>
    if !s.canStart k f then .next s
    else
      match s.breakpoint k f with
      | some (n, a) =>
        .next (s.raiseDebug k ⟨0x010 + BitVec.ofNat 12 n, a, f.isBranch && a != (s.regs k).pc⟩)
      | none =>
        let x := s.slot k
        match f.early.or ((x.decodeFault f).map fun v => (v, 0, 0)) with
        | some (v, c, a) => .next ((if v = 6 then (s.noteCopies k f).chargeSlot k 32 else s.noteCopies k f).raiseExc k (x.excAt v c a 0))
        | none =>
          if x.interlocked f then .next (s.noteWait k)
          else
            match x.parityOf (x.readSet f) with
            | some c => .next ((s.noteCopies k f).parityFault k f.size c)
            | none =>
              match s.saveQs k f.saves with
              | .wait => .next (s.noteWait k)
              | .escalated s' => .next s'
              | .ok s1 =>
                let s2 := (s1.noteCopies k f).start k
                let written := f.writes ++ f.accumulates
                let shadow := !x.loads.isEmpty
                let inMon := x.status == .monitor
                match body s2 k with
                | .wait => .next (s1.noteWait k)
                | .hold w => .next (s1.modSlot k fun x => { x with waitAt := some w })
                | .stay s' => .next s'
                | .trap v c a fl => .next (((s1.noteCopies k f).enterLine k).raiseExc k ((s1.slot k).excAt v c a fl))
                | .next s' =>
                  .next ((s'.modSlot k fun x => (x.afterShadow shadow written).sequence f.size).complete k f inMon)
                | .branch s' t =>
                  .next ((s'.modSlot k fun x =>
                    let x := x.afterShadow shadow written
                    let pc := x.regs.pc
                    let x := match t with | some t => x.branchTaken pc t | none => x
                    { x with
                      delay := some ⟨pc, t.getD (pc + 8)⟩
                      regs := { x.regs with pc := pc + 4 } }).complete k f inMon)
                | .goto s' pc =>
                  .next ((s'.modSlot k fun x =>
                    let x := x.afterShadow shadow written
                    { x with regs := { x.regs with pc := pc } }).complete k f inMon)

/-- A body that only computes registers. -/
def State.compute (s : State) (i : StreamId) (f : Info) (g : Regs → Regs) : Host.Outcome State Fault Refusal :=
  s.instruction i f fun s k => .next (s.setRegs k (g (s.regs k)))

/-- A body that computes registers and raises a flag set: an enabled condition traps before anything is written, else the flags join
FPCSR (04 R115). -/
def State.checked (s : State) (i : StreamId) (f : Info) (g : Regs → FlagSet × Regs) : Host.Outcome State Fault Refusal :=
  s.instruction i f fun s k =>
    let r := s.regs k
    let (fl, r') := g r
    match arithTrap r fl with
    | some v => .trap v 0 0 fl
    | none => .next (s.setRegs k (r'.orFlags fl))

end Sys2Proof.Machine
end

