-- ==== Sys2Proof/Machine/Accumulators.lean ====
section
/-!
DEFINITION. The accumulator instructions of class 9h (04 R128-R131; 08 R263, R264).
-/

namespace Sys2Proof.Machine

/-- QCLR. -/
def execQclr (i : StreamId) (f : QFmt) (s : State) : Host.Outcome State Fault Refusal :=
  s.compute i { fieldsOk := f.qm == 0 && f.rd == 0 && f.rnd == 0 && f.rsv == 0, writes := [.q f.qn], saves := [f.qn.toFin] } fun r =>
    (r.setQval f.qn.toFin QVal.zero).dirty f.qn.toFin

/-- QADDD: D[RD] as binary64. -/
def execQaddd (i : StreamId) (f : QFmt) (s : State) : Host.Outcome State Fault Refusal :=
  s.checked i { fieldsOk := f.qm == 0 && f.rnd == 0 && f.rsv == 0, reads := [.q f.qn, .d f.rd, .special 9], writes := [.q f.qn]
                saves := [f.qn.toFin] } fun r =>
    let (q, fl) := (r.qval f.qn.toFin).addValue binary64 (r.getD f.rd).toNat
    (fl, (r.setQval f.qn.toFin q).dirty f.qn.toFin)

/-- QADDQ. -/
def execQaddq (i : StreamId) (f : QFmt) (s : State) : Host.Outcome State Fault Refusal :=
  s.checked i { fieldsOk := f.rd == 0 && f.rnd == 0 && f.rsv == 0, reads := [.q f.qn, .q f.qm, .special 9], writes := [.q f.qn]
                saves := [f.qn.toFin] } fun r =>
    let (q, fl) := (r.qval f.qn.toFin).addAcc (r.qval f.qm.toFin)
    (fl, (r.setQval f.qn.toFin q).dirty f.qn.toFin)

/-- QRND. -/
def execQrnd (i : StreamId) (f : QFmt) (s : State) : Host.Outcome State Fault Refusal :=
  s.checked i { fieldsOk := f.qm == 0 && decide (f.rnd.toNat < 6) && f.rsv == 0, reads := [.q f.qn, .special 9], writes := [.d f.rd] } fun r =>
    let x := (r.qval f.qn.toFin).round (r.rounding f.rnd)
    (x.flags, r.setD f.rd (BitVec.ofNat 64 x.val))

end Sys2Proof.Machine
end

