-- ==== Sys2Proof/Machine/Address.lean ====
section
/-!
DEFINITION. Address instructions, class 2h (07 R212, R251, R252).
-/

namespace Sys2Proof

open Machine

/-! ### Decode rules, and the registers an instruction reads and writes -/

/-- AR format with a scaled AB. -/
def ARFmt.info (f : ARFmt) : Info where
  fieldsOk := f.rsv == 0
  reads := [.a f.aa, .a f.ab]
  writes := [.a f.ad]

end Sys2Proof

namespace Sys2Proof.Machine

/-- ADDA: IMM14 counts bytes. -/
def execAdda (i : StreamId) (f : AFmt) (s : State) : Host.Outcome State Fault Refusal :=
  s.compute i { reads := [.a f.aa], writes := [.a f.ad] } fun r => r.setA f.ad (r.getA f.aa + simm f.imm)

/-- ADDAR. -/
def execAddar (i : StreamId) (f : ARFmt) (s : State) : Host.Outcome State Fault Refusal :=
  s.compute i f.info fun r => r.setA f.ad (r.getA f.aa + (r.getA f.ab <<< f.sc.toNat))

/-- SUBAR. -/
def execSubar (i : StreamId) (f : ARFmt) (s : State) : Host.Outcome State Fault Refusal :=
  s.compute i f.info fun r => r.setA f.ad (r.getA f.aa - (r.getA f.ab <<< f.sc.toNat))

/-- MOVAD: AA must be 0. -/
def execMovad (i : StreamId) (f : AXFmt) (s : State) : Host.Outcome State Fault Refusal :=
  s.compute i { fieldsOk := f.aa == 0 && f.rsv == 0, reads := [.d f.rx], writes := [.a f.ad] } fun r =>
    r.setA f.ad (r.getD f.rx)

/-- MOVDA: AD must be 0. -/
def execMovda (i : StreamId) (f : AXFmt) (s : State) : Host.Outcome State Fault Refusal :=
  s.compute i { fieldsOk := f.ad == 0 && f.rsv == 0, reads := [.a f.aa], writes := [.d f.rx] } fun r =>
    r.setD f.rx (r.getA f.aa)

/-- CMPA: AD and SC must be 0 (07 R217). -/
def execCmpa (i : StreamId) (f : ARFmt) (s : State) : Host.Outcome State Fault Refusal :=
  s.compute i { fieldsOk := f.ad == 0 && f.sc == 0 && f.rsv == 0, reads := [.a f.aa, .a f.ab], writes := [.special 1] } fun r =>
    { r with cc := ccSub (r.getA f.aa) (r.getA f.ab) }

/-- LEAPC: its own address plus IMM14 words; AA must be 0. -/
def execLeapc (i : StreamId) (f : AFmt) (s : State) : Host.Outcome State Fault Refusal :=
  s.compute i { fieldsOk := f.aa == 0, reads := [.special 0], writes := [.a f.ad] } fun r =>
    r.setA f.ad (r.pc + swords f.imm)

end Sys2Proof.Machine
end

