-- ==== Sys2Proof/Machine/DeskPort.lean ====
section
/-!
DEFINITION. The desks' DMA port: line accesses that wait there, how one is served, and what of an excursion's the stop completes (05 R162-R166,
R172; 06 R196, R198).
-/

namespace Sys2Proof.Machine

/-- The bytes that a masked line writes, with their offsets. -/
def maskedBytes (off : Nat) : List (Option Byte) → List (Nat × Byte)
  | [] => []
  | none :: r => maskedBytes (off + 1) r
  | some b :: r => (off, b) :: maskedBytes (off + 1) r

/-- A DMA write of a line with byte enables: a whole word clears its error, a part of one merges (05 R162). -/
def Slot.writeLine (x : Slot) (off : Nat) (bs : List (Option Byte)) : Slot :=
  let ws := (maskedBytes off bs).map fun e => e.1 / 8
  let whole := (upFrom (off / 8) 8).filter fun w => decide (8 ≤ (ws.filter (· == w)).length)
  let part := (upFrom (off / 8) 8).filter fun w => ws.contains w && !whole.contains w
  let (d, wt, _) := x.desk.noteWords part
  let d := { d with
    mem := d.mem.writeMasked off bs
    bad := d.bad.filter fun w => !whole.contains w
    soft := d.soft.filter fun w => !ws.contains w }
  let x := { x with desk := d, weight := x.weight + wt }
  if ws.isEmpty then x else x.clearDeskResv off 64

/-- Energy that an excursion's line or block access adds (06 R196). -/
def State.meterEngine (s : State) (e : Fin 2) (pJ : Nat) : State :=
  s.modClient (.engine e) fun c => c.meter s.now pJ

/-- A local block that an excursion accesses; the second access of reconstruction mode counts nothing (06 R196; 10 R303). -/
def State.meterBlock (s : State) (e : Fin 2) (b : Nat) : State :=
  let t := s.meterEngine e 1300
  if s.reconstructing b then t.modClient (.engine e) fun c => c.meterOnly 1300 else t

/-- A near block of a near-to-far excursion goes to far memory, as poison when it reads uncorrectable (05 R172). -/
def State.sendFar (s : State) (e : Fin 2) (r : Run) (j : Nat) (bs : List Byte) (bad : Bool) : State :=
  let s := { s with out := s.out ++ [Output.farWrite e (r.adm.b.far - 0x4000000000 + 64 * j) (if bad then [] else bs) bad] }
  s.modRun (.engine e) fun r => { r with blocks := r.blocks + 1, poison := r.poison || bad }

/-- A line access is served: a write writes its enabled bytes, and a read answers, with a data error when a word is uncorrectable (05 R166). A line
that an excursion writes, or sends to far memory, counts as moved. -/
def State.serveLine (s : State) (k : SlotId) (l : DmaPending) : State :=
  match l.write with
  | some bs =>
    let s := s.modSlot k fun x => x.writeLine l.off bs
    match l.engine with
    | some e => (s.modRun (.engine e) fun r => { r with blocks := r.blocks + 1 }).meterEngine e 40
    | none => s
  | none =>
    let (bs, bad, s) := s.readDesk k l.off 64
    match l.engine with
    | some e =>
      let s := s.meterEngine e 40
      match (s.client (.engine e)).run with
      | some r => if r.adm.b.nearToFar then s.sendFar e r ((l.off - r.adm.b.near % 0x400000) / 64) bs bad.isSome else s
      | none => s
    | none => { s with out := s.out ++ [.response (if bad.isSome then .poisoned else .ok) (if bad.isSome then [] else bs)] }

/-- The lines of engine `e` leave the DMA ports at a stop: writes that were issued complete, and reads are dropped (06 R198 step 3). -/
def State.drainLines (s : State) (e : Fin 2) : State :=
  (List.finRange 68).foldl (fun (s : State) k =>
    let d := (s.slot k).desk
    if d.dma.any fun l => l.engine == some e then
      let mine := d.dma.filter fun l => l.engine == some e && l.write.isSome
      let s := s.modSlot k fun x => { x with desk := { x.desk with dma := x.desk.dma.filter fun l => l.engine != some e } }
      mine.foldl (fun (s : State) l => s.serveLine k l) s
    else s) s

end Sys2Proof.Machine
end

