-- ==== Sys2Proof/Machine/Repair.lean ====
section
/-!
DEFINITION. Sparing: the maps, how a retirement is decided and what it leads to at a bell (01 R14-R21; 06 R204, R205; 10 R293-R310; 12 R366).
-/

namespace Sys2Proof

open Machine

/-- The repair-map record of a unit (12 R366). -/
def UnitRef.entry (u : UnitRef) (spare flags : Byte) (period : BitVec 48) : RepairRec :=
  let t (k : SlotId) : Byte := BitVec.ofNat 8 (k.val / 17)
  let j (k : SlotId) : Byte := BitVec.ofNat 8 (k.val % 17)
  let w := period.zeroExtend 64
  match u with
  | .lane k l => ⟨1, t k, j k, BitVec.ofNat 8 l.val, spare, flags, w⟩
  | .slot k => ⟨2, t k, j k, 0, spare, flags, w⟩
  | .bank p b => ⟨3, BitVec.ofNat 8 p.val, BitVec.ofNat 8 b.val, 0, spare, flags, w⟩
  | .port p => ⟨4, BitVec.ofNat 8 p.val, 0, 0, spare, flags, w⟩

end Sys2Proof

namespace Sys2Proof.Machine

/-! ### Units of a record -/

def slotAt (t j : Nat) : Option SlotId := if h : t < 4 ∧ j < 17 then some ⟨17 * t + j, by omega⟩ else none
def portAt (p : Nat) : Option PortId := if h : p < 32 then some ⟨p, h⟩ else none

/-- The unit a record names (12 R366); `none` for a unit that does not exist. -/
def RepairRec.unit (r : RepairRec) : Option UnitRef :=
  let s := slotAt r.unit1.toNat r.unit2.toNat
  let p := portAt r.unit1.toNat
  if r.kind = 1 then s.bind fun k => if h : r.unit3.toNat < 66 then some (.lane k ⟨_, h⟩) else none
  else if r.kind = 2 then s.map .slot
  else if r.kind = 3 then p.bind fun p => if h : r.unit2.toNat < 128 then some (.bank p ⟨_, h⟩) else none
  else if r.kind = 4 then p.map .port
  else none

/-- A spare's number in a record, below `n`. -/
def spareNo (n : Nat) (b : Byte) : Option (Fin n) := if h : b.toNat < n then some ⟨_, h⟩ else none

/-! ### The maps (01 R14) -/

/-- A lane is retired; the spare takes its logical number. -/
def Slot.retireLane (x : Slot) (l : Fin 66) (spare : Option (Fin 66)) : Slot :=
  { x with
    laneRet := x.laneRet ||| (1#66 <<< l.val)
    laneMap := match spare with
      | some n => x.laneMap.map fun m => if m = l then n else m
      | none => x.laneMap }

/-- Port ladder state of the map in force (01, the port ladder). -/
def State.ladderOf (s : State) : Ladder :=
  let spare := (List.finRange 32).any fun p => s.ports[p].state == .spare
  if s.repair.portMap.length = 29 then (if spare then .c else .d)
  else if s.repair.portMap.length = 31 then (if spare then .a else .b)
  else .ended

/-- States and logical numbers of the port controllers under a port map (01 R24). -/
def State.setPortMap (s : State) (m : List PortId) : State :=
  let ports := Vector.ofFn fun (p : Fin 32) =>
    let x := s.ports[p]
    match m.findIdx? (· == p) with
    | some l => { x with
        state := if x.state = .source ∨ x.state = .retired then x.state else .active
        logical := if x.state = .retired then 0 else BitVec.ofNat 5 l }
    | none => { x with state := if x.state = .retired then .retired else .spare, logical := 0 }
  let s := { s with ports := ports, repair := { s.repair with portMap := m } }
  { s with repair := { s.repair with ladder := if s.repair.ladder = .ended then .ended else s.ladderOf } }

/-- A bank is retired; the spare takes its logical number when the record names one, and a spare that is retired is none any more. -/
def Port.retireBank (x : Port) (b : Fin 128) (spare : Option (Fin 128)) : Port :=
  { x with
    bankRetired := if x.bankRetired.contains b then x.bankRetired else x.bankRetired ++ [b]
    bankMap := match spare with
      | some n => x.bankMap.map fun m => if m = b then n else m
      | none => x.bankMap
    spareBank := if spare.isSome ∨ x.spareBank.toNat = b.val then 0xFF else x.spareBank
    retBank := if x.retBank = 0xFF then BitVec.ofNat 8 b.val else x.retBank }

/-- What a port's retirement does to the port map: its spare, the 29-port remap, or the end of the ladder (01 R19). -/
def State.retirePort (s : State) (p : PortId) (spare : Option PortId) (lost : Bool) : State :=
  let mapped := s.repair.portMap.contains p
  let s := s.modPort p fun x => { x with state := .retired, logical := 0, lost := x.lost || lost }
  match spare with
  | some n => s.setPortMap (s.repair.portMap.map fun m => if m = p then n else m)
  | none =>
    if !mapped then s.setPortMap s.repair.portMap
    else
      let ok := (List.finRange 32).filter fun q => s.ports[q].state != .retired
      if s.repair.portMap.length = 31 ∧ 29 ≤ ok.length then s.setPortMap (ok.take 29)
      else { s with repair := { s.repair with ladder := .ended } }

/-- The substitution of one record takes effect (01 R14, R15). The periods without a lesson are the Stream's, so its new slot counts on from them (05
R167). -/
def State.applyRecord (s : State) (r : RepairRec) : State :=
  match r.unit with
  | none => s
  | some (.lane k l) => s.modSlot k fun x => x.retireLane l (spareNo 66 r.spare)
  | some (.slot k) =>
    let sp := slotAt r.unit1.toNat r.spare.toNat
    let s := (s.drainStores k).modSlot k fun x => { x with retired := true }
    let idle := (s.slot k).desk.idlePeriods
    let s := match sp with
      | some n => s.modSlot n fun x => { x with desk := { x.desk with idlePeriods := idle } }
      | none => s
    { s with repair := { s.repair with serving := s.repair.serving.map fun o => if o = some k then sp else o } }
  | some (.bank p b) => s.modPort p fun x => x.retireBank b (spareNo 128 r.spare)
  | some (.port p) => s.retirePort p (portAt r.spare.toNat) (r.flags.getLsbD 0)

/-- The maps of a release: the factory retirements by the ascending rule, then the field records in order (01 R14). -/
def State.buildMaps (s : State) (field : List RepairRec) : State :=
  let fac := s.fuses.factory.filterMap RepairRec.unit
  let slots := Vector.ofFn fun (k : Fin 68) =>
    let lanes := (List.finRange 66).filter fun l => !fac.contains (.lane k l)
    let ret := (List.finRange 66).foldl (fun (w : BitVec 66) l => if fac.contains (.lane k l) then w ||| (1#66 <<< l.val) else w) 0
    { s.slots[k] with
      retired := fac.contains (.slot k)
      laneRet := ret
      laneMap := Vector.ofFn fun (i : Fin 64) => lanes.getD i.val 0 }
  let serving := Vector.ofFn fun (i : Fin 64) =>
    ((List.finRange 68).filter fun k => k.val / 17 == i.val / 16 && !fac.contains (.slot k))[i.val % 16]?
  let ports := Vector.ofFn fun (p : Fin 32) =>
    let bad := (List.finRange 128).filter fun b => fac.contains (.bank p b)
    let good := (List.finRange 128).filter fun b => !fac.contains (.bank p b)
    { s.ports[p] with
      state := if fac.contains (.port p) then .retired else .spare
      lost := false
      bankRetired := bad
      bankMap := Vector.ofFn fun (i : Fin 127) => good.getD i.val 0
      spareBank := match good[127]? with | some b => BitVec.ofNat 8 b.val | none => 0xFF
      retBank := match bad.head? with | some b => BitVec.ofNat 8 b.val | none => 0xFF }
  let ok := (List.finRange 32).filter fun p => !fac.contains (.port p)
  let s := { s with
    slots := slots
    ports := ports
    repair := { s.repair with serving := serving, standIn := Vector.replicate 64 none, ladder := .a } }
  let s := s.setPortMap (if 31 ≤ ok.length then ok.take 31 else ok.take 29)
  let s := field.foldl State.applyRecord s
  { s with repair := { s.repair with field := field } }

/-! ### Spares (01 R17) -/

/-- Whether a unit is retired, or its retirement is decided. -/
def State.unitRetired (s : State) (u : UnitRef) : Bool :=
  s.repair.subs.any (fun b => b.unit == u)
  || match u with
    | .lane k l => (s.slot k).laneRet.getLsbD l.val
    | .slot k => (s.slot k).retired
    | .bank p b => s.ports[p].bankRetired.contains b || s.repair.trips.any fun t => t.kind == 1 && t.srcPort == p && t.srcBank == some b
    | .port p => s.ports[p].state == .retired || s.repair.trips.any fun t => t.kind != 1 && t.srcPort == p

/-- A lane that takes over a logical number at a bell to come. -/
def State.promisedLane (s : State) (k : SlotId) (l : Fin 66) : Bool :=
  s.repair.subs.any fun b => b.spare == some l.val && (match b.unit with | .lane k' _ => k' == k | _ => false)

/-- The slot that a waiting substitution names as its spare. -/
def Substitution.spareSlot (b : Substitution) : Option SlotId :=
  match b.unit, b.spare with
  | .slot k, some j => slotAt (k.val / 17) j
  | _, _ => none

/-- The slot that serves in place of slot `k` once the substitutions that wait have taken effect, a spare that retires itself included; `n` bounds
their number (01 R17, R18). -/
def State.heir (s : State) : Nat → SlotId → Option SlotId
  | 0, k => some k
  | n + 1, k =>
    match s.repair.subs.find? fun b => b.unit == .slot k with
    | none => some k
    | some b => b.spareSlot.bind (s.heir n)

/-- The logical Stream that slot `k` serves, or takes over at a bell to come. -/
def State.willServeBy (s : State) (k : SlotId) : Option StreamId :=
  match s.streamOf k with
  | some i => some i
  | none => (s.repair.subs.find? fun b => b.spareSlot == some k).bind fun b =>
    match b.unit with
    | .slot k' => (List.finRange 64).find? fun i => s.repair.serving[i] == some k'
    | _ => none

/-- A port that a field trip to come, or the one that runs, makes active. -/
def State.promisedPort (s : State) (p : PortId) : Bool := s.repair.trips.any fun t => t.kind == 2 && t.spare == some p.val

/-- Spare lanes of a slot, ascending. -/
def State.spareLanes (s : State) (k : SlotId) : List (Fin 66) :=
  (List.finRange 66).filter fun l =>
    !s.unitRetired (.lane k l) && !((s.slot k).laneMap.toList.contains l) && !s.promisedLane k l

/-- Spare slots of tile `t`, ascending. -/
def State.spareSlots (s : State) (t : Nat) : List SlotId :=
  (List.finRange 68).filter fun k =>
    k.val / 17 == t && !s.unitRetired (.slot k) && !s.repair.serving.toList.contains (some k) && !s.repair.standIn.toList.contains (some k)
    && !s.repair.subs.any fun b => b.spareSlot == some k

/-- Port spares that no queued field trip takes. -/
def State.sparePorts (s : State) : List PortId :=
  (List.finRange 32).filter fun p =>
    s.ports[p].state == .spare && !s.unitRetired (.port p) && !s.promisedPort p

def Ladder.advance : Ladder → Ladder
  | .a => .b
  | .b => .c
  | .c => .d
  | .d => .ended
  | .ended => .ended

/-- The ladder state that a further port retirement counts from: the one that the field trips and retirements decided before it lead to. 10 R306 says
so of a state-A field trip; for a rebuild and a state-C field trip the spec says nothing, and the model does the same, DESIGN CHOICE (log 152). -/
def State.ladderAhead (s : State) : Ladder :=
  let l := s.repair.trips.foldl (fun (l : Ladder) t => if t.kind = 1 then l else l.advance) s.repair.ladder
  s.repair.subs.foldl (fun (l : Ladder) b => match b.unit with | .port _ => l.advance | _ => l) l

/-! ### Deciding a retirement (06 R204, R205; 10 R293-R296, R306) -/

/-- The highest period that holds an admitted booking, and at least the next one (06 R205). -/
def State.lastCommitted (s : State) : Nat := s.tt.admitted.foldl (fun m a => max m a.period) (s.tt.bellNum.toNat + 1)

/-- Records decided go to the flash repair map while it has room and no device fails (01 R15, 10 R309). The spec does not say when this write fails; here
it does while 9000h/03h shows a failed device, and then writes the other one neither: DESIGN CHOICE (log 169). -/
def State.saveRecords (s : State) : State :=
  if s.mgmt.failA || s.mgmt.failB then s
  else
    let now := s.repair.toSave.take (512 - s.flash.field.length)
    let next := (s.flash.fieldA ++ s.flash.fieldB ++ s.flash.kept).foldl (fun m e => max m (e.1 + 1)) 0
    let copies := (upFrom next now.length).zip now
    { s with
      flash := { s.flash with
        field := s.flash.field ++ now
        fieldA := s.flash.fieldA ++ copies
        fieldB := s.flash.fieldB ++ copies }
      repair := { s.repair with toSave := s.repair.toSave.drop now.length } }

/-- 3000h/06h: a substitution in effect is not in flash, or with the main rails off, one of the last run (01 R15, R25). -/
def State.unsaved (s : State) : Bool :=
  if s.power.phase = .run then s.repair.field.any fun r => s.repair.toSave.contains r else !s.repair.toSave.isEmpty

/-- The retirement of a unit is recorded, and event 420 occurs. -/
def State.noteDecision (s : State) (e : RepairRec) : State :=
  ({ s with repair := { s.repair with toSave := s.repair.toSave ++ [e] } }).saveRecords.raise 420

/-- A retirement that takes effect at the next bell (01 R16). -/
def State.pushSub (s : State) (u : UnitRef) (spare : Option Nat) (flags : Byte) : State :=
  let e := u.entry (match spare with | some n => BitVec.ofNat 8 n | none => 0xFF) flags s.tt.bellNum
  let s := s.noteDecision e
  { s with repair := { s.repair with subs := s.repair.subs ++ [⟨u, spare, s.clk, e⟩] } }

/-- A lesson that a retirement stopped at `at_` is reported: EXCUSED when its Stream was in debug monitor mode, else FAULT-MISSED with cause 01h
(06 R204, R207). -/
def State.missRerun (s : State) (c : Client) (r : Run) (at_ : Nat) : State :=
  (s.pushRecord (s.recordAt c r (if r.excused then 3 else 4) (if r.excused then 0 else 1) at_)).modClient c fun x =>
    { x with rerun := none, nextStart := max (at_ + 400) s.now }

/-- The running lesson of a Stream whose slot retires stops; it waits for a re-run or, without a spare, is reported (06 R204). -/
def State.stopForRetirement (s : State) (i : StreamId) (k : SlotId) (spare : Option SlotId) : State :=
  let c := Client.stream i
  let x := s.client c
  let s := if x.run.isSome then s.stopSlot k .quiet else s
  let x := s.client c
  match spare with
  | none =>
    let s := match x.rerun with
      | some (r, at_) => s.missRerun c r at_
      | none => s.endRun c 4 1
    s.modClient c fun x => { x with lostCause := some 1, copy := none }
  | some n => s.modClient c fun x => { x with
      run := none
      rerun := match x.run with
        | some r => some (r, s.now)
        | none => x.rerun
      copy := some (k, n) }

/-- A Stream slot's retirement (06 R204; 10 R302). -/
def State.decideSlot (s : State) (k : SlotId) (flags : Byte) : State :=
  if s.unitRetired (.slot k) then s
  else
    match s.willServeBy k with
    | none => s.pushSub (.slot k) none flags
    | some i =>
      match s.spareSlots (k.val / 17) with
      | [] => (s.stopForRetirement i k none).pushSub (.slot k) none flags
      | n :: _ => (s.stopForRetirement i k (some n)).pushSub (.slot k) (some (n.val % 17)) flags

/-- A lane's retirement, and whether its slot retires with it for want of a spare lane (01 R17; 10 R293). A spare that is promised a logical
number and retires is itself replaced by the next. -/
def State.laneStep (s : State) (k : SlotId) (l : Fin 66) (flags : Byte) : State × Bool :=
  if s.unitRetired (.lane k l) then (s, false)
  else if !((s.slot k).laneMap.toList.contains l) && !s.promisedLane k l then (s.pushSub (.lane k l) none flags, false)
  else
    match s.spareLanes k with
    | [] => (s.pushSub (.lane k l) none flags, true)
    | n :: _ => (s.pushSub (.lane k l) (some n.val) flags, false)

def State.decideLane (s : State) (k : SlotId) (l : Fin 66) (flags : Byte) : State :=
  match s.laneStep k l flags with
  | (s, true) => s.decideSlot k flags
  | (s, false) => s

/-- The progress log in the work area follows the field trips (01 R13; 13 R394). -/
def State.logTrips (s : State) : State := { s with work := { s.work with log := s.repair.trips } }

/-- A field trip joins the queue; periods past `c` have a degraded class (06 R205). -/
def State.queueTrip (s : State) (kind : Nat) (p : PortId) (b : Option (Fin 128)) (spare : Option Nat) (total : Nat) (lost : Bool)
    (e : RepairRec) : State :=
  let c := s.lastCommitted
  let r := s.repair
  let least (o : Option Nat) : Option Nat := match o with | some x => some (min x c) | none => some c
  ({ s with repair := { r with
    trips := r.trips ++ [⟨kind, p, b, spare, total, 0, 0, c + 1, none, lost, e⟩]
    degradedAfter := least r.degradedAfter
    rebuildAfter := if kind = 3 then least r.rebuildAfter else r.rebuildAfter
    withdrawAt := if kind = 3 then some (c + 1) else r.withdrawAt } } : State).logTrips

def bankBlocks : Nat := 983040
def portBlocks : Nat := 983040 * 127
def rebuildBlocks : Nat := 3620322706
def stageBlocks : Nat := 55245
/-- The first block of the staging area (05 R150). -/
def stagingBase : Nat := 3870000134

/-- The port spare that takes over from port `p`: one that no trip takes, else the highest-numbered port, which the rebuild ahead of it makes the
spare. It is none when `p` is that port itself: it holds nothing after the rebuild, and its field trip copies nothing (01 R19; log 152). -/
def State.portSpareFor (s : State) (p : PortId) : Option PortId :=
  match s.sparePorts with
  | n :: _ => some n
  | [] => (((List.finRange 32).filter fun q => !s.unitRetired (.port q)).getLast?).filter (· != p)

/-- A port's retirement, by the ladder state it counts from (01 R19, R20; 10 R306). The target of a field trip that is queued or runs counts as
the port it becomes; the retirement that ends the ladder takes effect at the next bell. -/
def State.decidePort (s : State) (p : PortId) (flags : Byte) (lost : Bool) : State :=
  if s.unitRetired (.port p) then s
  else
    let flags := if lost then flags ||| 1 else flags
    let s := if lost then { s.modPort p (fun x => { x with lost := true }) with repair := { s.repair with lostSince := true } } else s
    if !s.repair.portMap.contains p && !s.promisedPort p then s.pushSub (.port p) none flags
    else
      match s.ladderAhead with
      | .b =>
        let e := (UnitRef.port p).entry 0xFF flags s.tt.bellNum
        (s.noteDecision e).queueTrip 3 p none none (rebuildBlocks + stageBlocks) lost e
      | .d | .ended =>
        let s := s.pushSub (.port p) none flags
        { s with repair := { s.repair with endAtBell := true } }
      | _ =>
        match s.portSpareFor p with
        | some n =>
          let e := (UnitRef.port p).entry (BitVec.ofNat 8 n.val) flags s.tt.bellNum
          (s.noteDecision e).queueTrip 2 p none (some n.val) portBlocks lost e
        | none =>
          let e := (UnitRef.port p).entry 0xFF flags s.tt.bellNum
          (s.noteDecision e).queueTrip 2 p none none 0 lost e

/-- Whether the bank spare of port `p` is promised to a field trip. -/
def State.bankPromised (s : State) (p : PortId) : Bool := s.repair.trips.any fun t => t.kind == 1 && t.srcPort == p

/-- Whether the bank spare of port `p` is retired at a bell to come. -/
def State.bankSpareGoes (s : State) (p : PortId) : Bool :=
  s.repair.subs.any fun u => (match u.unit with | .bank q c => q == p && s.ports[p].spareBank.toNat == c.val | _ => false)

/-- A bank's retirement, and whether its port retires with it for want of a bank spare; the bank spare of the same port takes over by a field trip,
on a port spare too (01 R17, R18; 10 R306). -/
def State.bankStep (s : State) (p : PortId) (b : Fin 128) (flags : Byte) : State × Bool :=
  let x := s.ports[p]
  let spare := some x.spareBank.toNat
  if s.unitRetired (.bank p b) then (s, false)
  else if s.unitRetired (.port p) then (s.pushSub (.bank p b) none flags, false)
  else if x.spareBank.toNat = b.val then (s.pushSub (.bank p b) none flags, s.bankPromised p)
  else if x.spareBank = 0xFF || s.bankPromised p || s.bankSpareGoes p then (s.pushSub (.bank p b) none flags, true)
  else
    let e := (UnitRef.bank p b).entry x.spareBank flags s.tt.bellNum
    ((s.noteDecision e).queueTrip 1 p (some b) spare bankBlocks false e, false)

def State.decideBank (s : State) (p : PortId) (b : Fin 128) (flags : Byte) : State :=
  match s.bankStep p b flags with
  | (s, true) => s.decidePort p flags false
  | (s, false) => s

/-- The retirement of a unit is decided. -/
def State.decideUnit (s : State) (u : UnitRef) (flags : Byte) (lost : Bool := false) : State :=
  match u with
  | .lane k l => s.decideLane k l flags
  | .slot k => s.decideSlot k flags
  | .bank p b => s.decideBank p b flags
  | .port p => s.decidePort p flags lost

/-! ### The desk copy (10 R302) -/

/-- The retired slot's desk is copied to the spare; a word that fails SECDED reads back as a double-bit error. -/
def State.copyDesk (s : State) (k n : SlotId) : State :=
  let s := s.drainStores k
  let d := (s.slot k).desk
  s.modSlot n fun x => { x with desk := { x.desk with mem := d.mem, bad := d.bad, soft := [] } }

/-! ### What takes effect at a bell (01 R16, R17, R19, R20; 06 R205) -/

/-- The records decided so far, in the order of recording (12 R366). -/
def State.recorded (s : State) : List RepairRec := s.flash.field ++ s.repair.toSave

/-- The record of a substitution in effect joins the field list, which keeps the order of recording; event 432 when the repair map becomes
unsaved (01 R15; 12 R366). -/
def State.listRecord (s : State) (e : RepairRec) : State :=
  let was := s.unsaved
  let all := s.repair.field ++ [e]
  let order := s.recorded
  let s := { s with repair := { s.repair with
    field := order.filter (fun r => all.contains r) ++ all.filter (fun r => !order.contains r) } }
  if !was && s.unsaved then s.raise 432 else s

def State.inEffect (s : State) (e : RepairRec) : State := (s.applyRecord e).listRecord e

/-- A waiting substitution takes effect. A port that serves has no spare: the ladder ends with it (01 R19). -/
def State.applySub (s : State) (b : Substitution) : State :=
  match b.unit with
  | .port p =>
    if s.repair.portMap.contains p || s.promisedPort p then
      let s := s.modPort p fun x => { x with state := .retired, logical := 0 }
      ({ s with repair := { s.repair with ladder := .ended, endAtBell := false } } : State).listRecord b.entry
    else s.inEffect b.entry
  | _ => s.inEffect b.entry

/-- The substitutions that were decided before the clk of this bell take effect; the others wait for the next (01 R16). -/
def State.applySubs (s : State) : State :=
  let (now, later) := s.repair.subs.partition fun b => decide (b.clk < s.clk)
  let stays (k : SlotId) : Bool := later.any fun b => b.spareSlot == some k
  let s := (List.finRange 64).foldl (fun (s : State) i =>
    match (s.client (.stream i)).copy with
    | some (k, n) => if stays n then s else (s.copyDesk k n).modClient (.stream i) fun c => { c with copy := none }
    | none => s) s
  let s := { s with repair := { s.repair with
    subs := later
    standIn := s.repair.standIn.map fun o => o.filter stays } }
  now.foldl State.applySub s

/-- The field trip at the head that has moved every block completes at this bell. -/
def State.finishTrip (s : State) : State :=
  match s.repair.trips with
  | t :: ts =>
    if t.began.isSome ∧ t.total ≤ t.moved then
      let s := s.inEffect t.entry
      let last := ts.isEmpty
      let r := s.repair
      ({ s with repair := { r with
        trips := ts
        degradedAfter := if last then none else r.degradedAfter
        rebuildAfter := if ts.any (fun u => u.kind == 3) then r.rebuildAfter else none
        withdrawAt := if t.kind = 3 then none else r.withdrawAt
        withdrawn := if t.kind = 3 then false else r.withdrawn } } : State).logTrips
    else s
  | [] => s

/-- The next field trip begins in this recess when its time has come; event 421. One that copies nothing ends with that; event 422 (08 R274). -/
def State.beginTrip (s : State) (n : Nat) : State :=
  match s.repair.trips with
  | t :: ts =>
    if t.began.isNone ∧ t.notBefore ≤ n then
      let s := (({ s with repair := { s.repair with trips := { t with began := some n } :: ts } }).logTrips).raise 421
      if t.total = 0 then s.raise 422 else s
    else s
  | [] => s

/-- Port controllers show the retirements decided (01 R24; 10, the worked example). -/
def State.showSources (s : State) : State :=
  s.repair.trips.foldl (fun (s : State) t =>
    s.modPort t.srcPort fun x =>
      if t.kind = 1 then { x with retBank := match t.srcBank with | some b => BitVec.ofNat 8 b.val | none => x.retBank }
      else { x with state := .source }) s

/-- Memory whose contents between the 29-port and the 31-port visible range are lost: they read as free values (01 R20; log 142). -/
def Mem.withdraw (m : Mem) (draw : Nat) : Mem :=
  ⟨if m.epoch = 0 then 2 * draw + 1 else m.epoch, m.cells.filter fun c => decide (c.1 < visible29 ∨ visible31 ≤ c.1)⟩

/-- The withdrawal takes effect at bell `n` when its time has come, and the contents of the withdrawn range are lost (01 R20). -/
def State.withdraw (s : State) (n : Nat) : State :=
  match s.repair.withdrawAt with
  | some w =>
    if n < w ∨ s.repair.withdrawn then s
    else
      let (d, s) := s.draw
      { s with
        mem := { s.mem with mem := s.mem.mem.withdraw d }
        repair := { s.repair with withdrawn := true } }
  | none => s

/-- What sparing does at bell `n`. -/
def State.repairBell (s : State) (n : Nat) : State :=
  ((s.applySubs.finishTrip.beginTrip n).showSources).withdraw n

/-! ### What the map registers show (01 R22-R24) -/

def b2n (b : Bool) : Nat := if b then 1 else 0

/-- A 64-bit word from fields at their low bits. -/
def pack (fs : List (Nat × Nat)) : Word64 := BitVec.ofNat 64 (fs.foldl (fun n f => n + f.1 * 2 ^ f.2) 0)

def PortState.code : PortState → Nat
  | .unreleased => 0
  | .active => 0
  | .spare => 1
  | .retired => 2
  | .source => 3

/-- Spare lanes of a slot as the maps in force show them (01 R22, R25). -/
def Slot.lanesLeft (x : Slot) : Nat :=
  ((List.finRange 66).filter fun l => !x.laneRet.getLsbD l.val && !x.laneMap.toList.contains l).length

/-- STREAM.PHYS (01 R22): the map in force, which a stand-in does not change before the bell (06 R204). -/
def State.physWord (s : State) (k : SlotId) : Word64 :=
  let x := s.slot k
  let mine := (List.finRange 64).find? fun i => s.repair.serving[i] == some k
  let st := match mine with
    | some _ => 0
    | none => if s.repair.portMap.isEmpty then 0 else if x.retired then 2 else 1
  let logical := match mine with
    | some i => i.val
    | none => 0
  pack [(st, 24), (logical, 18), (k.val / 17, 16), (k.val % 17, 11), (if s.repair.portMap.isEmpty then 0 else x.lanesLeft, 9)]

/-- PORT.MAPSTAT (01 R24). -/
def Port.mapWord (x : Port) : Word64 := pack [(x.state.code, 30), (x.logical.toNat, 25), (x.spareBank.toNat, 8), (x.retBank.toNat, 0)]

/-- What the map registers and the bell registers read in the clk of a bell that rings now (01 R24; 06 R184). -/
def State.bellBefore (s : State) : BellBefore where
  clk := s.clk
  bellNum := s.tt.bellNum
  pclk := s.tt.pclk
  phys := Vector.ofFn s.physWord
  laneRet := s.slots.map Slot.laneRet
  mapstat := s.ports.map Port.mapWord

end Sys2Proof.Machine
end

