-- ==== Sys2Proof/Machine/Time.lean ====
section
/-!
DEFINITION. Time: what the passing of clk alone does (05 R157; 06 R181-R184; 08 R269; log 2, 3).
-/

namespace Sys2Proof.Machine

/-- `n` clk of a watchdog that counts (08 R269; 14 R414): it stays at 0 until its expiry is commanded. -/
def Slot.watchdogTick (x : Slot) (n : Nat) : Slot :=
  let stopped := x.wd.mode = 0 ∨ x.status = .quiet ∨ x.status = .checkstopped ∨ (x.status = .monitor ∧ x.dbg.wdpause)
  if stopped then x
  else
    let t := x.wd.phase + n
    { x with wd := { x.wd with count := BitVec.ofNat 24 (x.wd.count.toNat - t / 64), phase := t % 64 } }

/-- A desk that has been entering retention for 200 clk is in retention (05 R167: at most 200 clk; log 143). -/
def Slot.settleRetention (x : Slot) (now : Nat) : Slot :=
  if x.desk.power = .entering ∧ 200 ≤ now then { x with desk := { x.desk with power := .retention } } else x

/-- A clk ends: what hardware has set or added in it is no longer of the current clk (00 R6, R7). -/
def Slot.endClk (x : Slot) : Slot :=
  { x with
    setNow := SetNow.none
    eng := { x.eng with raIssued := x.eng.raIssued.tick, raDropped := x.eng.raDropped.tick }
    desk := { x.desk with ce := x.desk.ce.tick, ue := x.desk.ue.tick }
    dbg := { x.dbg with entries := x.dbg.entries.tick, bkptNop := x.dbg.bkptNop.tick } }

def Port.endClk (x : Port) : Port :=
  { x with edcRd := x.edcRd.tick, edcWr := x.edcWr.tick, corr := x.corr.tick, uncorr := x.uncorr.tick }

def QueuePair.endClk (x : QueuePair) : QueuePair := { x with fullw := x.fullw.tick, drop := x.drop.tick, renewed := false }

/-- Whether the Stream is in debug monitor mode. -/
def State.inMonitor (s : State) (i : StreamId) : Bool :=
  match s.slotOf i with
  | some k => (s.slot k).status == .monitor
  | none => false

/-- Whether every new booking is declined with HELD (06 R178; 13 R384, R390). -/
def State.admissionHeld (s : State) : Bool :=
  s.tt.held || s.bist.running || s.power.warmPending || s.power.standbyPending

/-- What a decision of the next clk sees of the module (06 R188). -/
def State.decisionView (s : State) : DecisionView where
  repair := s.repair
  pAdm10 := s.tt.pAdm10
  held := s.admissionHeld
  farLatency := s.mgmt.rwp.farLatency
  link := s.xp.link
  mapped := s.xp.mapped
  monitored := (List.finRange 64).filter s.inMonitor
  params := s.tt.params
  queues := s.host.pairs.map fun x => ⟨x.state == .running, x.sqHead, x.sqTail⟩
  sqMem := s.host.sqMem

/-- The clk ends in every unit. -/
def State.endClk (s : State) : State :=
  { s with
    slots := s.slots.map Slot.endClk
    ports := s.ports.map Port.endClk
    tt := { s.tt with rej := s.tt.rej.tick, view := s.decisionView }
    host := { s.host with pairs := s.host.pairs.map QueuePair.endClk }
    sm := { s.sm with errNow := none } }

/-- `n` clk pass in the main domain: what they alone do. -/
def State.elapse (s : State) (n : Nat) : State :=
  if n = 0 ∨ s.power.phase ≠ .run then s
  else
    let s := s.endClk
    { s with
    clk := s.clk + n
    slots := s.slots.map fun x => (x.watchdogTick n).settleRetention (s.tt.pclk.toNat + n)
    tt := { s.tt with
      pclk := if s.tt.open_ then s.tt.pclk + BitVec.ofNat 32 n else s.tt.pclk
      timer := s.tt.timer - n
      sinceEdge := s.tt.sinceEdge.map fun e => e + n } }

end Sys2Proof.Machine
end

