-- ==== Sys2Proof/Machine/Bell.lean ====
section
/-!
DEFINITION. The bell: its sources, what a bell does, and the end of recess (05 R159, R160, R167; 06 R176-R184, R201; 10 R315).
-/

namespace Sys2Proof.Machine

/-! ### Period parameters (06 R176) -/

def Params.period (p : Params) : Nat := 2000 * p.us
def Params.tRec (p : Params) : Nat := 2 * p.us * p.recess
def Params.tFr (p : Params) : Nat := 2 * p.us * p.reserve
/-- Bookable time A; the guard is 2,000 clk. -/
def Params.bookable (p : Params) : Nat := p.period - p.tRec - p.tFr - 2000

/-! ### Availability (10 R315, R316) -/

/-- A bell is judged, good or failed. -/
def Avail.judge (a : Avail) (ok : Bool) : Avail :=
  let run := if ok then satAdd a.runLength 1 else 0
  { a with
    judged := satAdd a.judged 1
    failed := if ok then a.failed else satAdd a.failed 1
    runLength := run
    bestRun := if a.bestRun.toNat < run.toNat then run else a.bestRun }

/-! ### Stopping an excursion (06 R198, R201) -/

/-- A client's booking stops and is reported; the lines that an excursion has issued complete first. -/
def State.stopClient (s : State) (c : Client) (status cause : Byte) : State :=
  match c with
  | .stream i => s.stopLesson i status cause
  | .engine e => ((s.drainLines e).dropMaster (.xe e)).endRun c status cause

/-- The stop at a budget point: FAULT-MISSED 02h with EXTCAP once the client's reserve is exhausted, else OVERRUN (06 R199, R203). -/
def State.stopAtBudget (s : State) (c : Client) : State :=
  if (s.client c).exhausted then (s.modRun c fun r => { r with extCap := true }).stopClient c 4 2 else s.stopClient c 2 1

def allClients : List Client := (List.finRange 64).map .stream ++ (List.finRange 2).map .engine

/-- The excursion engines' descriptor rings in the work area hold the excursions that are admitted for them (01 R13). -/
def State.fillRings (s : State) : State :=
  { s with work := { s.work with rings := Vector.ofFn fun (e : Fin 2) => s.tt.admitted.filter fun a => a.client == .engine e } }

/-! ### The bell -/

/-- A change of TT.BELLSTAT.SRC raises event 418. -/
def State.setSrc (s : State) (v : BellSrc) : State :=
  if s.tt.src = v then s else ({ s with tt := { s.tt with src := v } }).raise 418

/-- What still runs at a bell is stopped: an excursion as CUT (06 R201), a lesson whose budget point was passed as at that point. -/
def State.cutAtBell (s : State) : State :=
  allClients.foldl (fun (s : State) c =>
    let x := s.client c
    match x.run, c with
    | some _, .engine _ => s.stopClient c 6 0
    | some _, .stream _ => s.stopAtBudget c
    | none, _ => s) s

/-- A stopped lesson whose re-run did not start in its period is reported (06 R204). -/
def State.dropReruns (s : State) : State :=
  (List.finRange 64).foldl (fun (s : State) i =>
    let c := Client.stream i
    match (s.client c).rerun with
    | some (r, at_) => s.missRerun c r at_
    | none => s) s

/-- Bookings of the period that ends which never came to start, behind one that ran on to the bell: an excursion is reported CUT, a lesson
FAULT-MISSED with cause 02h (06 R199: every booking ends with exactly one status; log 76). -/
def State.dropUnstarted (s : State) : State :=
  let n := s.tt.bellNum.toNat
  let left := s.tt.admitted.filter fun a => a.period == n
  let s := { s with tt := { s.tt with admitted := s.tt.admitted.filter fun a => a.period != n } }
  left.foldl (fun (s : State) a => s.pushRecord (s.recordUnstarted a (if a.b.lesson then 4 else 6) (if a.b.lesson then 2 else 0))) s

/-- The draws of the period that ends, in the statistics (06 R211). -/
def State.closeReserves (s : State) : State :=
  let hit := allClients.any fun c => (s.client c).exhausted
  { s with tt := { s.tt with nExhausted := if hit then satAdd s.tt.nExhausted 1 else s.tt.nExhausted } }

/-- The clients at the start of a period. -/
def State.openPeriod (s : State) : State :=
  allClients.foldl (fun (s : State) c => s.modClient c fun x =>
    { x with nextStart := s.tt.params.tRec, drawn := 0, exhausted := false, lostCause := none }) s

/-- Whether a booking admitted for period `n` is a lesson of Stream `i` or an excursion whose NEAR range is its desk. -/
def State.deskBooked (s : State) (i : StreamId) (n : Nat) : Bool :=
  s.tt.admitted.any fun a => a.period == n &&
    (if a.b.lesson then a.b.stream == i else deskArray + 0x400000 * i.val ≤ a.b.near && a.b.near < deskArray + 0x400000 * (i.val + 1))

/-- Idle desks begin to enter retention (05 R167). -/
def State.retainDesks (s : State) (n : Nat) : State :=
  (List.finRange 64).foldl (fun (s : State) i =>
    match s.slotOf i with
    | none => s
    | some k => s.modSlot k fun x =>
      let had := s.tt.admitted.any fun a => a.b.lesson && a.b.stream == i && a.period == n
      let idle := if had then 0 else x.desk.idlePeriods + 1
      let go := s.mgmt.rwp.retention && x.desk.power == .on && s.mgmt.rwp.retentionPeriods.toNat < idle
        && !s.deskBooked i n && x.desk.dma.isEmpty
      { x with desk := { x.desk with idlePeriods := idle, power := if go then .entering else x.desk.power } }) s

/-- A hall pass ends at B<EXPIRY> (14 R408). -/
def State.expirePasses (s : State) (n : Nat) : State :=
  { s with sec := { s.sec with grants := s.sec.grants.map fun g =>
    match g with
    | some x => if x.expiry.toNat ≤ n then none else some x
    | none => none } }

/-- The bell source selection takes effect (06 R179). -/
def State.applySource (s : State) : State :=
  let want := s.mgmt.rwp.bellSource == 1
  if s.tt.source = want then s
  else
    let s := { s with tt := { s.tt with source := want, goodEdges := 0, slewing := false, sinceEdge := none, holdPeriods := 0 } }
    s.setSrc (if want then .internal else .searching)

/-- clk by which slewing changes the next period: between 1 and the lesser of 1,000 and |φ_t| (06 R182); the amount is free (log 13). -/
def State.slewBy (s : State) : Int × State :=
  let phi : Int := s.tt.phase.toInt * 2
  if phi = 0 then (0, s)
  else
    let (n, s) := s.draw
    let amount : Int := 1 + ((Config.freeWord n).toNat % min 1000 phi.natAbs : Nat)
    (if 0 < phi then amount else -amount, s)

/-- The internal timer from a bell: T_p, T_p + 1,000 in lock, slewed while acquiring (06 R181, R182). -/
def State.setTimer (s : State) : State :=
  let t := s.tt.params.period
  if s.tt.src = .locked then { s with tt := { s.tt with timer := t + 1000 } }
  else if s.tt.slewing then
    let (d, s) := s.slewBy
    { s with tt := { s.tt with timer := ((t : Int) + d).toNat } }
  else { s with tt := { s.tt with timer := t } }

/-- Acquisition ends at the first bell at which |φ_t| is at most 500 ns (06 R182). -/
def State.tryLock (s : State) : State :=
  if s.tt.slewing ∧ s.tt.phase.toInt.natAbs ≤ 500 then
    ({ s with tt := { s.tt with slewing := false, goodEdges := 0, holdPeriods := 0 } }).setSrc .locked
  else s

/-- A bell rings: the first is B<0> (06 R183), and each other follows the last. The bell of a warm reset or a standby entry discards every
booking that is admitted (13 R390). -/
def State.bell (s : State) : State :=
  let first := !s.tt.open_
  let before := s.bellBefore
  let s := if first then s else ((s.cutAtBell.dropReruns).dropUnstarted).closeReserves
  let old := s.tt.bellNum.toNat
  let n := if first then 0 else (old + 1) % 2 ^ 48
  let s := if first || s.avail.booked then s else { s with avail := s.avail.judge true }
  let p := s.mgmt.rwp
  let s := { s with tt := { s.tt with
    params := ⟨p.periodUs.toNat, p.recess.toNat, p.reserve.toNat⟩
    before := some before
    bellNum := BitVec.ofNat 48 n
    pclk := 0
    open_ := true
    inRecess := true
    seats := []
    admitted := if s.power.warmPending || s.power.standbyPending then [] else s.tt.admitted
    bells := satAdd s.tt.bells 1 } }
  let s := (s.tryLock).applySource.setTimer
  let s := ((s.repairBell n).openPeriod.retainDesks n).expirePasses n
  let s := { s with
    avail := { s.avail with booked := s.tt.admitted.any fun a => a.period == n }
    power := { s.power with bellRung := s.power.bellRung || s.power.warmPending || s.power.standbyPending } }
  s.fillRings.raise 417

/-! ### TICK (06 R180-R183) -/

/-- φ_t of an edge now, in ns: from the nearest internal bell, late edges positive, clamped to ±T_p/2 (06 R181). -/
def State.phaseNow (s : State) : Word32 :=
  let since := s.now
  let left := s.tt.timer
  let most := s.tt.params.period / 4
  BitVec.ofInt 32 (if since ≤ left then (min (since / 2) most : Nat) else -((min (left / 2) most : Nat) : Int))

/-- An edge is measured while the unit searches or holds over; four in range begin the slewing (06 R181, R182). -/
def State.measureEdge (s : State) : State :=
  let t := s.tt.params.period
  let near : Bool := match s.tt.sinceEdge with
    | some d => decide (t - 1000 ≤ d ∧ d ≤ t + 1000)
    | none => false
  let good := if near then s.tt.goodEdges + 1 else 1
  { s with tt := { s.tt with
    phase := s.phaseNow
    sinceEdge := some 0
    goodEdges := min good 4
    slewing := if near then s.tt.slewing || 4 ≤ good else false } }

/-- TICK_EDGE after `dt` clk: the bell B<0>, a bell in lock, an edge that is ignored and counted, or one that is measured; with the internal
source TICK is ignored. -/
def execTickEdge (dt : Nat) (s : State) : Host.Outcome State Fault Refusal :=
  let s := s.elapse dt
  let t := s.tt
  if s.power.phase ≠ .run ∨ !s.power.ready ∨ t.source then .next s
  else if !t.open_ then .next (({ s with tt := { s.tt with sinceEdge := some 0, goodEdges := 1 } }).bell)
  else if t.src = .locked then
    let p := t.params.period
    if p - 1000 ≤ s.now ∧ s.now ≤ p + 1000 then .next s.bell
    else .next { s with tt := { t with rej := t.rej.add 1, rejTotal := satAdd t.rejTotal 1 } }
  else .next s.measureEdge

/-- BELL_TIMER_EXPIRY after `dt` clk: the internal timer rings, and a locked unit enters holdover (06 R181, R183). -/
def execBellTimerExpiry (dt : Nat) (s : State) : Host.Outcome State Fault Refusal :=
  let s := s.elapse dt
  if s.power.phase ≠ .run ∨ !s.power.ready ∨ s.tt.timer ≠ 0 then .next s
  else if s.tt.src = .locked then
    .next (({ s with tt := { s.tt with holdPeriods := 0, goodEdges := 0, slewing := false, sinceEdge := none } }).setSrc .holdover).bell
  else if s.tt.src = .holdover then .next ({ s with tt := { s.tt with holdPeriods := satAdd s.tt.holdPeriods 1 } }).bell
  else .next s.bell

/-! ### The end of recess (05 R159, R160) -/

/-- The seats a client holds in period `n`: the largest WEIGHT ÷ 23 of its bookings (06 R190). -/
def State.held (s : State) (c : Client) (n : Nat) : Nat :=
  s.tt.admitted.foldl (fun m a => if a.period = n ∧ a.client = c then max m (a.b.weight / 23) else m) 0

/-- A client with `m` seats takes the lowest position whose seats are all free. -/
def takeSeats (taken : List (Nat × Client)) (c : Client) (m : Nat) : List (Nat × Client) :=
  let seatsAt (c0 : Nat) : List Nat := (List.range m).map fun j => c0 + j * (64 / m)
  match (List.range (64 / m)).find? fun c0 => (seatsAt c0).all fun x => taken.all fun e => e.1 != x with
  | some c0 => taken ++ (seatsAt c0).map fun x => (x, c)
  | none => taken

/-- The seats of period `n`: clients by descending holding, Streams before engines. -/
def State.seatPlan (s : State) (n : Nat) : List (Nat × Client) :=
  [64, 32, 16, 8, 4, 2, 1].foldl (fun l m =>
    allClients.foldl (fun l c => if s.held c n = m then takeSeats l c m else l) l) []

/-- The recess scrub of a desk: `n` lines of every bank from where the last recess stopped; line l of the 32 banks is the words 256 l to
256 l + 255 (05 R162, R166). -/
def Slot.scrubDesk (x : Slot) (n : Nat) : Slot :=
  let d := x.desk
  if d.power ≠ .on then x
  else
    let hit (w : Nat) : Bool := decide ((w / 256 + 2048 - d.scrubLine) % 2048 < n)
    let ce := (d.soft.filter hit).length
    let ue := (d.bad.filter hit).length
    { x with
      weight := x.weight + ce + 32 * ue
      desk := { d with
        soft := d.soft.filter fun w => !hit w
        ce := d.ce.add ce
        ue := d.ue.add ue
        scrubLine := (d.scrubLine + min n 2048) % 2048 } }

end Sys2Proof.Machine
end

