-- ==== Sys2Proof/Machine/Bookings.lean ====
section
/-!
DEFINITION. Bookings: the queue entry, admission, the admission response (06 R185-R195; 05 R171, R174; 11 R322, R327).
-/

namespace Sys2Proof

/-- The number of an engine, 0 for a lesson (06 R187). -/
def Client.engineNo : Client → Nat
  | .stream _ => 0
  | .engine e => e.val

end Sys2Proof

namespace Sys2Proof.Machine

/-! ### Posting to a completion queue (11 R323-R327) -/

def State.setPair (s : State) (q : QueueId) (x : QueuePair) : State :=
  { s with host := { s.host with pairs := s.host.pairs.set q x } }

def State.modPair (s : State) (q : QueueId) (f : QueuePair → QueuePair) : State := s.setPair q (f s.host.pairs[q])

/-- Entries in the completion ring that the host has not freed. -/
def QueuePair.used (x : QueuePair) : Nat :=
  let n := x.cqsz.toNat + 1
  (x.cqTail.toNat + n - x.cqHead.toNat % n) % n

/-- An entry is posted: it waits for its write, and is counted when the ring has no room for it (11 R324); a pair that does not run
discards it (11 R327). -/
def QueuePair.post (x : QueuePair) (etype : Byte) (payload : List Byte) : QueuePair :=
  if x.state = .running then
    { x with
      wait := x.wait ++ [(etype, payload)]
      fullw := if x.cqsz.toNat ≤ x.used + x.wait.length then x.fullw.add 1 else x.fullw }
  else { x with drop := x.drop.add 1 }

/-! ### Reading a booking (06 R185, R186; 05 R171; 11 R322) -/

/-- What a 128-byte queue entry says: the fields, and whether a field rule is broken. -/
structure Entry where
  b : Booking
  bad : Bool
  deriving DecidableEq, Repr

def slotWeights : List Nat := [0, 23, 46, 92, 184, 368, 736, 1472]

/-- Whether a byte address lies in the desk array (05 R142). -/
def inDeskArray (a : Nat) : Bool := deskArray ≤ a && a < deskArray + 0x10000000

/-- The fields of a queue entry, and its malformed test (06 R185, R193 01h) with bookable time `a`. -/
def readEntry (a : Nat) (bytes : List Byte) : Entry :=
  let m : Mem := Mem.zero
  let mem := m.writeBytes 0 bytes
  let w (i : Nat) : Word64 := mem.read64 (8 * i)
  let kind := bits (w 0) 63 56
  let lesson := kind == 1
  let stream := bits (w 1) 15 8
  let near := bits (w 6) 41 0
  let len := bits (w 7) 25 0
  let nearDesk := inDeskArray near
  let weight := bits (w 1) 26 16
  let budget := bits (w 1) 63 32
  let b : Booking := {
    lesson := lesson
    early := (w 0).getLsbD 55
    repeat_ := (w 0).getLsbD 54
    mode := bits (w 0) 53 51
    target := bits (w 0) 47 0
    budget := budget
    weight := weight
    stream := if h : stream < 64 then ⟨stream, h⟩ else 0
    energy := bits (w 2) 63 32
    tag := BitVec.ofNat 16 (w 2).toNat
    lmBase := bits (w 3) 63 32
    lmLen := bits (w 3) 31 0
    dPages := bits (w 4) 42 32
    dBase := bits (w 4) 9 0
    entry := w 5
    arg := w 6
    stack := w 7
    tsbp := w 8
    edb := w 9
    far := bits (w 5) 41 0
    near := near
    len := len
    nearToFar := (w 8).getLsbD 0 }
  let tailBad := (upFrom 10 6).any fun i => w i != 0
  let headBad := (kind != 1 && kind != 2) || (b.early && b.target != 0) || decide (4 < b.mode) || bits (w 0) 50 48 != 0
    || bits (w 1) 31 27 != 0 || bits (w 1) 7 0 != 0 || bits (w 2) 31 16 != 0 || bits (w 4) 63 43 != 0 || bits (w 4) 31 10 != 0
    || budget == 0 || decide (a < budget) || !slotWeights.contains weight
  let lessonBad := decide (63 < stream) || decide (1020 < b.dPages)
  let excBad := b.repeat_ || stream != 0 || b.lmBase != 0 || (b.lmLen != 0 && !nearDesk) || b.dPages != 0 || b.dBase != 0
    || bits (w 5) 63 42 != 0 || bits (w 6) 63 42 != 0 || bits (w 7) 63 26 != 0 || bits (w 8) 63 1 != 0 || w 9 != 0
    || b.far % 64 != 0 || near % 64 != 0 || len == 0
    || (nearDesk && (near - deskArray) / 0x400000 != (near + 64 * len - 1 - deskArray) / 0x400000)
  ⟨b, headBad || tailBad || (if lesson then lessonBad else excBad)⟩

/-! ### What a period offers -/

/-- Whether the timetable's client of a booking is a lesson's Stream. -/
def State.booked (s : State) (n : Nat) : List Admitted := s.tt.admitted.filter fun a => a.period == n

/-- Charged clk of a client in period `n` (06 R189). -/
def State.bookedClk (s : State) (c : Client) (n : Nat) : Nat :=
  (s.booked n).foldl (fun t a => if a.client = c then t + a.b.budget + 400 else t) 0

def State.bookedCount (s : State) (c : Client) (n : Nat) : Nat := ((s.booked n).filter fun a => a.client == c).length

/-- Seats held in period `n` (06 R190). -/
def State.seatsHeld (s : State) (n : Nat) : Nat := allClients.foldl (fun t c => t + s.held c n) 0

/-- The class of period `n` (06 R192, R205). -/
inductive PeriodClass where
  | n31 | d31 | rb | n29 | d29
  deriving DecidableEq, Repr

def State.classOf (s : State) (n : Nat) : PeriodClass :=
  let past (o : Option Nat) : Bool := match o with | some c => decide (c < n) | none => false
  if past s.repair.rebuildAfter then .rb
  else if s.portCount = 31 then (if past s.repair.degradedAfter then .d31 else .n31)
  else if past s.repair.degradedAfter then .d29 else .n29

/-- Valid MODE codes of a class (06 R192). -/
def PeriodClass.allows (c : PeriodClass) (mode : Nat) : Bool :=
  match c with
  | .n31 => mode == 0 || mode == 1 || mode == 4
  | .d31 => mode == 1 || mode == 4
  | .rb => mode == 4
  | .n29 => mode == 2 || mode == 3 || mode == 4
  | .d29 => mode == 3 || mode == 4

/-- Ports by which a lesson's worst-case charge counts (06 R194). -/
def PeriodClass.ports : PeriodClass → Nat
  | .n31 | .d31 | .rb => 31
  | .n29 | .d29 => 29

/-- End of the visible local range that period `n` will have (06 R191; 01 R20). -/
def State.visibleIn (s : State) (n : Nat) : Nat :=
  if s.portCount = 29 ∨ s.repair.withdrawn then visible29
  else match s.repair.withdrawAt with
    | some w => if w ≤ n then visible29 else visible31
    | none => visible31

/-- The energy charge in µJ (06 R194). -/
def Booking.charge (b : Booking) (c : PeriodClass) : Nat :=
  if b.energy ≠ 0 then b.energy
  else if b.lesson then microjoules (b.budget * 5674 + (b.budget * b.weight * c.ports + 1279) / 1280 * 1300)
  else microjoules (b.len * (2000 + 1300))

/-- P_adm in tenths of a W, exact (06 R195). -/
def admittedPower (pLim : Nat) (tj : Int) : Nat :=
  if tj ≤ 95 then 10 * pLim
  else if tj < 105 then 10 * Config.pBase + (pLim - Config.pBase) * (105 - tj).toNat
  else 10 * Config.pBase

/-- Tenths of a µJ available in a period (06 R195). -/
def State.energyAvail10 (s : State) : Nat := (s.tt.pAdm10 - 10 * Config.pBase) * s.tt.params.us

def State.energyBooked (s : State) (n : Nat) : Nat := (s.booked n).foldl (fun t a => t + a.charge) 0

/-- Whether Stream `i` will have a slot in later periods (01 R18). -/
def State.willServe (s : State) (i : StreamId) : Bool :=
  ((s.repair.serving[i]).bind (s.heir s.repair.subs.length)).isSome

/-- The module as the decision of this clk sees it (06 R188). -/
def State.seenByDecision (s : State) : State :=
  let v := s.tt.view
  { s with
    repair := v.repair
    tt := { s.tt with pAdm10 := v.pAdm10, params := v.params }
    mgmt := { s.mgmt with rwp := { s.mgmt.rwp with farLatency := v.farLatency } }
    xp := { s.xp with link := v.link, mapped := v.mapped } }

/-- Desk and page interval of an excursion's NEAR range, in bytes from the desk's start. -/
def Booking.nearDesk (b : Booking) : Option (Nat × Nat × Nat) :=
  if !b.lesson && inDeskArray b.near then
    let o := b.near - deskArray
    some (o / 0x400000, o % 0x400000, o % 0x400000 + 64 * b.len)
  else none

/-- Whether a lesson's desk pages meet an excursion's NEAR range. -/
def pagesMeet (lesson exc : Booking) : Bool :=
  match exc.nearDesk with
  | some (d, lo, hi) => d == lesson.stream.val && 0 < lesson.dPages
      && decide (4096 * lesson.dBase < hi) && decide (lo < 4096 * (lesson.dBase + lesson.dPages))
  | none => false

/-- Total lesson budget on Stream `i` in period `n`. -/
def State.lessonBudget (s : State) (i n : Nat) : Nat :=
  (s.booked n).foldl (fun t a => if a.b.lesson ∧ a.b.stream.val = i then t + a.b.budget else t) 0

/-- The desk rules of R191 fail. -/
def State.deskFails (s : State) (b : Booking) (n : Nat) : Bool :=
  let others := s.booked n
  if b.lesson then
    decide (1020 < b.dBase + b.dPages)
    || others.any fun a =>
      match a.b.nearDesk with
      | some (d, _, _) => d == b.stream.val && (pagesMeet b a.b || decide (a.b.lmLen < s.lessonBudget b.stream.val n + b.budget))
      | none => false
  else
    match b.nearDesk with
    | none => false
    | some (d, _, hi) =>
      decide (1020 * 4096 < hi)
      || !(if h : d < 64 then s.willServe ⟨d, h⟩ else false)
      || decide (b.lmLen < s.lessonBudget d n)
      || others.any fun a => a.b.lesson && pagesMeet a.b b

/-- The footprint fails R191, or NEAR lies outside the visible local range and the desk array. -/
def State.footprintFails (s : State) (b : Booking) (n : Nat) : Bool :=
  if b.lesson then decide (0 < b.lmLen) && decide (s.visibleIn n < 64 * (b.lmBase + b.lmLen))
  else !inDeskArray b.near && decide (s.visibleIn n < b.near + 64 * b.len)

/-- The far tests of R193. -/
def State.farFails (s : State) (b : Booking) : Bool :=
  s.xp.link != 2 || s.mgmt.rwp.farLatency == 0 || decide (b.far < 0x4000000000)
  || decide (0x4000000000 + s.xp.mapped.toNat < b.far + 64 * b.len)

/-- The client tests of R193 for one client. -/
def State.clientCheck (s : State) (b : Booking) (n : Nat) (c : Client) : Byte :=
  if s.bookedCount c n = 32 then 0x0A
  else if s.tt.params.bookable < s.bookedClk c n + b.budget + 400 then (if b.lesson then 0x0B else 0x0F)
  else if 64 < s.seatsHeld n - s.held c n + max (s.held c n) (b.weight / 23) then 0x0C
  else if s.energyAvail10 < 10 * (s.energyBooked n + b.charge (s.classOf n)) then 0x0D
  else 0

/-- check(h, q) of R193: a client, or the reason. For an excursion the engine with the smaller booked total is tried first. -/
def State.checkBooking (s : State) (b : Booking) (n : Nat) : Client ⊕ Byte :=
  if s.repair.endAtBell || s.repair.ladder == .ended then .inr 0x10
  else if b.lesson && !s.willServe b.stream then .inr 0x05
  else if b.lesson && s.tt.view.monitored.contains b.stream then .inr 0x06
  else if !b.lesson && s.farFails b then .inr 0x0E
  else if !(s.classOf n).allows b.mode then .inr 0x07
  else if s.footprintFails b n then .inr 0x08
  else if s.deskFails b n then .inr 0x09
  else if b.lesson then
    let r := s.clientCheck b n (.stream b.stream)
    if r = 0 then .inl (.stream b.stream) else .inr r
  else
    let e : Fin 2 := if s.bookedClk (.engine 1) n < s.bookedClk (.engine 0) n then 1 else 0
    let r := s.clientCheck b n (.engine e)
    if r = 0 then .inl (.engine e)
    else
      let r2 := s.clientCheck b n (.engine (1 - e))
      if r2 = 0 then .inl (.engine (1 - e)) else .inr r2

/-- The start offset of a client's next booking in period `n` (06 R189). -/
def State.nextOffset (s : State) (c : Client) (n : Nat) : Nat :=
  let p := s.tt.params
  if s.bookedCount c n = 0 then p.tRec else p.tRec + p.tFr + s.bookedClk c n

/-- The outcome of a decision: the booking admitted, or reason and period (06 R193). -/
def State.seatOrDecline (s : State) (q : QueueId) (e : Entry) (held : Bool) : Admitted ⊕ (Byte × Nat) :=
  let cur := s.tt.bellNum.toNat
  let b := e.b
  let first := cur + 2
  let last := cur + 1 + 64
  let mk (n : Nat) (c : Client) : Admitted := ⟨b, n, s.nextOffset c n, c, q, b.charge (s.classOf n)⟩
  if e.bad then .inr (1, 0)
  else if held then .inr (4, 0)
  else if !s.tt.open_ then .inr (2, b.target)
  else
    let try1 (n : Nat) : Admitted ⊕ (Byte × Nat) :=
      match s.checkBooking b n with
      | .inl c => .inl (mk n c)
      | .inr r => .inr (r, n)
    if b.early then
      match (upFrom first 64).findSome? fun n => match try1 n with | .inl a => some a | .inr _ => none with
      | some a => .inl a
      | none => try1 first
    else if b.target < first then .inr (2, b.target)
    else if last < b.target then .inr (3, b.target)
    else try1 b.target

/-- The 16-byte admission response, filled to 32 bytes (06 R187; 11, the completion-queue entry). -/
def responseBytes (tag : Word16) (r : Admitted ⊕ (Byte × Nat)) : List Byte :=
  let w0 := match r with
    | .inl a => 2 ^ 56 + a.period % 2 ^ 48
    | .inr (reason, n) => 2 * 2 ^ 56 + reason.toNat * 2 ^ 48 + n % 2 ^ 48
  let w1 := match r with
    | .inl a => a.offset * 2 ^ 32 + a.client.engineNo * 2 ^ 24 + tag.toNat
    | .inr _ => tag.toNat
  leBytes 8 w0 ++ leBytes 8 w1 ++ List.replicate 16 0

/-- Whether pair `q` has an undecided entry, as a decision of this clk sees it. -/
def State.undecided (s : State) (q : QueueId) : Bool :=
  let x := s.tt.view.queues[q]
  x.running && x.head != x.tail

/-- The queue whose turn it is: from `turn` upward, the first with an undecided entry (06 R188). -/
def State.turnQueue (s : State) : Option QueueId :=
  ((List.finRange 16).map fun i => s.tt.turn + i).find? fun q => s.undecided q

/-- The pair after a decision on it: a host write of the same clk takes effect after the decision (11 R328), so that a pair that the write has
stopped, or stopped and enabled anew, has discarded the response (R327). -/
def QueuePair.decided (x : QueuePair) (payload : List Byte) : QueuePair :=
  if x.renewed then { x with drop := x.drop.add 1 } else ({ x with sqHead := x.sqHead + 1 } : QueuePair).post 1 payload

/-- BOOKING_DECISION: the entry at the head of queue `q`, when it is that queue's turn, decided by the module's state in the clk before, the pair
and its entry included (06 R188; 11 R328). -/
def execBookingDecision (q : QueueId) (s : State) : Host.Outcome State Fault Refusal :=
  if !s.power.ready || s.turnQueue != some q then .next s
  else
    let v := s.tt.view
    let x := v.queues[q]
    let e := readEntry v.params.bookable (v.sqMem.readBytes (0x8000 * q.val + 128 * x.head.toNat) 128)
    let r := s.seenByDecision.seatOrDecline q e v.held
    let t := { s.tt with view := { v with queues := v.queues.set q { x with head := x.head + 1 } } }
    let tt := match r with
      | .inl a => { t with admitted := t.admitted ++ [a], nAdmitted := satAdd t.nAdmitted 1 }
      | .inr (reason, _) => { t with
          nDeclined := satAdd t.nDeclined 1
          declines := if h : reason.toNat - 1 < 16 then t.declines.set (reason.toNat - 1) (satAdd t.declines[reason.toNat - 1] 1) else t.declines }
    let s := ({ s with tt := { tt with turn := q + 1 } } : State).fillRings
    .next (s.modPair q fun x => x.decided (responseBytes e.b.tag r))

end Sys2Proof.Machine
end

