-- ==== Sys2Proof/Machine/Runs.lean ====
section
/-!
DEFINITION. Bookings that run: a lesson's start and end, the stops of R198, re-runs, and completion records (06 R186, R189, R196-R211; 10
R302, R315).
-/

namespace Sys2Proof.Machine

/-! ### Starting -/

/-- The next booking of a client in the current period. -/
def State.nextBooking (s : State) (c : Client) : Option Admitted :=
  s.tt.admitted.find? fun a => a.client == c && a.period == s.tt.bellNum.toNat

def State.takeBooking (s : State) (a : Admitted) : State :=
  ({ s with tt := { s.tt with admitted := s.tt.admitted.erase a } } : State).fillRings

/-- The core state at a lesson start (06 R186): the booking's registers, every other one at its cold-reset value, and nothing of an earlier lesson
in the line and branch-target buffers; the watchdog is reloaded
and EXP cleared (08 R269). -/
def Slot.startLesson (x : Slot) (b : Booking) : Slot :=
  { x.quieted .running with
    regs := { Regs.reset with
      pc := b.entry
      a := (Regs.reset.a.set 0 b.arg).set 15 b.stack
      tsbp := b.tsbp
      edb := b.edb }
    resv := none
    sbuf := []
    lines := []
    ahead := []
    line := none
    prefetch := []
    btb := Vector.replicate 64 none
    parity := []
    wd := { x.wd with exp := false, count := x.wd.load, phase := 0, pending := false }
    dbg := { x.dbg with event := none, exempt := none } }

/-- A booking that starts now. -/
def Admitted.run (a : Admitted) (now : Nat) : Run :=
  ⟨a, now, 0, 0, 0, false, false, false, false, 0, false, false, false, [], 0⟩

/-- The seats of a booking that starts: m of the seats that its client holds, 64 ÷ m apart (06 R190). -/
def State.seatsOf (s : State) (a : Admitted) : List Nat :=
  let held := (s.tt.seats.filter fun e => e.2 == a.client).map Prod.fst
  let m := a.b.weight / 23
  match held with
  | [] => []
  | c0 :: r => let c0 := r.foldl min c0; (List.range m).map fun j => c0 + j * (64 / m)

/-- Availability counts a start after the start offset (10 R316). -/
def State.noteStart (s : State) (a : Admitted) : State :=
  if a.offset < s.now then { s with avail := { s.avail with lateStarts := satAdd s.avail.lateStarts 1 } } else s

/-- The booking is passed over at the clk at which it would have started (06 R189). -/
def State.passOver (s : State) (c : Client) (a : Admitted) (status cause : Byte) : State :=
  ((s.takeBooking a).pushRecord (s.recordUnstarted a status cause)).modClient c fun x => { x with nextStart := s.now + 400 }

/-- Whether a lesson's footprint touches the withdrawn range (01 R20; 06 R206). -/
def Booking.touchesWithdrawn (b : Booking) : Bool := b.lesson && decide (0 < b.lmLen) && decide (visible29 < 64 * (b.lmBase + b.lmLen))

/-- Why a lesson may not start: its status and cause (06 R204, R206, R207, R208; 13 R389). -/
def State.mayNotStart (s : State) (i : StreamId) (b : Booking) : Option (Byte × Byte) :=
  if s.repair.ladder = .ended then some (4, 5)
  else match (s.client (.stream i)).lostCause, s.slotOf i with
    | some c, _ => some (4, c)
    | none, none => some (4, 4)
    | none, some k =>
      let inReset : Option (Byte × Byte) := (s.slot k).resetHold.bind fun h => if s.clk < h.1 then some h.2 else none
      if inReset.isSome then inReset
      else if s.repair.withdrawn && b.touchesWithdrawn then some (4, 3)
      else if (s.slot k).status = .monitor then some (3, 0)
      else none

/-- LESSON_START after `dt` clk: the Stream's next booking of the period starts, or is passed over, when its time has come. -/
def execLessonStart (i : StreamId) (dt : Nat) (s : State) : Host.Outcome State Fault Refusal :=
  let s := s.elapse dt
  let c := Client.stream i
  let x := s.client c
  if !s.tt.open_ || s.tt.inRecess || x.run.isSome || x.rerun.isSome || x.copy.isSome || decide (s.now < x.nextStart) then .next s
  else
    match s.nextBooking c with
    | none => .next s
    | some a =>
      match s.mayNotStart i a.b, s.slotOf i with
      | some (st, cs), _ => .next (s.passOver c a st cs)
      | none, none => .next s
      | none, some k =>
        if (s.slot k).desk.power ≠ .on then .next s
        else
          let s := (s.takeBooking a).noteStart a
          let s := s.modClient c fun x => { x with run := some { a.run s.now with seats := s.seatsOf a } }
          .next (((s.drainStores k).modSlot k fun x => x.startLesson a.b).emit i 1 0 (a.b.tag.zeroExtend 64))

/-! ### Ending and stopping -/

/-- LESSON_END after `dt` clk: END has drained the vector queue and the store buffer (07 R253). PC stays at END: R256 has it give the next instruction and
does not say which one follows an END that has ended its lesson, DESIGN CHOICE (log 175). -/
def execLessonEnd (i : StreamId) (dt : Nat) (s : State) : Host.Outcome State Fault Refusal :=
  let s := s.elapse dt
  match s.slotOf i with
  | none => .next s
  | some k =>
    let x := s.slot k
    if x.waitAt = some .endLesson ∧ x.eng.queue = [] ∧ x.eng.stopped = false ∧ x.sbuf = [] ∧ !s.boundaryBusy k then
      .next ((s.modSlot k fun x => x.quieted .quiet).endRun (.stream i) 1 0)
    else .next s

/-- BUDGET_POINT_STOP after `dt` clk: at start + BUDGET + X the booking stops; FAULT-MISSED 02h once the reserve is exhausted (06 R203).
An excursion that slow far responses hold goes on to its completion or to the bell (05 R170; 06 R199, R201). -/
def execBudgetPointStop (c : Client) (dt : Nat) (s : State) : Host.Outcome State Fault Refusal :=
  let s := s.elapse dt
  match (s.client c).run with
  | none => .next s
  | some r =>
    if s.now < r.start + r.adm.b.budget + r.ext ∨ r.farSlow then .next s
    else .next (s.stopAtBudget c)

/-- Energy that counts toward ENERGY now, in pJ (06 R196). -/
def State.countedNow (s : State) (r : Run) : Nat :=
  r.counted + if r.adm.b.lesson then 1500 * min (s.now - r.start) r.adm.b.budget else 0

/-- ENERGY_LIMIT_STOP after `dt` clk: a booking with non-zero ENERGY whose counted energy has reached it. -/
def execEnergyLimitStop (c : Client) (dt : Nat) (s : State) : Host.Outcome State Fault Refusal :=
  let s := s.elapse dt
  match (s.client c).run with
  | none => .next s
  | some r =>
    if r.adm.b.energy = 0 ∨ s.countedNow r < r.adm.b.energy * 1000000 then .next s
    else .next (s.stopClient c 2 2)

/-! ### The fault reserve (06 R202) -/

/-- The client's reserve is exhausted: event 419, and the booking that runs or waits for its re-run carries EXTCAP (06 R203, R209). -/
def State.exhaust (s : State) (c : Client) : State :=
  let x := s.client c
  if x.exhausted then s
  else (s.setClient c { x with
    exhausted := true
    run := x.run.map fun r => { r with extCap := true }
    rerun := x.rerun.map fun r => ({ r.1 with extCap := true }, r.2) }).raise 419

/-- A draw on a client's fault reserve. One that reaches T_fr exhausts it (event 419); so does one that would pass it, which draws nothing. -/
def State.drawReserve (s : State) (c : Client) (n : Nat) : State × Bool :=
  let x := s.client c
  let left := s.tt.params.tFr - x.drawn
  if !x.exhausted && decide (n ≤ left) then
    let d := x.drawn + n
    let s := s.setClient c { x with drawn := d }
    let s := { s with tt := { s.tt with maxDraw := BitVec.ofNat 32 (max s.tt.maxDraw.toNat d) } }
    (if n = left then s.exhaust c else s, true)
  else (s.exhaust c, false)

/-- A retry extension of `n` clk for the booking that runs; past T_fr it extends nothing (06 R202). -/
def State.extendBooking (s : State) (c : Client) (n : Nat) : State :=
  match s.drawReserve c n with
  | (s, true) => s.modClient c fun x => { x with run := x.run.map fun r => { r with ext := r.ext + n } }
  | (s, false) => s

/-- The energy of a desk copy, in pJ: each of 65,536 lines is read once and written once, at the coefficient of a desk line (06 R196, R204; log
141). -/
def copyEnergy : Nat := 40 * (65536 + 65536)

/-- STREAM_DESK_COPY: the retired slot's desk goes to the spare, which then serves the Stream (10 R302; 06 R204). The copy is metered for the lesson
that the retirement stopped. -/
def execStreamDeskCopy (i : StreamId) (s : State) : Host.Outcome State Fault Refusal :=
  let c := Client.stream i
  match (s.client c).copy with
  | none => .next s
  | some (k, n) =>
    let s := (s.copyDesk k n).modClient c fun x => { x with
      copy := none
      rerun := x.rerun.map fun r => ({ r.1 with before := r.1.before + copyEnergy }, r.2) }
    match s.drawReserve c 2600 with
    | (s, true) => .next { s with repair := { s.repair with standIn := s.repair.standIn.set i (some n) } }
    | (s, false) => .next (s.modClient c fun x => { x with lostCause := some 2 })

/-- LESSON_RERUN: the stopped lesson starts again on the spare when R204 lets it, else it is FAULT-MISSED with cause 01h. -/
def execLessonRerun (i : StreamId) (s : State) : Host.Outcome State Fault Refusal :=
  let c := Client.stream i
  let x := s.client c
  match x.rerun, x.copy with
  | some (r, at_), none =>
    let b := r.adm.b
    let p := s.tt.params
    let left := if x.exhausted then 0 else p.tFr - x.drawn
    let miss := s.missRerun c r at_
    match s.slotOf i with
    | some k =>
      if b.repeat_ && x.lostCause.isNone && decide (b.budget + 400 ≤ left) && decide (s.now + b.budget + 2400 ≤ p.period) then
        let (s, _) := s.drawReserve c (b.budget + 400)
        let r := ((s.client c).rerun.map Prod.fst).getD r
        let s := s.modClient c fun x => { x with
          rerun := none
          run := some { r with
            start := s.now
            ext := 0
            counted := 0
            before := r.before + r.metered + 1500 * (at_ - r.start)
            metered := 0
            rerun := true } }
        .next (((s.drainStores k).modSlot k fun x => x.startLesson b).emit i 1 0 (b.tag.zeroExtend 64))
      else .next miss
    | none => .next miss
  | _, _ => .next s

/-! ### Completion records (06 R209, R210; 10 R315) -/

/-- The 32 bytes of a completion record. -/
def Record.bytes (r : Record) : List Byte :=
  leBytes 8 r.word0.toNat
  ++ leBytes 8 (r.start.toNat * 2 ^ 32 + r.used)
  ++ leBytes 8 (r.energy * 2 ^ 32 + r.cause.toNat * 2 ^ 24 + (if r.rerun then 2 ^ 23 else 0) + (if r.extCap then 2 ^ 22 else 0)
      + (if r.farSlow then 2 ^ 21 else 0) + r.tag.toNat)
  ++ leBytes 8 (r.ext * 2 ^ 32 + r.blocks)

/-- The outcome in the statistics (06 R211) and availability counts (10 R316). -/
def State.countOutcome (s : State) (r : Record) (late : Bool) : State :=
  let t := s.tt
  let a := s.avail
  let missed := r.status = 4 ∧ 1 ≤ r.cause.toNat ∧ r.cause.toNat ≤ 5
  let bad := missed ∨ r.lateStart ∨ late
  { s with
    tt := { t with
      nOverrun := if r.status = 2 then satAdd t.nOverrun 1 else t.nOverrun
      nExcused := if r.status = 3 then satAdd t.nExcused 1 else t.nExcused
      nMissed := if r.status = 4 then satAdd t.nMissed 1 else t.nMissed
      nCut := if r.status = 6 then satAdd t.nCut 1 else t.nCut
      nReruns := if r.rerun then satAdd t.nReruns 1 else t.nReruns }
    avail := { a with
      missed := if h : r.status = 4 ∧ r.cause.toNat - 1 < 5 ∧ 1 ≤ r.cause.toNat then
          a.missed.set (r.cause.toNat - 1) (satAdd a.missed[r.cause.toNat - 1] 1) h.2.1 else a.missed
      latePosts := if late then satAdd a.latePosts 1 else a.latePosts
      failing := if bad then insertNat r.period a.failing else a.failing } }

/-- Period `n` is judged when its last record has been posted (10 R315). -/
def State.judgePeriod (s : State) (n : Nat) : State :=
  let open_ := s.tt.admitted.any (fun a => a.period == n) || s.tt.due.any (fun r => r.period == n)
    || (n == s.tt.bellNum.toNat && allClients.any fun c => (s.client c).run.isSome || (s.client c).rerun.isSome)
  if open_ then s
  else
    let bad := s.avail.failing.contains n
    { s with avail := { s.avail.judge (!bad) with failing := s.avail.failing.erase n } }

/-- The events of a posted record: lesson end and budget overrun, or the engine's excursion event (08 R274). -/
def State.recordEvents (s : State) (r : Record) : State :=
  match r.client with
  | .stream i =>
    let s := s.raise (6 * i.val + 1)
    if r.status = 2 then s.raise (6 * i.val + 2) else s
  | .engine e => s.raise (423 + e.val)

/-- COMPLETION_RECORD_POST: the client's oldest record goes to its queue pair. -/
def execCompletionRecordPost (c : Client) (s : State) : Host.Outcome State Fault Refusal :=
  match s.tt.due.find? fun r => r.client == c with
  | none => .next s
  | some r =>
    let s := { s with tt := { s.tt with due := s.tt.due.erase r } }
    let s := s.modPair r.queue fun x => x.post 2 r.bytes
    .next (((s.countOutcome r (decide (r.due < s.clk))).recordEvents r).judgePeriod r.period)

end Sys2Proof.Machine
end

