-- ==== Sys2Proof/WellFormed.lean ====
section
/-!
DEFINITION. Which operands are an event of the module at all: the sizes and alignments that the row's rule fixes. Reserved fields of an
instruction are no matter of it: the core raises Reserved Field for them (07 R251, R254).
-/

namespace Sys2Proof

/-- The number of bytes of a desk (05 R142). -/
def deskSize : Nat := 0x400000

/-- A DMA line access is line-aligned in the desk and carries 64 bytes (05 R163). -/
def DmaLine.ok (l : DmaLine) : Bool :=
  l.off % 64 == 0 && decide (l.off < deskSize) && (match l.write with | some bs => bs.length == 64 | none => true)

/-- The access of the engine/core port carries 64 byte enables (05 R163, R165). -/
def EngineAccess.ok : EngineAccess → Bool
  | .write bs => bs.length == 64
  | _ => true

/-- A piece is what the 256-byte boundaries leave of its transaction, which crosses no 4 KiB boundary, and a write carries its bytes (11 R334). -/
def Piece.ok (p : Piece) : Bool :=
  decide (0 < p.len) && decide (p.addr % 256 + p.len ≤ 256) && decide (p.addr < 2 ^ 42)
  && decide (p.start % 4096 + p.whole ≤ 4096) && decide (p.start ≤ p.addr) && decide (p.addr + p.len ≤ p.start + p.whole)
  && (p.addr == p.start || p.addr % 256 == 0) && (p.addr + p.len == p.start + p.whole || (p.addr + p.len) % 256 == 0)
  && (match p.write with | some bs => bs.length == p.len | none => true)

/-- Bytes that a base address register decodes (11). -/
def Bar.size : Bar → Nat
  | .bar0 => 2 ^ 32
  | .bar2 => 2 ^ 38
  | .bar4 => 2 ^ 20

/-- 1 to `most` bytes that cross no 4 KiB boundary (11 R334). -/
def inPage (most a n : Nat) : Bool := decide (0 < n) && decide (n ≤ most) && decide (a % 4096 + n ≤ 4096)

/-- A debug access is a transaction, and a write carries its bytes (11 R334; 14 R419). -/
def Access.ok (a : Access) : Bool :=
  inPage 4096 a.addr a.len && decide (a.addr < 2 ^ 42) && (match a.write with | some bs => bs.length == a.len | none => true)

/-- An error names a word or block that exists, and a miscorrected block has 64 bytes (05 R142, R149, R153). -/
def Upset.ok : Upset → Bool
  | .block b hit e =>
    (match b with | .mapped n => decide (n < 983040 * 31 * 127) | .spare _ r => decide (r < 983040)) && !hit.isEmpty
    && (match e with | .miscorrected d f => d.length == 64 && (f.length == 1 || f.length == 2) | .detected => true)
  | .deskWord _ w _ => decide (w < deskSize / 8)
  | .row _ _ r => decide (r < 983040)
  | .flit b => decide (b < 983040 * 31 * 127)
  | _ => true

/-- A tile hub's requests are its own cores', and each core has at most one (11 R337). -/
def gspOk (rs : List GspReq) : Bool :=
  let cores := rs.filterMap fun r => match r with | .hub _ k _ _ _ => some k | .other _ _ => none
  (rs.all fun r => match r with | .hub t k _ _ _ => k.val / 17 == t.val | .other _ _ => true) && cores.length == cores.eraseDups.length

/-- Whether a command's operands are an event of the module. -/
def Instr.wellFormed : Instr → Bool
  | .lineFill _ a _ => decide (a.toNat % 256 = 0)
  | .deskEccWriteBack _ w => decide (w < deskSize / 8)
  | .deskDmaLineIssue _ x o g => x.all DmaLine.ok && o.all DmaLine.ok && g.ok
  | .farResponse _ r => r.data.length == 64
  | .refresh _ r => r.upsets.all Upset.ok
  | .smPieceGrant _ w => w.waiting.all Piece.ok
  | .gspBlockService rs => gspOk rs
  | .hostReadRequest b o r => inPage 4096 o r.len && decide (o + r.len ≤ b.size)
  | .hostWriteRequest b o d _ => inPage 512 o d.length && decide (o + d.length ≤ b.size)
  | .debugAccess a => a.ok
  | .dbgacc a => a.ok
  | .submissionQueueEntryWrite o d => decide (0 < d.length) && decide (o + d.length ≤ 0x80000)
  | .mailboxRequest o d => decide (o < 64) && decide (60 < o + d.length) && decide (o + d.length ≤ 64)
  | .canFrameReceive (.fd _ d) => d.length == 64
  | .blockRetry r => decide (2 ≤ r.access)
  | _ => true

end Sys2Proof
end

