-- ==== Sys2Proof/Machine/Desks.lean ====
section
/-!
DEFINITION. The desks' own steps: the DMA port, collisions, error write-back and retention (05 R162-R167).
-/

namespace Sys2Proof.Machine

/-! ### Collisions (05 R165) -/

/-- Words (0 to 7) of the line in which both writes have a common byte with different values. -/
def collided (dma eng : List (Option Byte)) : List Nat :=
  (List.range 8).filter fun w =>
    (List.range 8).any fun j =>
      match dma.getD (8 * w + j) none, eng.getD (8 * w + j) none with
      | some a, some b => a != b
      | _, _ => false

/-- What of a preempted DMA write is still to be written: no collided word, and no byte that the engine wrote. Of a word in which the common bytes
are equal and the DMA writes further bytes, R165 says only that equal bytes are not written again: the further bytes are written (DESIGN CHOICE,
log 140). -/
def afterPreempt (dma eng : List (Option Byte)) : List (Option Byte) :=
  let bad := collided dma eng
  (List.range 64).map fun i =>
    if bad.contains (i / 8) || (eng.getD i none).isSome then none else dma.getD i none

/-- A collision is recorded: COLL, COLLOFF when COLL was 0, event 416, and the excursion's outcome. -/
def State.noteCollision (s : State) (k : SlotId) (off : Nat) (e : Option (Fin 2)) : State :=
  let s := s.modSlot k fun x => { x with
    desk := { x.desk with
      coll := true
      collOff := if x.desk.coll then x.desk.collOff else BitVec.ofNat 19 (off / 8) }
    setNow := { x.setNow with coll := x.setNow.coll.or (some (BitVec.ofNat 19 (off / 8))) } }
  let s := match e with
    | some e => s.modRun (.engine e) fun r => { r with collision := true }
    | none => s
  s.raise 416

/-! ### The DMA port (05 R163) -/

/-- The engine that runs an excursion on the desk of slot `k`. -/
def State.engineOn (s : State) (k : SlotId) : Option (Fin 2) :=
  (List.finRange 2).find? fun e =>
    match s.tt.engines[e].run, s.streamOf k with
    | some r, some i => (match r.adm.b.nearDesk with | some (d, _, _) => d == i.val | none => false)
    | _, _ => false

/-- A line of an excursion engine. -/
def DmaPending.isEngine (l : DmaPending) : Bool :=
  l.engine.isSome || l.txn.any fun g => match g.master with | .xe _ => true | _ => false

/-- The line that the port issues next, and those that go on waiting: an excursion engine's before any other master's (05 R163). -/
def pickLine (ls : List DmaPending) : Option (DmaPending × List DmaPending) :=
  match ls.find? DmaPending.isEngine with
  | some l => some (l, ls.erase l)
  | none =>
    match ls with
    | l :: r => some (l, r)
    | [] => none

/-- Whether the line at `off` of the desk of slot `k` lies in the bank of the recess slice's unit (05 R162). -/
def State.inTestBank (s : State) (k : SlotId) (off : Nat) : Bool :=
  match s.bist.unit with
  | some (.deskBank j b) => j == k && off / 64 % 32 == b.val
  | _ => false

/-- Whether a recess slice tests that bank, at most 80,000 clk long (13 R387). -/
def State.underTest (s : State) (k : SlotId) (off : Nat) : Bool := s.inTestBank k off && decide (s.clk ≤ s.bist.since + 80000)

/-- DESK_ECC_WRITE_BACK: a corrected word is written back, unless a write reached it first (05 R166). -/
def execDeskEccWriteBack (k : SlotId) (word : Nat) (s : State) : Host.Outcome State Fault Refusal :=
  if 0x400000 / 8 ≤ word then .fault .illFormed
  else .next (s.modSlot k fun x => { x with desk := { x.desk with soft := x.desk.soft.erase word } })

/-! ### Retention (05 R167) -/

/-- A desk in or entering retention starts to wake. -/
def Slot.wake (x : Slot) : Slot :=
  if x.desk.power = .retention ∨ x.desk.power = .entering then { x with desk := { x.desk with power := .waking } } else x

/-- Whether the timetable wakes the desk of slot `k` now: 4,000 clk before the bell of a period that gives its Stream a lesson or targets the desk
with an excursion, or for an access that waits (05 R167). -/
def State.wakeDue (s : State) (k : SlotId) : Bool :=
  let d := (s.slot k).desk
  let soon := s.tt.open_ && decide (s.tt.params.period ≤ s.now + 4000)
    && (match s.streamOf k with | some i => s.deskBooked i (s.tt.bellNum.toNat + 1) | none => false)
  soon || !d.dma.isEmpty

/-- DESK_WAKE_START after `dt` clk. -/
def execDeskWakeStart (w : WakeStart) (s : State) : Host.Outcome State Fault Refusal :=
  let s := s.elapse w.dt
  .next (if s.wakeDue w.slot then s.modSlot w.slot Slot.wake else s)

end Sys2Proof.Machine
end

