-- ==== Sys2Proof/Machine/Queues.lean ====
section
/-!
DEFINITION. Yunaran queue pairs, doorbells, MSI-X and host events (11 R321-R330).
-/

namespace Sys2Proof.Machine

def State.output (s : State) (o : Output) : State := { s with out := s.out ++ [o] }

/-! ### Queue pairs -/

/-- Waiting entries of a pair that stops are discarded and counted (11 R327). -/
def QueuePair.stop (x : QueuePair) (st : PairState) (err : BitVec 6) : QueuePair :=
  { x with state := st, err := err, drop := x.drop.add x.wait.length, wait := [] }

/-- The 64 bytes of a completion-queue entry (11, the completion-queue entry). -/
def cqEntryBytes (q : QueueId) (x : QueuePair) (etype : Byte) (payload : List Byte) : List Byte :=
  payload ++ leBytes 8 (etype.toNat * 2 ^ 56 + q.val * 2 ^ 52 + x.sqHead.toNat * 2 ^ 44 + (if x.phase then 1 else 0)) ++ List.replicate 24 0

/-- The completion tail advances, and the phase inverts where the ring wraps (11 R323). -/
def QueuePair.advance (x : QueuePair) : QueuePair :=
  if x.cqTail = x.cqsz then { x with cqTail := 0, phase := !x.phase } else { x with cqTail := x.cqTail + 1 }

/-- CQ_ENTRY_WRITE: the oldest waiting entry of pair `q` is written when the ring has room; a refused write stops the pair (11 R323-R326). -/
def execCqEntryWrite (q : QueueId) (refused : Bool) (s : State) : Host.Outcome State Fault Refusal :=
  let x := s.host.pairs[q]
  match x.wait with
  | [] => .next s
  | (etype, payload) :: rest =>
    if x.state ≠ .running ∨ x.used = x.cqsz.toNat then .next s
    else if refused then .next (s.setPair q (x.stop .error 3))
    else
      let a := BitVec.ofNat 64 (x.cqbase.toNat * 4096 + 64 * x.cqTail.toNat)
      let s := (s.output (.cqWrite q a (cqEntryBytes q x etype payload) s.host.ecrcGen)).setPair q { x with wait := rest }.advance
      .next (if x.ien then s.requestVector x.iv else s)

/-- QUEUE_PAIR_ENABLE: EN 1 over 0 resets heads and tails and sets the phase; CQSZ 0 is refused and leaves EN at 0 (11 R325). -/
def QueuePair.enable (x : QueuePair) (ien : Bool) (cqsz : BitVec 12) (iv : BitVec 11) : QueuePair :=
  let x' := { x with ien := ien, iv := iv }
  if x.state ≠ .disabled ∨ cqsz = 0 then x'
  else { x' with cqsz := cqsz, state := .running, err := 0, sqHead := 0, sqTail := 0, cqHead := 0, cqTail := 0, phase := true, wait := [], renewed := true }

def execQueuePairEnable (q : QueueId) (ien : Bool) (cqsz : BitVec 12) (iv : BitVec 11) (s : State) :
    Host.Outcome State Fault Refusal :=
  s.barWrite fun s => s.modPair q fun x => x.enable ien cqsz iv

/-- QUEUE_PAIR_DISABLE: EN 0 over 1 disables the pair (11 R325, R327). -/
def QueuePair.disable (x : QueuePair) (ien : Bool) (iv : BitVec 11) : QueuePair :=
  let x' := { x with ien := ien, iv := iv }
  if x.state = .disabled then x' else x'.stop .disabled 0

def execQueuePairDisable (q : QueueId) (ien : Bool) (iv : BitVec 11) (s : State) : Host.Outcome State Fault Refusal :=
  s.barWrite fun s => s.modPair q fun x => x.disable ien iv

/-! ### Doorbells (11 R322, R326) -/

/-- A submission tail doorbell: before READY, and on a pair that does not run, it is discarded; a partial write or a set upper bit stops
the pair. -/
def State.tailDoorbell (s : State) (q : QueueId) (v : Word32) (whole : Bool) : State :=
  let x := s.host.pairs[q]
  if !s.power.ready || x.state ≠ .running then s
  else if !whole || 256 ≤ v.toNat then s.setPair q (x.stop .error 1)
  else s.setPair q { x with sqTail := v.truncate 8 }

def execSubmissionTailDoorbell (q : QueueId) (v : Word32) (whole : Bool) (s : State) : Host.Outcome State Fault Refusal :=
  s.barWrite fun s => s.tailDoorbell q v whole

/-- A completion head doorbell: the head must be less than the ring size. -/
def State.headDoorbell (s : State) (q : QueueId) (v : Word32) (whole : Bool) : State :=
  let x := s.host.pairs[q]
  if !s.power.ready || x.state ≠ .running then s
  else if !whole || x.cqsz.toNat < v.toNat then s.setPair q (x.stop .error 2)
  else s.setPair q { x with cqHead := v.truncate 12 }

def execCompletionHeadDoorbell (q : QueueId) (v : Word32) (whole : Bool) (s : State) : Host.Outcome State Fault Refusal :=
  s.barWrite fun s => s.headDoorbell q v whole

/-! ### Submission-queue memory (11 R321, R322) -/

/-- Bytes of the submission-queue memory. -/
def State.writeSq (s : State) (off : Nat) (data : List Byte) : State :=
  { s with host := { s.host with sqMem := s.host.sqMem.writeBytes off data } }

def execSubmissionQueueEntryWrite (off : Nat) (data : List Byte) (s : State) : Host.Outcome State Fault Refusal :=
  if data.length = 0 ∨ 0x80000 < off + data.length then .fault .illFormed
  else s.barWrite fun s => s.writeSq off data

/-! ### MSI-X (11 R329, R330) -/

/-- MSIX_MESSAGE: the message of a requested vector is sent; one masked meanwhile becomes pending. -/
def execMsixMessage (v : Fin 2048) (s : State) : Host.Outcome State Fault Refusal :=
  let h := s.host
  let m := 1#2048 <<< v.val
  if !h.asked.getLsbD v.val || !h.linkUp then .next s
  else
    let h' := { h with asked := h.asked &&& ~~~m }
    let e := h.msix[v]
    if h.fnMask || e.masked then .next { s with host := { h' with pba := h'.pba ||| m } }
    else .next ({ s with host := h' }.output (.msix v e.addr e.data h.ecrcGen))

/-- Vectors that are pending and no longer masked are requested again, each for one message. -/
def HostLink.release (h : HostLink) : HostLink :=
  (List.finRange 2048).foldl (fun h v =>
    if h.pba.getLsbD v.val && !h.fnMask && !h.msix[v].masked then
      { h with pba := h.pba &&& ~~~(1#2048 <<< v.val), asked := h.asked ||| (1#2048 <<< v.val) }
    else h) h

/-- The vector's mask is cleared, and a pending vector then sends one message. -/
def HostLink.unmask (h : HostLink) (v : Fin 2048) : HostLink :=
  let h1 := { h with msix := h.msix.set v { h.msix[v] with masked := false } }
  if h1.pba.getLsbD v.val && !h1.fnMask then
    { h1 with pba := h1.pba &&& ~~~(1#2048 <<< v.val), asked := h1.asked ||| (1#2048 <<< v.val) }
  else h1

/-- MSIX_VECTOR_UNMASK: a write of the vector's mask bit in BAR4. -/
def execMsixVectorUnmask (v : Fin 2048) (s : State) : Host.Outcome State Fault Refusal :=
  s.barWrite fun s => { s with host := s.host.unmask v }

/-- A write of HL.HOSTEV: each 1 raises its host event once (11 R330). -/
def State.hostEvents (s : State) (v : Byte) : State :=
  (List.range 8).foldl (fun s i => if v.getLsbD i then s.raise (504 + i) else s) s

def execHostEventRaise (v : Byte) (s : State) : Host.Outcome State Fault Refusal :=
  s.barWrite fun s => s.hostEvents v

end Sys2Proof.Machine
end

