-- ==== Sys2Proof/Machine/Registers.lean ====
section
/-!
DEFINITION. The MMIO registers: where each lies, its value, what a write does, and what a read clears (00 R5-R8; 05 R145-R148; the register
maps of every chapter).
-/

namespace Sys2Proof.Machine

/-- The registers, by unit. -/
inductive MReg where
  | phys (k : SlotId)
  | laneRet0 (k : SlotId)
  | laneRet1 (k : SlotId)
  | vstatus (k : SlotId)
  | vfcause (k : SlotId)
  | vfaddr (k : SlotId)
  | vfinsn (k : SlotId)
  | vfvl (k : SlotId)
  | veflags (k : SlotId)
  | rastat (k : SlotId)
  | deskstat (k : SlotId)
  | deskecc (k : SlotId)
  | evline (k : SlotId) (i : Fin 32)
  | evpend (k : SlotId)
  | wdctl (k : SlotId)
  | wdcnt (k : SlotId)
  | cstop (k : SlotId)
  | cstoppc (k : SlotId)
  | dbgctl (k : SlotId)
  | dbgstat (k : SlotId)
  | mondesc0 (k : SlotId)
  | mondesc1 (k : SlotId)
  | montsb (k : SlotId)
  | ibp (k : SlotId) (n : Fin 4)
  | wp (k : SlotId) (n : Fin 2)
  | trctl (k : SlotId)
  | coreD (k : SlotId) (n : Fin 32)
  | coreA (k : SlotId) (n : Fin 16)
  | coreSpecial (k : SlotId) (sn : Fin 11)
  | corestat (k : SlotId)
  | coreQ (k : SlotId) (n : Fin 4) (w : Fin 67)
  | sreset (t : Fin 4)
  | mapstat (p : PortId)
  | errcnt (p : PortId)
  | linkstat (p : PortId)
  | bellnum
  | bellstat
  | pclk
  | smprio (m : Fin 11)
  | errlog
  | hostev
  | cqbase (q : QueueId)
  | qctl (q : QueueId)
  | qstat (q : QueueId)
  | qcnt (q : QueueId)
  | evroute (n : Fin 512)
  | damctl
  | dbgreset
  | trptr (i : StreamId)
  deriving DecidableEq, Repr

/-! ### Where they lie (05 R144, R147, R148) -/

/-- A register of the STREAM block of slot `k`. -/
def streamReg (k : SlotId) (o : Nat) : Option MReg :=
  if o = 0x0000 then some (.phys k)
  else if o = 0x0008 then some (.laneRet0 k)
  else if o = 0x0010 then some (.laneRet1 k)
  else if o = 0x0100 then some (.vstatus k)
  else if o = 0x0108 then some (.vfcause k)
  else if o = 0x0110 then some (.vfaddr k)
  else if o = 0x0118 then some (.vfinsn k)
  else if o = 0x0120 then some (.vfvl k)
  else if o = 0x0128 then some (.veflags k)
  else if o = 0x0130 then some (.rastat k)
  else if o = 0x0200 then some (.deskstat k)
  else if o = 0x0208 then some (.deskecc k)
  else if 0x1000 ≤ o ∧ o < 0x1100 ∧ o % 8 = 0 then some (.evline k (Fin.ofNat 32 ((o - 0x1000) / 8)))
  else if o = 0x1100 then some (.evpend k)
  else if o = 0x1108 then some (.wdctl k)
  else if o = 0x1110 then some (.wdcnt k)
  else if o = 0x1118 then some (.cstop k)
  else if o = 0x1120 then some (.cstoppc k)
  else if o = 0x2000 then some (.dbgctl k)
  else if o = 0x2008 then some (.dbgstat k)
  else if o = 0x2010 then some (.mondesc0 k)
  else if o = 0x2018 then some (.mondesc1 k)
  else if o = 0x2020 then some (.montsb k)
  else if 0x2040 ≤ o ∧ o < 0x2060 ∧ o % 8 = 0 then some (.ibp k (Fin.ofNat 4 ((o - 0x2040) / 8)))
  else if 0x2060 ≤ o ∧ o < 0x2070 ∧ o % 8 = 0 then some (.wp k (Fin.ofNat 2 ((o - 0x2060) / 8)))
  else if o = 0x2100 then some (.trctl k)
  else if 0x3000 ≤ o ∧ o < 0x3100 ∧ o % 8 = 0 then some (.coreD k (Fin.ofNat 32 ((o - 0x3000) / 8)))
  else if 0x3100 ≤ o ∧ o < 0x3180 ∧ o % 8 = 0 then some (.coreA k (Fin.ofNat 16 ((o - 0x3100) / 8)))
  else if 0x3180 ≤ o ∧ o < 0x31D8 ∧ o % 8 = 0 then some (.coreSpecial k (Fin.ofNat 11 ((o - 0x3180) / 8)))
  else if o = 0x3200 then some (.corestat k)
  else if 0x3400 ≤ o ∧ o < 0x4000 ∧ o % 8 = 0 then
    let n := (o - 0x3400) / 0x300
    let w := (o - 0x3400) % 0x300 / 8
    if h : n < 4 ∧ w < 67 then some (.coreQ k ⟨n, h.1⟩ ⟨w, h.2⟩) else none
  else none

/-- A register of a tile's blocks. -/
def tileReg (t : Fin 4) (o : Nat) : Option MReg :=
  if o < 0x110000 then
    let j := o / 0x10000
    if h : j < 17 then streamReg ⟨17 * t.val + j, by omega⟩ (o % 0x10000) else none
  else if o = 0x200000 then some (.sreset t)
  else if 0x300000 ≤ o ∧ o < 0x380000 then
    let n := (o - 0x300000) / 0x10000
    if h : n < 8 then
      let p : PortId := ⟨8 * t.val + n, by omega⟩
      let r := o % 0x10000
      if r = 0 then some (.mapstat p) else if r = 8 then some (.errcnt p) else if r = 0x10 then some (.linkstat p) else none
    else none
  else none

def mmioBase : Nat := 0x3C00000000
def ttBase : Nat := 0x3C10000000
def smBase : Nat := 0x3C10100000
def hlBase : Nat := 0x3C10200000
def mgmtBase : Nat := 0x3C10400000
def dbgBase : Nat := 0x3C10600000
def dictBase : Nat := 0x3C20000000
def traceBase : Nat := 0x3C30000000
def flashBase : Nat := 0x3C40000000

/-- The register whose first byte is at a module address. -/
def regAt (a : Nat) : Option MReg :=
  if a < mmioBase then none
  else if a < mmioBase + 0x4000000 then tileReg (Fin.ofNat 4 ((a - mmioBase) / 0x1000000)) ((a - mmioBase) % 0x1000000)
  else if a = ttBase then some .bellnum
  else if a = ttBase + 8 then some .bellstat
  else if a = ttBase + 0x10 then some .pclk
  else if smBase ≤ a ∧ a < smBase + 88 ∧ a % 8 = 0 then some (.smprio (Fin.ofNat 11 ((a - smBase) / 8)))
  else if a = smBase + 0x100 then some .errlog
  else if a = hlBase + 0x100 then some .hostev
  else if hlBase + 0x1000 ≤ a ∧ a < hlBase + 0x1200 ∧ a % 8 = 0 then
    let o := a - hlBase - 0x1000
    let q : QueueId := Fin.ofNat 16 (o / 0x20)
    let r := o % 0x20
    if r = 0 then some (.cqbase q) else if r = 8 then some (.qctl q) else if r = 0x10 then some (.qstat q) else some (.qcnt q)
  else if mgmtBase + 0x20000 ≤ a ∧ a < mgmtBase + 0x21000 ∧ a % 8 = 0 then some (.evroute (Fin.ofNat 512 ((a - mgmtBase - 0x20000) / 8)))
  else if a = dbgBase then some .damctl
  else if a = dbgBase + 8 then some .dbgreset
  else if dbgBase + 0x1000 ≤ a ∧ a < dbgBase + 0x1200 ∧ a % 8 = 0 then some (.trptr (Fin.ofNat 64 ((a - dbgBase - 0x1000) / 8)))
  else none

/-- Whether a register is 64 bits wide. -/
def MReg.wide : MReg → Bool
  | .laneRet0 _ | .laneRet1 _ | .vfaddr _ | .vfinsn _ | .rastat _ | .cstoppc _ | .mondesc0 _ | .mondesc1 _ | .montsb _ | .ibp .. | .wp ..
  | .trctl _ | .coreD .. | .coreA .. | .coreSpecial .. | .coreQ .. | .errcnt _ | .bellnum | .bellstat | .smprio _ | .errlog | .cqbase _
  | .qcnt _ | .trptr _ => true
  | _ => false

/-- A register access (05 R146): the register, and the bits of it that `len` bytes at `a` cover. -/
def regAccess (a len : Nat) : Option (MReg × Word64) :=
  if len = 8 ∧ a % 8 = 0 then
    match regAt a with
    | some r => if r.wide then some (r, 0xFFFFFFFFFFFFFFFF) else none
    | none => none
  else if len = 4 ∧ a % 4 = 0 then
    match regAt a with
    | some r => some (r, 0xFFFFFFFF)
    | none =>
      if a % 8 = 4 then
        match regAt (a - 4) with
        | some r => if r.wide then some (r, 0xFFFFFFFF00000000) else none
        | none => none
      else none
  else none

/-! ### Values -/

def BellSrc.code : BellSrc → Nat
  | .internal => 0
  | .searching => 1
  | .locked => 2
  | .holdover => 3

def CoreStatus.code : CoreStatus → Nat
  | .quiet => 0
  | .running => 1
  | .monitor => 2
  | .checkstopped => 3

def DeskPower.code : DeskPower → Nat
  | .on => 0
  | .entering => 1
  | .retention => 2
  | .waking => 3

def Train.code : Train → Nat
  | .untrained => 0
  | .training => 1
  | .trained => 2
  | .failed => 3

def PairState.code : PairState → Nat
  | .disabled => 0
  | .running => 1
  | .error => 2

/-- A core register as the debug offsets show it: 0 while the core runs (07 R256). -/
def Slot.shown (x : Slot) (v : Word64) : Word64 := if x.status = .running then 0 else v

/-- Queued vector instructions, the running one included (02 R27). -/
def Engine.depth (e : Engine) : Nat := e.queue.foldl (fun n v => n + v.slots) 0

/-- The level of the Stream that a slot serves; the module level for a spare or retired slot (14 R406). -/
def State.slotLevel (s : State) (k : SlotId) : Nat :=
  match s.streamOf k with
  | some i => s.level i
  | none => s.moduleLevel

/-- What a register showed before the bell, while the clk of that bell lasts: the map registers and the bell's own (01 R24; 06 R184). -/
def State.valueBefore (s : State) (r : MReg) : Option Word64 :=
  match s.tt.before with
  | none => none
  | some b =>
    if b.clk ≠ s.clk then none
    else
      match r with
      | .phys k => some b.phys[k]
      | .laneRet0 k => some (b.laneRet[k].truncate 64)
      | .laneRet1 k => some ((b.laneRet[k] >>> 64).truncate 64)
      | .mapstat p => some b.mapstat[p]
      | .bellnum => some (b.bellNum.zeroExtend 64)
      | .pclk => some (b.pclk.zeroExtend 64)
      | _ => none

/-- The current value of a register, the bell's clk apart. -/
def State.valueNow (s : State) (r : MReg) : Word64 :=
  match r with
  | .phys k => s.physWord k
  | .laneRet0 k => (s.slot k).laneRet.truncate 64
  | .laneRet1 k => ((s.slot k).laneRet >>> 64).truncate 64
  | .vstatus k =>
    let e := (s.slot k).eng
    pack [(e.depth, 16), (if e.stopped then 2 else if e.queue.isEmpty then 0 else 1, 6)]
  | .vfcause k =>
    let c := (s.slot k).eng.cause
    pack [(b2n c.valid, 31), (c.opnd.toNat, 20), (c.gop.toNat, 16), (c.cause.toNat, 8), (c.sub.toNat, 0)]
  | .vfaddr k => (s.slot k).eng.vfaddr
  | .vfinsn k => (s.slot k).eng.vfinsn
  | .vfvl k => (s.slot k).eng.vfvl.zeroExtend 64
  | .veflags k => (s.slot k).eng.veflags.zeroExtend 64
  | .rastat k => pack [((s.slot k).eng.raDropped.before.toNat, 32), ((s.slot k).eng.raIssued.before.toNat, 0)]
  | .deskstat k =>
    let d := (s.slot k).desk
    pack [(d.power.code, 30), (d.collOff.toNat, 3), (b2n d.coll, 0)]
  | .deskecc k => pack [((s.slot k).desk.ce.before.toNat, 16), ((s.slot k).desk.ue.before.toNat, 0)]
  | .evline k i =>
    let l := (s.slot k).lines32[i]
    pack [(b2n l.en, 31), (l.level.toNat, 24), (l.src.toNat, 0)]
  | .evpend k => (s.slot k).evpend.zeroExtend 64
  | .wdctl k => pack [((s.slot k).wd.mode.toNat, 30), ((s.slot k).wd.load.toNat, 0)]
  | .wdcnt k => pack [(b2n (s.slot k).wd.exp, 31), ((s.slot k).wd.count.toNat, 0)]
  | .cstop k =>
    let c := (s.slot k).cstop
    pack [(c.vec.toNat, 24), (c.ovec.toNat, 16), (c.ecause.toNat, 8), (b2n c.valid, 0)]
  | .cstoppc k => (s.slot k).cstop.pc
  | .dbgctl k =>
    let g := (s.slot k).dbg
    pack [(b2n g.monen, 31), (b2n g.wdpause, 30), (b2n g.step, 29)]
  | .dbgstat k =>
    let x := s.slot k
    pack [(match s.streamOf k with | some i => s.level i | none => 0, 30), (b2n (x.status == .monitor), 29), (b2n x.dbg.halt, 28),
      (x.dbg.entries.before.toNat, 16), (x.dbg.bkptNop.before.toNat, 8), (b2n x.dbg.monErr, 0)]
  | .mondesc0 k => (s.slot k).dbg.desc0
  | .mondesc1 k => (s.slot k).dbg.desc1
  | .montsb k => (s.slot k).dbg.tsb
  | .ibp k n => pack [(b2n (s.slot k).dbg.ibp[n].1, 63), ((s.slot k).dbg.ibp[n].2.toNat, 2)]
  | .wp k n =>
    let w := (s.slot k).dbg.wp[n]
    pack [(b2n w.en, 63), (b2n w.rd, 62), (b2n w.wr, 61), (w.size.toNat, 58), (w.addr.toNat, 0)]
  | .trctl k =>
    let g := (s.slot k).dbg
    pack [(b2n g.trEn, 63), (g.trDest.toNat, 61), (b2n g.trOvw, 60), (b2n g.trSys, 59), (g.stimBase.toNat, 40), (g.stimEn.toNat, 0)]
  | .coreD k n => (s.slot k).shown (s.slot k).regs.d[n]
  | .coreA k n => (s.slot k).shown (s.slot k).regs.a[n]
  | .coreSpecial k sn => (s.slot k).shown (((s.slot k).special sn.val).getD 0)
  | .corestat k => pack [((s.slot k).status.code, 0)]
  | .coreQ k n w => (s.slot k).shown (BitVec.ofNat 64 ((s.slot k).regs.q[n].toNat >>> (64 * w.val)))
  | .sreset _ => 0
  | .mapstat p => s.ports[p].mapWord
  | .errcnt p =>
    let x := s.ports[p]
    pack [(x.edcRd.before.toNat, 48), (x.edcWr.before.toNat, 32), (x.corr.before.toNat, 16), (x.uncorr.before.toNat, 0)]
  | .linkstat p => pack [(s.ports[p].train.code, 30), (s.ports[p].pprLeft.toNat, 16), (s.ports[p].temp.toNat, 8)]
  | .bellnum => s.tt.bellNum.zeroExtend 64
  | .bellstat => pack [(s.tt.src.code, 62), (s.tt.rej.before.toNat, 32), (s.tt.phase.toNat, 0)]
  | .pclk => s.tt.pclk.zeroExtend 64
  | .smprio m => s.sm.prio[m].zeroExtend 64
  | .errlog =>
    let e := s.sm.errlog
    pack [(b2n e.valid, 63), (e.master.toNat, 59), (e.kind.toNat, 56), (e.addr.toNat, 0)]
  | .hostev => 0
  | .cqbase q => s.host.pairs[q].cqbase.zeroExtend 64 <<< 12
  | .qctl q =>
    let x := s.host.pairs[q]
    pack [(b2n (x.state != .disabled), 31), (b2n x.ien, 30), (x.cqsz.toNat, 16), (x.iv.toNat, 0)]
  | .qstat q =>
    let x := s.host.pairs[q]
    pack [(x.state.code, 30), (x.err.toNat, 24), (x.sqHead.toNat, 16), (x.cqTail.toNat, 0)]
  | .qcnt q => pack [(s.host.pairs[q].fullw.before.toNat, 32), (s.host.pairs[q].drop.before.toNat, 0)]
  | .evroute n => pack [(b2n s.mgmt.evroute[n].1, 31), (s.mgmt.evroute[n].2.toNat, 16)]
  | .damctl => pack [(b2n s.dbg.side, 31)]
  | .dbgreset => 0
  | .trptr i => pack [(s.dbg.rings[i].rd.toNat, 32), (s.dbg.rings[i].wr.toNat, 0)]

/-- The value that a read of a register returns. -/
def State.regValue (s : State) (r : MReg) : Word64 :=
  match s.valueBefore r with
  | some v => v
  | none => s.valueNow r

/-! ### What a read clears (00 R5, R7; 05 R146) -/

/-- A read of the bits `m` of a register clears its RC fields there; what hardware has added in this clk remains (00 R7). -/
def State.regClear (s : State) (r : MReg) (m : Word64) : State :=
  let low := m.getLsbD 0
  let high := m.getLsbD 32
  match r with
  | .rastat k => s.modSlot k fun x => { x with eng := { x.eng with
      raDropped := if high then x.eng.raDropped.clear else x.eng.raDropped
      raIssued := if low then x.eng.raIssued.clear else x.eng.raIssued } }
  | .deskecc k => s.modSlot k fun x => { x with desk := { x.desk with ce := x.desk.ce.clear, ue := x.desk.ue.clear } }
  | .dbgstat k => s.modSlot k fun x => { x with dbg := { x.dbg with entries := x.dbg.entries.clear, bkptNop := x.dbg.bkptNop.clear } }
  | .errcnt p => s.modPort p fun x => { x with
      edcRd := if high then x.edcRd.clear else x.edcRd
      edcWr := if high then x.edcWr.clear else x.edcWr
      corr := if low then x.corr.clear else x.corr
      uncorr := if low then x.uncorr.clear else x.uncorr }
  | .bellstat => { s with tt := { s.tt with rej := if high then s.tt.rej.clear else s.tt.rej } }
  | .qcnt q => s.modPair q fun x => { x with fullw := if high then x.fullw.clear else x.fullw, drop := if low then x.drop.clear else x.drop }
  | _ => s

/-! ### Resets of a Stream slot (13 R389, R393; 14 R421) -/

/-- The slot's state as the Stream column of the master table leaves it: the desk, EVLINE, WDCTL, CSTOP and the debug registers are kept. -/
def Slot.streamReset (x : Slot) : Slot :=
  { x with
    regs := Regs.reset
    status := .quiet
    resv := none
    delay := none
    waitAt := none
    exc := none
    storeErr := none
    chain := none
    loads := []
    sbuf := []
    partsDone := 0
    lines := []
    ahead := []
    line := none
    prefetch := []
    btb := Vector.replicate 64 none
    parity := []
    eng := Engine.reset
    evpend := 0
    wd := { x.wd with exp := false, count := 0, phase := 0, pending := false }
    dbg := { x.dbg with event := none, exempt := none } }

/-- A split store at the front of the store buffer may leave its lower half written when it is discarded (13 R389; free, log 13). -/
def State.splitHalf (s : State) (k : SlotId) : State :=
  match (s.slot k).sbuf with
  | [] => s
  | e :: _ =>
    let lower := 64 - e.addr % 64
    if lower < e.bytes.length then
      let (n, s) := s.draw
      if Config.freeBit n then s.coreWrite k e.addr (e.bytes.take lower) else s
    else s

/-- A Stream slot is reset: its running lesson stops and is reported, and uncommitted stores are discarded. 13 R389 completes the reset within 500 clk of
the write; here it completes 500 clk after it, so a lesson due before then is passed over with cause 06h: DESIGN CHOICE (log 161). -/
def State.resetSlot (s : State) (k : SlotId) (status cause : Byte) : State :=
  let running := match s.streamOf k with
    | some i => (s.client (.stream i)).run.isSome
    | none => false
  let s := if running then (s.cutEntry k).splitHalf k else s
  let s := s.modSlot k fun x => { x.streamReset with resetHold := some (s.clk + 500, status, cause) }
  match s.streamOf k with
  | some i => s.endRun (.stream i) status cause
  | none => s

/-- STREAM_RESET: a write of TILE.SRESET (13 R389). -/
def State.streamResets (s : State) (t : Fin 4) (bits : BitVec 17) : State :=
  (List.finRange 17).foldl (fun (s : State) j =>
    if bits.getLsbD j.val then s.resetSlot ⟨17 * t.val + j.val, by omega⟩ 4 6 else s) s

def execStreamReset (t : Fin 4) (bits : BitVec 17) (s : State) : Host.Outcome State Fault Refusal :=
  if s.power.phase = .run then .next (s.streamResets t bits) else .next s

/-! ### The halt (14 R409) -/

def State.setHalt (s : State) (k : SlotId) (v : Bool) : State := s.modSlot k fun x => { x with dbg := { x.dbg with halt := v } }

/-- HALT stays pending until a boundary takes it; it is raised only while the Stream's level is 2, MONEN is 1 and the core is not in
monitor mode (14 R409, R410). -/
def State.requestHalt (s : State) (k : SlotId) : State := if s.debugOn k then s.setHalt k true else s

/-! ### What a write does (00 R5) -/

/-- Bits hi to lo of a word, as a bit vector. -/
def fld (v : Word64) (lo w : Nat) : BitVec w := (v >>> lo).truncate w

/-- The SIZE of a watchpoint: a write of 111b leaves it unchanged (14). -/
def wpSize (old new : BitVec 3) : BitVec 3 := if new = 7 then old else new

/-- A write of HL.QCTL (11 R325). -/
def QueuePair.control (x : QueuePair) (v : Word64) : QueuePair :=
  let en := v.getLsbD 31
  let ien := v.getLsbD 30
  let sz : BitVec 12 := fld v 16 12
  let iv : BitVec 11 := fld v 0 11
  if en then x.enable ien sz iv
  else if x.state = .disabled then { x with ien := ien, cqsz := if sz = 0 then x.cqsz else sz, iv := iv }
  else x.disable ien iv

/-- A write of 1 to COLL: it ends set, with its offset, when a collision occurred in this clk (00 R6; 05, COLLOFF). -/
def Desk.clearColl (d : Desk) (now : Option (BitVec 19)) : Desk :=
  match now with
  | some o => { d with coll := true, collOff := o }
  | none => { d with coll := false }

/-- A write of `v` to the bits `m` of a register. A W1C bit that hardware has set in the same clk stays set (00 R6). -/
def State.regWrite (s : State) (r : MReg) (m v : Word64) : State :=
  let n := (s.regValue r &&& ~~~m) ||| (v &&& m)
  let one := v &&& m
  let high := m.getLsbD 32
  match r with
  | .deskstat k => if one.getLsbD 0 then s.modSlot k fun x => { x with desk := x.desk.clearColl x.setNow.coll } else s
  | .evline k i => s.modSlot k fun x => { x with lines32 := x.lines32.set i ⟨n.getLsbD 31, fld n 24 4, fld n 0 9⟩ }
  | .evpend k => s.modSlot k fun x => { x with evpend := x.evpend &&& ~~~(one.truncate 32 &&& ~~~x.setNow.evpend) }
  | .wdctl k => s.modSlot k fun x =>
      let mode : BitVec 2 := fld n 30 2
      let load : BitVec 24 := fld n 0 24
      let paused := x.status == .monitor && x.dbg.wdpause
      { x with wd := { x.wd with
        mode := if mode = 3 then x.wd.mode else mode
        load := load
        count := if paused then x.wd.count else load
        phase := if paused then x.wd.phase else 0 } }
  | .wdcnt k => if one.getLsbD 31 then s.modSlot k fun x => { x with wd := { x.wd with exp := x.wd.exp && x.setNow.exp } } else s
  | .cstop k => if one.getLsbD 0 then s.modSlot k fun x => { x with cstop := { x.cstop with valid := x.cstop.valid && x.setNow.cstop } } else s
  | .dbgctl k =>
    let s := s.modSlot k fun x => { x with dbg := { x.dbg with monen := n.getLsbD 31, wdpause := n.getLsbD 30, step := n.getLsbD 29 } }
    let s := if one.getLsbD 28 then s.requestHalt k else s
    if one.getLsbD 27 then s.setHalt k false else s
  | .dbgstat k => if one.getLsbD 0 then s.modSlot k fun x => { x with dbg := { x.dbg with monErr := x.dbg.monErr && x.setNow.monErr } } else s
  | .mondesc0 k => s.modSlot k fun x => { x with dbg := { x.dbg with desc0 := n } }
  | .mondesc1 k => s.modSlot k fun x => { x with dbg := { x.dbg with desc1 := n } }
  | .montsb k => s.modSlot k fun x => { x with dbg := { x.dbg with tsb := n } }
  | .ibp k i => s.modSlot k fun x => { x with dbg := { x.dbg with ibp := x.dbg.ibp.set i (n.getLsbD 63, fld n 2 40) } }
  | .wp k i => s.modSlot k fun x =>
      let w : Watchpoint := ⟨n.getLsbD 63, n.getLsbD 62, n.getLsbD 61, wpSize x.dbg.wp[i].size (fld n 58 3), fld n 0 42⟩
      { x with dbg := { x.dbg with wp := x.dbg.wp.set i w } }
  | .trctl k =>
    let s := s.modSlot k fun x => { x with dbg := { x.dbg with
      trEn := n.getLsbD 63
      trDest := fld n 61 2
      trOvw := n.getLsbD 60
      trSys := n.getLsbD 59
      stimBase := fld n 40 14
      stimEn := fld n 0 32 } }
    if n.getLsbD 62 then { s with dbg := { s.dbg with portStarted := true } } else s
  | .sreset t => s.streamResets t (fld one 0 17)
  | .smprio i => { s with sm := { s.sm with prio := s.sm.prio.set i (fld n 0 44) } }
  | .errlog => if one.getLsbD 63 then { s with sm := { s.sm with errlog := s.sm.errNow.getD { s.sm.errlog with valid := false } } } else s
  | .hostev => s.hostEvents (fld one 0 8)
  | .cqbase q => s.modPair q fun x => if x.state = .disabled then { x with cqbase := fld n 12 52 } else x
  | .qctl q => s.modPair q fun x => x.control n
  | .evroute i => { s with mgmt := { s.mgmt with evroute := s.mgmt.evroute.set i (n.getLsbD 31, fld n 16 11) } }
  | .damctl => { s with dbg := { s.dbg with side := n.getLsbD 31 } }
  | .dbgreset =>
    if one.getLsbD 31 then
      (match s.slotOf (fld one 0 6).toFin with
      | some k => s.resetSlot k 3 0
      | none => s).dropMaster .dam
    else s
  | .trptr i => if high then { s with dbg := { s.dbg with rings := s.dbg.rings.set i { s.dbg.rings[i] with rd := fld n 32 17 } } } else s
  | _ => s

end Sys2Proof.Machine
end

