-- ==== Sys2Proof/Machine/Vector.lean ====
section
/-!
DEFINITION. Issue of vector instructions: the queue, chained groups, the engine-control instructions (02 R26-R32, R58-R66; 03 R72-R74).
-/

namespace Sys2Proof

open Machine

/-- No field is used (02 R66). -/
def VFmt.none (f : VFmt) : Bool :=
  f.ad == 0 && f.as1 == 0 && f.as2 == 0 && f.as3 == 0 && f.ds == 0 && f.qn == 0 && f.scl == 0 && f.rnd == 0 && f.fn == 0 && f.rsv == 0

end Sys2Proof

namespace Sys2Proof.Machine

/-! ### Capture and the queue -/

/-- Registers that an operation of a row captures at issue (02 R26; 04 R104, R114): VL, VX, FPCSR, its address registers, and D[DS] where
it is a scalar operand. -/
def VRow.captured (r : VRow) (vop : Nat) (f : VFmt) : List Reg :=
  [.special 2, .special 3, .special 9]
  ++ (if r.ad then [.a f.ad] else []) ++ (if r.as1 then [.a f.as1] else [])
  ++ (if r.as2 && f.scl == 0 then [.a f.as2] else []) ++ (if r.as3 then [.a f.as3] else [])
  ++ (if vop = 2 ∨ f.scl = 1 then [.d f.ds] else [])

/-- The register that a dot product, a sum or a reduction accumulates onto (02 R66, R68; 07 R255). -/
def accumulated (vop : Nat) (f : VFmt) : List Reg :=
  if vop = 0x50 ∨ vop = 0x51 then [.q f.qn] else if 0x52 ≤ vop ∧ vop ≤ 0x58 then [.d f.ds] else []

/-- The decode rules of a vector operation: 8 bytes, not in a delay slot, not cancelled, a member of a group (02 R64; 03 R72; 07 R229). -/
def vecInfo (vop : Nat) (f : VFmt) : Info :=
  { size := 8, wide := true, slotOk := false, cancel := false, member := true
    fieldsOk := (vrow vop).any fun r => r.fieldsOk f
    reads := (vrow vop).elim [] fun r => r.captured vop f
    accumulates := accumulated vop f }

/-- An engine-control instruction: it uses no field and is no member of a group. VRESUME of a stopped engine reads VX, and VDISCARD of one writes it
(02 R58, R59; 07 R255). -/
def controlInfo (f : VFmt) (reads writes : List Reg) : Info :=
  { size := 8, wide := true, slotOk := false, cancel := false, fieldsOk := f.none && f.cnt == 0, reads := reads, writes := writes }

/-- VX, where the engine of Stream `i` is stopped. -/
def State.stoppedVx (s : State) (i : StreamId) : List Reg := if (s.slotOf i).any fun k => (s.slot k).eng.stopped then [.special 3] else []

/-- An operation with the values it captures now. -/
def Regs.capture (r : Regs) (vop : Nat) (f : VFmt) (user : Option (Fin 64 × BitVec 5)) : VOp where
  vop := BitVec.ofNat 8 vop
  f := f
  aAd := r.getA f.ad
  a1 := r.getA f.as1
  a2 := r.getA f.as2
  a3 := r.getA f.as3
  scalar := r.getD f.ds
  rm := r.rounding f.rnd
  traps := r.traps
  user := user

/-- Queue slots taken, of 128 (02 R27). -/
def Engine.used (g : Engine) : Nat := g.queue.foldl (fun n e => n + e.slots) 0

/-- The accumulator that an operation writes (08 R263). -/
def VOp.qDest (v : VOp) : Option (Fin 4) := if v.vop = 0x50 ∨ v.vop = 0x51 then some v.f.qn.toFin else none

/-- Entries enter the queue, and their accumulators are dirty from now (08 R263). -/
def Slot.enqueue (x : Slot) (es : List VEntry) : Slot :=
  let qs := es.flatMap fun e => e.ops.filterMap VOp.qDest
  { x with
    regs := qs.foldl Regs.dirty x.regs
    chain := none
    eng := { x.eng with queue := x.eng.queue ++ es } }

/-- Entries of `n` slots enter when the engine is not stopped, every earlier store has committed, slots are free and guarded accumulators
are saved (02 R27, R29, R32; 08 R264). -/
def State.issueEntries (s : State) (k : SlotId) (n : Nat) (es : List VEntry) : Done :=
  let x := s.slot k
  if x.eng.stopped then .stay (s.raiseExc k ⟨0x0A, x.back.1, x.back.2, 0, 0, 0, 0⟩)
  else if !x.sbuf.isEmpty || 128 < x.eng.used + n then .wait
  else
    let qs := es.flatMap fun e => e.ops.filterMap VOp.qDest
    match x.parityOf ((qs.filter fun (n : Fin 4) => x.regs.qg.getLsbD n.val).map fun (n : Fin 4) => Reg.q (BitVec.ofFin n)) with
    | some c => .stay (s.parityFault k 8 c)
    | none =>
      match s.saveQs k qs with
      | .wait => .wait
      | .escalated s => .stay s
      | .ok s => .next (s.modSlot k fun x => x.enqueue es)

/-- One operation: a queue entry alone, or a member of the open group, which enters with its last member (03 R73, R74). A user instruction that stands as
a member of an ordinary group has no instruction word in its slot, and VFINSN bits 15:0 are 0 for it; 09 R289 speaks only of entries of an expansion and
of ordinary instructions: DESIGN CHOICE (log 166). The group has the VL and VX of its first member: DEDUCED (log 66). -/
def State.issueOp (s : State) (k : SlotId) (vop : Nat) (f : VFmt) : Done :=
  let x := s.slot k
  let r := x.regs
  let v := r.capture vop f none
  match x.chain with
  | none => s.issueEntries k 1 [⟨[v], 1, r.vl, r.vx⟩]
  | some c =>
    let c := if c.ops.isEmpty then { c with vl := r.vl, vx := r.vx } else c
    let ops := c.ops ++ [v]
    if ops.length < c.count then .next (s.setSlot k { x with chain := some { c with ops := ops } })
    else s.issueEntries k (c.count + 1) [⟨ops, c.count + 1, c.vl, c.vx⟩]

/-- A vector operation of the opcode list. -/
def State.vector (s : State) (i : StreamId) (vop : Nat) (f : VFmt) : Host.Outcome State Fault Refusal :=
  s.instruction i (vecInfo vop f) fun s k => s.issueOp k vop f

/-! ### CHAIN and engine control -/

/-- CHAIN opens a group of CNT + 1 operations; CNT 1000b to 1111b is reserved (02 R64; 03 R72). A breakpoint in the group is its own. -/
def execChain (i : StreamId) (f : VFmt) (s : State) : Host.Outcome State Fault Refusal :=
  s.instruction i { size := 8, span := 8 * (f.cnt.toNat + 2), wide := true, slotOk := false, endOk := false, cancel := false
                    fieldsOk := f.none && decide (f.cnt.toNat < 8) } fun s k =>
    let x := s.slot k
    let r := x.regs
    if !x.sbuf.isEmpty then .wait else .next (s.setSlot k { x with chain := some ⟨r.pc, f.cnt.toNat + 1, [], r.vl, r.vx⟩ })

/-- VFENCE waits until the queue is empty; with the engine stopped it raises Vector Sequence, or Vector Fault when the engine stopped while
it waited (02 R32, R62, R66). -/
def execVfence (i : StreamId) (f : VFmt) (s : State) : Host.Outcome State Fault Refusal :=
  s.instruction i (controlInfo f [] []) fun s k =>
    let x := s.slot k
    if x.eng.stopped then
      if x.waitAt = some .vfence then .trap 0x0B (x.eng.cause.cause.zeroExtend 12) 0 0 else .trap 0x0A 0 0 0
    else if x.eng.queue.isEmpty then .next s
    else .hold .vfence

/-- VSUSPEND asks the running engine to stop at the next element-group boundary (02 R60). -/
def execVsuspend (i : StreamId) (f : VFmt) (s : State) : Host.Outcome State Fault Refusal :=
  s.instruction i (controlInfo f [] []) fun s k =>
    .next (s.modSlot k fun x =>
      if x.eng.stopped || x.eng.queue.isEmpty then x else { x with eng := { x.eng with suspend := true } })

/-- The front entry starts again at element VX (02 R58). -/
def Slot.resume (x : Slot) : Slot :=
  if !x.eng.stopped then x
  else { x with eng := { x.eng with
    stopped := false
    cause := { x.eng.cause with valid := false }
    queue := match x.eng.queue with
      | [] => []
      | e :: es => { e with vx := x.regs.vx } :: es } }

/-- VRESUME (02 R58). -/
def execVresume (i : StreamId) (f : VFmt) (s : State) : Host.Outcome State Fault Refusal :=
  s.instruction i (controlInfo f (s.stoppedVx i) []) fun s k => .next (s.modSlot k Slot.resume)

/-- VDISCARD drops the stopped entry and the queue behind it (02 R59). -/
def execVdiscard (i : StreamId) (f : VFmt) (s : State) : Host.Outcome State Fault Refusal :=
  s.instruction i (controlInfo f [] (s.stoppedVx i)) fun s k =>
    .next (s.modSlot k fun x =>
      if x.eng.stopped then { x with regs := { x.regs with vx := 0 }, eng := x.eng.cleared } else x)

/-! ### The operations of the opcode list (02 R66) -/

/-- VCOPY (02 R66). -/
def execVcopy (i : StreamId) (f : VFmt) (s : State) : Host.Outcome State Fault Refusal := s.vector i 0x00 f

/-- VCVT (02 R66). -/
def execVcvt (i : StreamId) (f : VFmt) (s : State) : Host.Outcome State Fault Refusal := s.vector i 0x01 f

/-- VFILL (02 R66). -/
def execVfill (i : StreamId) (f : VFmt) (s : State) : Host.Outcome State Fault Refusal := s.vector i 0x02 f

/-- VIOTA (02 R66). -/
def execViota (i : StreamId) (f : VFmt) (s : State) : Host.Outcome State Fault Refusal := s.vector i 0x03 f

/-- VSEL (02 R66). -/
def execVsel (i : StreamId) (f : VFmt) (s : State) : Host.Outcome State Fault Refusal := s.vector i 0x04 f

/-- VPERM (02 R66). -/
def execVperm (i : StreamId) (f : VFmt) (s : State) : Host.Outcome State Fault Refusal := s.vector i 0x05 f

/-- VBREV (02 R66). -/
def execVbrev (i : StreamId) (f : VFmt) (s : State) : Host.Outcome State Fault Refusal := s.vector i 0x06 f

/-- VFADD (02 R66). -/
def execVfadd (i : StreamId) (f : VFmt) (s : State) : Host.Outcome State Fault Refusal := s.vector i 0x10 f

/-- VFSUB (02 R66). -/
def execVfsub (i : StreamId) (f : VFmt) (s : State) : Host.Outcome State Fault Refusal := s.vector i 0x11 f

/-- VFMUL (02 R66). -/
def execVfmul (i : StreamId) (f : VFmt) (s : State) : Host.Outcome State Fault Refusal := s.vector i 0x12 f

/-- VFDIV (02 R66). -/
def execVfdiv (i : StreamId) (f : VFmt) (s : State) : Host.Outcome State Fault Refusal := s.vector i 0x13 f

/-- VFSQRT (02 R66). -/
def execVfsqrt (i : StreamId) (f : VFmt) (s : State) : Host.Outcome State Fault Refusal := s.vector i 0x14 f

/-- VFMA (02 R66). -/
def execVfma (i : StreamId) (f : VFmt) (s : State) : Host.Outcome State Fault Refusal := s.vector i 0x15 f

/-- VFMS (02 R66). -/
def execVfms (i : StreamId) (f : VFmt) (s : State) : Host.Outcome State Fault Refusal := s.vector i 0x16 f

/-- VFNMA (02 R66). -/
def execVfnma (i : StreamId) (f : VFmt) (s : State) : Host.Outcome State Fault Refusal := s.vector i 0x17 f

/-- VFMIN (02 R66). -/
def execVfmin (i : StreamId) (f : VFmt) (s : State) : Host.Outcome State Fault Refusal := s.vector i 0x18 f

/-- VFMAX (02 R66). -/
def execVfmax (i : StreamId) (f : VFmt) (s : State) : Host.Outcome State Fault Refusal := s.vector i 0x19 f

/-- VFABS (02 R66). -/
def execVfabs (i : StreamId) (f : VFmt) (s : State) : Host.Outcome State Fault Refusal := s.vector i 0x1A f

/-- VFNEG (02 R66). -/
def execVfneg (i : StreamId) (f : VFmt) (s : State) : Host.Outcome State Fault Refusal := s.vector i 0x1B f

/-- VFCMP (02 R66). -/
def execVfcmp (i : StreamId) (f : VFmt) (s : State) : Host.Outcome State Fault Refusal := s.vector i 0x1C f

/-- VFCLASS (02 R66). -/
def execVfclass (i : StreamId) (f : VFmt) (s : State) : Host.Outcome State Fault Refusal := s.vector i 0x1D f

/-- VFRINT (02 R66). -/
def execVfrint (i : StreamId) (f : VFmt) (s : State) : Host.Outcome State Fault Refusal := s.vector i 0x1E f

/-- VFMAW (02 R66). -/
def execVfmaw (i : StreamId) (f : VFmt) (s : State) : Host.Outcome State Fault Refusal := s.vector i 0x20 f

/-- VADD (02 R66). -/
def execVadd (i : StreamId) (f : VFmt) (s : State) : Host.Outcome State Fault Refusal := s.vector i 0x30 f

/-- VSUB (02 R66). -/
def execVsub (i : StreamId) (f : VFmt) (s : State) : Host.Outcome State Fault Refusal := s.vector i 0x31 f

/-- VMUL (02 R66). -/
def execVmul (i : StreamId) (f : VFmt) (s : State) : Host.Outcome State Fault Refusal := s.vector i 0x32 f

/-- VMULH (02 R66). -/
def execVmulh (i : StreamId) (f : VFmt) (s : State) : Host.Outcome State Fault Refusal := s.vector i 0x33 f

/-- VADDC (02 R66). -/
def execVaddc (i : StreamId) (f : VFmt) (s : State) : Host.Outcome State Fault Refusal := s.vector i 0x34 f

/-- VADDCO (02 R66). -/
def execVaddco (i : StreamId) (f : VFmt) (s : State) : Host.Outcome State Fault Refusal := s.vector i 0x35 f

/-- VSUBB (02 R66). -/
def execVsubb (i : StreamId) (f : VFmt) (s : State) : Host.Outcome State Fault Refusal := s.vector i 0x36 f

/-- VSUBBO (02 R66). -/
def execVsubbo (i : StreamId) (f : VFmt) (s : State) : Host.Outcome State Fault Refusal := s.vector i 0x37 f

/-- VAND (02 R66). -/
def execVand (i : StreamId) (f : VFmt) (s : State) : Host.Outcome State Fault Refusal := s.vector i 0x38 f

/-- VOR (02 R66). -/
def execVor (i : StreamId) (f : VFmt) (s : State) : Host.Outcome State Fault Refusal := s.vector i 0x39 f

/-- VXOR (02 R66). -/
def execVxor (i : StreamId) (f : VFmt) (s : State) : Host.Outcome State Fault Refusal := s.vector i 0x3A f

/-- VANDN (02 R66). -/
def execVandn (i : StreamId) (f : VFmt) (s : State) : Host.Outcome State Fault Refusal := s.vector i 0x3B f

/-- VSHL (02 R66). -/
def execVshl (i : StreamId) (f : VFmt) (s : State) : Host.Outcome State Fault Refusal := s.vector i 0x3C f

/-- VSHR (02 R66). -/
def execVshr (i : StreamId) (f : VFmt) (s : State) : Host.Outcome State Fault Refusal := s.vector i 0x3D f

/-- VSAR (02 R66). -/
def execVsar (i : StreamId) (f : VFmt) (s : State) : Host.Outcome State Fault Refusal := s.vector i 0x3E f

/-- VICMP (02 R66). -/
def execVicmp (i : StreamId) (f : VFmt) (s : State) : Host.Outcome State Fault Refusal := s.vector i 0x3F f

/-- VIMIN (02 R66). -/
def execVimin (i : StreamId) (f : VFmt) (s : State) : Host.Outcome State Fault Refusal := s.vector i 0x40 f

/-- VIMAX (02 R66). -/
def execVimax (i : StreamId) (f : VFmt) (s : State) : Host.Outcome State Fault Refusal := s.vector i 0x41 f

/-- VPOPC (02 R66). -/
def execVpopc (i : StreamId) (f : VFmt) (s : State) : Host.Outcome State Fault Refusal := s.vector i 0x42 f

/-- VCLZ (02 R66). -/
def execVclz (i : StreamId) (f : VFmt) (s : State) : Host.Outcome State Fault Refusal := s.vector i 0x43 f

/-- QDOT (02 R66). -/
def execQdot (i : StreamId) (f : VFmt) (s : State) : Host.Outcome State Fault Refusal := s.vector i 0x50 f

/-- QSUM (02 R66). -/
def execQsum (i : StreamId) (f : VFmt) (s : State) : Host.Outcome State Fault Refusal := s.vector i 0x51 f

/-- VISUM (02 R66). -/
def execVisum (i : StreamId) (f : VFmt) (s : State) : Host.Outcome State Fault Refusal := s.vector i 0x52 f

/-- VIMAXR (02 R66). -/
def execVimaxr (i : StreamId) (f : VFmt) (s : State) : Host.Outcome State Fault Refusal := s.vector i 0x53 f

/-- VIMINR (02 R66). -/
def execViminr (i : StreamId) (f : VFmt) (s : State) : Host.Outcome State Fault Refusal := s.vector i 0x54 f

/-- VFMAXR (02 R66). -/
def execVfmaxr (i : StreamId) (f : VFmt) (s : State) : Host.Outcome State Fault Refusal := s.vector i 0x55 f

/-- VFMINR (02 R66). -/
def execVfminr (i : StreamId) (f : VFmt) (s : State) : Host.Outcome State Fault Refusal := s.vector i 0x56 f

/-- VCRC (02 R66). -/
def execVcrc (i : StreamId) (f : VFmt) (s : State) : Host.Outcome State Fault Refusal := s.vector i 0x57 f

/-- VMCNT (02 R66). -/
def execVmcnt (i : StreamId) (f : VFmt) (s : State) : Host.Outcome State Fault Refusal := s.vector i 0x58 f

end Sys2Proof.Machine
end

