-- ==== Sys2Proof/Machine/User.lean ====
section
/-!
DEFINITION. Slot images and user instructions (09 R277-R290).
-/

namespace Sys2Proof.Machine

/-! ### Images (09 R277-R280) -/

/-- A micro-operation word (09, its table). -/
abbrev Uop := Word64

def Uop.op (w : Uop) : Nat := bits w 63 56
def Uop.ads (w : Uop) : Nat := bits w 55 51
def Uop.as1s (w : Uop) : Nat := bits w 50 46
def Uop.as2s (w : Uop) : Nat := bits w 45 41
def Uop.as3s (w : Uop) : Nat := bits w 40 36
def Uop.dss (w : Uop) : Nat := bits w 35 30
def Uop.qns (w : Uop) : Nat := bits w 29 27
def Uop.scls (w : Uop) : Nat := bits w 26 25
def Uop.rnds (w : Uop) : Nat := bits w 24 21
def Uop.fns (w : Uop) : Nat := bits w 20 15
def Uop.cnt (w : Uop) : Nat := bits w 14 11

/-- An address selector: a literal register, or an instruction field (09 R278). -/
def selAddr (c : Nat) (f : VFmt) : BitVec 4 :=
  if c < 16 then BitVec.ofNat 4 c else if c = 16 then f.ad else if c = 17 then f.as1 else if c = 18 then f.as2 else f.as3

/-- The resolved vector instruction of a micro-operation (09 R278, R279). -/
def Uop.resolved (w : Uop) (f : VFmt) : VFmt where
  ad := selAddr w.ads f
  as1 := selAddr w.as1s f
  as2 := selAddr w.as2s f
  as3 := selAddr w.as3s f
  ds := if w.dss < 32 then BitVec.ofNat 5 w.dss else f.ds
  qn := if w.qns < 4 then BitVec.ofNat 2 w.qns else f.qn
  scl := if w.scls < 2 then BitVec.ofNat 1 w.scls else f.scl
  rnd := if w.rnds < 6 then BitVec.ofNat 3 w.rnds else f.rnd
  fn := if w.fns < 32 then BitVec.ofNat 5 w.fns else f.fn
  cnt := BitVec.ofNat 4 w.cnt
  rsv := 0

/-- No selector holds a reserved code (09 R278). -/
def Uop.codesOk (w : Uop) : Bool :=
  w.ads < 20 && w.as1s < 20 && w.as2s < 20 && w.as3s < 20 && w.dss < 33 && w.qns < 5 && w.scls < 3
  && (w.rnds < 6 || w.rnds == 8) && w.fns < 33

/-- Check 06h for one micro-operation (09 R280). -/
def Uop.rowOk (w : Uop) : Bool :=
  if w.op = 8 then
    w.ads == 0 && w.as1s == 0 && w.as2s == 0 && w.as3s == 0 && w.dss == 0 && w.qns == 0 && w.scls == 0 && w.rnds == 0 && w.fns == 0
    && w.cnt < 8
  else
    match vrow w.op with
    | none => false
    | some r =>
      (r.ad || w.ads == 0) && (r.as1 || w.as1s == 0) && (r.as2 || w.as2s == 0) && (r.as3 || w.as3s == 0)
      && (r.ds || r.scl || w.dss == 0) && (r.qn || w.qns == 0) && (r.scl || w.scls == 0) && (r.rnd || w.rnds == 0)
      && (r.fn != FnUse.none || w.fns == 0)
      && (w.scls != 1 || w.as2s == 0) && (!(r.scl && !r.ds) || w.scls != 0 || w.dss == 0)
      && (32 ≤ w.fns || r.fn.ok w.fns) && w.cnt == 0

/-- The fields that a selector names, as bits 24 to 16 of a header (09 R277). -/
def Uop.uses (w : Uop) : Nat :=
  let any (c : Nat) : Bool := w.ads == c || w.as1s == c || w.as2s == c || w.as3s == c
  bit01 (any 16) * 256 + bit01 (any 17) * 128 + bit01 (any 18) * 64 + bit01 (any 19) * 32 + bit01 (w.dss == 32) * 16
  + bit01 (w.qns == 4) * 8 + bit01 (w.scls == 2) * 4 + bit01 (w.rnds == 8) * 2 + bit01 (w.fns == 32)

/-- Check 07h: each UCHAIN has its members after it, none of them a UCHAIN (09 R280). -/
def chainsOk : List Uop → Bool
  | [] => true
  | w :: ws =>
    (w.op != 8 || (w.cnt + 1 ≤ ws.length && (ws.take (w.cnt + 1)).all fun v => v.op != 8)) && chainsOk ws

/-- The words of an image. -/
def imageWords (image : List Byte) : List Word64 :=
  (upFrom 0 (image.length / 8)).map fun j => BitVec.ofNat 64 (leNat ((image.drop (8 * j)).take 8))

/-- The first check of R280 that an image for slot `i` fails; 0 when it is valid. -/
def imageReason (i : Fin 64) (image : List Byte) : Byte :=
  let h := (imageWords image).headD 0
  let us : List Uop := (imageWords image).drop 1
  if bits h 63 56 ≠ 1 ∨ bits h 55 48 ≠ 0xC0 + i.val then 1
  else if image.length ≠ 8 * (bits h 44 40 + 2) then 2
  else if bits h 47 45 ≠ 0 ∨ bits h 39 25 ≠ 0 ∨ bits h 15 0 ≠ 0 ∨ us.any (fun (w : Uop) => bits w 10 0 != 0) then 3
  else if us.any (fun (w : Uop) => w.op != 8 && (vrow w.op).isNone) then 4
  else if us.any (fun (w : Uop) => !w.codesOk) then 5
  else if us.any (fun (w : Uop) => !w.rowOk) then 6
  else if !chainsOk us then 7
  else if bits h 24 16 ≠ us.foldl (fun u w => u ||| w.uses) 0 then 8
  else 0

/-! ### Decoding and issue (09 R284-R290) -/

/-- The field rules of R284 for an instruction of the program `prog`. -/
def userFieldsOk (prog : List Word64) (f : VFmt) : Bool :=
  let u := bits (prog.headD 0) 24 16
  let on (b : Nat) : Bool := u / 2 ^ b % 2 == 1
  (on 8 || f.ad == 0) && (on 7 || f.as1 == 0) && (on 6 || f.as2 == 0) && (on 5 || f.as3 == 0) && (on 4 || f.ds == 0)
  && (on 3 || f.qn == 0) && (on 2 || f.scl == 0) && (on 1 || f.rnd == 0) && (on 0 || f.fn == 0)
  && f.cnt == 0 && f.rsv == 0 && decide (f.rnd.toNat < 6)
  && (prog.drop 1).all fun w => Uop.op w == 8 || (vrow (Uop.op w)).any fun r => r.fieldsOk (Uop.resolved w f)

/-- The entries of an expansion: each micro-operation with its index, UCHAIN with its members (09 R279, R286). -/
def userEntries (r : Regs) (i : Fin 64) (f : VFmt) : Nat → List (Uop × Nat) → List VEntry
  | 0, _ => []
  | _, [] => []
  | fuel + 1, (w, j) :: ws =>
    let op (e : Uop × Nat) : VOp := r.capture e.1.op (e.1.resolved f) (some (i, BitVec.ofNat 5 e.2))
    if w.op = 8 then
      let n := w.cnt + 1
      ⟨(ws.take n).map op, n + 1, r.vl, r.vx⟩ :: userEntries r i f fuel (ws.drop n)
    else ⟨[op (w, j)], 1, r.vl, r.vx⟩ :: userEntries r i f fuel ws

/-- The decode rules of a user instruction of slot C0h + `i` on the core in slot `x` (09 R284, R285, R287). -/
def userInfo (x : Slot) (prog : List Word64) (i : Fin 64) (f : VFmt) : Info :=
  let words := (List.range prog.length).map fun j => (0xC0 + i.val) * 256 + j
  let vop := 0xC0 + i.val
  let us := prog.drop 1
  { size := 8, wide := true, slotOk := false, cancel := false
    member := us.length == 1 && us.all fun w => Uop.op w != 8
    early := match x.badCopy prog vop with
      | some j => some (6, 4, BitVec.ofNat 64 (vop * 256 + j))
      | none => if prog.isEmpty then some (0, 0, 0) else none
    fieldsOk := userFieldsOk prog f
    soft := (words.filter fun w => x.tableSoft.contains w).length
    reads := us.flatMap fun w => (vrow (Uop.op w)).elim [] fun r => r.captured (Uop.op w) (Uop.resolved w f)
    accumulates := us.flatMap fun w => accumulated (Uop.op w) (Uop.resolved w f) }

/-- A user instruction: its n resolved words enter together in n queue slots; a program of one operation may be a member of a group. -/
def execUserInstruction (i : StreamId) (u : Fin 64) (f : VFmt) (s : State) : Host.Outcome State Fault Refusal :=
  match s.slotOf i with
  | none => .next s
  | some k =>
    let prog := s.table.slots[u]
    let us := prog.drop 1
    s.instruction i (userInfo (s.slot k) prog u f) fun s k =>
      let x := s.slot k
      match x.chain, us with
      | some _, w :: _ => s.issueOp k (Uop.op w) (Uop.resolved w f)
      | _, _ => s.issueEntries k us.length (userEntries x.regs u f us.length us.zipIdx)

end Sys2Proof.Machine
end

