-- ==== Sys2Proof/Machine/Dictionary.lean ====
section
/-!
DEFINITION. The object dictionary: every object with its type, access and value, and the values that writes set (12 R357, R363; the object
tables of every chapter).
-/

namespace Sys2Proof.Machine

/-! ### Codes (12 R357) -/

inductive ObjType where
  | bool | u8 | u16 | u32 | u64 | i8 | i16 | i32 | i64 | f32 | str | blob
  deriving DecidableEq, Repr

def ObjType.code : ObjType → Nat
  | .bool => 1 | .u8 => 2 | .u16 => 3 | .u32 => 4 | .u64 => 5 | .i8 => 6 | .i16 => 7 | .i32 => 8 | .i64 => 9 | .f32 => 10 | .str => 11
  | .blob => 12

/-- Bytes of a fixed-length type; 0 for STR and BLOB. -/
def ObjType.size : ObjType → Nat
  | .bool | .u8 | .i8 => 1
  | .u16 | .i16 => 2
  | .u32 | .i32 | .f32 => 4
  | .u64 | .i64 => 8
  | .str | .blob => 0

inductive ObjAccess where
  | ro | rw | wo | rwp | cmd
  deriving DecidableEq, Repr

def ObjAccess.code : ObjAccess → Nat
  | .ro => 1 | .rw => 2 | .wo => 3 | .rwp => 4 | .cmd => 5

/-- An object: its key, type, access, largest length, and value. -/
structure Obj where
  key : ObjKey
  ty : ObjType
  acc : ObjAccess
  max : Nat
  val : State → List Byte

def CmdStatus.code : CmdStatus → Nat
  | .idle => 0 | .pending => 1 | .done => 2 | .refused => 3

def Life.code : Life → Nat
  | .blank => 0 | .provisioned => 1 | .deployed => 2 | .returned => 3 | .void => 4

def Ladder.code : Ladder → Nat
  | .a => 0 | .b => 1 | .c => 2 | .d => 3 | .ended => 4

def CanState.code : CanState → Nat
  | .offBus => 0 | .errorActive => 1 | .errorPassive => 2 | .busOff => 3

/-! ### Row builders -/

def num (i sub : Nat) (ty : ObjType) (acc : ObjAccess) (f : State → Nat) : Obj := ⟨(i, sub), ty, acc, ty.size, fun s => leBytes ty.size (f s)⟩
def blob (i sub : Nat) (acc : ObjAccess) (max : Nat) (f : State → List Byte) : Obj := ⟨(i, sub), .blob, acc, max, f⟩
def str (i sub : Nat) (f : State → List Byte) : Obj := ⟨(i, sub), .str, .ro, 16, f⟩
def ro8 (i sub : Nat) (f : State → Nat) : Obj := num i sub .u8 .ro f
def ro16 (i sub : Nat) (f : State → Nat) : Obj := num i sub .u16 .ro f
def ro32 (i sub : Nat) (f : State → Nat) : Obj := num i sub .u32 .ro f
def ro64 (i sub : Nat) (f : State → Nat) : Obj := num i sub .u64 .ro f

/-- Two's complement of a signed value. -/
def twos (n : Nat) (i : Int) : Nat := (BitVec.ofInt n i).toNat

/-- ASCII. -/
def ascii (t : String) : List Byte := t.toList.map fun c => BitVec.ofNat 8 c.toNat

def digest (b : BitVec 256) : List Byte := leBytes 32 b.toNat

/-! ### Derived values -/

/-- The image of the firmware that runs (13 R368). -/
def State.firmware (s : State) : Image := if s.sec.fwInB then s.flash.fwB else s.flash.fwA

/-- 2002h/01h: 0 open; 1 held; 2 held with no admitted booking after the current period (06 R178). -/
def State.holdState (s : State) : Nat :=
  if !s.tt.held then 0 else if s.tt.admitted.any fun a => s.tt.bellNum.toNat < a.period then 1 else 2

/-- Streams present (01 R25). -/
def State.present (s : State) : Nat := (s.repair.serving.toList.filter Option.isSome).length

/-- Spare slots of a tile as the maps in force show them. -/
def State.slotsLeft (s : State) (t : Nat) : Nat :=
  ((List.finRange 68).filter fun k => k.val / 17 == t && !(s.slot k).retired && !s.repair.serving.toList.contains (some k)).length

/-- 3000h/04h. -/
def State.visibleBytes (s : State) : Nat := s.visibleEnd

/-- 3011h: the desk of a logical Stream. One that is entering retention, for which 05 R175 gives no value, shows 1: DESIGN CHOICE (log 154). -/
def State.deskState (s : State) (i : StreamId) : Nat :=
  match s.repair.serving[i] with
  | none => 0xFF
  | some k => match (s.slot k).desk.power with
    | .on => 0
    | .entering => 1
    | .retention => 1
    | .waking => 2

/-- The field trip that runs, for 3040h (10 R307). -/
def State.tripInfo (s : State) (f : FieldTrip → Nat) (none_ : Nat := 0) : Nat :=
  match s.runningTrip with
  | some t => f t
  | none => none_

def FieldTrip.phase (t : FieldTrip) : Nat :=
  let moves := rebuildBlocks - stageBlocks
  if t.kind ≠ 3 then 0 else if t.moved < stageBlocks then 1 else if t.moved < stageBlocks + moves then 2 else if t.moved < t.total then 3 else 4

/-- The largest of a list of counts and its first index: of several units with the highest trend, 4212h and 4215h name the lowest physical number,
DESIGN CHOICE (log 179). -/
def largest (l : List Word32) : Nat × Nat :=
  let m := l.foldl (fun m x => max m x.toNat) 0
  (m, l.findIdx (fun x => x.toNat == m))

/-- 4200h/03h (10 R316). -/
def Avail.good (a : Avail) : Nat :=
  if a.judged = 0 then 1000000000 else (a.judged.toNat - a.failed.toNat) * 1000000000 / a.judged.toNat

/-- 6010h/06h (14 R401). -/
def State.identityState (s : State) : Nat :=
  if !s.fuses.identity then 0 else if 1048576 ≤ s.sec.index then 2 else if s.sec.flashFault then 3 else 1

/-- RT: the highest in a valid record of either device (14 R399). -/
def State.reserved (s : State) : Nat := max s.flash.rtA s.flash.rtB

/-- 9000h/03h (12 R361). -/
def State.journalState (s : State) : Nat :=
  let m := s.mgmt
  if m.failA && m.failB then 4 else if m.failA then 2 else if m.failB then 3 else if m.compacting then 1 else 0

/-- (9100h + i)/04h (09 R281, R283, R287). -/
def liveCode (ws : List Word64) : Nat :=
  match ws with
  | [] => 0
  | [_, u] => if bits u 63 56 = 0x08 then 2 else 1
  | _ => 2

def recordBytes (r : RepairRec) : List Byte :=
  [r.kind, r.unit1, r.unit2, r.unit3, r.spare, r.flags, 0, 0] ++ leBytes 8 r.period.toNat

/-! ### The objects -/

def identityObjects : List Obj := [
  str 0x1000 1 fun _ => ascii "BRX-C64-G7-256",
  str 0x1000 2 fun _ => ascii "A1",
  str 0x1000 3 fun _ => (List.finRange 16).map Config.serialChar,
  ro16 0x1000 4 fun _ => 0x1E9A,
  ro16 0x1000 5 fun _ => 0xC064,
  ro32 0x1000 6 fun s => s.firmware.version.toNat,
  ro8 0x1001 1 fun s => s.mgmt.node.toNat,
  ro8 0x1001 2 fun s => s.mgmt.canState.code,
  ro32 0x1001 3 fun s => s.mgmt.canRx.toNat,
  ro32 0x1001 4 fun s => s.mgmt.canDropped.toNat,
  ro32 0x1001 5 fun s => s.mgmt.canOtherDlc.toNat,
  ro32 0x1001 6 fun s => s.mgmt.canIgnored.toNat,
  ro32 0x1001 7 fun s => s.mgmt.canBusOffs.toNat,
  ro32 0x1002 1 fun s => s.mgmt.mbTaken.toNat,
  ro32 0x1002 2 fun s => s.mgmt.mbOverwritten.toNat,
  ro32 0x1002 3 fun s => s.mgmt.mbDropped.toNat,
  ro64 0x1003 1 fun s => s.mgmt.frames.toNat,
  ro32 0x1003 2 fun s => s.mgmt.framesRelease.toNat,
  num 0x1010 1 .u8 .cmd fun s => s.mgmt.cmds.power.code,
  num 0x1010 2 .bool .rwp fun s => b2n s.mgmt.rwp.autoLeave,
  ro8 0x1010 3 fun s => s.power.result.toNat,
  ro32 0x1010 4 fun s => s.power.duration.toNat,
  ro8 0x1010 5 fun s => s.power.cause.toNat,
  ro8 0x1010 6 fun s => s.power.bank.toNat]

def bellObjects : List Obj := [
  num 0x2000 1 .u32 .rwp fun s => s.mgmt.rwp.periodUs.toNat,
  num 0x2000 2 .u16 .rwp fun s => s.mgmt.rwp.recess.toNat,
  num 0x2000 3 .u16 .rwp fun s => s.mgmt.rwp.reserve.toNat,
  num 0x2000 4 .u8 .rwp fun s => s.mgmt.rwp.bellSource.toNat,
  ro8 0x2000 5 fun _ => 64,
  num 0x2000 6 .u32 .rwp fun s => s.mgmt.rwp.holdoverReport.toNat,
  ro64 0x2001 1 fun s => s.tt.bellNum.toNat,
  ro8 0x2001 2 fun s => s.tt.src.code,
  num 0x2001 3 .i32 .ro fun s => s.tt.phase.toNat,
  ro32 0x2001 4 fun s => s.tt.holdPeriods.toNat,
  ro32 0x2001 5 fun s => s.tt.rejTotal.toNat,
  num 0x2002 1 .u8 .cmd fun s => s.holdState,
  ro64 0x2010 1 fun s => s.tt.bells.toNat,
  ro64 0x2010 2 fun s => s.tt.nAdmitted.toNat,
  ro64 0x2010 3 fun s => s.tt.nDeclined.toNat,
  ro64 0x2010 4 fun s => s.tt.nOverrun.toNat,
  ro64 0x2010 5 fun s => s.tt.nExcused.toNat,
  ro64 0x2010 6 fun s => s.tt.nMissed.toNat,
  ro64 0x2010 7 fun s => s.tt.nCut.toNat,
  ro32 0x2010 8 fun s => s.tt.maxDraw.toNat,
  ro32 0x2010 9 fun s => s.tt.nExhausted.toNat,
  ro32 0x2010 10 fun s => s.tt.nReruns.toNat]
  ++ (List.finRange 16).map fun r => ro32 0x2011 (r.val + 1) fun s => s.tt.declines[r].toNat

def memoryObjects : List Obj := [
  ro8 0x3000 1 fun s => s.portCount,
  ro8 0x3000 2 fun s => s.repair.ladder.code,
  ro8 0x3000 3 fun s => s.present,
  ro64 0x3000 4 fun s => s.visibleBytes,
  num 0x3000 5 .bool .ro fun s => b2n s.runningTrip.isSome,
  num 0x3000 6 .bool .ro fun s => b2n s.unsaved]
  ++ ((List.range 4).map fun t => ro8 0x3001 (t + 1) fun s => s.slotsLeft t)
  ++ ((List.finRange 64).map fun i => ro8 0x3002 (i.val + 1) fun s =>
    match s.repair.serving[i] with
    | some k => (s.slot k).lanesLeft
    | none => 0xFF)
  ++ [num 0x3010 1 .bool .rwp fun s => b2n s.mgmt.rwp.retention,
    num 0x3010 2 .u8 .rwp fun s => s.mgmt.rwp.retentionPeriods.toNat]
  ++ ((List.finRange 64).map fun i => ro8 0x3011 (i.val + 1) fun s => s.deskState i)
  ++ [ro8 0x3020 1 fun s => s.xp.link.toNat,
    ro8 0x3020 2 fun s => s.xp.lanes.toNat,
    ro64 0x3020 3 fun s => s.xp.mapped.toNat,
    ro32 0x3020 4 fun s => s.xp.latency.toNat,
    num 0x3020 5 .u32 .rwp fun s => s.mgmt.rwp.farLatency.toNat,
    ro32 0x3020 6 fun s => s.xp.slow.toNat,
    ro8 0x3020 7 fun s => s.xp.rate.toNat]

def repairObjects : List Obj :=
  ((List.finRange 8).map fun i => num 0x3030 (i.val + 1) .u32 .rwp fun s => s.mgmt.rwp.thresholds[i].toNat)
  ++ [num 0x3036 1 .u32 .cmd fun s => s.mgmt.cmds.retire.code,
    ro8 0x3040 1 fun s => s.tripInfo FieldTrip.kind,
    ro8 0x3040 2 fun s => s.tripInfo fun t => t.srcPort.val,
    ro8 0x3040 3 fun s => s.tripInfo fun t => match t.srcBank with | some b => b.val | none => 0xFF,
    ro64 0x3040 4 fun s => s.tripInfo fun t => if t.kind = 3 then rebuildBlocks else t.total,
    ro64 0x3040 5 fun s => s.tripInfo fun t => if t.kind = 3 then min t.moved rebuildBlocks else t.moved,
    ro64 0x3040 6 fun s => s.tripInfo FieldTrip.poisoned,
    ro64 0x3040 7 fun s => s.tripInfo fun t => t.began.getD 0,
    ro8 0x3040 8 fun s => s.tripInfo FieldTrip.phase,
    ro8 0x3040 9 fun s => s.tripInfo fun _ => s.repair.trips.length - 1,
    ro16 0x3050 1 fun s => s.fuses.factory.length,
    ro16 0x3050 2 fun s => min 512 s.repair.field.length,
    blob 0x3050 3 .ro 1048576 fun s => s.fuses.factory.flatMap recordBytes,
    blob 0x3050 4 .ro 1048576 fun s => (s.repair.field.take 512).flatMap recordBytes,
    num 0x3050 5 .u16 .cmd fun s => s.mgmt.cmds.delete.code]

def healthObjects : List Obj := [
  blob 0x4000 1 .ro 64 fun s => s.mgmt.rollCall,
  num 0x4001 1 .u16 .rwp fun s => s.mgmt.rwp.rollInterval.toNat]
  ++ ((List.finRange 512).map fun n => ro32 (0x4100 + n.val / 128) (n.val % 128 + 1) fun s => s.mgmt.events[n].toNat)
  ++ [ro64 0x4200 1 fun s => s.avail.judged.toNat,
    ro64 0x4200 2 fun s => s.avail.failed.toNat,
    ro32 0x4200 3 fun s => s.avail.good]
  ++ ((List.finRange 5).map fun i => ro64 0x4200 (i.val + 4) fun s => s.avail.missed[i].toNat)
  ++ [ro64 0x4200 9 fun s => s.avail.lateStarts.toNat,
    ro64 0x4200 10 fun s => s.avail.latePosts.toNat,
    ro64 0x4200 11 fun s => s.avail.bestRun.toNat,
    ro64 0x4200 12 fun s => s.avail.retries.toNat,
    ro64 0x4200 13 fun s => s.avail.lateRetries.toNat,
    ro64 0x4200 14 fun s => s.avail.recomputes.toNat]
  ++ ((List.finRange 32).map fun p => ro32 0x4210 (p.val + 1) fun s => s.ports[p].trend.toNat)
  ++ ((List.finRange 32).map fun p => ro32 0x4211 (p.val + 1) fun s => (largest s.ports[p].bankTrend.toList).1)
  ++ ((List.finRange 32).map fun p => ro8 0x4212 (p.val + 1) fun s => (largest s.ports[p].bankTrend.toList).2)
  ++ ((List.finRange 68).map fun k => ro32 0x4213 (k.val + 1) fun s => (s.slot k).trend.toNat)
  ++ ((List.finRange 68).map fun k => ro32 0x4214 (k.val + 1) fun s => (largest (s.slot k).laneTrend.toList).1)
  ++ ((List.finRange 68).map fun k => ro8 0x4215 (k.val + 1) fun s => (largest (s.slot k).laneTrend.toList).2)
  ++ (List.finRange 7).map fun i => ro32 0x4220 (i.val + 1) fun s => s.mgmt.health[i].toNat

def powerObjects : List Obj := [
  num 0x5000 1 .u16 .rwp fun s => s.mgmt.rwp.pLim.toNat,
  ro16 0x5000 2 fun _ => Config.pBase,
  ro16 0x5000 3 fun s => s.tt.pAdm10 / 10,
  num 0x5000 4 .i16 .ro fun s => twos 16 s.mgmt.sensors.tj,
  ro32 0x5000 5 fun _ => 5674,
  ro32 0x5001 1 fun _ => 1500,
  ro32 0x5001 2 fun _ => 1280,
  ro32 0x5001 3 fun _ => 64,
  ro32 0x5001 4 fun _ => 150,
  ro32 0x5001 5 fun _ => 200,
  ro32 0x5001 6 fun _ => 1200,
  ro32 0x5001 7 fun _ => 40,
  ro32 0x5001 8 fun _ => 1300,
  ro32 0x5001 9 fun _ => 2000,
  num 0x5002 1 .i16 .ro fun s => twos 16 s.mgmt.sensors.lid,
  ro16 0x5002 2 fun s => s.mgmt.sensors.vin10mV,
  ro16 0x5002 3 fun s => s.mgmt.sensors.watts,
  ro32 0x5002 4 fun s => s.power.trips.toNat]

def securityObjects : List Obj := [
  ro8 0x6000 1 fun s => s.sec.life.code,
  num 0x6000 2 .u8 .cmd fun s => s.mgmt.cmds.lifeCycle.code,
  ro8 0x6000 3 fun s => s.fuses.life.code,
  blob 0x6001 1 .ro 32 fun _ => digest (Config.shake256 Config.brirelKey),
  ro32 0x6001 2 fun _ => Config.minSvn.toNat,
  ro32 0x6001 3 fun s => s.flash.releases.toNat,
  blob 0x6010 1 .ro 68 fun _ => Config.identityKey,
  blob 0x6010 2 .ro 32 fun _ => digest (Config.shake256 Config.identityKey),
  ro32 0x6010 3 fun s => s.sec.index,
  ro32 0x6010 4 fun s => s.reserved,
  ro32 0x6010 5 fun s => 1048576 - s.sec.index,
  ro8 0x6010 6 fun s => s.identityState,
  blob 0x6010 7 .ro 4096 fun _ => Config.identityCertificate]
  ++ ((List.finRange 8).map fun i => blob 0x6020 (i.val + 1) .ro 32 fun s => digest s.sec.meas[i])
  ++ ((List.finRange 4).flatMap fun c => [
    blob (0x6030 + c.val) 1 .cmd 32 fun s => leBytes 1 s.mgmt.cmds.attest[c].code,
    blob (0x6030 + c.val) 2 .ro 3212 fun s => s.sec.channels[c].report,
    ro8 (0x6030 + c.val) 3 fun s => s.sec.channels[c].reason.toNat])
  ++ [blob 0x6040 1 .wo 1048576 fun _ => [],
    blob 0x6040 2 .wo 1048576 fun _ => [],
    ro8 0x6040 3 fun s => s.sec.upload.toNat,
    blob 0x6050 1 .rwp 68 fun s => s.mgmt.rwp.ownerKey]

def bistObjects : List Obj := [
  num 0x7000 1 .u8 .rwp fun s => s.mgmt.rwp.bistMode.toNat,
  num 0x7000 2 .u8 .cmd fun s => s.mgmt.cmds.bist.code,
  blob 0x7000 3 .rwp 376 fun s => s.mgmt.rwp.bistProgram,
  num 0x7000 4 .bool .rwp fun s => b2n s.mgmt.rwp.bistAtPowerUp,
  ro8 0x7001 1 fun s => s.bist.lastResult.toNat,
  blob 0x7001 2 .ro 32 fun s => s.bist.lastSig,
  ro32 0x7001 3 fun s => s.bist.lastN.toNat,
  ro32 0x7001 4 fun s => s.bist.lastPlanned.toNat,
  ro32 0x7001 5 fun s => s.bist.lastPpm.toNat,
  ro32 0x7001 6 fun s => s.bist.lastUs.toNat,
  ro8 0x7001 7 fun s => s.bist.lastKind.toNat,
  num 0x7002 1 .bool .rwp fun s => b2n s.mgmt.rwp.slices,
  ro64 0x7002 2 fun s => s.bist.slicesDone.toNat,
  ro32 0x7002 3 fun s => s.bist.slicesFailed.toNat,
  ro32 0x7002 4 fun s => s.bist.passPeriods.toNat,
  ro32 0x7002 5 fun s => s.bist.stepsAbandoned.toNat,
  ro32 0x7002 6 fun s => s.bist.maxHold.toNat]

def grantObjects : List Obj := [
  blob 0x8000 1 .wo 2884 fun _ => [],
  ro8 0x8000 2 fun s => s.sec.lastPass.toNat,
  num 0x8000 3 .u8 .cmd fun s => s.mgmt.cmds.endPasses.code]
  ++ ((List.finRange 64).map fun i => ro8 0x8001 (i.val + 1) fun s => s.level i)
  ++ (List.finRange 64).map fun i => ro64 0x8002 (i.val + 1) fun s =>
    match s.sec.grants[i] with
    | some g => g.expiry.toNat
    | none => 0

def persistObjects : List Obj := [
  ro32 0x9000 1 fun s => s.mgmt.persistLast.toNat,
  ro32 0x9000 2 fun s => s.mgmt.persistSafe.toNat,
  ro8 0x9000 3 fun s => s.journalState,
  ro32 0x9000 4 fun s => (Config.journalFree s.flash.journalA.length s.flash.journalB.length).toNat,
  num 0x9000 5 .u8 .cmd fun s => s.mgmt.cmds.defaults.code,
  ro8 0x9010 1 fun s => b2n s.table.sealed,
  ro64 0x9010 2 fun s => (List.finRange 64).foldl (fun n i => if s.table.slots[i].isEmpty then n else n + 2 ^ i.val) 0,
  blob 0x9010 3 .ro 32 fun s => digest s.table.digest,
  ro8 0x9010 4 fun s => s.table.skipped.toNat]
  ++ (List.finRange 64).flatMap fun i => [
    blob (0x9100 + i.val) 1 .rwp 264 fun s => s.mgmt.rwp.images[i],
    ro8 (0x9100 + i.val) 2 fun s =>
      let m := s.mgmt.rwp.images[i]
      if m.isEmpty then 0 else if imageReason i m = 0 then 1 else 2,
    ro8 (0x9100 + i.val) 3 fun s =>
      let m := s.mgmt.rwp.images[i]
      if m.isEmpty then 0 else (imageReason i m).toNat,
    ro8 (0x9100 + i.val) 4 fun s => liveCode s.table.slots[i]]

def listedObjects : List Obj :=
  identityObjects ++ bellObjects ++ memoryObjects ++ repairObjects ++ healthObjects ++ powerObjects ++ securityObjects ++ bistObjects
  ++ grantObjects ++ persistObjects

/-- The object of a key; subindex 00h of an index that holds objects is its highest subindex (12 R357). -/
def findObj (k : ObjKey) : Option Obj :=
  if k.2 = 0 then
    let top := listedObjects.foldl (fun m o => if o.key.1 = k.1 then max m o.key.2 else m) 0
    if top = 0 then none else some (ro8 k.1 0 fun _ => top)
  else listedObjects.find? fun o => o.key == k

/-- Every object's value, as a frame boundary samples it (12 R340). -/
def State.snapshot (s : State) : List (ObjKey × List Byte) := listedObjects.map fun o => (o.key, o.val s)

/-- The published value of an object. -/
def State.published (s : State) (o : Obj) : List Byte :=
  if o.key.2 = 0 then o.val s else ((s.mgmt.pub.find? fun e => e.1 == o.key).map Prod.snd).getD []

def rwpKeys : List ObjKey := (listedObjects.filter fun o => o.acc == .rwp).map fun o => o.key

/-! ### The value that a write gives an RWP object -/

/-- A vector with entry `i` replaced; unchanged when there is none. -/
def setAt {α : Type} {n : Nat} (v : Vector α n) (i : Nat) (x : α) : Vector α n := if h : i < n then v.set i x h else v

/-- An RWP object takes a value (12 R340, R357). -/
def Rwp.put (r : Rwp) (k : ObjKey) (v : List Byte) : Rwp :=
  let n := leNat v
  let (i, sub) := k
  if i = 0x1010 then { r with autoLeave := n == 1 }
  else if i = 0x2000 then
    if sub = 1 then { r with periodUs := BitVec.ofNat 32 n }
    else if sub = 2 then { r with recess := BitVec.ofNat 16 n }
    else if sub = 3 then { r with reserve := BitVec.ofNat 16 n }
    else if sub = 4 then { r with bellSource := BitVec.ofNat 8 n }
    else { r with holdoverReport := BitVec.ofNat 32 n }
  else if i = 0x3010 then if sub = 1 then { r with retention := n == 1 } else { r with retentionPeriods := BitVec.ofNat 8 n }
  else if i = 0x3020 then { r with farLatency := BitVec.ofNat 32 n }
  else if i = 0x3030 then
    { r with thresholds := setAt r.thresholds (sub - 1) (BitVec.ofNat 32 n) }
  else if i = 0x4001 then { r with rollInterval := BitVec.ofNat 16 n }
  else if i = 0x5000 then { r with pLim := BitVec.ofNat 16 n }
  else if i = 0x6050 then { r with ownerKey := v }
  else if i = 0x7000 then
    if sub = 1 then { r with bistMode := BitVec.ofNat 8 n }
    else if sub = 3 then { r with bistProgram := v }
    else { r with bistAtPowerUp := n == 1 }
  else if i = 0x7002 then { r with slices := n == 1 }
  else if 0x9100 ≤ i then
    { r with images := setAt r.images (i - 0x9100) v }
  else r

/-! ### Command statuses (12 R348) -/

def CmdStatuses.get (c : CmdStatuses) (k : ObjKey) : CmdStatus :=
  if k.1 = 0x1010 then c.power
  else if k.1 = 0x2002 then c.hold
  else if k.1 = 0x3036 then c.retire
  else if k.1 = 0x3050 then c.delete
  else if k.1 = 0x6000 then c.lifeCycle
  else if k.1 = 0x7000 then c.bist
  else if k.1 = 0x8000 then c.endPasses
  else if k.1 = 0x9000 then c.defaults
  else if 0x6030 ≤ k.1 then c.attest.toList.getD (k.1 - 0x6030) .idle
  else .idle

def CmdStatuses.put (c : CmdStatuses) (k : ObjKey) (v : CmdStatus) : CmdStatuses :=
  if k.1 = 0x1010 then { c with power := v }
  else if k.1 = 0x2002 then { c with hold := v }
  else if k.1 = 0x3036 then { c with retire := v }
  else if k.1 = 0x3050 then { c with delete := v }
  else if k.1 = 0x6000 then { c with lifeCycle := v }
  else if k.1 = 0x7000 then { c with bist := v }
  else if k.1 = 0x8000 then { c with endPasses := v }
  else if k.1 = 0x9000 then { c with defaults := v }
  else if 0x6030 ≤ k.1 then { c with attest := setAt c.attest (k.1 - 0x6030) v }
  else c

def State.setCmd (s : State) (k : ObjKey) (v : CmdStatus) : State := { s with mgmt := { s.mgmt with cmds := s.mgmt.cmds.put k v } }

end Sys2Proof.Machine
end

