-- ==== Sys2Proof/Machine/Matrix.lean ====
section
/-!
DEFINITION. The service matrix: decoding, levels, accesses, arbitration, and the rows that are one access (11 R331-R339; 05 R144-R147; 10
R308; 12 R356; 13 R387; 14 R406, R419-R421).
-/

namespace Sys2Proof

/-- Target numbers (11). -/
def Target.num : Target → Fin 11
  | .tp t => ⟨t.val, by omega⟩
  | .gsp => 4
  | .xp => 5
  | .flc => 6
  | .trb => 7
  | .dict => 8
  | .secr => 9
  | .deflt => 10

/-- The master of a block request. -/
def GspReq.num : GspReq → Fin 11
  | .hub t _ _ _ _ => (Master.th t).num
  | .other m _ => m.num

end Sys2Proof

namespace Sys2Proof.Machine

/-! ### Decoding (11 R331, R332) -/

/-- What bytes of the module address space are (05 R142-R148); `nothing` answers with a decode error. -/
inductive Region where
  | desk (i : StreamId) (k : SlotId) (off : Nat)
  | visible | work
  | far
  | reg (r : MReg) (m : Word64)
  | dict (off : Nat)
  | trace (i : StreamId) (off : Nat)
  | nothing
  deriving DecidableEq, Repr

/-- The Stream whose 4 MiB part of a range at `base` holds `n` bytes at `a`, and their offset. -/
def streamPart (base a n : Nat) : Option (StreamId × Nat) :=
  let i := (a - base) / 0x400000
  let o := (a - base) % 0x400000
  if h : i < 64 then (if base ≤ a ∧ o + n ≤ 0x400000 then some (⟨i, h⟩, o) else none) else none

/-- What the `n` bytes at `a` are; bytes of two kinds are nothing, and so is the flash controller window, in which no chapter defines a register (05
R145). -/
def State.regionOf (s : State) (a n : Nat) : Region :=
  if a + n ≤ s.visibleEnd then .visible
  else if s.classify a = .work ∧ s.classify ((a + n - 1 : Nat) : Int) = .work then .work
  else if 0x4000000000 ≤ a then
    (if s.xp.link = 2 ∧ a + n ≤ 0x4000000000 + s.xp.mapped.toNat then .far else .nothing)
  else if deskArray ≤ a ∧ a < deskArray + 0x10000000 then
    match streamPart deskArray a n with
    | some (i, o) => (match s.slotOf i with | some k => .desk i k o | none => .nothing)
    | none => .nothing
  else if dictBase ≤ a ∧ a < traceBase then (if (n = 4 ∨ n = 8) ∧ a % n = 0 then .dict (a - dictBase) else .nothing)
  else if traceBase ≤ a ∧ a < flashBase then
    match streamPart traceBase a n with
    | some (i, o) => .trace i o
    | none => .nothing
  else match regAccess a n with
    | some (r, m) => .reg r m
    | none => .nothing

def MReg.tile : MReg → Option (Fin 4)
  | .phys k | .laneRet0 k | .laneRet1 k | .vstatus k | .vfcause k | .vfaddr k | .vfinsn k | .vfvl k | .veflags k | .rastat k | .deskstat k
  | .deskecc k | .evline k _ | .evpend k | .wdctl k | .wdcnt k | .cstop k | .cstoppc k | .dbgctl k | .dbgstat k | .mondesc0 k | .mondesc1 k
  | .montsb k | .ibp k _ | .wp k _ | .trctl k | .coreD k _ | .coreA k _ | .coreSpecial k _ | .corestat k | .coreQ k _ _ =>
    some ⟨k.val / 17, by omega⟩
  | .sreset t => some t
  | .mapstat p | .errcnt p | .linkstat p => some ⟨p.val / 8, by omega⟩
  | _ => none

/-- Whether a register lies in the DBG block. -/
def MReg.isDbg : MReg → Bool
  | .damctl | .dbgreset | .trptr _ => true
  | _ => false

/-- The target that decodes a region (11 R331). -/
def Region.target : Region → Target
  | .desk i _ _ => .tp ⟨i.val / 16, by omega⟩
  | .visible | .work => .gsp
  | .far => .xp
  | .reg r _ => (match r.tile with | some t => .tp t | none => if r.isDbg then .trb else .dict)
  | .dict _ => .dict
  | .trace _ _ => .trb
  | .nothing => .deflt

/-- The connection table (11 R332). -/
def Region.reaches (m : Master) (g : Region) : Bool :=
  match m, g with
  | _, .nothing => false
  | .th _, .visible => true
  | .th _, _ => false
  | .xe _, .desk .. => true
  | .xe _, .work => true
  | .xe _, .far => true
  | .xe _, _ => false
  | .hdma, .work => false
  | .hdma, .far => false
  | .hdma, _ => true
  | .dam, .work => false
  | .dam, .far => false
  | .dam, _ => true
  | .mgmt, .far => false
  | .mgmt, _ => true
  | .bist, .desk .. => true
  | .bist, .visible => true
  | .bist, .reg r _ => r.tile.isSome
  | .bist, _ => false
  | .sec, .dict _ => true
  | .sec, .reg r _ => r.tile.isNone && !r.isDbg
  | .sec, _ => false

/-! ### Errors (11 R333) -/

/-- DEF answers: the error is logged, and event 430 occurs. -/
def State.decodeError (s : State) (m : Master) (a : Nat) : State := (((s.logError m 1 a).countHealth 1).raise 430)

/-! ### Levels (14 R406) -/

/-- STREAM block offsets 2000h-3FFFh: the slot, and whether it is a trace register. -/
def MReg.debugSlot : MReg → Option (SlotId × Bool)
  | .dbgctl k | .dbgstat k | .mondesc0 k | .mondesc1 k | .montsb k | .ibp k _ | .wp k _ | .coreD k _ | .coreA k _ | .coreSpecial k _
  | .corestat k | .coreQ k _ _ => some (k, false)
  | .trctl k => some (k, true)
  | _ => none

/-- The level that governs an access, and the level that it needs; `none` where no level is checked. `v` is what a register write writes. -/
def State.levelFor (s : State) (m : Master) (g : Region) (write : Bool) (v : Word64) : Option (Nat × Nat) :=
  let need := if write then 2 else 1
  let other := if m = .dam then some (s.moduleLevel, need) else none
  match g with
  | .reg r _ =>
    match r.debugSlot with
    | some (k, tr) => some (s.slotLevel k, if write && tr && (s.streamOf k).isSome then 1 else need)
    | none =>
      match r, write with
      | .damctl, true => none
      | .trptr i, true => some (s.level i, 1)
      | .dbgreset, true => some (s.level (fld v 0 6).toFin, 2)
      | _, _ => if r.isDbg then some (s.moduleLevel, need) else other
  | .desk i _ _ => if m = .dam then some (s.level i, need) else none
  | _ => other

/-- Whether an access has its level. A debug read with SIDE = 1 needs level 2 of its target (14 R419). -/
def State.levelOk (s : State) (m : Master) (g : Region) (write : Bool) (v : Word64) : Bool :=
  match s.levelFor m g write v with
  | none => true
  | some (have_, need) => decide ((if m = .dam ∧ !write ∧ s.dbg.side then 2 else need) ≤ have_)

/-! ### One access -/

/-- How an access ends: with an answer, or with its lines waiting at a desk's DMA port. -/
inductive AccessEnd where
  | answer (st : RespStatus) (data : List Byte)
  | held
  deriving DecidableEq, Repr

/-- `n` bytes that the spec leaves open (log 13). -/
def State.drawBytes (s : State) (n : Nat) : List Byte × State :=
  ((List.range n).map fun i => Config.freeByte (s.free + i), { s with free := s.free + n })

/-- Read data, or a payload that is not defined when it is uncorrectable (11 R319). -/
def State.readEnd (s : State) (n : Nat) (bs : List Byte) (bad : Bool) : RespStatus × List Byte × State :=
  if bad then
    let (junk, s) := s.drawBytes n
    (.poisoned, junk, s)
  else (.ok, bs, s)

/-- A dictionary store entry (12 R356). -/
def State.dictEntry (s : State) (off : Nat) : List Byte :=
  match findObj (off / 0x1000, off % 0x1000 / 16) with
  | none => List.replicate 16 0
  | some o =>
    let v := s.published o
    let small := decide (0 < o.ty.size) && o.acc != .wo
    (if small then fitBytes 8 v else List.replicate 8 0) ++ leBytes 4 v.length ++ [BitVec.ofNat 8 o.ty.code, BitVec.ofNat 8 o.acc.code, 0, 0]

/-- How far the low bit of an accessed half lies up (05 R146). -/
def halfShift (m : Word64) : Nat := if m.getLsbD 0 then 0 else 32

/-- The block whose data block `n` of the staging area shows: the staged block, from the commit of its stage copy until it is placed (05 R150). -/
def State.stagedBlock (s : State) (n : Nat) : Nat :=
  match s.repair.trips.head? with
  | some t =>
    let b := n - stagingBase
    if t.kind = 3 ∧ stagingBase ≤ n ∧ b < min t.moved stageBlocks ∧ t.moved ≤ rebuildBlocks + b then b else n
  | none => n

/-- The parts of `n` bytes at `a` in each block: address, offset in the access, length. -/
def blockParts (a n : Nat) : List (Nat × Nat × Nat) :=
  (blocksOf a n).map fun b => (max a (64 * b), max a (64 * b) - a, min (a + n) (64 * b + 64) - max a (64 * b))

/-- The address at which memory holds the byte at `a` of the work area. -/
def State.workAddr (s : State) (a : Nat) : Nat := 64 * s.stagedBlock (a / 64) + a % 64

/-- A read of the work area. -/
def State.readWork (s : State) (a n : Nat) : List Byte × Option Nat × State :=
  (blockParts a n).foldl (fun (r : List Byte × Option Nat × State) p =>
    let (bs, bad, s) := r.2.2.readLocal (r.2.2.workAddr p.1) p.2.2
    (r.1 ++ bs, r.2.1.or bad, s)) ([], none, s)

/-- A write to the work area. -/
def State.writeWork (s : State) (a : Nat) (bs : List Byte) : State :=
  (blockParts a bs.length).foldl (fun (s : State) p => s.writeLocal (s.workAddr p.1) ((bs.drop p.2.1).take p.2.2)) s

/-- A read that is decoded and allowed, of anything but a desk, which is read at its port. `shadow`: with the no-side-effect attribute (00 R8; 14
R419). -/
def State.readRegion (s : State) (shadow : Bool) (g : Region) (a n : Nat) : RespStatus × List Byte × State :=
  match g with
  | .work =>
    let (bs, bad, s) := s.readWork a n
    s.readEnd n bs bad.isSome
  | .visible =>
    if shadow then s.readEnd n (s.mem.mem.readBytes a n) ((blocksOf a n).any fun b => s.blockBad b)
    else
      let (bs, bad, s) := s.readLocal a n
      s.readEnd n bs bad.isSome
  | .reg r m =>
    let v := ((s.regValue r &&& m) >>> halfShift m).toNat
    (.ok, leBytes n v, if shadow then s else s.regClear r m)
  | .dict off => (.ok, ((s.dictEntry off).drop (off % 16)).take n, s)
  | .trace i off => (.ok, s.dbg.rings[i].mem.readBytes off n, s)
  | .far => (.ok, [], s)
  | .desk .. | .nothing => (.decodeError, List.replicate n 0, s)

/-- A write that is decoded and allowed, of anything but a desk. The dictionary store takes no write but the management controller's own, which writes
what it publishes (12 R356). -/
def State.writeRegion (s : State) (m : Master) (g : Region) (addr a : Nat) (bs : List Byte) : RespStatus × State :=
  match g with
  | .visible => (.ok, s.writeLocal a bs)
  | .work => (.ok, s.writeWork a bs)
  | .reg r mask => (.ok, s.regWrite r mask (BitVec.ofNat 64 (leNat bs) <<< halfShift mask))
  | .dict _ => if m = .mgmt then (.ok, s) else (.targetError, s.logError m 3 addr)
  | .trace i off =>
    let r := s.dbg.rings[i]
    (.ok, { s with dbg := { s.dbg with rings := s.dbg.rings.set i { r with mem := r.mem.writeBytes off bs } } })
  | .far =>
    match m with
    | .xe e => (.ok, s.output (.farWrite e (a - 0x4000000000) bs false))
    | _ => (.decodeError, s)
  | .desk .. | .nothing => (.decodeError, s)

/-- The line accesses of a granted piece of a desk, in ascending order: each waits at the desk's DMA port, and a desk in or entering retention starts
to wake (05 R163, R167). A write whose byte enables are clear writes nothing (11 R339). -/
def State.queueLines (s : State) (k : SlotId) (off : Nat) (p : Piece) : State :=
  let line (l : Nat) : DmaPending :=
    let first := max off (64 * l)
    let last := min (off + p.len) (64 * l + 64)
    let mask (bs : List Byte) : List (Option Byte) := (List.range 64).map fun j =>
      if p.enables && decide (first ≤ 64 * l + j) && decide (64 * l + j < last) then bs[64 * l + j - off]? else none
    ⟨64 * l, p.write.map mask, none, some ⟨p.master, s.sm.nextTag, first - 64 * l, last - first⟩, s.clk⟩
  (s.modSlot k fun x => { x with desk := { x.desk with dma := x.desk.dma ++ (blocksOf off p.len).map line } }).modSlot k Slot.wake

/-- The access itself, once it is granted with its level. -/
def State.serve (s : State) (p : Piece) (g : Region) : AccessEnd × State :=
  match g, p.write with
  | .desk _ k off, _ => (.held, s.queueLines k off p)
  | _, none =>
    let (st, bs, s) := s.readRegion (p.master == .dam && !s.dbg.side) g p.addr p.len
    (.answer st bs, s)
  | _, some bs =>
    if p.enables then
      let (st, s) := s.writeRegion p.master g p.start p.addr bs
      (.answer st [], s)
    else (.answer .ok [], s)

/-- What a read that is not made returns. -/
def readZeros (p : Piece) : List Byte := if p.write.isSome then [] else List.replicate p.len 0

/-- Whether master `m` reaches a region: the connection table, and until READY only the dictionary's target for the host (11 R332; 13 R378). -/
def State.reaches (s : State) (m : Master) (g : Region) : Bool :=
  g.reaches m && (m != .hdma || s.power.ready || g.target == .dict)

/-- A piece: decode, level, then the access. A piece of a larger transaction is no register access (05 R146). The bytes of a read that its level
refuses are free (14 R406; log 99). -/
def State.pieceReaches (s : State) (p : Piece) : Bool :=
  let g := s.regionOf p.addr p.len
  s.reaches p.master g && (p.len == p.whole || (match g with | .reg .. => false | .dict _ => false | _ => true))

def State.access (s : State) (p : Piece) : AccessEnd × State :=
  let g := s.regionOf p.addr p.len
  if !s.pieceReaches p then (.answer .decodeError (readZeros p), s.decodeError p.master p.start)
  else
    let v : Word64 := match p.write with
      | some bs => BitVec.ofNat 64 (leNat bs)
      | none => 0
    if !s.levelOk p.master g p.write.isSome v then
      let (bs, s') := if p.write.isSome then ([], s) else s.drawBytes p.len
      (.answer .targetError bs, s'.logError p.master 3 p.start)
    else s.serve p g

/-! ### Transactions (11 R334) -/

/-- A transaction broken at every 256-byte boundary; `f` bounds the pieces. -/
def splitPieces : Nat → Nat → Nat → List (Nat × Nat)
  | 0, _, _ => []
  | f + 1, a, n =>
    if n = 0 then []
    else
      let k := min n (256 - a % 256)
      (a, k) :: splitPieces f (a + k) (n - k)

/-- The pieces of a transaction, each with the bytes that it writes. -/
def piecesOf (m : Master) (id : BitVec 6) (a n : Nat) (w : Option (List Byte)) : List Piece :=
  (splitPieces 17 a n).map fun e => ⟨m, id, e.1, e.2, w.map fun bs => (bs.drop (e.1 - a)).take e.2, true, a, n⟩

/-- The target that a piece waits at (11 R331, R332). -/
def State.targetOf (s : State) (p : Piece) : Target :=
  let g := s.regionOf p.addr p.len
  if s.reaches p.master g then g.target else .deflt

/-- The target of an outstanding transaction: that of its next piece, or of its last one. -/
def State.txnTarget (s : State) (t : Txn) : Target :=
  let a := t.addr + (t.whole - max t.left 1)
  s.targetOf (t.rest.headD ⟨t.master, t.id, a, min (max t.left 1) (256 - a % 256), none, true, t.addr, t.whole⟩)

/-- A transaction waits behind an earlier one of its master with its ID, which has the same target: its pieces are served, and its response returns,
after the other's (11 R321, R335). -/
def State.behind (s : State) (t : Txn) : Bool := s.sm.txns.any fun u => u.master == t.master && u.id == t.id

/-- The grant of a piece at target `t`: the winner is the last winner, on which the target parks, and every other master of `ms`, which waited, has
lost once more (11 R336, R338). -/
def State.noteGrant (s : State) (t w : Fin 11) (ms : List (Fin 11)) : State :=
  let row := Vector.ofFn fun (m : Fin 11) =>
    if m = w then 0 else if ms.contains m then s.sm.losses[t][m] + 1 else s.sm.losses[t][m]
  { s with sm := { s.sm with
    last := s.sm.last.set t w
    losses := s.sm.losses.set t row
    hubTurn := if h : t = 4 ∧ w.val < 4 then ⟨w.val, h.2⟩ else s.sm.hubTurn } }

/-- The grant of a piece that waits alone. -/
def State.grantAlone (s : State) (p : Piece) : State := s.noteGrant (s.targetOf p).num p.master.num [p.master.num]

/-- The end of a piece joins its transaction's: the first that is not good gives the status. The host link completes each piece of a read by
itself, successfully once the request has decoded, or poisoned (11 R319; log 99). -/
def State.noteAnswer (s : State) (t : Txn) (p : Piece) (st : RespStatus) (bs : List Byte) : Txn × State :=
  let t' := { t with
    rest := t.rest.drop 1
    left := t.left - p.len
    granted := false
    won := false
    status := if t.status = .ok then st else t.status
    got := t.got ++ bs }
  (t', if t.link && p.write.isNone && !t.dropped then
      s.output (.completion (if st = .poisoned then .poisoned else .ok) bs s.host.ecrcGen)
    else s)

/-- The lines of a transaction's first piece wait at a desk's DMA port. -/
def State.holdTxn (s : State) (t : Txn) : Txn × State :=
  ({ t with granted := true, tag := s.sm.nextTag, part := [], partBad := false }, { s with sm := { s.sm with nextTag := s.sm.nextTag + 1 } })

/-- The pieces that a transaction has put to the matrix, in address order, as far as they go. -/
def State.runPieces (s : State) (t : Txn) : List Piece → Txn × State
  | [] => (t, s)
  | p :: ps =>
    match (if t.won then s else s.grantAlone p).access p with
    | (.answer st bs, s1) =>
      let (t1, s2) := s1.noteAnswer t p st bs
      s2.runPieces t1 ps
    | (.held, s1) => s1.holdTxn t

/-- A transaction is outstanding while it has bytes left; it ends with its one response (11 R334). The host link has completed its reads, and its
writes are posted. -/
def State.keepTxn (s : State) (t : Txn) : State :=
  if t.left ≠ 0 then { s with sm := { s.sm with txns := s.sm.txns ++ [t] } }
  else if t.dropped || t.link then s
  else s.output (.response t.status t.got)

/-- A transaction goes on as far as it can. -/
def State.runTxn (s : State) (t : Txn) : State :=
  if t.granted || s.behind t then { s with sm := { s.sm with txns := s.sm.txns ++ [t] } }
  else
    let (t', s') := s.runPieces t t.rest
    s'.keepTxn t'

/-- The ID of a new transaction: that of its master's last to the same target, else the lowest that is free (11 R334, R335; log 145). -/
def State.newId (s : State) (m : Master) (p : Option Piece) : BitVec 6 :=
  let mine := s.sm.txns.filter fun t => t.master == m
  match mine.reverse.find? fun t => some (s.txnTarget t) == p.map s.targetOf with
  | some t => t.id
  | none => BitVec.ofNat 6 (((List.range 32).find? fun i => mine.all fun t => t.id.toNat != i).getD 0)

/-- Master `m` may have one more transaction outstanding (11 R334). -/
def State.mayIssue (s : State) (m : Master) : Bool := decide ((s.sm.txns.filter fun t => t.master == m).length < 32)

/-- A new transaction; with 32 outstanding, its master issues none (11 R334; log 145). -/
def State.issue (s : State) (m : Master) (a n : Nat) (w : Option (List Byte)) (link : Bool) : State :=
  if !s.mayIssue m then s
  else
    let id := s.newId m (piecesOf m 0 a n w).head?
    s.runTxn ⟨m, id, a, n, n, piecesOf m id a n w, false, 0, false, [], false, .ok, [], link, false⟩

/-- A transaction that one master issues. The matrix is in the main domain (13), and the host's come through BARs that are decoded (11 R317). -/
def State.single (s : State) (m : Master) (a n : Nat) (w : Option (List Byte)) : Host.Outcome State Fault Refusal :=
  if s.power.phase = .run ∧ (m ≠ .hdma ∨ s.barOn = true) then .next (s.issue m a n w false) else .next s

/-- The outstanding transactions go on, the earliest first. -/
def State.resumeTxns (s : State) : State :=
  s.sm.txns.foldl State.runTxn { s with sm := { s.sm with txns := [] } }

/-! ### The desks' DMA ports (05 R163-R167) -/

/-- Whether a transaction is the granted one of a line's tag. -/
def Txn.waitsFor (t : Txn) (g : LineTag) : Bool := t.granted && t.tag == g.tag

/-- The bytes of a line that a transaction reads, whether one of its words is uncorrectable, and the state after; a read with the no-side-effect
attribute counts nothing (00 R8; 14 R419). -/
def State.readLine (s : State) (k : SlotId) (l : DmaPending) (g : LineTag) : List Byte × Bool × State :=
  let off := l.off + g.first
  if g.master == .dam && !s.dbg.side then
    let d := (s.slot k).desk
    (d.mem.readBytes off g.n, (wordsOf off g.n).any fun w => d.bad.contains w, s)
  else
    let (bs, bad, s) := s.readDesk k off g.n
    (bs, bad.isSome, s)

/-- A line of a transaction is served at the desk of slot `k`; with its last line the piece ends, and the outstanding transactions go on. -/
def State.serveTagged (s : State) (k : SlotId) (l : DmaPending) (g : LineTag) : State :=
  let (bs, bad, s) := match l.write with
    | some w => ([], false, s.modSlot k fun x => x.writeLine l.off w)
    | none => s.readLine k l g
  match s.sm.txns.find? fun t => t.waitsFor g with
  | none => s
  | some t =>
    let t := { t with part := t.part ++ bs, partBad := t.partBad || bad }
    let put (s : State) (t : Txn) : State :=
      { s with sm := { s.sm with txns := s.sm.txns.map fun u => if u.waitsFor g then t else u } }
    if (s.slot k).desk.dma.any fun m => m.txn.any fun h => h.tag == g.tag then put s t
    else
      match t.rest with
      | [] => s
      | p :: _ =>
        let (st, out, s) := s.readEnd p.len t.part t.partBad
        let (t, s) := s.noteAnswer t p st out
        (put s t).resumeTxns

/-- A line that the port issues is served. -/
def State.serveDma (s : State) (k : SlotId) (l : DmaPending) : State :=
  match l.txn with
  | some g => s.serveTagged k l g
  | none => s.serveLine k l

/-- How long a line in the bank under test has been held by the slice so far, for 7002h/06h (13 R387). -/
def State.noteHold (s : State) (l : DmaPending) : State :=
  let held := min s.clk (s.bist.since + 80000) - max l.since s.bist.since
  { s with bist := { s.bist with maxHold := BitVec.ofNat 32 (max held s.bist.maxHold.toNat) } }

/-- DESK_DMA_LINE_ISSUE: a line that waits at the port or arrives, an excursion engine's first. An engine/core access of the same
bank in this clk preempts it; a desk that is not awake holds it and starts to wake (05 R167), and so does a bank under test (13 R387). -/
def execDeskDmaLineIssue (k : SlotId) (exc other : Option DmaLine) (eng : EngineAccess) (s : State) :
    Host.Outcome State Fault Refusal :=
  if !(exc.all DmaLine.ok && other.all DmaLine.ok && eng.ok) then .fault .illFormed
  else
    let d := (s.slot k).desk
    let fresh := (exc.map fun l => (⟨l.off, l.write, s.engineOn k, none, s.clk⟩ : DmaPending)).toList
      ++ (other.map fun l => (⟨l.off, l.write, none, none, s.clk⟩ : DmaPending)).toList
    match pickLine (d.dma ++ fresh) with
    | none => .next s
    | some (l, ls) =>
      let hold (l : DmaPending) : State := s.modSlot k fun x => { x with desk := { x.desk with dma := l :: ls } }
      if d.power ≠ .on then
        .next ((hold l).modSlot k fun x => { x with desk := { x.desk with power := .waking } })
      else if s.underTest k l.off then .next (hold l)
      else
        match eng, l.write with
        | .idle, _ =>
          let s := if s.inTestBank k l.off then s.noteHold l else s
          .next ((s.modSlot k fun x => { x with desk := { x.desk with dma := ls } }).serveDma k l)
        | .read, _ => .next (hold l)
        | .write _, none => .next (hold l)
        | .write bs, some mine =>
          let s' := hold { l with write := some (afterPreempt mine bs) }
          match collided mine bs with
          | [] => .next s'
          | w :: _ => .next (s'.noteCollision k (l.off + 8 * w) l.engine)

/-- DESK_WAKE_COMPLETE: the desk is on, the lines that wait at its port can be issued, and a full scrub pass starts in the next recess (05 R167). -/
def execDeskWakeComplete (k : SlotId) (s : State) : Host.Outcome State Fault Refusal :=
  if (s.slot k).desk.power ≠ .waking then .next s
  else .next (s.modSlot k fun x => { x with desk := { x.desk with power := .on, scrubLine := 0 } })

/-- The slice leaves the unit under test: the holds of the lines that wait in its bank count, and the clk that it has spent there (13 R385, R387). -/
def State.leaveUnit (s : State) : State :=
  let s := match s.bist.unit with
    | some (.deskBank k _) => ((s.slot k).desk.dma.filter fun (l : DmaPending) => s.inTestBank k l.off).foldl State.noteHold s
    | _ => s
  { s with bist := { s.bist with
    unit := none
    spent := match s.bist.unit with
      | some u => s.bist.spent.filter (fun e => e.1 != u) ++ [(u, min 80000 (s.clk - s.bist.since))]
      | none => s.bist.spent } }

/-- DEBUG_ACCESS: a read or write of the debug access master. -/
def State.debugAccess (s : State) (a : Access) : Host.Outcome State Fault Refusal :=
  if !a.ok then .fault .illFormed
  else s.single .dam a.addr a.len a.write

def execDebugAccess (a : Access) (s : State) : Host.Outcome State Fault Refusal := s.debugAccess a

/-! ### The rows that are one register access -/

/-- HALT_REQUEST: a write of HALT to STREAM.DBGCTL that leaves its other fields (14 R409). -/
def execHaltRequest (m : Master) (k : SlotId) (s : State) : Host.Outcome State Fault Refusal :=
  let a := mmioBase + k.val / 17 * 0x1000000 + k.val % 17 * 0x10000 + 0x2000
  s.single m a 4 (some (leBytes 4 ((s.regValue (.dbgctl k)).toNat + 2 ^ 28)))

/-- HALT_CANCEL: a write of HCAN. -/
def execHaltCancel (m : Master) (k : SlotId) (s : State) : Host.Outcome State Fault Refusal :=
  let a := mmioBase + k.val / 17 * 0x1000000 + k.val % 17 * 0x10000 + 0x2000
  s.single m a 4 (some (leBytes 4 ((s.regValue (.dbgctl k)).toNat + 2 ^ 27)))

/-- DEBUG_RESET: a write of DBG.RESET; the slot serving the Stream is reset (14 R421). -/
def execDebugReset (m : Master) (go : Bool) (i : StreamId) (s : State) : Host.Outcome State Fault Refusal :=
  s.single m (dbgBase + 8) 4 (some (leBytes 4 ((if go then 2 ^ 31 else 0) + i.val)))

/-- REGISTER_WRITE: a 32-bit or 64-bit write at a module address (00 R5; 05 R146). -/
def execRegisterWrite (m : Master) (a : Addr) (wide : Bool) (v : Word64) (s : State) : Host.Outcome State Fault Refusal :=
  let n := if wide then 8 else 4
  s.single m a n (some (leBytes n v.toNat))

/-- REGISTER_READ_CLEAR: a 32-bit or 64-bit read, which clears RC fields (00 R5, R7). -/
def execRegisterReadClear (m : Master) (a : Addr) (wide : Bool) (s : State) : Host.Outcome State Fault Refusal :=
  s.single m a (if wide then 8 else 4) none

/-! ### Arbitration (11 R336-R338) -/

/-- A master's priority at a target: 15 once its piece has lost 16 arbitrations in a row. -/
def State.prioOf (s : State) (m t : Fin 11) : Nat :=
  if 16 ≤ s.sm.losses[t][m] then 15 else (s.sm.prio[m] >>> (4 * t.val)).toNat % 16

/-- How far a master stands after the last winner, in ascending order. -/
def State.turnOf (s : State) (m t : Fin 11) : Nat := (m.val + 10 - s.sm.last[t].val) % 11

/-- The winner among the masters that wait: the highest priority, then the next after the last winner. -/
def State.winner (s : State) (t : Fin 11) (ms : List (Fin 11)) : Option (Fin 11) :=
  ms.foldl (fun best m =>
    match best with
    | none => some m
    | some b =>
      if s.prioOf b t < s.prioOf m t ∨ (s.prioOf b t = s.prioOf m t ∧ s.turnOf m t < s.turnOf b t) then some m else some b) none

/-- The hub whose turn comes next among those that wait (11 R337). -/
def State.nextHub (s : State) (hs : List (Fin 11)) : Option (Fin 11) :=
  ([1, 2, 3, 4].map fun (d : Nat) => (⟨(s.sm.hubTurn.val + d) % 4, by omega⟩ : Fin 11)).find? fun h => hs.contains h

/-- The master that a target grants; at GSP the tile hubs go ahead of every other (11 R337). -/
def State.choose (s : State) (t : Fin 11) (ms : List (Fin 11)) : Option (Fin 11) :=
  if t = 4 then (match s.nextHub ms with | some h => some h | none => s.winner t ms) else s.winner t ms

/-- Whether an outstanding transaction waits for the grant of piece `p`, its next in address order (11 R334). -/
def Txn.awaits (t : Txn) (p : Piece) : Bool :=
  t.master == p.master && t.id == p.id && t.rest == [] && t.addr == p.start && t.whole == p.whole && p.addr == t.addr + (t.whole - t.left)

/-- A piece can be granted: its transaction has come to it, or begins with it while its master may have one more and has its ID outstanding to no other
target (11 R334, R335). -/
def State.mayGrant (s : State) (p : Piece) : Bool :=
  s.sm.txns.any (fun t => t.awaits p)
  || (p.addr == p.start && s.mayIssue p.master && s.sm.txns.all fun t => t.master != p.master || t.id != p.id || s.txnTarget t == s.targetOf p)

/-- The granted piece is served as a part of its transaction, once the earlier transactions with its ID have ended (11 R335). One whose parity fails is
answered with an error response, and nothing is read or written (10 R308). -/
def State.grantPiece (s : State) (p : Piece) (parity : Bool) : State :=
  let old := s.sm.txns.find? fun t => t.awaits p
  let t : Txn := (old.map fun t => { t with rest := [p], won := true }).getD
    ⟨p.master, p.id, p.start, p.whole, p.whole, [p], false, 0, true, [], false, .ok, [], false, false⟩
  let (t, s) := if parity then (s.parityError p.master p.start).noteAnswer t p .parityError (readZeros p) else (t, s)
  let txns := if old.isSome then s.sm.txns.map fun u => if u.awaits p then t else u else s.sm.txns ++ [t]
  { s with sm := { s.sm with txns := txns } }.resumeTxns

/-- SM_PIECE_GRANT: target `t` grants one of the pieces that wait at it, which is served (11 R336). -/
def execSmPieceGrant (t : Target) (w : PieceWait) (s : State) : Host.Outcome State Fault Refusal :=
  if !w.waiting.all Piece.ok then .fault .illFormed
  else if s.power.phase ≠ .run then .next s
  else
    let here := w.waiting.filter fun p => s.targetOf p == t && s.mayGrant p
    let ms := (here.map fun p => p.master.num).eraseDups
    match s.choose t.num ms with
    | none => .next s
    | some m =>
      match here.find? fun p => p.master.num == m with
      | none => .next s
      | some p => .next ((s.noteGrant t.num m ms).grantPiece p w.parity)

/-- The core whose request hub `t` serves: the one that has waited longest, the first of those that are equal (11 R337). -/
def oldestOf (waiting : List GspReq) (t : Fin 11) : Option (Fin 4 × SlotId × Nat) :=
  waiting.foldl (fun best r =>
    match r with
    | .hub h k age _ _ =>
      if h.val ≠ t.val then best
      else
        match best with
        | some (_, _, a) => if a < age then some (h, k, age) else best
        | none => some (h, k, age)
    | .other _ _ => best) none

/-- GSP_BLOCK_SERVICE: the block request that GSP serves next: a tile hub's ahead of every other master's, the hubs in turn, and each hub's oldest
first. What the block does to memory is the row of the core's own load, store or fill, or the granted piece (log 34). -/
def execGspBlockService (waiting : List GspReq) (s : State) : Host.Outcome State Fault Refusal :=
  if !gspOk waiting then .fault .illFormed
  else
    let ms := (waiting.map GspReq.num).eraseDups
    match s.choose 4 ms with
    | none => .next s
    | some w =>
      if s.power.phase ≠ .run then .next s
      else
        let s := s.noteGrant 4 w ms
        match oldestOf waiting w with
        | some (h, k, _) => .next { s with sm := { s.sm with hubCore := s.sm.hubCore.set h (some k) } }
        | none => .next s

end Sys2Proof.Machine
end

