-- ==== Sys2Proof/Machine/Requests.lean ====
section
/-!
DEFINITION. The request protocol of the object dictionary on its two transports, and the CAN FD port (12 R340-R358).
-/

namespace Sys2Proof.Machine

/-! ### Frames (12 R345) -/

/-- The fields of a request frame. -/
structure ReqFrame where
  cmd : Byte
  seq : Byte
  index : Nat
  sub : Byte
  len : Nat
  /-- STATUS, RSV or an unused DATA byte is not 0, or LEN is above 56 -/
  bad : Bool
  data : List Byte
  deriving DecidableEq, Repr

def readFrame (f : List Byte) : ReqFrame :=
  let b (i : Nat) : Byte := f.getD i 0
  let len := (b 5).toNat
  { cmd := b 0
    seq := b 1
    index := (b 2).toNat + 256 * (b 3).toNat
    sub := b 4
    len := len
    bad := b 6 != 0 || b 7 != 0 || decide (56 < len) || (f.drop (8 + len)).any (fun x => x != 0)
    data := (f.drop 8).take len }

/-- A response frame: SEQ, INDEX and SUB are copied from the request. -/
def ReqFrame.response (r : ReqFrame) (cmd : Byte) (status : Nat) (data : List Byte) : List Byte :=
  [cmd, r.seq, BitVec.ofNat 8 r.index, BitVec.ofNat 8 (r.index / 256), r.sub, BitVec.ofNat 8 data.length, BitVec.ofNat 8 status, 0]
    ++ fitBytes 56 data

def ReqFrame.key (r : ReqFrame) : ObjKey := (r.index, r.sub.toNat)

/-- The first status that applies, in the order of the status table; 0 when none does (12 R347). -/
def firstStatus (l : List (Bool × Nat)) : Nat := ((l.find? fun e => e.1).map Prod.snd).getD 0

/-! ### Order of receipt -/

def insertBy {α : Type} (key : α → Nat) (x : α) : List α → List α
  | [] => [x]
  | y :: ys => if key x < key y then x :: y :: ys else y :: insertBy key x ys

/-- A list in the order of a key, equal keys in their order in the list. -/
def sortBy {α : Type} (key : α → Nat) (l : List α) : List α := l.foldl (fun acc x => insertBy key x acc) []

/-! ### What a request is checked against (12 R347) -/

/-- Every unit that is retired, or whose retirement is decided. -/
def State.retiredUnits (s : State) : List UnitRef :=
  (((List.finRange 68).flatMap fun k => (List.finRange 66).map fun l => UnitRef.lane k l)
    ++ (List.finRange 68).map UnitRef.slot
    ++ ((List.finRange 32).flatMap fun p => (List.finRange 128).map fun b => UnitRef.bank p b)
    ++ (List.finRange 32).map UnitRef.port).filter s.unitRetired

/-- A hall pass of Brirel's is in force (14 R405). -/
def State.vendorPass (s : State) : Bool := s.sec.grants.toList.any fun g => match g with | some x => x.signer == 0 | none => false

/-- What a boundary samples for the checks of the frame that follows. -/
def State.sample (s : State) : Sampled :=
  ⟨s.power.phase, s.power.sinceTrip, s.sec.life, s.fuses.life, s.vendorPass, s.retiredUnits⟩

/-! ### What is served (12 R358; 13 R369) -/

/-- Module standby, or on the way out of it. -/
def Phase.isStandby (p : Phase) : Bool := p == .standby || p == .enabling

def State.inStandby (s : State) : Bool := s.power.phase.isStandby

/-- Objects that module standby serves as run does (12 R358). -/
def standbyServes (i : Nat) : Bool :=
  (0x1000 ≤ i && i < 0x2000) || i == 0x4000 || i == 0x4001 || (0x6000 ≤ i && i < 0x7000) || 0x8000 ≤ i

/-- An object that is not served now; the recovery of 13 R369 serves the identity and the image objects (log 35). -/
def State.unavailable (s : State) (i : Nat) : Bool :=
  if s.mgmt.seen.phase = .recovery then !(i == 0x1000 || i == 0x6040) else s.mgmt.seen.phase.isStandby && !standbyServes i

/-! ### Checks of a value (12 R347, R357; each object's row) -/

/-- The published value of an object, as a number. -/
def State.publishedNat (s : State) (k : ObjKey) : Nat := leNat (((s.mgmt.pub.find? fun e => e.1 == k).map Prod.snd).getD [])

/-- A length that does not fit the object. -/
def Obj.lengthBad (o : Obj) (n : Nat) : Bool :=
  if o.ty.size = 0 then
    decide (o.max < n) || (decide (0x9100 ≤ o.key.1) && n != 0 && (decide (n < 16) || n % 8 != 0))
      || (decide (0x6030 ≤ o.key.1 ∧ o.key.1 ≤ 0x6033) && n != 32) || (o.key == (0x6050, 1) && n != 0 && n != 68)
  else n != o.ty.size

/-- A BIST program image that breaks its table (13 R380). -/
def bistImageOk (v : List Byte) : Bool :=
  let w (i : Nat) : Nat := leNat ((v.drop (8 * i)).take 8)
  let set := ((List.range 10).filter fun b => (w 0).testBit b).length
  decide (v.length = 56 + 32 * set) && decide (w 0 / 2 ^ 56 = 1) && decide (w 0 / 2 ^ 10 % 2 ^ 46 = 0)
    && decide (1 ≤ w 1 ∧ w 1 < 2 ^ 32) && decide (1 ≤ w 2 ∧ w 2 ≤ 600000)

/-- The unit that a write of 3036h/01h names (10 R296). -/
def retireTarget (v : Word32) : Option UnitRef :=
  (⟨BitVec.ofNat 8 (bits v 31 24), BitVec.ofNat 8 (bits v 23 16), BitVec.ofNat 8 (bits v 15 8), BitVec.ofNat 8 (bits v 7 0), 0xFF, 0, 0⟩ :
    RepairRec).unit

/-- A value outside the object's range. -/
def State.rangeBad (s : State) (o : Obj) (v : List Byte) : Bool :=
  let n := leNat v
  let (i, sub) := o.key
  if o.ty = .bool then decide (1 < n)
  else if i = 0x1010 then decide (n < 1 ∨ 3 < n)
  else if i = 0x2000 then
    if sub = 1 then decide (n < 20 ∨ 20000 < n)
    else if sub = 2 ∨ sub = 3 then decide (n < 10 ∨ 200 < n)
    else if sub = 4 then decide (1 < n)
    else false
  else if i = 0x2002 then decide (n < 1 ∨ 2 < n)
  else if i = 0x3010 then decide (n = 0)
  else if i = 0x3030 then decide (sub % 2 = 1 ∧ n = 0)
  else if i = 0x3036 then (retireTarget (BitVec.ofNat 32 n)).isNone
  else if i = 0x3050 then decide (n ≠ 0xFFFF) && decide (s.publishedNat (0x3050, 2) ≤ n)
  else if i = 0x4001 then decide (4096 < n)
  else if i = 0x5000 then decide (n < 300 ∨ 1200 < n)
  else if i = 0x7000 then
    if sub = 1 then decide (1 < n) else if sub = 2 then decide (n < 1 ∨ 2 < n) else !bistImageOk v
  else if i = 0x8000 ∧ sub = 3 then decide (n ≠ 1)
  else if i = 0x9000 then decide (n ≠ 1)
  else false

def lifeOfCode (n : Nat) : Option Life :=
  if n = 1 then some .provisioned else if n = 2 then some .deployed else if n = 3 then some .returned else if n = 4 then some .void else none

/-- The transition that a write of 6000h/02h asks for, from what the fuses hold and whether a pass of Brirel's is in force (14 R405). -/
def lifeMove (fuses : Life) (vendorPass : Bool) (n : Nat) : Option Life :=
  match fuses, lifeOfCode n with
  | .provisioned, some .deployed => some .deployed
  | .deployed, some .returned => if vendorPass then some .returned else none
  | _, some .void => some .void
  | _, _ => none

def State.transition (s : State) (n : Nat) : Option Life := lifeMove s.fuses.life s.vendorPass n

/-- The life-cycle states that permit programs, coverage runs and deletions. -/
def Life.open_ : Life → Bool
  | .blank => true
  | .returned => true
  | _ => false

/-- The object refuses the write in the state that the last boundary sampled (12 R347). A command counts as pending from the write that is
accepted (log 144). -/
def State.stateBad (s : State) (o : Obj) (v : List Byte) : Bool :=
  let n := leNat v
  let (i, sub) := o.key
  let seen := s.mgmt.seen
  let life := seen.life
  let pending := o.acc == .cmd && s.mgmt.cmds.get o.key == .pending && !(i == 0x7000 && n == 2)
  let mine : Bool :=
    if i = 0x1010 ∧ sub = 1 then
      (if n = 3 then seen.phase != .standby || (match seen.sinceTrip with | some f => decide (f < 20000) | none => false)
        else seen.phase.isStandby) || (life == .void && n != 2)
    else if i = 0x2000 ∧ sub ≤ 3 then s.publishedNat (0x2002, 1) != 2
    else if i = 0x3036 then (match retireTarget (BitVec.ofNat 32 n) with | some u => seen.retired.contains u | none => false)
    else if i = 0x3050 then !life.open_
    else if i = 0x6000 then (lifeMove seen.fuseLife seen.vendorPass n).isNone
    else if i = 0x6040 then life == .void
    else if i = 0x6050 then !(life == .blank || life == .provisioned)
    else if i = 0x7000 ∧ sub = 2 then n == 1 && !(life.open_ && s.publishedNat (0x2002, 1) == 2)
    else if i = 0x7000 ∧ sub = 3 then !life.open_
    else if i = 0x8000 ∧ sub = 1 then life != .deployed
    else if 0x9100 ≤ i then life == .void
    else false
  pending || mine

/-- The status of a write of `v` to an object (12 R345, R347). -/
def State.writeStatus (s : State) (o : Obj) (v : List Byte) (big bad : Bool) : Nat :=
  firstStatus [
    (o.acc == .ro, 3),
    (big || o.lengthBad v.length, 4),
    (s.rangeBad o v, 5),
    (s.stateBad o v, 6),
    (s.unavailable o.key.1 && !(o.acc == .rwp && s.mgmt.seen.phase.isStandby), 9),
    (bad, 10)]

/-- A write received as number `n` is accepted: it waits for the frame boundary, an RWP object's with the next persist number (12 R340, R347,
R359). The data of the response. -/
def State.accept (s : State) (n : Nat) (o : Obj) (v : List Byte) : State × List Byte :=
  let m := s.mgmt
  if o.acc = .rwp then
    let p := m.persistLast + 1
    ({ s with mgmt := { m with persistLast := p, accepted := m.accepted ++ [⟨n, o.key, v, some p⟩] } }, leBytes 4 p.toNat)
  else
    let s := { s with mgmt := { m with accepted := m.accepted ++ [⟨n, o.key, v, none⟩] } }
    if o.acc = .cmd then (s.setCmd o.key .pending, [])
    else if o.key.1 = 0x6040 then ({ s with sec := { s.sec with upload := 1 } }, [])
    else (s, [])

/-! ### Transports -/

def State.trans (s : State) (t : Transport) : TransportState :=
  match t with
  | .can => s.mgmt.can
  | .mailbox => s.mgmt.mailbox

def State.setTrans (s : State) (t : Transport) (x : TransportState) : State :=
  match t with
  | .can => { s with mgmt := { s.mgmt with can := x } }
  | .mailbox => { s with mgmt := { s.mgmt with mailbox := x } }

/-! ### The requests: each gives the state after it and its response -/

/-- READ (12 R349). Its request DATA is "None", and R345 states no status for a LEN of 1 to 56 with it: MALFORMED, in READ, SREAD-INIT, SREAD-SEG and
ABORT, DEDUCED (log 180). -/
def State.onRead (s : State) (r : ReqFrame) : State × List Byte :=
  match findObj r.key with
  | none => (s, r.response 0x81 1 [])
  | some o =>
    let v := s.published o
    let st := firstStatus [(o.acc == .wo, 2), (decide (56 < v.length), 4), (s.unavailable r.index, 9), (r.bad || r.len != 0, 10)]
    (s, r.response 0x81 st (if st = 0 then v else []))

/-- WRITE (12 R349). -/
def State.onWrite (s : State) (n : Nat) (r : ReqFrame) : State × List Byte :=
  match findObj r.key with
  | none => (s, r.response 0x82 1 [])
  | some o =>
    let st := s.writeStatus o r.data (decide (56 < r.len)) r.bad
    if st = 0 then
      let (s, d) := s.accept n o r.data
      (s, r.response 0x82 0 d)
    else (s, r.response 0x82 st [])

/-- SREAD-INIT: an open segmented read of the transport is closed, and a snapshot of the published value opens the new one (12 R350, R352). -/
def State.onSreadInit (s : State) (t : Transport) (r : ReqFrame) : State × List Byte :=
  let s := s.setTrans t { s.trans t with rd := none }
  match findObj r.key with
  | none => (s, r.response 0x83 1 [])
  | some o =>
    let v := s.published o
    let st := firstStatus [(o.acc == .wo, 2), (s.unavailable r.index, 9), (r.bad || r.len != 0, 10)]
    if st = 0 then (s.setTrans t { s.trans t with rd := some ⟨r.key, v, 0⟩ }, r.response 0x83 0 (leBytes 4 v.length))
    else (s, r.response 0x83 st [])

/-- SREAD-SEG: any segment of the snapshot (12 R352). -/
def State.onSreadSeg (s : State) (t : Transport) (r : ReqFrame) : State × List Byte :=
  match (s.trans t).rd with
  | none => (s, r.response 0x84 8 [])
  | some x =>
    let s := s.setTrans t { s.trans t with rd := some { x with idle := 0 } }
    let st := firstStatus [(decide (x.data.length ≤ 56 * r.index), 5), (r.bad || r.len != 0 || r.sub != 0, 10)]
    (s, r.response 0x84 st (if st = 0 then (x.data.drop (56 * r.index)).take 56 else []))

/-- SWRITE-INIT: an open segmented write of the transport is closed; the access code and the total length are checked (12 R350, R351). -/
def State.onSwriteInit (s : State) (t : Transport) (r : ReqFrame) : State × List Byte :=
  let s := s.setTrans t { s.trans t with wr := none }
  match findObj r.key with
  | none => (s, r.response 0x85 1 [])
  | some o =>
    let total := leNat r.data
    let st := firstStatus [
      (o.acc == .ro, 3),
      (r.len != 4 || total == 0 || decide (1048576 < total) || o.lengthBad total, 4),
      (s.unavailable r.index && !(o.acc == .rwp && s.mgmt.seen.phase.isStandby), 9),
      (r.bad, 10)]
    if st = 0 then (s.setTrans t { s.trans t with wr := some ⟨r.key, total, [], 0, 0⟩ }, r.response 0x85 0 [])
    else (s, r.response 0x85 st [])

/-- SWRITE-SEG: the expected segment is stored, and the last one is the write (12 R351). -/
def State.onSwriteSeg (s : State) (t : Transport) (n : Nat) (r : ReqFrame) : State × List Byte :=
  match (s.trans t).wr with
  | none => (s, r.response 0x86 8 [])
  | some x =>
    let last := (x.total - 1) / 56
    let want := if r.index < last then 56 else x.total - 56 * last
    let st := firstStatus [
      (decide (r.index ≤ last) && r.len != want || decide (56 < r.len), 4),
      (r.index != x.expected, 7),
      (r.bad || r.sub != 0, 10)]
    let open_ := s.setTrans t { s.trans t with wr := some { x with idle := 0 } }
    if st = 7 then (open_, r.response 0x86 7 (leBytes 2 x.expected))
    else if st ≠ 0 then (open_, r.response 0x86 st [])
    else
      let got := x.got ++ r.data
      if r.index < last then
        (s.setTrans t { s.trans t with wr := some { x with got := got, expected := x.expected + 1, idle := 0 } }, r.response 0x86 0 [])
      else
        let s := s.setTrans t { s.trans t with wr := none }
        match findObj x.key with
        | none => (s, r.response 0x86 1 [])
        | some o =>
          let st := s.writeStatus o got false false
          if st = 0 then
            let (s, d) := s.accept n o got
            (s, r.response 0x86 0 d)
          else (s, r.response 0x86 st [])

/-- ABORT (12 R353). -/
def State.onAbort (s : State) (t : Transport) (r : ReqFrame) : State × List Byte :=
  let x := s.trans t
  let st := firstStatus [(x.rd.isNone && x.wr.isNone, 8), (r.bad || r.len != 0 || r.index != 0 || r.sub != 0, 10)]
  if st = 0 then (s.setTrans t { x with rd := none, wr := none }, r.response 0x87 0 []) else (s, r.response 0x87 st [])

/-- An unknown CMD (12 R346). -/
def State.onUnknown (s : State) (r : ReqFrame) : State × List Byte := (s, r.response 0x80 10 [])

/-- A request received as number `n` is checked and takes its effect (12 R347). -/
def State.check (s : State) (t : Transport) (n : Nat) (f : List Byte) : State × List Byte :=
  let r := readFrame f
  if r.cmd = 1 then s.onRead r
  else if r.cmd = 2 then s.onWrite n r
  else if r.cmd = 3 then s.onSreadInit t r
  else if r.cmd = 4 then s.onSreadSeg t r
  else if r.cmd = 5 then s.onSwriteInit t r
  else if r.cmd = 6 then s.onSwriteSeg t n r
  else if r.cmd = 7 then s.onAbort t r
  else s.onUnknown r

/-! ### Responses -/

/-- A response leaves on its transport: it waits for the CAN bus, or is written to the mailbox, where event 429 follows (12 R354, R355). -/
def State.respond (s : State) (t : Transport) (f : List Byte) : State :=
  match t with
  | .can => { s with mgmt := { s.mgmt with txq := s.mgmt.txq ++ [(BitVec.ofNat 11 (0x440 + s.mgmt.node.toNat), f)] } }
  | .mailbox =>
    let m := s.mgmt
    let s := { s with
      mgmt := { m with mbOverwritten := if s.host.mbUnread then satAdd m.mbOverwritten 1 else m.mbOverwritten }
      host := { s.host with mbResp := Vector.ofFn fun (i : Fin 64) => f.getD i.val 0, mbUnread := true } }
    s.raise 429

def otherTransport : Transport → Transport
  | .can => .mailbox
  | .mailbox => .can

/-- The transport whose request is not the next to be taken: the other has one too, and it is the other's turn (12 R346). -/
def State.yields (s : State) (t : Transport) : Bool := !(s.trans (otherTransport t)).queue.isEmpty && s.mgmt.turn != t

/-- The requests of a transport that have not been checked. -/
def State.unchecked (s : State) (t : Transport) : List (Transport × Request) :=
  ((s.trans t).queue.filter fun r => r.reply.isNone).map fun r => (t, r)

/-- A waiting request has its response. -/
def State.setReply (s : State) (t : Transport) (n : Nat) (f : List Byte) : State :=
  s.setTrans t { s.trans t with queue := (s.trans t).queue.map fun r => if r.stamp = n then { r with reply := some f } else r }

/-- The waiting requests among those of `which` are checked in their order of receipt, against what the last boundary published (12 R340, R347):
an RWP object's writes so take their persist numbers in that order (12 R359). -/
def State.checkWaiting (s : State) (which : Request → Bool) : State :=
  (sortBy (fun e => e.2.stamp) ((s.unchecked .can ++ s.unchecked .mailbox).filter fun e => which e.2)).foldl (fun (s : State) e =>
    let (s, f) := s.check e.1 e.2.stamp e.2.frame
    s.setReply e.1 e.2.stamp f) s

/-- Requests still waiting at a boundary were received before it. -/
def State.settle (s : State) : State := s.checkWaiting fun _ => true

/-- The oldest request of a transport is taken when its CMD is one of `want`: it is checked, unless the boundary has done so, and
answered, after every request that was received before it has been checked; the next turn is the other transport's (12 R346, R347). -/
def State.take (s : State) (t : Transport) (want : Byte → Bool) : State :=
  match (s.trans t).queue with
  | [] => s
  | r :: rs =>
    if s.power.phase = .off ∨ s.yields t ∨ !want (readFrame r.frame).cmd then s
    else
      let s := (s.checkWaiting fun q => decide (q.stamp < r.stamp)).setTrans t { s.trans t with queue := rs }
      let s := { s with mgmt := { s.mgmt with turn := otherTransport t } }
      match r.reply with
      | some f => s.respond t f
      | none =>
        let (s, f) := s.check t r.stamp r.frame
        s.respond t f

def execRead (t : Transport) (s : State) : Host.Outcome State Fault Refusal := .next (s.take t (· == 1))

def execWrite (t : Transport) (s : State) : Host.Outcome State Fault Refusal := .next (s.take t (· == 2))

def execSreadInit (t : Transport) (s : State) : Host.Outcome State Fault Refusal := .next (s.take t (· == 3))

def execSreadSeg (t : Transport) (s : State) : Host.Outcome State Fault Refusal := .next (s.take t (· == 4))

def execSwriteInit (t : Transport) (s : State) : Host.Outcome State Fault Refusal := .next (s.take t (· == 5))

def execSwriteSeg (t : Transport) (s : State) : Host.Outcome State Fault Refusal := .next (s.take t (· == 6))

def execAbort (t : Transport) (s : State) : Host.Outcome State Fault Refusal := .next (s.take t (· == 7))

def execUnknownRequest (t : Transport) (s : State) : Host.Outcome State Fault Refusal :=
  .next (s.take t fun c => c == 0 || decide (7 < c.toNat))

/-- SEGMENT_TRANSFER_TIMEOUT: transfers that have received no segment for 2,000 frames are closed (12 R353). -/
def execSegmentTransferTimeout (t : Transport) (s : State) : Host.Outcome State Fault Refusal :=
  let x := s.trans t
  .next (s.setTrans t { x with
    rd := match x.rd with | some r => (if 2000 ≤ r.idle then none else some r) | none => none
    wr := match x.wr with | some w => (if 2000 ≤ w.idle then none else some w) | none => none })

/-! ### CAN FD (12 R342-R344) -/

/-- A request frame, the receipt numbered `n`, joins a receive queue of 16; `false` when the queue is full (12 R346). -/
def TransportState.push (x : TransportState) (n : Nat) (f : List Byte) : TransportState × Bool :=
  if 16 ≤ x.queue.length then (x, false) else ({ x with queue := x.queue ++ [⟨f, n, none⟩] }, true)

/-- The controller state that the transmit and the receive error count give, as ISO 11898-1 has it (12 R342; log 36). -/
def canStateOf (tx rx : Nat) : CanState :=
  if 256 ≤ tx then .busOff else if 128 ≤ tx ∨ 128 ≤ rx then .errorPassive else .errorActive

/-- A frame has been received: the receive error count falls by 1, to 127 from above it. -/
def Mgmt.heard (m : Mgmt) : Mgmt :=
  let e := if 127 < m.rxErrors then 127 else m.rxErrors - 1
  { m with rxErrors := e, canState := canStateOf m.txErrors e }

/-- CAN_FRAME_RECEIVE. -/
def execCanFrameReceive (f : CanFrame) (s : State) : Host.Outcome State Fault Refusal :=
  let m := s.mgmt
  if s.power.phase = .off ∨ m.canState = .offBus ∨ m.canState = .busOff then .next s
  else
    let m := match f with | .error => m | _ => m.heard
    let s := { s with mgmt := m }
    let mine (id : BitVec 11) : Bool := id.toNat == 0x400 + m.node.toNat
    match f with
    | .fd id data =>
      if data.length ≠ 64 then .fault .illFormed
      else if !mine id then .next s
      else
        let (x, ok) := m.can.push m.stamp data
        .next { s with mgmt := { m with
          can := x
          stamp := m.stamp + 1
          canRx := satAdd m.canRx 1
          canDropped := if ok then m.canDropped else satAdd m.canDropped 1 } }
    | .fdShort id => .next (if mine id then { s with mgmt := { m with canOtherDlc := satAdd m.canOtherDlc 1 } } else s)
    | .classical => .next { s with mgmt := { m with canIgnored := satAdd m.canIgnored 1 } }
    | .remote => .next { s with mgmt := { m with canIgnored := satAdd m.canIgnored 1 } }
    | .extended => .next { s with mgmt := { m with canIgnored := satAdd m.canIgnored 1 } }
    | .error =>
      let e := m.rxErrors + 1
      .next { s with mgmt := { m with rxErrors := e, canState := canStateOf m.txErrors e } }

/-- CAN_FRAME_TRANSMIT: the oldest frame that waits goes out, loses arbitration and waits, or meets an error and is retransmitted. -/
def execCanFrameTransmit (o : TxOutcome) (s : State) : Host.Outcome State Fault Refusal :=
  let m := s.mgmt
  match m.txq with
  | [] => .next s
  | (id, data) :: rest =>
    if s.power.phase = .off ∨ m.canState = .offBus ∨ m.canState = .busOff then .next s
    else
      match o with
      | .sent =>
        let e := m.txErrors - 1
        .next ({ s with mgmt := { m with txq := rest, txErrors := e, canState := canStateOf e m.rxErrors } }.output (.can id data))
      | .lostArbitration => .next s
      | .error =>
        let e := m.txErrors + 8
        let st := canStateOf e m.rxErrors
        .next { s with mgmt := { m with
          txErrors := e
          canState := st
          canBusOffs := if st = .busOff then satAdd m.canBusOffs 1 else m.canBusOffs } }

/-- CAN_BUS_OFF_RECOVERY: 128 occurrences of 11 recessive bits. -/
def execCanBusOffRecovery (s : State) : Host.Outcome State Fault Refusal :=
  if s.mgmt.canState = .busOff then .next { s with mgmt := { s.mgmt with canState := .errorActive, txErrors := 0, rxErrors := 0 } } else .next s

/-! ### The mailbox (12 R354) -/

/-- A host write of request bytes at `off`: the bytes are stored, and a write of the last word takes the frame. -/
def State.mailboxWrite (s : State) (off : Nat) (data : List Byte) : State :=
  let req := Vector.ofFn fun (i : Fin 64) =>
    if off ≤ i.val ∧ i.val < off + data.length then data.getD (i.val - off) 0 else s.host.mbReq[i]
  let s := { s with host := { s.host with mbReq := req } }
  if off < 64 ∧ 60 < off + data.length then
    let m := s.mgmt
    let (x, ok) := m.mailbox.push m.stamp req.toList
    { s with mgmt := { m with
      mailbox := x
      stamp := m.stamp + 1
      mbTaken := if ok then satAdd m.mbTaken 1 else m.mbTaken
      mbDropped := if ok then m.mbDropped else satAdd m.mbDropped 1 } }
  else s

/-- MAILBOX_REQUEST: a host write that touches the last word of the request half. -/
def execMailboxRequest (off : Nat) (data : List Byte) (s : State) : Host.Outcome State Fault Refusal :=
  if !(decide (off < 64) && decide (60 < off + data.length) && decide (off + data.length ≤ 64)) then .fault .illFormed
  else s.barWrite fun s => s.mailboxWrite off data

end Sys2Proof.Machine
end

