-- ==== Sys2Proof/Machine/SecurityOps.lean ====
section
/-!
DEFINITION. The security engine: image uploads, attestation, life-cycle transitions and hall passes (14 R395-R408).
-/

namespace Sys2Proof.Machine

/-! ### Images (14 R395-R397) -/

/-- The module's key verifies `sig` over `msg` (14 R395). -/
def brirelSigns (msg sig : List Byte) : Bool := Config.xmssVerify Config.brirelKey msg sig

/-- The result code of 6040h/03h for an image of type `ty` that is checked, 0 when it verifies. The spec gives no order of the reasons: the
type, the layout with the size of a flash area, the security version, then the signature (log 37). -/
def imageCode (ty : Byte) (v : List Byte) : Byte :=
  let len := leNat ((v.drop 12).take 4)
  let zero (a n : Nat) : Bool := ((v.drop a).take n).all fun x => x == 0
  if v.head? ≠ some ty then 6
  else if v.length ≠ 2884 + len ∨ 1048576 < v.length ∨ len % 8 ≠ 0 ∨ !(zero 1 3 && zero 16 48) then 3
  else if leNat ((v.drop 8).take 4) < Config.minSvn.toNat then 4
  else if brirelSigns (v.take (64 + len)) (v.drop (64 + len)) then 0
  else 3

/-- The stored image of an upload. -/
def Image.ofBytes (v : List Byte) : Image :=
  { type := v.headD 0
    version := BitVec.ofNat 32 (leNat ((v.drop 4).take 4))
    svn := BitVec.ofNat 32 (leNat ((v.drop 8).take 4))
    bytes := v
    verified := true }

/-- Programming an area: the new image, or, when the device fails, what the failure leaves of the area: the old image, or none that verifies
(free, log 13). -/
def State.program (s : State) (old : Image) (v : List Byte) (ok : Bool) : Image × Byte × State :=
  if ok then (Image.ofBytes v, 2, s)
  else
    let (n, s) := s.draw
    (if Config.freeBit n then old else { old with verified := false }, 5, s.countHealth 3)

/-- A management firmware image goes to the device that does not hold the running firmware. -/
def State.uploadFirmware (s : State) (v : List Byte) (ok : Bool) : State :=
  let c := imageCode 1 v
  if s.sec.life = .void then s
  else if c ≠ 0 then { s with sec := { s.sec with upload := c } }
  else
    let (im, code, s) := s.program (if s.sec.fwInB then s.flash.fwA else s.flash.fwB) v ok
    { s with
      flash := if s.sec.fwInB then { s.flash with fwA := im } else { s.flash with fwB := im }
      sec := { s.sec with upload := code } }

/-- FIRMWARE_IMAGE_UPLOAD: a value of 6040h/01h takes effect (14 R397). -/
def execFirmwareImageUpload (v : List Byte) (ok : Bool) (s : State) : Host.Outcome State Fault Refusal :=
  if s.power.phase = .off then .next s else .next (s.uploadFirmware v ok)

/-- A control-core boot image goes to the bank that 1010h/06h does not name. -/
def State.uploadBoot (s : State) (v : List Byte) (ok : Bool) : State :=
  let c := imageCode 2 v
  if s.sec.life = .void then s
  else if c ≠ 0 then { s with sec := { s.sec with upload := c } }
  else
    let inB := s.power.bank = 1
    let (im, code, s) := s.program (if inB then s.flash.bootA else s.flash.bootB) v ok
    { s with
      flash := if inB then { s.flash with bootA := im } else { s.flash with bootB := im }
      sec := { s.sec with upload := code } }

/-- BOOT_IMAGE_UPLOAD: a value of 6040h/02h takes effect (14 R397). -/
def execBootImageUpload (v : List Byte) (ok : Bool) (s : State) : Host.Outcome State Fault Refusal :=
  if s.power.phase = .off then .next s else .next (s.uploadBoot v ok)

/-! ### Attestation (14 R399-R403) -/

/-- The identity digest (6010h/02h). -/
def identDigest : List Byte := digest (Config.shake256 Config.identityKey)

/-- Bytes 0 to 391 of a report (14 R403). -/
def State.reportBody (s : State) (c : Fin 4) (nonce : List Byte) : List Byte :=
  let field := s.repair.field.take 512
  [1, BitVec.ofNat 8 s.sec.life.code, BitVec.ofNat 8 c.val, 0]
    ++ leBytes 4 s.flash.releases.toNat
    ++ leBytes 8 s.mgmt.frames.toNat
    ++ leBytes 8 s.tt.bellNum.toNat
    ++ fitBytes 32 nonce
    ++ identDigest
    ++ s.sec.meas.toList.flatMap digest
    ++ digest (Config.shake256 (s.fuses.factory.flatMap recordBytes ++ field.flatMap recordBytes))
    ++ leBytes 2 s.fuses.factory.length
    ++ leBytes 2 field.length
    ++ List.replicate 12 0

/-- A command of a channel ends as refused, with its reason. -/
def State.refuseAttest (s : State) (c : Fin 4) (reason : Byte) : State :=
  { s with
    sec := { s.sec with channels := s.sec.channels.set c { s.sec.channels[c] with reason := reason } }
    mgmt := { s.mgmt with cmds := { s.mgmt.cmds with attest := s.mgmt.cmds.attest.set c .refused } } }

/-- The next block of indices is reserved in both devices before its first one is used; a failed write may have reached one device (14 R399;
free, log 13). -/
def State.reserve (s : State) (ok : Bool) : State × Bool :=
  if s.sec.index < min s.flash.rtA s.flash.rtB then (s, true)
  else
    let n := min (s.sec.index + 256) 1048576
    if ok then ({ s with flash := { s.flash with rtA := n, rtB := n }, sec := { s.sec with flashFault := false } }, true)
    else
      let (d, s) := s.draw
      ({ s with
        flash := { s.flash with rtA := if Config.freeBit d then n else s.flash.rtA }
        sec := { s.sec with flashFault := true } }.countHealth 3, false)

/-- A report for a nonce. -/
def State.attest (s : State) (c : Fin 4) (nonce : List Byte) (ok : Bool) : State :=
  if !s.fuses.identity then s.refuseAttest c 3
  else if 1048576 ≤ s.sec.index then s.refuseAttest c 1
  else
    match s.reserve ok with
    | (s, false) => s.refuseAttest c 2
    | (s, true) =>
      let body := s.reportBody c nonce
      let sig := Config.xmssSign s.sec.index body
      { s with
        sec := { s.sec with index := s.sec.index + 1, channels := s.sec.channels.set c ⟨body ++ fitBytes 2820 sig, 0⟩ }
        mgmt := { s.mgmt with cmds := { s.mgmt.cmds with attest := s.mgmt.cmds.attest.set c .done } } }

/-- ATTESTATION_REQUEST: the report that a nonce written to channel `c` starts (14 R403). -/
def execAttestationRequest (c : Fin 4) (nonce : List Byte) (ok : Bool) (s : State) : Host.Outcome State Fault Refusal :=
  if s.power.phase = .off ∨ s.power.phase = .recovery ∨ nonce.length ≠ 32 then .next s else .next (s.attest c nonce ok)

/-! ### Life cycle (14 R405) -/

/-- The transition fuses are blown; the state in effect changes at the next start-up that passes step 2. -/
def State.blow (s : State) (n : Nat) : State :=
  match s.transition n with
  | some l => { s with fuses := { s.fuses with life := l } }.setCmd (0x6000, 2) .done
  | none => s.setCmd (0x6000, 2) .refused

/-- LIFE_CYCLE_TRANSITION: a write of 6000h/02h takes effect. -/
def execLifeCycleTransition (code : Byte) (s : State) : Host.Outcome State Fault Refusal :=
  if s.power.phase = .off ∨ s.power.phase = .recovery then .next s else .next (s.blow code.toNat)

/-! ### Hall passes (14 R406-R408) -/

/-- A pass that was written waits for its decision. -/
def State.submitPass (s : State) (v : List Byte) : State :=
  if s.sec.life = .deployed then { s with sec := { s.sec with pass := some v } } else s

/-- HALL_PASS_SUBMIT: a write of 8000h/01h takes effect; in a state other than DEPLOYED it is refused. -/
def execHallPassSubmit (v : List Byte) (s : State) : Host.Outcome State Fault Refusal :=
  if s.power.phase = .off ∨ s.power.phase = .recovery then .next s else .next (s.submitPass v)

/-- Bytes `a` to `a + n - 1` of a pass as a number. -/
def passField (v : List Byte) (a n : Nat) : Nat := leNat ((v.drop a).take n)

/-- The life-cycle ceiling of a level (14 R404). -/
def Life.ceiling : Life → Nat
  | .void => 0
  | _ => 2

/-- The result code of 8000h/02h: the first check that fails, else 1 (14 R408). -/
def State.passCode (s : State) (v : List Byte) : Byte :=
  let level := passField v 1 1
  let signer := passField v 2 1
  let key := if signer = 0 then Config.brirelKey else s.mgmt.rwp.ownerKey
  if v.length ≠ 2884 ∨ passField v 0 1 ≠ 1 ∨ !(level == 1 || level == 2) ∨ 1 < signer ∨ passField v 3 1 ≠ 0 ∨ passField v 14 2 ≠ 0
      ∨ passField v 56 8 ≠ 0 then 2
  else if passField v 4 4 ≠ s.flash.releases.toNat then 3
  else if (v.drop 24).take 32 ≠ identDigest then 4
  else if passField v 8 8 ≤ s.tt.bellNum.toNat then 5
  else if s.sec.life.ceiling < level then 6
  else if signer = 1 ∧ key = [] then 7
  else if Config.xmssVerify key (v.take 64) (v.drop 64) then 1
  else 8

/-- HALL_PASS_DECISION: the pass that waits is checked; an accepted one takes effect at the next frame boundary. -/
def execHallPassDecision (s : State) : Host.Outcome State Fault Refusal :=
  match s.sec.pass with
  | none => .next s
  | some v =>
    let c := s.passCode v
    .next { s with sec := { s.sec with
      pass := none
      lastPass := c
      accepted := if c = 1 then some v else s.sec.accepted } }

/-- The accepted pass takes effect: M7 is extended, and each Stream of STREAMS holds LEVEL until B<EXPIRY>, which ends it at once when that bell has
rung since the decision. -/
def State.applyPass (s : State) : State :=
  match s.sec.accepted with
  | none => s
  | some v =>
    let g : Grant := ⟨BitVec.ofNat 2 (passField v 1 1), BitVec.ofNat 48 (passField v 8 8), BitVec.ofNat 1 (passField v 2 1)⟩
    let streams := passField v 16 8
    let held := if g.expiry.toNat ≤ s.tt.bellNum.toNat then none else some g
    { s with sec := { s.sec with
      accepted := none
      meas := s.sec.meas.set 7 (Config.shake256 (digest s.sec.meas[7] ++ v))
      grants := Vector.ofFn fun (i : Fin 64) => if streams.testBit i.val then held else s.sec.grants[i] } }

/-- Every pass ends. -/
def State.endPasses (s : State) : State :=
  { s with sec := { s.sec with grants := Vector.replicate 64 none } }.setCmd (0x8000, 3) .done

/-- END_ALL_PASSES: command 8000h/03h (14 R408). -/
def execEndAllPasses (s : State) : Host.Outcome State Fault Refusal :=
  if s.power.phase = .off ∨ s.power.phase = .recovery then .next s else .next s.endPasses

end Sys2Proof.Machine
end

