-- ==== Sys2Proof/Machine/Commands.lean ====
section
/-!
DEFINITION. The commands of CMD objects, stored images, the journal and BIST runs (06 R178; 09 R282; 10 R296; 12 R348, R359-R361, R367; 13
R380-R384, R390).
-/

namespace Sys2Proof.Machine

/-- The management controller serves commands: AUX is in range and its firmware runs (13 R368, R369). -/
def State.controllerOn (s : State) : Bool := s.power.phase != .off && s.power.phase != .recovery

/-! ### Power commands (13 R370, R390) -/

/-- The command starts: new bookings are declined until the next bell, at which it goes on. -/
def State.askWarm (s : State) : State :=
  if s.power.phase = .run then
    { s with power := { s.power with warmPending := true, bellRung := false, waited := 0 } }.setCmd (0x1010, 1) .pending
  else s.setCmd (0x1010, 1) .refused

/-- MODULE_WARM_RESET: command 1 of 1010h/01h. -/
def execModuleWarmReset (s : State) : Host.Outcome State Fault Refusal := if s.controllerOn then .next s.askWarm else .next s

def State.askStandby (s : State) : State :=
  if s.power.phase = .run then
    { s with power := { s.power with standbyPending := true, bellRung := false, waited := 0 } }.setCmd (0x1010, 1) .pending
  else s.setCmd (0x1010, 1) .refused

/-- ENTER_MODULE_STANDBY: command 2 of 1010h/01h. -/
def execEnterModuleStandby (s : State) : Host.Outcome State Fault Refusal := if s.controllerOn then .next s.askStandby else .next s

/-- The wait of 20,000 frames after a thermal trip is over (13 R370). -/
def State.tripWaited (s : State) : Bool := match s.power.sinceTrip with | some f => decide (20000 ≤ f) | none => true

/-- The main rails are enabled, or wait for the 48 V input; THERMTRIP_N is released (13 R370; 15 R429). In VOID, and within 20,000 frames of a
thermal trip, the command is refused (14 R405). -/
def State.askLeave (s : State) : State :=
  if s.power.phase = .standby ∧ s.tripWaited ∧ s.sec.life ≠ .void then
    let p := { s.power with thermtripN := true }
    if s.power.main48 then { s with power := { p with phase := .enabling, cause := 2 } }.setCmd (0x1010, 1) .done
    else { s with power := { p with leaveAsked := true } }.setCmd (0x1010, 1) .pending
  else s.setCmd (0x1010, 1) .refused

/-- LEAVE_MODULE_STANDBY: command 3 of 1010h/01h. -/
def execLeaveModuleStandby (s : State) : Host.Outcome State Fault Refusal := if s.controllerOn then .next s.askLeave else .next s

/-! ### The admission hold (06 R178) -/

def State.setHeld (s : State) (v : Bool) : State :=
  (if s.power.phase = .run then { s with tt := { s.tt with held := v } } else s).setCmd (0x2002, 1) .done

/-- TIMETABLE_HOLD: command 1 of 2002h/01h. -/
def execTimetableHold (s : State) : Host.Outcome State Fault Refusal := .next (s.setHeld true)

/-- TIMETABLE_RESUME: command 2 of 2002h/01h. -/
def execTimetableResume (s : State) : Host.Outcome State Fault Refusal := .next (s.setHeld false)

/-! ### Retirement and the repair map (10 R296; 12 R367) -/

/-- Command 3036h/01h starts: a unit that is retired by now refuses it, and another is decided with this boundary's trends, as if its own had
crossed (01 R17; 10 R293, R296; 12 R340). -/
def State.queueRetire (s : State) (v : Word32) : State :=
  match retireTarget v with
  | none => s.setCmd (0x3036, 1) .refused
  | some u =>
    if s.power.phase ≠ .run ∨ s.unitRetired u then s.setCmd (0x3036, 1) .refused
    else { s with repair := { s.repair with failed := s.repair.failed ++ [(u, 2, false)] } }.setCmd (0x3036, 1) .done

/-- RETIRE_UNIT: command 3036h/01h. -/
def execRetireUnit (v : Word32) (s : State) : Host.Outcome State Fault Refusal := if s.controllerOn then .next (s.queueRetire v) else .next s

/-- Field records leave the flash devices; the maps in effect do not change, and those of a warm reset keep them (12 R367). -/
def State.dropRecords (s : State) (gone : RepairRec → Bool) : State :=
  { s with
    repair := { s.repair with
      field := s.repair.field.filter fun r => !gone r
      toSave := s.repair.toSave.filter fun r => !gone r }
    flash := { s.flash with
      field := s.flash.field.filter fun r => !gone r
      kept := s.flash.kept ++ ((s.flash.fieldA ++ s.flash.fieldB).filter fun e => gone e.2 && s.flash.field.contains e.2).eraseDups
      fieldA := s.flash.fieldA.filter fun e => !gone e.2
      fieldB := s.flash.fieldB.filter fun e => !gone e.2 } }

def State.deleteRecord (s : State) (k : Nat) : State :=
  match s.repair.field[k]? with
  | some r => if s.sec.life.open_ then (s.dropRecords (· == r)).setCmd (0x3050, 5) .done else s.setCmd (0x3050, 5) .refused
  | none => s.setCmd (0x3050, 5) .refused

/-- DELETE_FIELD_RECORD: command 3050h/05h with k. -/
def execDeleteFieldRecord (k : Nat) (s : State) : Host.Outcome State Fault Refusal :=
  if s.power.phase = .run then .next (s.deleteRecord k) else .next s

/-- Every field record goes, those of field trips that are not complete too. -/
def State.deleteAll (s : State) : State :=
  if s.sec.life.open_ then (s.dropRecords fun _ => true).setCmd (0x3050, 5) .done else s.setCmd (0x3050, 5) .refused

/-- DELETE_ALL_FIELD_RECORDS: command 3050h/05h with FFFFh. -/
def execDeleteAllFieldRecords (s : State) : Host.Outcome State Fault Refusal :=
  if s.power.phase = .run then .next s.deleteAll else .next s

/-! ### RWP objects and the journal (12 R359-R361) -/

/-- An RWP object's write takes effect: it is to be journalled, and sets the value; one that module standby accepts takes effect at the next
release (12 R358, R359). -/
def State.putRwp (s : State) (k : ObjKey) (v : List Byte) (p : Word32) : State :=
  let m := s.mgmt
  { s with mgmt := { m with
    toPersist := m.toPersist ++ [⟨k, v, p⟩]
    rwp := if s.inStandby then m.rwp else m.rwp.put k v } }

/-- The defaults of the RWP objects, in the order of the map. -/
def defaultsOf (s : State) : List (ObjKey × List Byte) :=
  let d := { s with mgmt := { s.mgmt with rwp := Rwp.defaults } }
  (listedObjects.filter fun o => o.acc == .rwp).map fun o => (o.key, o.val d)

/-- Every RWP object takes its default, in module standby at the next release, and is journalled with a persist number of its own (12 R358,
R361). -/
def State.restoreDefaults (s : State) : State :=
  let s := (defaultsOf s).foldl (fun (s : State) e =>
    let p := s.mgmt.persistLast + 1
    { s with mgmt := { s.mgmt with persistLast := p, toPersist := s.mgmt.toPersist ++ [⟨e.1, e.2, p⟩] } }) s
  { s with mgmt := { s.mgmt with rwp := if s.inStandby then s.mgmt.rwp else Rwp.defaults } }

/-- RESTORE_DEFAULTS: command 9000h/05h. -/
def execRestoreDefaults (s : State) : Host.Outcome State Fault Refusal :=
  if s.controllerOn then .next (s.restoreDefaults.setCmd (0x9000, 5) .done) else .next s

/-- DECODE_IMAGE_WRITE: a write of (9100h + i)/01h takes effect; a length that R282 does not allow, and any write in VOID, is refused. -/
def execDecodeImageWrite (i : Fin 64) (image : List Byte) (s : State) : Host.Outcome State Fault Refusal :=
  let n := image.length
  let ok := n = 0 ∨ (16 ≤ n ∧ n ≤ 264 ∧ n % 8 = 0)
  if !s.controllerOn ∨ ¬ok ∨ s.sec.life = .void then .next s
  else
    let p := s.mgmt.persistLast + 1
    .next ({ s with mgmt := { s.mgmt with persistLast := p } }.putRwp (0x9100 + i.val, 1) image p)

/-- A journal takes a record once. -/
def addRecord (l : List JournalRec) (r : JournalRec) : List JournalRec := if l.contains r then l else l ++ [r]

/-- 9000h/02h while `waiting` is not safe: every number assigned up to it is (12 R359, R361). -/
def State.safeUpTo (s : State) (waiting : List JournalRec) : Word32 :=
  let ps := waiting.map JournalRec.persist ++ s.mgmt.accepted.filterMap AcceptedWrite.persist
  ps.foldl (fun m p => if p.toNat ≤ m.toNat then p - 1 else m) s.mgmt.persistLast

/-- JOURNAL_PERSIST: the oldest record that is not safe is programmed to device A, then to device B; it is safe when both hold it. -/
def execJournalPersist (okA okB : Bool) (s : State) : Host.Outcome State Fault Refusal :=
  let m := s.mgmt
  match m.toPersist with
  | [] => .next s
  | r :: rs =>
    if !s.controllerOn then .next s
    else
      let s := { s with
        flash := { s.flash with
          journalA := if okA then addRecord s.flash.journalA r else s.flash.journalA
          journalB := if okB then addRecord s.flash.journalB r else s.flash.journalB }
        mgmt := { m with
          failA := !okA
          failB := !okB
          toPersist := if okA && okB then rs else r :: rs
          persistSafe := if okA && okB then s.safeUpTo rs else m.persistSafe } }
      let s := if okA then s else s.countHealth 3
      .next (if okB then s else s.countHealth 3)

/-- A journal with only the latest record of each object. -/
def compact (l : List JournalRec) : List JournalRec :=
  l.filter fun r => !l.any fun q => q.key == r.key && decide (r.persist.toNat < q.persist.toNat)

/-- JOURNAL_COMPACTION: device A is compacted and 9000h/03h reads 1, and then device B, after which it does not; a failure ends it (12
R360, R361). -/
def execJournalCompaction (ok : Bool) (s : State) : Host.Outcome State Fault Refusal :=
  let m := s.mgmt
  if !s.controllerOn then .next s
  else if !m.compacting then
    if ok then .next { s with flash := { s.flash with journalA := compact s.flash.journalA }, mgmt := { m with compacting := true } }
    else .next ({ s with mgmt := { m with failA := true } }.countHealth 3)
  else if ok then .next { s with flash := { s.flash with journalB := compact s.flash.journalB }, mgmt := { m with compacting := false } }
  else .next ({ s with mgmt := { m with failB := true, compacting := false } }.countHealth 3)

/-- The RWP objects as the records give them: for each, the record with the highest persist number, else the default (12 R360). -/
def loadRwp (rs : List JournalRec) : Rwp :=
  rs.foldl (fun (w : Rwp) r =>
    if rs.any fun q => q.key == r.key && decide (r.persist.toNat < q.persist.toNat) then w else w.put r.key r.val) Rwp.defaults

/-! ### BIST runs (13 R380-R384) -/

/-- BLOCKS, PLANNED and LIMIT of a program image. -/
def programBlocks (v : List Byte) : Nat := leNat (v.take 8) % 1024
def programPlanned (v : List Byte) : Nat := leNat ((v.drop 8).take 4)
def programGolden (v : List Byte) : List Byte := (v.drop 24).take 32

/-- The signature of a run of `n` patterns (13 R381). -/
def bistSignature (v : List Byte) (n : Nat) : List Byte :=
  let blocks := programBlocks v
  let states := (List.range 10).flatMap fun b =>
    if blocks.testBit b then digest (Config.bistCompactor v b n) else List.replicate 32 0
  let done : Byte := if n = programPlanned v then 1 else 0
  digest (Config.shake256 (states ++ leBytes 8 n ++ [done] ++ List.replicate 7 0))

/-- The report of a run that ended after `n` patterns and `us` µs; `kind` as 7001h/07h. A signature-mode report gives its result and nothing more: its N,
PLANNED, coverage and duration read 0 (13 R382; log 150). -/
def Bist.report (b : Bist) (v : List Byte) (mode : Byte) (kind : Byte) (n us : Nat) : Bist :=
  let planned := programPlanned v
  let sig := bistSignature v n
  let cover (x : Nat) : BitVec 32 := if mode = 1 then BitVec.ofNat 32 x else 0
  { b with
    running := false
    lastResult := if mode = 1 then (if n = planned then 3 else 4) else if n = planned ∧ sig = programGolden v then 1 else 2
    lastSig := sig
    lastN := cover n
    lastPlanned := cover planned
    lastPpm := cover (n * 1000000 / planned)
    lastUs := cover us
    lastKind := kind }

/-- Registers of a control core that a coverage run has destroyed: free from number `n` on (log 13). -/
def Regs.destroyed (n : Nat) : Regs :=
  let w (j : Nat) : Word64 := Config.freeWord (n + 48 + j)
  { a := Vector.ofFn fun (i : Fin 16) => Config.freeWord (n + i.val)
    d := Vector.ofFn fun (i : Fin 32) => Config.freeWord (n + 16 + i.val)
    q := Vector.ofFn fun (i : Fin 4) => accOfImage ((List.range 536).map fun j => Config.freeByte (n + 536 * i.val + j))
    pc := w 0
    cc := CC.ofWord (w 1)
    vl := (w 2).truncate 32
    vx := (w 3).truncate 32
    lc := (w 4).truncate 32
    ls := w 5
    le := w 6
    tsbp := w 7
    edb := w 8
    fpcsr := (w 9).truncate 32
    qd := (w 10).truncate 4
    iml := (w 11).truncate 4
    ctsb := w 12
    qg := (w 13).truncate 4 }

/-- The control core of a slot after a coverage run: its registers, its line buffer and its branch-target buffer are destroyed. -/
def Slot.destroyed (x : Slot) (n : Nat) : Slot :=
  { x with lines := [], ahead := [], line := none, prefetch := [], btb := Vector.replicate 64 none, regs := Regs.destroyed n }

/-- The copies of the live table after a coverage run: every word of a program is free (13 R384; log 13, log 151). -/
def LiveTable.destroyed (t : LiveTable) (n : Nat) : LiveTable :=
  { t with slots := Vector.ofFn fun (i : Fin 64) =>
      (List.range t.slots[i].length).map fun j => Config.freeWord (n + 33 * i.val + j) }

/-- The work area after a coverage run: every byte of the roll-call history is free, and the progress log names no field trip (13 R384; log 13, log
151). -/
def WorkArea.destroyed (w : WorkArea) (n : Nat) : WorkArea :=
  { w with
    history := w.history.mapIdx fun i b => (List.range b.length).map fun j => Config.freeByte (n + 256 * i + j)
    log := []
    in29 := false }

/-- The contents that a coverage run destroys, where it selects their block: registers and buffers of the control cores, desks, the copies of the decode
table, GDDR7 arrays with the work area that lies in them, and the trace buffer and the submission-queue memory of the IOT. What they hold after it is
free (13 R384; log 13, log 151). -/
def State.destroy (s : State) (blocks : Nat) : State :=
  let (n, s) := s.draw
  let junk : Mem := ⟨2 * (n + 1), []⟩
  let s := if blocks.testBit 8 then { s with
      free := s.free + 65536
      mem := { s.mem with mem := junk, writeBacks := [] }
      work := s.work.destroyed s.free } else s
  let s := if blocks.testBit 4 then { s with
      free := s.free + 68 * 2144
      slots := Vector.ofFn fun (k : Fin 68) => s.slots[k].destroyed (s.free + 2144 * k.val) } else s
  let s := if blocks.testBit 6 then { s with free := s.free + 33 * 64, table := s.table.destroyed s.free } else s
  let s := if blocks.testBit 9 then { s with
      dbg := { s.dbg with rings := s.dbg.rings.map fun r => { r with mem := junk } }
      host := { s.host with sqMem := junk } } else s
  if blocks.testBit 5 then { s with slots := s.slots.map fun x => { x with desk := { x.desk with mem := junk } } } else s

/-- The coverage run starts, in BLANK or RETURNED, while admission is held and no booking is admitted. -/
def State.startCoverage (s : State) : State :=
  let v := s.mgmt.rwp.bistProgram
  if s.power.phase = .run ∧ s.sec.life.open_ ∧ s.holdState = 2 ∧ bistImageOk v ∧ !s.bist.running then
    ({ s with bist := { s.bist with running := true } }.destroy (programBlocks v)).setCmd (0x7000, 2) .pending
  else s.setCmd (0x7000, 2) .refused

/-- COVERAGE_RUN_START: command 1 of 7000h/02h (13 R384). -/
def execCoverageRunStart (s : State) : Host.Outcome State Fault Refusal := if s.controllerOn then .next s.startCoverage else .next s

/-- The run ends after `n` patterns. -/
def State.endCoverage (s : State) (n us : Nat) : State :=
  if s.bist.running then
    let v := s.mgmt.rwp.bistProgram
    { s with bist := s.bist.report v s.mgmt.rwp.bistMode 3 n us }.setCmd (0x7000, 2) .done
  else s.setCmd (0x7000, 2) .refused

/-- COVERAGE_RUN_END: the plan has completed, or LIMIT has been reached after `patterns` patterns (13 R382, R383). -/
def execCoverageRunEnd (patterns us : Nat) (s : State) : Host.Outcome State Fault Refusal :=
  if s.bist.running then .next (s.endCoverage (min patterns (programPlanned s.mgmt.rwp.bistProgram)) us) else .next s

/-- BIST_ABORT: command 2 of 7000h/02h cuts the run short (13 R383). -/
def execBistAbort (patterns us : Nat) (s : State) : Host.Outcome State Fault Refusal :=
  if s.controllerOn then .next (s.endCoverage (min patterns (programPlanned s.mgmt.rwp.bistProgram - 1)) us) else .next s

/-! ### The power stage (12 R365) -/

/-- POWER_STAGE_RAIL_WARNING: 4220h/07h counts it. -/
def execPowerStageRailWarning (s : State) : Host.Outcome State Fault Refusal :=
  if s.power.phase = .off then .next s else .next (s.countHealth 6)

end Sys2Proof.Machine
end

