-- ==== Sys2Proof/Machine/Control.lean ====
section
/-!
DEFINITION. Branches, jumps and hardware loops, classes 6h and 7h (07 R223-R226, R237-R240, R251, R252).
-/

namespace Sys2Proof.Machine

/-- A branch or jump reads PC beside its operands (07 R223, R255); it may not stand in a delay slot nor end at LE, and a breakpoint on its delay slot is its own (07 R224, R239;
14 R411). -/
def branchInfo (reads writes : List Reg) (fieldsOk : Bool) : Info where
  slotOk := false
  endOk := false
  fieldsOk := fieldsOk
  reads := .special 0 :: reads
  writes := writes
  span := 8
  isBranch := true

/-- A PC-relative branch: taken to PC + 4 × displacement when `take` holds. -/
def State.branchTo (s : State) (i : StreamId) (info : Info) (take : Regs → Bool) (disp : Word64) : Host.Outcome State Fault Refusal :=
  s.instruction i info fun s k =>
    let r := s.regs k
    .branch s (if take r then some (r.pc + disp) else none)

/-- A register-relative jump to AA + 4 × IMM14: a target that is no multiple of 4 raises Alignment before anything is written (07 R226);
`link` writes AD. -/
def State.jumpReg (s : State) (i : StreamId) (f : AFmt) (info : Info) (link : Bool) : Host.Outcome State Fault Refusal :=
  s.instruction i info fun s k =>
    let r := s.regs k
    let t := r.getA f.aa + swords f.imm
    if t.toNat % 4 ≠ 0 then .trap 4 5 t 0
    else .branch (if link then s.setRegs k (r.setA f.ad (r.pc + 8)) else s) (some t)

/-- A LOOP with its count: LS, LE and LC are set, and a count of 0 continues at LE (07 R237). -/
def State.loop (s : State) (i : StreamId) (info : Info) (endw : BitVec 10) (count : Regs → Word32) : Host.Outcome State Fault Refusal :=
  s.instruction i info fun s k =>
    let r := s.regs k
    let ls := r.pc + 4
    let le := ls + (endw.zeroExtend 64 <<< 2)
    let n := count r
    let s := s.setRegs k { r with lc := n, ls := ls, le := le }
    if n = 0 then .goto s le else .next s

/-- LOOPI and LOOPR may not stand in a delay slot nor end at LE, and END10 = 0 is reserved. -/
def loopInfo (reads : List Reg) (fieldsOk : Bool) : Info where
  slotOk := false
  endOk := false
  fieldsOk := fieldsOk
  reads := .special 0 :: reads
  writes := [.special 4, .special 5, .special 6]

/-- BCC (07 R223, R251): condition code 1111b is reserved. -/
def execBcc (i : StreamId) (f : BFmt) (s : State) : Host.Outcome State Fault Refusal :=
  s.branchTo i (branchInfo [.special 1] [] (f.cond != 15)) (fun r => condHolds f.cond r.cc) (swords f.disp)

/-- BZ. -/
def execBz (i : StreamId) (f : BZFmt) (s : State) : Host.Outcome State Fault Refusal :=
  s.branchTo i (branchInfo [.d f.rd] [] true) (fun r => r.getD f.rd == 0) (swords f.disp)

/-- BNZ. -/
def execBnz (i : StreamId) (f : BZFmt) (s : State) : Host.Outcome State Fault Refusal :=
  s.branchTo i (branchInfo [.d f.rd] [] true) (fun r => r.getD f.rd != 0) (swords f.disp)

/-- JMP. -/
def execJmp (i : StreamId) (f : JFmt) (s : State) : Host.Outcome State Fault Refusal :=
  s.branchTo i (branchInfo [] [] true) (fun _ => true) (swords f.disp)

/-- JAL: the link value, its address + 8, to AD. -/
def execJal (i : StreamId) (f : BFmt) (s : State) : Host.Outcome State Fault Refusal :=
  s.instruction i (branchInfo [] [.a f.cond] true) fun s k =>
    let r := s.regs k
    .branch (s.setRegs k (r.setA f.cond (r.pc + 8))) (some (r.pc + swords f.disp))

/-- JR: AD must be 0. -/
def execJr (i : StreamId) (f : AFmt) (s : State) : Host.Outcome State Fault Refusal :=
  s.jumpReg i f (branchInfo [.a f.aa] [] (f.ad == 0)) false

/-- JALR. -/
def execJalr (i : StreamId) (f : AFmt) (s : State) : Host.Outcome State Fault Refusal :=
  s.jumpReg i f (branchInfo [.a f.aa] [.a f.ad] true) true

/-- LOOPI. -/
def execLoopi (i : StreamId) (f : LoopIFmt) (s : State) : Host.Outcome State Fault Refusal :=
  s.loop i (loopInfo [] (f.endw != 0)) f.endw fun _ => f.count.zeroExtend 32

/-- LOOPR: the count is bits [31:0] of D[RD]. -/
def execLoopr (i : StreamId) (f : LoopRFmt) (s : State) : Host.Outcome State Fault Refusal :=
  s.loop i (loopInfo [.d f.rd] (f.endw != 0 && f.rsv == 0)) f.endw fun r => (r.getD f.rd).truncate 32

end Sys2Proof.Machine
end

