-- ==== Sys2Proof/Machine/Memory.lean ====
section
/-!
DEFINITION. Scalar loads and stores, classes 4h and 5h (07 R227-R234, R248; 04 R131, R132).
-/

namespace Sys2Proof

open Machine

/-! ### Decode rules, and the registers an instruction reads and writes -/

/-- A load into D[RD]. -/
def MFmt.infoLoad (f : MFmt) : Info where
  reads := [.a f.ab]
  writes := [.d f.rd]

/-- A store of D[RD]. -/
def MFmt.infoStore (f : MFmt) : Info where
  reads := [.a f.ab, .d f.rd]

/-- LDA: A[RD bits 20:17], with RD bit 21 = 0 (07 R251). -/
def MFmt.infoLoadA (f : MFmt) : Info where
  fieldsOk := decide (f.rd.toNat < 16)
  reads := [.a f.ab]
  writes := [.a (f.rd.truncate 4)]

/-- STA. -/
def MFmt.infoStoreA (f : MFmt) : Info where
  fieldsOk := decide (f.rd.toNat < 16)
  reads := [.a f.ab, .a (f.rd.truncate 4)]

/-- LDV: V[RD bits 19:17], with RD bits [21:20] = 0. -/
def MFmt.infoLoadV (f : MFmt) : Info where
  fieldsOk := decide (f.rd.toNat < 8)
  reads := [.a f.ab]
  writes := vregs (f.rd.truncate 3)

/-- STV. -/
def MFmt.infoStoreV (f : MFmt) : Info where
  fieldsOk := decide (f.rd.toNat < 8)
  reads := .a f.ab :: vregs (f.rd.truncate 3)

/-- LDL cannot be cancelled (07 R229). -/
def MFmt.infoLdl (f : MFmt) : Info where
  cancel := false
  reads := [.a f.ab]
  writes := [.d f.rd]

/-- STC cannot be cancelled (07 R229). -/
def MFmt.infoStc (f : MFmt) : Info where
  cancel := false
  reads := [.a f.ab, .d f.rd]

/-- QLD: Q[RD bits 18:17], with RD bits [21:19] = 0. -/
def MFmt.infoQld (f : MFmt) : Info where
  fieldsOk := decide (f.rd.toNat < 4)
  reads := [.a f.ab]
  writes := [.q (f.rd.truncate 2)]
  saves := [(f.rd.truncate 2).toFin]

/-- QST: Q[RD bits 18:17], with RD bits [21:19] = 0. -/
def MFmt.infoQst (f : MFmt) : Info where
  fieldsOk := decide (f.rd.toNat < 4)
  reads := [.a f.ab, .q (f.rd.truncate 2)]

end Sys2Proof

namespace Sys2Proof.Machine

/-! ### Addresses -/

/-- AB + DISP13 (07 R251). -/
def Regs.address (r : Regs) (f : MFmt) : Word64 := r.getA f.ab + simm f.disp

/-- The exception of an access of `n` bytes at `a` with an alignment: Alignment, then Address at its lowest bad byte (07 R227, R254;
08 R261; log 32). -/
def State.accessFault (s : State) (a : Word64) (n align : Nat) (code : BitVec 12) : Option (Byte × BitVec 12 × Word64) :=
  if a.toNat % align ≠ 0 then some (4, code, a)
  else
    match s.badByte a.toNat n with
    | some b => some (5, code, BitVec.ofInt 64 b)
    | none => none

/-! ### The store buffer as loads see it (07 R231) -/

/-- What a load finds: the bytes of the youngest entry that shares a byte and covers it, a wait, or memory. -/
inductive Forward where
  | memory
  | wait
  | data (bs : List Byte)
  deriving DecidableEq, Repr

def forward (buf : List StoreEntry) (a n : Nat) : Forward :=
  match buf.reverse.find? fun e => e.meets a n with
  | none => .memory
  | some e =>
    if e.addr ≤ a && a + n ≤ e.addr + e.bytes.length then .data ((e.bytes.drop (a - e.addr)).take n) else .wait

/-- `n` bytes that the core reads at `a`: while a vector entry runs, each aligned 8-byte word is the value before or after that entry's
writes (02 R30; log 13). -/
def State.loadBytes (s : State) (k : SlotId) (a n : Nat) : List Byte × Option (BitVec 12) × State :=
  let g := (s.slot k).eng
  let (bs, bad, s1) := s.streamRead k a n
  let s1 := s1.meterCore k a n
  match g.queue with
  | [] => (bs, bad, s1)
  | e :: _ =>
    if g.stopped then (bs, bad, s1)
    else
      let full := s.runEntry k e none
      let (m, s2) := s1.draw
      ((upFrom a n).map fun b => ((if Config.freeChoice m (b / 8) then full else s).peek k b 1).headD 0, bad, s2)

/-! ### Loads -/

/-- The load goes out with its values: they are written when its data has returned and its shadow has run (07 R228; log 8). -/
def Slot.issueLoad (x : Slot) (a : Word64) (vals : List (Dest × Word64)) (bad : Option (BitVec 12)) (resv : Bool) : Slot :=
  { x with
    loads := x.loads ++ [{
      vals := vals
      addr := a
      bad := bad.map fun c => (c, a)
      local_ := !(deskBase ≤ a.toNat : Bool)
      ret := x.here.1
      ds := x.here.2
      returned := false
      shadowed := false
      undo := none
      marks := []
      lc := x.regs.lc }]
    resv := if resv then some (a.toNat / 64) else x.resv }

/-- A load of `n` bytes (07 R227-R231, R234). -/
def State.load (s : State) (i : StreamId) (f : MFmt) (info : Info) (n align : Nat) (resv : Bool)
    (vals : List Byte → List (Dest × Word64)) : Host.Outcome State Fault Refusal :=
  s.instruction i info fun s k =>
    let a := (s.regs k).address f
    match s.accessFault a n align 2 with
    | some (v, c, fa) => .trap v c fa 0
    | none =>
      match forward (s.slot k).sbuf a.toNat n with
      | .wait => .wait
      | .data bs => .next ((s.modSlot k fun x => x.issueLoad a (vals bs) none resv).watch k false a.toNat n)
      | .memory =>
        let (bs, bad, s) := s.loadBytes k a.toNat n
        .next ((s.modSlot k fun x => x.issueLoad a (vals bs) bad resv).watch k false a.toNat n)

/-- One D register loaded from `n` bytes with an extension. -/
def State.loadD (s : State) (i : StreamId) (f : MFmt) (n : Nat) (signed : Bool) : Host.Outcome State Fault Refusal :=
  s.load i f f.infoLoad n 1 false fun bs => [(.d f.rd.toFin, extend signed n (leNat bs))]

/-! ### Stores -/

/-- A store enters the buffer (07 R230). -/
def Slot.pushStore (x : Slot) (a : Nat) (bs : List Byte) : Slot :=
  { x with sbuf := x.sbuf ++ [⟨a, bs, x.loads.any fun l => !l.returned⟩] }

/-- A store of `bs` to AB + DISP13: it stalls while the buffer is full (07 R227, R230). -/
def State.store (s : State) (i : StreamId) (f : MFmt) (info : Info) (align : Nat) (bytes : Regs → List Byte) :
    Host.Outcome State Fault Refusal :=
  s.instruction i info fun s k =>
    let r := s.regs k
    let a := r.address f
    let bs := bytes r
    match s.accessFault a bs.length align 3 with
    | some (v, c, fa) => .trap v c fa 0
    | none =>
      if 8 ≤ (s.slot k).sbuf.length then .wait
      else .next ((s.modSlot k fun x => x.pushStore a.toNat bs).watch k true a.toNat bs.length)

/-- The low `n` bytes of D[RD] stored. -/
def State.storeD (s : State) (i : StreamId) (f : MFmt) (n : Nat) : Host.Outcome State Fault Refusal :=
  s.store i f f.infoStore 1 fun r => lowBytes (r.getD f.rd) n

/-! ### Class 4h -/

/-- LDB (07 R227, R252). -/
def execLdb (i : StreamId) (f : MFmt) (s : State) : Host.Outcome State Fault Refusal :=
  s.loadD i f 1 true

/-- LDBU (07 R227, R252). -/
def execLdbu (i : StreamId) (f : MFmt) (s : State) : Host.Outcome State Fault Refusal :=
  s.loadD i f 1 false

/-- LDH (07 R227, R252). -/
def execLdh (i : StreamId) (f : MFmt) (s : State) : Host.Outcome State Fault Refusal :=
  s.loadD i f 2 true

/-- LDHU (07 R227, R252). -/
def execLdhu (i : StreamId) (f : MFmt) (s : State) : Host.Outcome State Fault Refusal :=
  s.loadD i f 2 false

/-- LDW (07 R227, R252). -/
def execLdw (i : StreamId) (f : MFmt) (s : State) : Host.Outcome State Fault Refusal :=
  s.loadD i f 4 true

/-- LDWU (07 R227, R252). -/
def execLdwu (i : StreamId) (f : MFmt) (s : State) : Host.Outcome State Fault Refusal :=
  s.loadD i f 4 false

/-- LDD (07 R227, R252). -/
def execLdd (i : StreamId) (f : MFmt) (s : State) : Host.Outcome State Fault Refusal :=
  s.loadD i f 8 false

/-- STB (07 R230, R252). -/
def execStb (i : StreamId) (f : MFmt) (s : State) : Host.Outcome State Fault Refusal :=
  s.storeD i f 1

/-- STH (07 R230, R252). -/
def execSth (i : StreamId) (f : MFmt) (s : State) : Host.Outcome State Fault Refusal :=
  s.storeD i f 2

/-- STW (07 R230, R252). -/
def execStw (i : StreamId) (f : MFmt) (s : State) : Host.Outcome State Fault Refusal :=
  s.storeD i f 4

/-- STD (07 R230, R252). -/
def execStd (i : StreamId) (f : MFmt) (s : State) : Host.Outcome State Fault Refusal :=
  s.storeD i f 8

/-! ### Class 5h -/

/-- LDA (07 R251, R252). -/
def execLda (i : StreamId) (f : MFmt) (s : State) : Host.Outcome State Fault Refusal :=
  s.load i f f.infoLoadA 8 1 false fun bs => [(.a (f.rd.truncate 4).toFin, extend false 8 (leNat bs))]

/-- STA. -/
def execSta (i : StreamId) (f : MFmt) (s : State) : Host.Outcome State Fault Refusal :=
  s.store i f f.infoStoreA 1 fun r => lowBytes (r.getA (f.rd.truncate 4)) 8

/-- LDV: four D registers, 32-byte aligned (07 R212, R227). -/
def execLdv (i : StreamId) (f : MFmt) (s : State) : Host.Outcome State Fault Refusal :=
  s.load i f f.infoLoadV 32 32 false fun bs =>
    (List.finRange 4).map fun j => (.d (f.rd.truncate 5 * 4 + BitVec.ofNat 5 j.val).toFin, extend false 8 (leNat ((bs.drop (8 * j.val)).take 8)))

/-- STV: one 32-byte entry (07 R230). -/
def execStv (i : StreamId) (f : MFmt) (s : State) : Host.Outcome State Fault Refusal :=
  s.store i f f.infoStoreV 32 fun r =>
    (List.finRange 4).flatMap fun j => lowBytes (r.getD (f.rd.truncate 5 * 4 + BitVec.ofNat 5 j.val)) 8

/-- LDL: the load sets the reservation on its block (07 R234). -/
def execLdl (i : StreamId) (f : MFmt) (s : State) : Host.Outcome State Fault Refusal :=
  s.load i f f.infoLdl 8 8 true fun bs => [(.d f.rd.toFin, extend false 8 (leNat bs))]

/-- STC: waits for an empty store buffer; the reservation decides, and is cleared (07 R234). -/
def execStc (i : StreamId) (f : MFmt) (s : State) : Host.Outcome State Fault Refusal :=
  s.instruction i f.infoStc fun s k =>
    let r := s.regs k
    let a := r.address f
    match s.accessFault a 8 8 3 with
    | some (v, c, fa) => .trap v c fa 0
    | none =>
      let x := s.slot k
      if !x.sbuf.isEmpty then .wait
      else
        let held := x.resv == some (a.toNat / 64)
        let s := s.setSlot k { x with resv := none, regs := { r with cc := { r.cc with z := held } } }
        let s := if held then s.coreWrite k a.toNat (lowBytes (r.getD f.rd) 8) else s
        .next (if held then s.watch k true a.toNat 8 else s)

/-- QLD: Q[n] changes only when all 67 words are read; its state becomes 000b and it is dirty (04 R131, R132; 08 R263). -/
def execQld (i : StreamId) (f : MFmt) (s : State) : Host.Outcome State Fault Refusal :=
  s.instruction i f.infoQld fun s k =>
    let a := (s.regs k).address f
    match s.accessFault a 536 8 2 with
    | some (v, c, fa) => .trap v c fa 0
    | none =>
      if (s.slot k).sbuf.any fun e => e.meets a.toNat 536 then .wait
      else
        match (upFrom 0 67).findSome? fun j => (s.streamRead k (a.toNat + 8 * j) 8).2.1.map fun c => (j, c) with
        | some (j, c) =>
          let (_, _, s) := s.streamRead k a.toNat (8 * j + 8)
          let s := s.meterCore k a.toNat (8 * j + 8)
          .stay (s.raiseExc k ((s.slot k).excAt 6 c (a + BitVec.ofNat 64 (8 * j)) 0))
        | none =>
          let n : Fin 4 := (f.rd.truncate 2).toFin
          let (bs, _, s) := s.loadBytes k a.toNat 536
          .next ((s.setRegs k (((s.regs k).setQval n ⟨accOfImage bs, 0⟩).dirty n)).watch k false a.toNat 536)

/-- The words of `ws` enter the store buffer one by one from address `a` on, as many as it has room for; how many entered (07 R230). -/
def Slot.pushWords (x : Slot) (a : Nat) : List (List Byte) → Slot × Nat
  | [] => (x, 0)
  | w :: ws =>
    if 8 ≤ x.sbuf.length then (x, 0)
    else
      let (y, n) := (x.pushStore a w).pushWords (a + 8) ws
      (y, n + 1)

/-- The image of an accumulator as 67 words of 8 bytes (04 R132). -/
def accWords (q : Acc) : List (List Byte) := (upFrom 0 67).map fun j => ((accImage q).drop (8 * j)).take 8

/-- QST: the image of Q[n] in 67 words through the store buffer (04 R131, R132). One command enters the words that the buffer has room for
and the next goes on with the rest, so the entries commit one by one, each with its own outcome, and an interrupt may abandon the instruction
after any of them (07 R233, R248; log 16). -/
def execQst (i : StreamId) (f : MFmt) (s : State) : Host.Outcome State Fault Refusal :=
  s.instruction i f.infoQst fun s k =>
    let r := s.regs k
    let a := r.address f
    match s.accessFault a 536 8 3 with
    | some (v, c, fa) => .trap v c fa 0
    | none =>
      let x := s.slot k
      let m := x.partsDone
      let (y, n) := x.pushWords (a.toNat + 8 * m) ((accWords r.q[(f.rd.truncate 2).toFin]).drop m)
      if n = 0 then .wait
      else
        let s := (s.setSlot k { y with partsDone := m + n }).watch k true (a.toNat + 8 * m) (8 * n)
        if m + n = 67 then .next s else .stay s

end Sys2Proof.Machine
end

