-- ==== Sys2Proof/Machine/CoreEvents.lean ====
section
/-!
DEFINITION. What comes to a control core besides its instructions: load data, lines, commits, exception entry, the monitor, the watchdog
(07 R220, R229-R233, R247-R249; 08 R260-R271; 14 R409-R415).
-/

namespace Sys2Proof.Machine

/-! ### Loads, lines and stores -/

/-- The oldest load that is still out comes back uncorrectable: its shadow is cancelled, its own loop test is undone, and the exception names
it (07 R229, R240; 08 R261). -/
def State.loadFails (s : State) (k : SlotId) (l : PendingLoad) (code : BitVec 12) : State :=
  let s := s.modSlot k fun x => { x with
    regs := { (match l.undo with
      | some (b, a) => x.regs.undone b a
      | none => x.regs) with lc := l.lc }
    parity := x.parity ++ l.marks.filter fun c => !x.parity.contains c
    partsDone := 0
    sbuf := x.sbuf.filter fun e => !e.inShadow
    loads := []
    delay := none
    exc := none
    waitAt := none }
  s.enterException k ⟨6, l.ret, l.ds, l.addr, code, 0, 0⟩

/-- An error response to a load: a matrix parity error of a local one (10 R308), an uncorrectable word of a desk's (10 R292). -/
def State.noteLoadError (s : State) (k : SlotId) (l : PendingLoad) : State :=
  if l.local_ then s.coreParity k l.addr.toNat
  else s.modSlot k fun x => { x with desk := { x.desk with ue := x.desk.ue.add 1 }, weight := x.weight + 32 }

/-- A store of a load shadow that can no longer be cancelled (07 R229). -/
def StoreEntry.kept (e : StoreEntry) : StoreEntry := { e with inShadow := false }

/-- LOAD_DATA_RETURN: the oldest load that is still out. -/
def execLoadDataReturn (i : StreamId) (resp : BusResp) (s : State) : Host.Outcome State Fault Refusal :=
  match s.slotOf i with
  | none => .next s
  | some k =>
    let x := s.slot k
    match x.loads.find? fun l => !l.returned with
    | none => .next s
    | some l =>
      match l.bad, resp with
      | some (c, _), _ => .next (s.loadFails k l c)
      | none, .error => .next ((s.noteLoadError k l).loadFails k l (if l.local_ then 1 else 2))
      | none, .ok =>
        if l.shadowed then
          .next (s.setSlot k { x.deliver l.vals with loads := x.loads.drop 1, sbuf := x.sbuf.map StoreEntry.kept })
        else .next (s.setSlot k { x with
          loads := x.loads.map fun m => if m.returned then m else { m with returned := true }
          sbuf := x.sbuf.map StoreEntry.kept })

/-- A line comes in. It takes its place in the line buffer when the core enters it, so that one that is never used displaces nothing (07 R220,
R222). The line of PC waits for that, and beside it the line that came last: DESIGN CHOICE (log 160). -/
def Slot.fillLine (x : Slot) (l : Line) : Slot :=
  { x with ahead := (x.ahead.filter fun m => m.addr == x.pcLine && m.addr != l.addr) ++ [l] }

/-- Whether the core waits for line `a`: it is absent, and it holds PC or has been requested ahead (07 R220, R222). -/
def Slot.wantsLine (x : Slot) (a : Addr) : Bool :=
  (x.status == .running || x.status == .monitor) && (x.lineAt a).isNone && (a == x.pcLine || x.prefetch.contains a)

/-- LINE_FILL: 256 bytes from the desk or local memory, of a line that straddles the end of the visible range those that can be fetched; an
uncorrectable fill brings no line (07 R220, R222; 10 R308). A line that the core does not wait for changes nothing; one that cannot be fetched any
more is not asked for any longer. -/
def execLineFill (i : StreamId) (addr : Word64) (resp : BusResp) (s : State) : Host.Outcome State Fault Refusal :=
  if addr.toNat % 256 ≠ 0 then .fault .illFormed
  else
    match s.slotOf i with
    | none => .next s
    | some k =>
      let a := addr.toNat
      let n := match s.badByte a 256 with
        | some b => (b - a).toNat
        | none => 256
      let asked (s : State) : State := s.modSlot k fun x => { x with prefetch := x.prefetch.erase a }
      if n = 0 then .next (asked s)
      else if !(s.slot k).wantsLine a then .next s
      else
        let (bs, bad, s) := s.streamRead k a n
        let s := asked (s.meterCore k a n)
        match bad, resp with
        | none, .ok => .next (s.modSlot k fun x => x.fillLine ⟨a, bs⟩)
        | some _, .ok => .next s
        | _, .error => .next (s.coreParity k a)

/-- An asynchronous store error becomes pending, merged with one that already waits (07 R233; 08 R261, R271). -/
def State.storeError (s : State) (k : SlotId) (a : Nat) (kind : BitVec 2) : State :=
  (s.modSlot k fun x => { x with storeErr := some (match x.storeErr with
    | some e => { e with more := true }
    | none => ⟨BitVec.ofNat 64 a, kind, false⟩) }).raiseStream k 4

/-- STORE_COMMIT: the oldest entry of the store buffer; an entry of a load shadow waits for that load (log 9). -/
def execStoreCommit (i : StreamId) (o : CommitOutcome) (s : State) : Host.Outcome State Fault Refusal :=
  match s.slotOf i with
  | none => .next s
  | some k =>
    let x := s.slot k
    match x.sbuf with
    | [] => .next s
    | e :: es =>
      if e.inShadow && !x.loadsIn then .next s
      else
        let lower := 64 - e.addr % 64
        let split := lower < e.bytes.length
        let s1 := s.setSlot k { x with sbuf := es }
        match o with
        | .ok => .next (s.commitOldest k)
        | .parity => .next ((s1.chargeSlot k 32).storeError k e.addr 1)
        | .errorResp => .next ((s1.coreParity k e.addr).storeError k e.addr 2)
        | .upperError =>
          if split then .next (((s1.coreWrite k e.addr (e.bytes.take lower)).coreParity k (e.addr + lower)).storeError k e.addr 3)
          else .next ((s1.coreParity k e.addr).storeError k e.addr 2)

/-! ### Boundaries (07 R247, R248; 08 R271) -/

/-- Whether the core in slot `k` stands at a boundary where something may be taken. -/
def State.atBoundary (s : State) (k : SlotId) : Bool :=
  let x := s.slot k
  (x.status == .running || x.status == .monitor) && x.exc.isNone && x.chain.isNone && x.loadsIn
  && (x.delay.isNone || x.waitAt == some .slot || x.partsDone ≠ 0 || isQMove (s.iword k x.regs.pc))

/-- The pending line of highest level above SR.IML, the lowest number among equals (08 R271). -/
def Slot.acceptLine (x : Slot) : Option (Fin 32) :=
  (List.finRange 32).foldl (fun (b : Option (Fin 32)) (i : Fin 32) =>
    let l := x.lines32[i].level
    let better := match b with
      | some j => x.lines32[j].level.toNat < l.toNat
      | none => true
    if x.evpend.getLsbD i.val && x.regs.iml.toNat < l.toNat && better then some i else b) none

/-- Whether an OP of a scalar class has a row in the opcode map (07 R252). -/
def scalarDefined (cls op : Nat) : Bool :=
  match cls with
  | 0x0 => (0x01 ≤ op && op ≤ 0x1D) || (0x20 ≤ op && op ≤ 0x26) || op == 0x28 || op == 0x29
  | 0x1 => 0x01 ≤ op && op ≤ 0x0A
  | 0x2 => 0x01 ≤ op && op ≤ 0x07
  | 0x3 => 0x01 ≤ op && op ≤ 0x11
  | 0x4 => (0x01 ≤ op && op ≤ 0x07) || (0x09 ≤ op && op ≤ 0x0C)
  | 0x5 => 0x01 ≤ op && op ≤ 0x08
  | 0x6 => op ≤ 0x02
  | 0x7 => op ≤ 0x03 || op == 0x08 || op == 0x09
  | 0x8 => (0x01 ≤ op && op ≤ 0x05) || op == 0x3F
  | 0x9 => op ≤ 0x0E
  | 0xA => op ≤ 0x01
  | _ => false

/-- Whether a vector opcode has a row, or a program in the live decode table (02 R66, R67). -/
def LiveTable.vopDefined (t : LiveTable) (vop : Nat) : Bool :=
  (vrow vop).isSome || (0x08 ≤ vop && vop ≤ 0x0C)
  || (List.finRange 64).any fun u => vop == 0xC0 + u.val && !t.slots[u].isEmpty

/-- Whether the instruction with first word `w0` and second word `w1` is a defined one (07 R250, R252; 02 R66, R67). -/
def LiveTable.defines (t : LiveTable) (w0 w1 : Word32) : Bool :=
  if bits w0 31 28 = 15 then t.vopDefined (bits w1 31 24) else scalarDefined (bits w0 31 28) (bits w0 27 22)

/-- Whether `n` numbers a register as FADDR does (08 R261). -/
def isRegNumber (n : Byte) : Bool :=
  let v := n.toNat
  v < 0x10 || (0x20 ≤ v && v < 0x40) || (0x40 ≤ v && v ≤ 0x4A) || (0x50 ≤ v && v ≤ 0x53)

/-- A register's stored value fails its parity from now on (07 R255). -/
def Slot.spoil (x : Slot) (reg : Byte) : Slot :=
  if isRegNumber reg && !x.parity.contains reg then { x with parity := x.parity ++ [reg] } else x

/-- The exception at a class-Fh word at an address with bit 2 set: Illegal Sequence, which ranks after Undefined Instruction and, for a user
instruction, after an uncorrectable copy of its program (07 R250, R254; 09 R285). -/
def State.misplacedFault (s : State) (k : SlotId) : Byte × BitVec 12 × Word64 :=
  let x := s.slot k
  let w1 := s.iword k (x.regs.pc + 4)
  let vop := bits w1 31 24
  if !s.table.defines (s.iword k x.regs.pc) w1 then (0, 0, 0)
  else
    match if h : 0xC0 ≤ vop ∧ vop < 0x100 then x.badCopy (s.table.slots[vop - 0xC0]'(by omega)) vop else none with
    | some j => (6, 4, BitVec.ofNat 64 (vop * 256 + j))
    | none => (2, 0, 0)

/-- What the core takes at a boundary: a store error, the watchdog, then a line unless a debug event comes first (08 R271; 14 R412). -/
def State.takePending (s : State) (k : SlotId) : State :=
  let x := s.slot k
  let (ret, ds) := x.back
  match x.storeErr with
  | some e =>
    (s.setSlot k { x with storeErr := none }).enterException k
      ⟨0x0D, ret, ds, e.addr, (if e.more then 0x800 else 0) ||| e.kind.zeroExtend 12, 0, 0⟩
  | none =>
    if x.wd.pending then
      (s.setSlot k { x with wd := { x.wd with pending := false } }).enterException k ⟨0x0E, ret, ds, 0, 0, 0, 0⟩
    else if (x.dbg.event.isSome || x.dbg.halt) && s.debugOn k then s
    else
      match x.acceptLine with
      | none => s
      | some l =>
        (s.setSlot k { x with evpend := x.evpend &&& ~~~(1#32 <<< l.val) }).enterException k
          ⟨0x20 + BitVec.ofNat 8 l.val, ret, ds, 0, 0, 0, 0⟩

/-- A breakpoint on the instruction at PC, which raises an exception before it executes, comes first (14 R411). -/
def State.orBreakpoint (s : State) (k : SlotId) (t : State) : State :=
  match s.breakpoint k {} with
  | some (n, a) => s.raiseDebug k ⟨0x010 + BitVec.ofNat 12 n, a, false⟩
  | none => t

/-- EXCEPTION_ENTRY: an exception that waited for loads, or what is taken at a boundary, or a fault of fetch or decode at PC. -/
def execExceptionEntry (i : StreamId) (why : EntryWhy) (s : State) : Host.Outcome State Fault Refusal :=
  match s.slotOf i with
  | none => .next s
  | some k =>
    let x := s.slot k
    let go (vec : Byte) (code : BitVec 12) (faddr : Word64) : Host.Outcome State Fault Refusal :=
      if s.canStart k {} then .next (s.raiseExc k (x.excAt vec code faddr 0)) else .next s
    match why with
    | .pending =>
      match x.exc with
      | some e => if x.loadsIn then .next (s.enterException k e) else .next s
      | none => if s.atBoundary k then .next (s.takePending k) else .next s
    | .undefined =>
      if s.table.defines (s.iword k x.regs.pc) (s.iword k (x.regs.pc + 4)) || !s.canStart k {} then .next s
      else .next (s.orBreakpoint k (s.raiseExc k (x.excAt 0 0 0 0)))
    | .misplaced =>
      if x.regs.pc.getLsbD 2 && bits (s.iword k x.regs.pc) 31 28 == 15 && s.canStart k {} then
        let (v, c, a) := s.misplacedFault k
        .next (s.orBreakpoint k ((if v = 6 then s.chargeSlot k 32 else s).raiseExc k (x.excAt v c a 0)))
      else .next s
    | .fetchAddress => if (s.badByte x.regs.pc.toNat 1).isSome then go 5 1 x.regs.pc else .next s
    | .fetchData =>
      if (s.badByte x.regs.pc.toNat 1).isSome then .next s
      else go 6 (if deskBase ≤ x.regs.pc.toNat then 2 else 1) x.regs.pc
    | .parity reg =>
      let s1 := s.setSlot k (x.spoil reg)
      .next (if s.canStart k {} && isRegNumber reg then s1.orBreakpoint k (s1.parityFault k 4 reg) else s1)

/-- LAZY_Q_SAVE: a guarded Qn is saved (08 R264). -/
def execLazyQSave (i : StreamId) (n : Fin 4) (s : State) : Host.Outcome State Fault Refusal :=
  match s.slotOf i with
  | none => .next s
  | some k =>
    if !s.canStart k {} then .next s
    else if (s.regs k).qg.getLsbD n && (s.slot k).parity.contains (0x50 + BitVec.ofNat 8 n.val) then
      .next (s.parityFault k 4 (0x50 + BitVec.ofNat 8 n.val))
    else
      match s.saveQ k n with
      | .wait => .next s
      | .ok s => .next s
      | .escalated s => .next s

/-! ### The monitor (14 R409-R415) -/

/-- The debug event to be taken: one that was raised, else a pending halt. -/
def Debug.next (g : Debug) : Option DebugEvent :=
  match g.event with
  | some e => some e
  | none => if g.halt then some ⟨0x001, 0, false⟩ else none

/-- The event taken off. -/
def Debug.taken (g : Debug) : Debug := if g.event.isSome then { g with event := none } else { g with halt := false }

/-- The lesson on Stream `i` is reported EXCUSED however it ends (06 R207). -/
def State.excuse (s : State) (i : StreamId) : State :=
  s.modClient (.stream i) fun c => { c with run := c.run.map fun r => { r with excused := true } }

/-- The exemption that an event brings to the instruction it returns to: an instruction breakpoint has matched it (14 R411). -/
def DebugEvent.exempts (e : DebugEvent) (ret : Word64) : Option Word64 :=
  if 0x010 ≤ e.code.toNat ∧ e.code.toNat < 0x014 then some ret else none

/-- Monitor entry (14 R412): a descriptor or TSB that breaks its rules drops the event, and the core continues, past a breakpoint that it has
matched. -/
def State.enterMonitor (s : State) (k : SlotId) (i : StreamId) (e : DebugEvent) : State :=
  let s := s.modSlot k fun x => { x.settleLoads with dbg := x.dbg.taken }
  let x := s.slot k
  let tb := x.dbg.tsb.toNat
  let (ret, ds) := x.back
  let fail := s.setSlot k { x with
    dbg := { x.dbg with monErr := true, exempt := (e.exempts ret).or x.dbg.exempt }
    setNow := { x.setNow with monErr := true } }
  match s.checkDesc x.dbg.desc0 x.dbg.desc1 with
  | .inr _ => fail
  | .inl d =>
    if d.sel ≠ 0 ∨ tb % 512 ≠ 0 ∨ !inOwnDesk tb 512 then fail
    else
      let x0 : Exc := ⟨0x0F, ret, ds || e.ds, e.faddr, e.code, 0, 0⟩
      if x.savedParity.isSome then (s.chargeSlot k 32).escalate k x0 0x0F 8 x.savedParity
      else
        let ws := tsbWords x x0 0x0F 0 0 (s.iword k ret) none e.faddr
        let y := (x.writeTsb (tb - deskBase) ws false).enterHandler d (BitVec.ofNat 64 tb)
        let s := s.setSlot k { y with
          status := .monitor
          dbg := { y.dbg with
            entries := y.dbg.entries.add 1
            exempt := (e.exempts ret).or y.dbg.exempt } }
        ((s.meterCore k tb 512).excuse i).emit i 3 0 ret

/-- MONITOR_ENTRY: a debug event is taken at a boundary, after a store error and a Watchdog exception. -/
def execMonitorEntry (i : StreamId) (s : State) : Host.Outcome State Fault Refusal :=
  match s.slotOf i with
  | none => .next s
  | some k =>
    let x := s.slot k
    if !s.atBoundary k || x.storeErr.isSome || x.wd.pending || !s.debugOn k || s.watchedQst k then .next s
    else
      match x.dbg.next with
      | none => .next s
      | some e => .next (s.enterMonitor k i e)

/-! ### The watchdog (08 R269) -/

/-- WATCHDOG_EXPIRY after `dt` clk: the count is 0. -/
def execWatchdogExpiry (i : StreamId) (dt : Nat) (s : State) : Host.Outcome State Fault Refusal :=
  let s := s.elapse dt
  match s.slotOf i with
  | none => .next s
  | some k =>
    let x := s.slot k
    let counts := x.wd.mode ≠ 0 ∧ (x.status = .running ∨ (x.status = .monitor ∧ ¬ x.dbg.wdpause))
    if ¬ counts ∨ x.wd.count ≠ 0 then .next s
    else if x.wd.exp then .next (s.checkstop k 0x0E 0 0x0B x.back.1)
    else .next ((s.setSlot k { x with
      wd := { x.wd with exp := true, count := x.wd.load, phase := 0, pending := true }
      setNow := { x.setNow with exp := true } }).raiseStream k 3)

end Sys2Proof.Machine
end

