-- ==== Sys2Proof/Machine/EngineSteps.lean ====
section
/-!
DEFINITION. What the vector engine does on its own: an entry's execution, a suspension, run-ahead reads, residue recomputations (02 R53, R60; 03 R79, R81; 10 R300).
-/

namespace Sys2Proof.Machine

/-- Conditions 1 to 4 of R81 for the two entries at the front of a queue. -/
def Slot.mayRunAhead (x : Slot) : Bool :=
  match x.eng.queue with
  | e :: e2 :: _ =>
    let a := resolve x e.ops
    let b := resolve x e2.ops
    let dst := (a.flatMap ROp.readRefs).filter DRef.isDst
    let src := (b.flatMap fun o => (o.ahead x).refs).filter fun r => !r.isDst
    !x.eng.stopped && !x.eng.suspend && !indexedOps a && !indexedOps b
    && !(dst.any fun d => src.any fun r =>
      hullsMeet (d.d.hull e.vx.toNat e.vl.toNat) (r.d.hull e2.vx.toNat e2.vl.toNat))
  | _ => false

/-! ### Residue recomputations (10 R300) -/

/-- An operation whose FMA pipe computes a product. -/
def VOp.hasProduct (v : VOp) : Bool :=
  v.vop == 0x12 || v.vop == 0x15 || v.vop == 0x16 || v.vop == 0x17 || v.vop == 0x20

/-- A residue mismatch: the element group of the operation is recomputed, which counts, charges the lane that computed the product, is metered
and extends the booking; the result is discarded, so nothing else changes. A mismatch at an operation that computes no product, or at an
element that it does not compute, is no event; below VX an operation computes the elements of its element group that it writes to a link (02 R441). -/
def State.noteMiss (s : State) (i : StreamId) (k : SlotId) (e : VEntry) (m : ResidueMiss) : State :=
  match (resolve (s.slot k) e.ops)[m.op]? with
  | none => s
  | some o =>
    let vx := e.vx.toNat
    let first := if o.writesLink.isSome then vx / 64 * 64 else vx
    if !o.v.hasProduct || decide (e.vl.toNat ≤ vx) || decide (m.elem < first) || decide (e.vl.toNat ≤ m.elem) then s
    else
      let s := { s with avail := { s.avail with recomputes := satAdd s.avail.recomputes 1 } }
      let s := s.chargeLane k (s.slot k).laneMap[m.elem % 64] 16
      (s.meterOnlyStream k o.occupancy).extendBooking (.stream i) 64

/-- The entry starts, unless a check that precedes its elements fails: its mismatches, in order. -/
def State.noteMisses (s : State) (i : StreamId) (k : SlotId) (e : VEntry) (ms : List ResidueMiss) : State :=
  let x := s.slot k
  if (checkEntry x e.group (resolve x e.ops) e.vx.toNat e.vl.toNat).isSome then s
  else ms.foldl (fun s m => s.noteMiss i k e m) s

/-- VECTOR_ENTRY_EXECUTE: the entry at the front of the queue meets residue mismatches and, when `done`, runs to its completion or its stop (log
11); without it the entry is held at an element group whose product keeps failing (10 R300). A pending suspension is VECTOR_SUSPEND_STOP's. -/
def execVectorEntryExecute (r : EntryRun) (s : State) : Host.Outcome State Fault Refusal :=
  match s.slotOf r.stream with
  | none => .next s
  | some k =>
    let g := (s.slot k).eng
    match g.queue with
    | [] => .next s
    | e :: _ =>
      if g.stopped || g.suspend then .next s
      else
        let s := s.noteMisses r.stream k e r.misses
        .next (if r.done then s.runEntry k e none else s)

/-! ### Run-ahead (03 R81-R85) -/

/-- The running entry passes its drain point: it comes to every source read of its last element group (03 R81). An entry that stops before, or
whose local accesses never complete, does not. -/
def State.drains (s : State) (k : SlotId) (e : VEntry) : Bool :=
  let x := s.slot k
  let ops := resolve x e.ops
  let vl := e.vl.toNat
  if (checkEntry x e.group ops e.vx.toNat vl).isSome then false
  else
    let v := s.runElements k e ops vl
    !(s.weightless k && v.acc.any fun w => !w.desk) && v.stop.all fun st => st.at_ / 64 == (vl - 1) / 64

/-- RUN_AHEAD_READ: the next `n` line and block accesses of the plan, counted and metered, the descriptors' lines among them. Every error on them
counts, and its entry reads the element again (03 R81-R85; 06 R196; 10 R292). -/
def execRunAheadRead (i : StreamId) (n : Nat) (s : State) : Host.Outcome State Fault Refusal :=
  match s.slotOf i with
  | none => .next s
  | some k =>
    let x := s.slot k
    match x.eng.queue with
    | e0 :: e :: _ =>
      if !x.mayRunAhead || !s.drains k e0 then .next s
      else
        let ws := ((s.aheadPlan k e).drop (x.eng.raHeld + x.eng.raLines)).take n
        let (l, b, twice) := s.countAccesses ws
        let s := (s.settleReads k (servedBy ws (s.aheadReads k e))).modSlot k fun x => { x with eng := { x.eng with
          raIssued := x.eng.raIssued.add b
          raHeld := x.eng.raHeld + b
          raLines := x.eng.raLines + l } }
        .next ((s.meterStream k (40 * l + 1300 * b)).meterOnlyStream k (1300 * twice))
    | _ => .next s

/-- What a pending suspension does when the entry has ended: the next entry is stopped before it starts, or the suspension is cancelled
(02 R60). Run-ahead reads made for that entry are discarded (03 R83). -/
def State.suspendNext (s : State) (k : SlotId) : State :=
  let x := s.slot k
  match x.eng.queue with
  | [] => s.setSlot k { x with eng := { x.eng with suspend := false } }
  | e :: _ =>
    if x.eng.stopped then s
    else (s.setSlot k { x with eng := { x.eng with raHeld := x.eng.raFront } }).engineStop k e suspendedStop 0

/-- VECTOR_SUSPEND_STOP: with a suspension pending, the running entry stops at element-group boundary `group`, or the first one at or above its
start element, at a fault at or below it, or at its end (02 R60); it meets residue mismatches before (10 R300). An entry whose local access never
completes (06 R190) comes to none of them, and the suspension stays pending. -/
def execVectorSuspendStop (i : StreamId) (p : SuspendPoint) (s : State) : Host.Outcome State Fault Refusal :=
  match s.slotOf i with
  | none => .next s
  | some k =>
    let g := (s.slot k).eng
    match g.queue with
    | [] => .next s
    | e :: _ =>
      if g.stopped || !g.suspend then .next s
      else
        let s' := (s.noteMisses i k e p.misses).runEntry k e (some (64 * max p.group ((e.vx.toNat + 63) / 64)))
        .next (if (s'.slot k).eng.stopped || (s'.slot k).eng.queue.length == g.queue.length then s' else s'.suspendNext k)

end Sys2Proof.Machine
end

