-- ==== Sys2Proof/Machine/Excursions.lean ====
section
/-!
DEFINITION. Excursions and the expansion link (05 R168-R175; 06 R199).
-/

namespace Sys2Proof.Machine

/-- EXCURSION_START after `dt` clk: the engine's next booking of the period starts, or is passed over when the ladder has ended. -/
def execExcursionStart (e : Fin 2) (dt : Nat) (s : State) : Host.Outcome State Fault Refusal :=
  let s := s.elapse dt
  let c := Client.engine e
  let x := s.client c
  if !s.tt.open_ || s.tt.inRecess || x.run.isSome || decide (s.now < x.nextStart) then .next s
  else
    match s.nextBooking c with
    | none => .next s
    | some a =>
      if s.repair.ladder = .ended then .next (s.passOver c a 4 5)
      else
        let s := (s.takeBooking a).noteStart a
        .next (s.modClient c fun x => { x with run := some { a.run s.now with linkDown := s.xp.link != 2, seats := s.seatsOf a } })

/-- The status of an excursion that completes now: the first of LINK-DOWN, POISON, COLLISION and FAR-SLOW that applies (06 R199). -/
def State.excursionStatus (s : State) (r : Run) : Byte :=
  if r.linkDown then 0x12
  else if r.poison then 0x11
  else if r.collision then 0x13
  else if r.farSlow ∧ r.start + r.adm.b.budget + r.ext < s.now then 0x14
  else 0x10

/-- Lines of engine `e` that wait at a desk. -/
def State.linesOut (s : State) (e : Fin 2) : Bool := s.slots.toList.any fun x => x.desk.dma.any fun l => l.engine == some e

/-- EXCURSION_COMPLETE after `dt` clk: every block has moved, or nothing more will (05 R172). -/
def execExcursionComplete (e : Fin 2) (dt : Nat) (s : State) : Host.Outcome State Fault Refusal :=
  let s := s.elapse dt
  let c := Client.engine e
  match (s.client c).run with
  | none => .next s
  | some r =>
    let cut := r.linkDown || (r.poison && !r.adm.b.nearToFar)
    if (cut || r.blocks == r.adm.b.len) && !s.linesOut e then .next (s.endRun c (s.excursionStatus r) 0)
    else .next s

/-- The slot whose desk a NEAR address names. -/
def State.nearSlot (s : State) (near : Nat) : Option SlotId :=
  let d := (near - deskArray) / 0x400000
  if h : d < 64 then s.slotOf ⟨d, h⟩ else none

/-- Blocks of the excursion that wait at the desk's DMA port. -/
def State.blocksOut (s : State) (e : Fin 2) : Nat :=
  s.slots.toList.foldl (fun n x => n + (x.desk.dma.filter fun l => l.engine == some e).length) 0

/-- A far-to-near block arrives: it is written to local memory, or its line waits at the desk's DMA port. -/
def State.landBlock (s : State) (e : Fin 2) (r : Run) (data : List Byte) : State :=
  let j := r.blocks + s.blocksOut e
  let a := r.adm.b.near + 64 * j
  if inDeskArray a then
    match s.nearSlot a with
    | some k => (s.modSlot k fun x => { x with desk := { x.desk with
        dma := x.desk.dma ++ [⟨a % 0x400000, some (data.map some), some e, none, s.clk⟩] } }).meterEngine e 2000
    | none => s
  else
    ((s.writeLocal a data).modRun (.engine e) fun r => { r with blocks := r.blocks + 1 }).meterEngine e 2000 |>.meterBlock e (a / 64)

/-- A near-to-far block is read, at the desk's DMA port or from local memory, and written to far memory. -/
def State.sendBlock (s : State) (e : Fin 2) (r : Run) : State :=
  let j := r.blocks + s.blocksOut e
  let a := r.adm.b.near + 64 * j
  if inDeskArray a then
    match s.nearSlot a with
    | some k => (s.modSlot k fun x => { x with desk := { x.desk with
        dma := x.desk.dma ++ [⟨a % 0x400000, none, some e, none, s.clk⟩] } }).meterEngine e 2000
    | none => (s.sendFar e r j [] true).meterEngine e 2000
  else
    let (bs, bad, s') := s.readLocal a 64
    ((s'.sendFar e r j bs bad.isSome).meterEngine e 2000).meterBlock e (a / 64)

/-- FAR_RESPONSE: the response to the engine's oldest far request; a slow one is counted, and a poisoned far-to-near block ends the writing
(05 R170, R172). None comes while 1,024 local requests of the engine are outstanding, each of which is a line at a desk's DMA port; the 512 far
requests show in no state (DESIGN CHOICE, log 171). -/
def execFarResponse (e : Fin 2) (r : FarResponse) (s : State) : Host.Outcome State Fault Refusal :=
  if r.data.length ≠ 64 then .fault .illFormed
  else
    match (s.client (.engine e)).run with
    | none => .next s
    | some run =>
      let b := run.adm.b
      let far := run.blocks + s.blocksOut e
      if run.linkDown || (run.poison && !b.nearToFar) || decide (b.len ≤ far) || decide (1024 ≤ s.blocksOut e) then .next s
      else
        let slow := s.mgmt.rwp.farLatency.toNat < r.ns
        let s := if slow then
            ({ s with xp := { s.xp with slow := satAdd s.xp.slow 1 } }).modRun (.engine e) fun r => { r with farSlow := true }
          else s
        let run := if slow then { run with farSlow := true } else run
        if b.nearToFar then .next (s.sendBlock e run)
        else if r.poison then
          .next ((s.modRun (.engine e) fun r => { r with poison := true }).meterEngine e 2000)
        else .next (s.landBlock e run r.data)

/-! ### The expansion link (05 R168, R169; 15 R432) -/

/-- A change of 3020h/01h raises event 425. -/
def State.setLink (s : State) (x : Expansion) : State :=
  let s' := { s with xp := x }
  if s.xp.link = x.link then s' else s'.raise 425

/-- The mapped far window: the capacity rounded down to 256 MiB, at most 3.75 TiB. -/
def mappedSize (capacity : Nat) : Nat := min (capacity / 2 ^ 28 * 2 ^ 28) 0x3C000000000

/-- EXPANSION_LINK_UP: the link that trains finds no device, one it does not support, or a device that it maps. -/
def execExpansionLinkUp (d : FarDevice) (s : State) : Host.Outcome State Fault Refusal :=
  let x := s.xp
  if x.link ≠ 1 then .next s
  else if !d.present then .next (s.setLink { x with link := 0 })
  else if !d.supported || !([4, 8, 16].contains d.lanes) || !([32, 64].contains d.rate) then .next (s.setLink { x with link := 4 })
  else .next (s.setLink { x with
    link := 2
    lanes := BitVec.ofNat 8 d.lanes
    rate := BitVec.ofNat 8 d.rate
    mapped := BitVec.ofNat 64 (mappedSize d.capacity)
    latency := BitVec.ofNat 32 d.latencyNs })

/-- EXPANSION_LINK_DOWN: the link fails and stays down; excursions that run end as LINK-DOWN. -/
def execExpansionLinkDown (s : State) : Host.Outcome State Fault Refusal :=
  let x := s.xp
  if x.link ≠ 2 then .next s
  else
    let s := s.setLink { x with link := 3, lanes := 0, rate := 0, mapped := 0 }
    .next ((List.finRange 2).foldl (fun (s : State) e =>
      s.modRun (.engine e) fun r => { r with linkDown := true }) s)

end Sys2Proof.Machine
end

