-- ==== Sys2Proof/Machine/Floating.lean ====
section
/-!
DEFINITION. Scalar floating-point instructions, class 3h (07 R252; 04 R100-R125).
-/

namespace Sys2Proof

open Machine

/-! ### Decode rules, and the registers an instruction reads and writes -/

/-- F format with a static rounding mode and two sources (07 R251): RND 110b and 111b are reserved. -/
def FFmt.info (f : FFmt) : Info where
  fieldsOk := f.rsv == 0 && decide (f.rnd.toNat < 6)
  reads := [.d f.ra, .d f.rb, .special 9]
  writes := [.d f.rd]

/-- F format with a static rounding mode and one source: RB is not used. -/
def FFmt.info1 (f : FFmt) : Info where
  fieldsOk := f.rsv == 0 && decide (f.rnd.toNat < 6) && f.rb == 0
  reads := [.d f.ra, .special 9]
  writes := [.d f.rd]

/-- FMIN and FMAX: RND is not used. -/
def FFmt.infoMin (f : FFmt) : Info where
  fieldsOk := f.rsv == 0 && f.rnd == 0
  reads := [.d f.ra, .d f.rb, .special 9]
  writes := [.d f.rd]

/-- FCLASS: RND and RB are not used; a signalling NaN raises IV (04 R109; log 128). -/
def FFmt.infoClass (f : FFmt) : Info where
  fieldsOk := f.rsv == 0 && f.rnd == 0 && f.rb == 0
  reads := [.d f.ra, .special 9]
  writes := [.d f.rd]

/-- FABS and FNEG: RND and RB are not used, and FPCSR has no part. -/
def FFmt.infoBits (f : FFmt) : Info where
  fieldsOk := f.rsv == 0 && f.rnd == 0 && f.rb == 0
  reads := [.d f.ra]
  writes := [.d f.rd]

/-- FCMP and FCMPS: RD and RND are not used. -/
def FFmt.infoCmp (f : FFmt) : Info where
  fieldsOk := f.rsv == 0 && f.rnd == 0 && f.rd == 0
  reads := [.d f.ra, .d f.rb, .special 9]
  writes := [.special 1]

/-- F4 format. -/
def F4Fmt.info (f : F4Fmt) : Info where
  fieldsOk := f.rsv == 0
  reads := [.d f.ra, .d f.rb, .d f.rc, .special 9]
  writes := [.d f.rd]

/-- The decode rules of FCVT: DT and ST are element types 0h to 9h, at least one of class F (07 R251). -/
def FCFmt.info (f : FCFmt) : Info where
  fieldsOk := f.rsv == 0 && decide (f.rnd.toNat < 6) && decide (f.dt.toNat < 10) && decide (f.st.toNat < 10)
    && (isF f.dt.toNat || isF f.st.toNat)
  reads := [.d f.ra, .special 9]
  writes := [.d f.rd]

end Sys2Proof

namespace Sys2Proof.Machine

/-- A result written to D[RD], upper bits 0 (04 R101). -/
def Regs.setFloat (r : Regs) (rd : BitVec 5) (x : FRes) : FlagSet × Regs := (x.flags, r.setD rd (BitVec.ofNat 64 x.val))

/-- A two-source operation in the precision that P selects. -/
def State.float2 (s : State) (i : StreamId) (f : FFmt) (g : FloatFmt → BitVec 3 → FVal → FVal → FRes) :
    Host.Outcome State Fault Refusal :=
  s.checked i f.info fun r =>
    let p := precision f.p
    r.setFloat f.rd (g p (r.rounding f.rnd) (p.decode (r.floatD p f.ra)) (p.decode (r.floatD p f.rb)))

/-- A fused operation: one rounding in FPCSR.RM (07 R252). -/
def State.fused (s : State) (i : StreamId) (f : F4Fmt) (vop : Nat) : Host.Outcome State Fault Refusal :=
  s.checked i f.info fun r =>
    let p := precision f.p
    r.setFloat f.rd (fmaArith vop p p r.rm (r.floatD p f.ra) (r.floatD p f.rb) (r.floatD p f.rc))

/-- FMIN and FMAX (04 R117). -/
def State.floatMin (s : State) (i : StreamId) (f : FFmt) (isMax : Bool) : Host.Outcome State Fault Refusal :=
  s.checked i f.infoMin fun r =>
    let p := precision f.p
    r.setFloat f.rd (p.minMax isMax (r.floatD p f.ra) (r.floatD p f.rb))

/-- FCMP and FCMPS (04 R116; 07 R217): a NaN raises IV when it signals or the comparison does. -/
def State.floatCmp (s : State) (i : StreamId) (f : FFmt) (signalling : Bool) : Host.Outcome State Fault Refusal :=
  s.checked i f.infoCmp fun r =>
    let p := precision f.p
    let x := p.decode (r.floatD p f.ra)
    let y := p.decode (r.floatD p f.rb)
    let fl := if signalling && (x.isNaN || y.isNaN) then flIV else x.snan ||| y.snan
    (fl, { r with cc := ccFloat x y })

/-- FADD. -/
def execFadd (i : StreamId) (f : FFmt) (s : State) : Host.Outcome State Fault Refusal :=
  s.float2 i f fun p rm x y => p.addV rm x y

/-- FSUB. -/
def execFsub (i : StreamId) (f : FFmt) (s : State) : Host.Outcome State Fault Refusal :=
  s.float2 i f fun p rm x y => p.addV rm x y.neg

/-- FMUL. -/
def execFmul (i : StreamId) (f : FFmt) (s : State) : Host.Outcome State Fault Refusal :=
  s.float2 i f fun p rm x y => p.mul rm x y

/-- FDIV. -/
def execFdiv (i : StreamId) (f : FFmt) (s : State) : Host.Outcome State Fault Refusal :=
  s.float2 i f fun p rm x y => p.div rm x y

/-- FSQRT. -/
def execFsqrt (i : StreamId) (f : FFmt) (s : State) : Host.Outcome State Fault Refusal :=
  s.checked i f.info1 fun r =>
    let p := precision f.p
    r.setFloat f.rd (p.sqrt (r.rounding f.rnd) (p.decode (r.floatD p f.ra)))

/-- FMA: as VFMA (02 R66). -/
def execFma (i : StreamId) (f : F4Fmt) (s : State) : Host.Outcome State Fault Refusal :=
  s.fused i f 0x15

/-- FMS: as VFMS (02 R66). -/
def execFms (i : StreamId) (f : F4Fmt) (s : State) : Host.Outcome State Fault Refusal :=
  s.fused i f 0x16

/-- FNMA: as VFNMA (02 R66). -/
def execFnma (i : StreamId) (f : F4Fmt) (s : State) : Host.Outcome State Fault Refusal :=
  s.fused i f 0x17

/-- FMIN (04 R117). -/
def execFmin (i : StreamId) (f : FFmt) (s : State) : Host.Outcome State Fault Refusal :=
  s.floatMin i f false

/-- FMAX (04 R117). -/
def execFmax (i : StreamId) (f : FFmt) (s : State) : Host.Outcome State Fault Refusal :=
  s.floatMin i f true

/-- FABS (04 R108). -/
def execFabs (i : StreamId) (f : FFmt) (s : State) : Host.Outcome State Fault Refusal :=
  s.compute i f.infoBits fun r =>
    let p := precision f.p
    r.setD f.rd (BitVec.ofNat 64 (p.abs (r.floatD p f.ra)))

/-- FNEG (04 R108). -/
def execFneg (i : StreamId) (f : FFmt) (s : State) : Host.Outcome State Fault Refusal :=
  s.compute i f.infoBits fun r =>
    let p := precision f.p
    r.setD f.rd (BitVec.ofNat 64 (p.negate (r.floatD p f.ra)))

/-- FCMP: quiet. -/
def execFcmp (i : StreamId) (f : FFmt) (s : State) : Host.Outcome State Fault Refusal :=
  s.floatCmp i f false

/-- FCMPS: signalling. -/
def execFcmps (i : StreamId) (f : FFmt) (s : State) : Host.Outcome State Fault Refusal :=
  s.floatCmp i f true

/-- FCLASS (04 R109, R118; log 128). -/
def execFclass (i : StreamId) (f : FFmt) (s : State) : Host.Outcome State Fault Refusal :=
  s.checked i f.infoClass fun r =>
    let p := precision f.p
    r.setFloat f.rd (p.classify (r.floatD p f.ra))

/-- FRINT (04 R122). -/
def execFrint (i : StreamId) (f : FFmt) (s : State) : Host.Outcome State Fault Refusal :=
  s.checked i f.info1 fun r =>
    let p := precision f.p
    r.setFloat f.rd (p.rint (r.rounding f.rnd) (r.floatD p f.ra))

/-- A result of type `ty` in a D register: narrow integers are extended by their signedness (04 R101). -/
def resultD (ty v : Nat) : Word64 :=
  match intOf ty with
  | some (signed, b) => extend signed (b / 8) v
  | none => BitVec.ofNat 64 v

/-- FCVT (04 R101, R119-R121). -/
def execFcvt (i : StreamId) (f : FCFmt) (s : State) : Host.Outcome State Fault Refusal :=
  s.checked i f.info fun r =>
    let x := convertElem (r.rounding f.rnd) f.st.toNat f.dt.toNat (r.elemD f.st.toNat f.ra)
    (x.flags, r.setD f.rd (resultD f.dt.toNat x.val))

end Sys2Proof.Machine
end

