-- ==== Sys2Proof/Machine/HostAccess.lean ====
section
/-!
DEFINITION. Host reads and writes of the three windows (11 R317-R329; 12 R354; 13 R378).
-/

namespace Sys2Proof.Machine

/-! ### BAR0 and BAR2 (11 R319) -/

/-- The module address behind an offset of BAR0 or BAR2. -/
def barAddress (b : Bar) (off : Nat) : Nat :=
  match b with
  | .bar0 => mmioBase + off
  | _ => off

/-- The BAR through which an access decodes: BAR2 reaches no MMIO (11 R319). -/
def State.hostReaches (s : State) (b : Bar) (p : Piece) : Bool :=
  s.pieceReaches p && (b == .bar0 || decide (p.addr + p.len ≤ mmioBase))

/-- An error that AER logs (11 R317, R319). -/
def State.aerError (s : State) : State := { s with host := { s.host with aerLog := s.host.aerLog + 1 } }

/-- A host read: one completion with Unsupported Request when any part does not decode, else a completion for each piece. -/
def State.hostRead (s : State) (b : Bar) (off n : Nat) : State :=
  let a := barAddress b off
  if !(piecesOf .hdma 0 a n none).all (s.hostReaches b) then ((s.decodeError .hdma a).aerError).output (.completion .unsupported [] s.host.ecrcGen)
  else s.issue .hdma a n none true

/-- A host write: discarded whole when any part does not decode. -/
def State.hostWrite (s : State) (b : Bar) (off : Nat) (data : List Byte) : State :=
  let a := barAddress b off
  if !(piecesOf .hdma 0 a data.length (some data)).all (s.hostReaches b) then (s.decodeError .hdma a).aerError
  else s.issue .hdma a data.length (some data) true

/-! ### BAR4 (11, the BAR4 layout) -/

/-- The 16 bytes of an MSI-X table entry; bit 0 of the last word is the mask. -/
def MsixEntry.bytes (e : MsixEntry) : List Byte :=
  leBytes 8 e.addr.toNat ++ leBytes 4 e.data.toNat ++ leBytes 4 (b2n e.masked)

def MsixEntry.ofBytes (bs : List Byte) : MsixEntry :=
  ⟨BitVec.ofNat 64 (leNat (bs.take 8)), BitVec.ofNat 32 (leNat ((bs.drop 8).take 4)), (leNat ((bs.drop 12).take 4)).testBit 0⟩

/-- The byte of BAR4 at an offset; doorbells and all other offsets read 0. -/
def State.bar4Byte (s : State) (o : Nat) : Byte :=
  let h := s.host
  if o < 0x80000 then h.sqMem.read o
  else if o < 0x88000 then
    let i := (o - 0x80000) / 16
    (if hi : i < 2048 then h.msix[i].bytes else []).getD (o % 16) 0
  else if o < 0x88100 then BitVec.ofNat 8 (h.pba.toNat >>> (8 * (o - 0x88000)))
  else if 0x90000 ≤ o ∧ o < 0x90040 then h.mbReq.toList.getD (o - 0x90000) 0
  else if 0x90040 ≤ o ∧ o < 0x90080 then h.mbResp.toList.getD (o - 0x90040) 0
  else 0

/-- A read of the first response byte shows that the host has read the response (12, 1002h/02h). -/
def State.bar4Read (s : State) (o n : Nat) : State :=
  let bs := (List.range n).map fun i => s.bar4Byte (o + i)
  let s := if o ≤ 0x90040 ∧ 0x90040 < o + n then { s with host := { s.host with mbUnread := false } } else s
  s.output (.completion .ok bs s.host.ecrcGen)

/-- A write over the bytes `b` to `b + w.length - 1` of what held `w`: the bytes after it. -/
def overlay (b : Nat) (w : List Byte) (o : Nat) (data : List Byte) : List Byte :=
  (List.range w.length).map fun i => if o ≤ b + i ∧ b + i < o + data.length then data.getD (b + i - o) 0 else w.getD i 0

/-- MSI-X table entries that a write touches; vectors that it unmasks send what is pending (11 R329). -/
def State.writeMsix (s : State) (o : Nat) (data : List Byte) : State :=
  let t := (List.finRange 2048).foldl (fun (t : Vector MsixEntry 2048) (v : Fin 2048) =>
    let b := 0x80000 + 16 * v.val
    if o < b + 16 ∧ b < o + data.length then t.set v (MsixEntry.ofBytes (overlay b t[v].bytes o data)) else t) s.host.msix
  { s with host := HostLink.release { s.host with msix := t } }

/-- The doorbell at `b` as a write covers it: not at all, in part, or whole with its value (11 R326). -/
def doorbellWrite (b o : Nat) (data : List Byte) : Option (Word32 × Bool) :=
  if o < b + 4 ∧ b < o + data.length then
    if o ≤ b ∧ b + 4 ≤ o + data.length then some (BitVec.ofNat 32 (leNat ((data.drop (b - o)).take 4)), true) else some (0, false)
  else none

/-- The doorbells that a write touches, each pair's submission tail first. -/
def State.writeDoorbells (s : State) (o : Nat) (data : List Byte) : State :=
  (List.finRange 16).foldl (fun (s : State) q =>
    let b := 0xA0000 + 16 * q.val
    let s := match doorbellWrite b o data with
      | some (v, whole) => s.tailDoorbell q v whole
      | none => s
    match doorbellWrite (b + 8) o data with
    | some (v, whole) => s.headDoorbell q v whole
    | none => s) s

/-- A write of BAR4; what is not submission-queue memory, MSI-X table, mailbox request or doorbell is discarded. -/
def State.bar4Write (s : State) (o : Nat) (data : List Byte) : State :=
  if o < 0x80000 then s.writeSq o (data.take (0x80000 - o))
  else if o < 0x88000 then s.writeMsix o data
  else if 0x90000 ≤ o ∧ o < 0x90040 then s.mailboxWrite (o - 0x90000) (data.take (0x90040 - o))
  else s.writeDoorbells o data

/-! ### The two rows -/

/-- The link carries requests: it is up, and the main domain runs (13 R378). -/
def State.hostOn (s : State) : Bool := s.host.linkUp && s.power.phase == .run

/-- A request whose ECRC fails, while its check is enabled: it is discarded and logged in AER (11 R317; log 146). -/
def State.ecrcFails (s : State) (badEcrc : Bool) : Bool := s.host.ecrcCheck && badEcrc

/-- HOST_READ_REQUEST. In D3hot no BAR decodes, and the request is unsupported (11 R317). -/
def execHostReadRequest (b : Bar) (off : Nat) (r : ReadTlp) (s : State) : Host.Outcome State Fault Refusal :=
  if !(inPage 4096 off r.len && decide (off + r.len ≤ b.size)) then .fault .illFormed
  else if !s.hostOn then .next s
  else if s.ecrcFails r.badEcrc then .next s.aerError
  else if s.host.d3hot then .next (s.aerError.output (.completion .unsupported [] s.host.ecrcGen))
  else
    match b with
    | .bar4 => .next (s.bar4Read off r.len)
    | _ => .next (s.hostRead b off r.len)

/-- HOST_WRITE_REQUEST. A poisoned write is discarded and logged in AER (11 R317). -/
def execHostWriteRequest (b : Bar) (off : Nat) (data : List Byte) (tlp : TlpState) (s : State) : Host.Outcome State Fault Refusal :=
  if !(inPage 512 off data.length && decide (off + data.length ≤ b.size)) then .fault .illFormed
  else if !s.hostOn then .next s
  else if s.host.d3hot || tlp == .poisoned || s.ecrcFails (tlp == .badEcrc) then .next s.aerError
  else
    match b with
    | .bar4 => .next (s.bar4Write off data)
    | _ => .next (s.hostWrite b off data)

end Sys2Proof.Machine
end

