-- ==== Sys2Proof/Machine/Integer.lean ====
section
/-!
DEFINITION. Scalar integer and immediate instructions, classes 0h, 1h and Ah (07 R252; 04 R134-R141).
-/

namespace Sys2Proof

open Machine

/-! ### Decode rules, and the registers an instruction reads and writes -/

/-- Decode rules of a two-source R-format instruction that uses no W (07 R250, R252). -/
def RFmt.info (f : RFmt) : Info where
  fieldsOk := f.w == 0 && f.rsv == 0
  reads := [.d f.ra, .d f.rb]
  writes := [.d f.rd]

/-- An instruction that can raise an overflow or a divide by zero reads its trap enables too (04 R115). -/
def RFmt.infoTrap (f : RFmt) : Info where
  fieldsOk := f.w == 0 && f.rsv == 0
  reads := [.d f.ra, .d f.rb, .special 9]
  writes := [.d f.rd]

/-- A one-source R-format instruction: RB is not used. -/
def RFmt.info1 (f : RFmt) : Info where
  fieldsOk := f.w == 0 && f.rsv == 0 && f.rb == 0
  reads := [.d f.ra]
  writes := [.d f.rd]

/-- SEXT and ZEXT: RB is not used and W = 11b is reserved (07 R251). -/
def RFmt.infoExt (f : RFmt) : Info where
  fieldsOk := f.w != 3 && f.rsv == 0 && f.rb == 0
  reads := [.d f.ra]
  writes := [.d f.rd]

/-- The CRC steps use W. -/
def RFmt.infoCrc (f : RFmt) : Info where
  fieldsOk := f.rsv == 0
  reads := [.d f.ra, .d f.rb]
  writes := [.d f.rd]

/-- CMP: RD is not used, CC is written. -/
def RFmt.infoCmp (f : RFmt) : Info where
  fieldsOk := f.w == 0 && f.rsv == 0 && f.rd == 0
  reads := [.d f.ra, .d f.rb]
  writes := [.special 1]

/-- ADDC and SUBC read CC.C. -/
def RFmt.infoCarry (f : RFmt) : Info where
  fieldsOk := f.w == 0 && f.rsv == 0
  reads := [.d f.ra, .d f.rb, .special 1]
  writes := [.d f.rd]

/-- MULW and MULWU write an even pair (04 R136). -/
def RFmt.infoPair (f : RFmt) : Info where
  fieldsOk := f.w == 0 && f.rsv == 0 && f.rd.toNat % 2 == 0
  reads := [.d f.ra, .d f.rb]
  writes := [.d f.rd, .d (f.rd + 1)]

/-- I format. -/
def IFmt.info (f : IFmt) : Info where
  reads := [.d f.ra]
  writes := [.d f.rd]

/-- ADDVI reads its trap enables too (04 R115). -/
def IFmt.infoTrap (f : IFmt) : Info where
  reads := [.d f.ra, .special 9]
  writes := [.d f.rd]

/-- Shifts by immediate: IMM12 bits [11:6] must be 0 (07 R251). -/
def IFmt.infoShift (f : IFmt) : Info where
  fieldsOk := decide (f.imm.toNat < 64)
  reads := [.d f.ra]
  writes := [.d f.rd]

end Sys2Proof

namespace Sys2Proof.Machine

/-! ### Shared forms -/

/-- D[RD] := g(D[RA], D[RB]). -/
def State.binary (s : State) (i : StreamId) (f : RFmt) (g : Word64 → Word64 → Word64) : Host.Outcome State Fault Refusal :=
  s.compute i f.info fun r => r.setD f.rd (g (r.getD f.ra) (r.getD f.rb))

/-- D[RD] := g(D[RA]). -/
def State.unary (s : State) (i : StreamId) (f : RFmt) (g : Word64 → Word64) : Host.Outcome State Fault Refusal :=
  s.compute i f.info1 fun r => r.setD f.rd (g (r.getD f.ra))

/-- D[RD] := g(D[RA]) with an immediate. -/
def State.immediate (s : State) (i : StreamId) (f : IFmt) (g : Word64 → Word64) : Host.Outcome State Fault Refusal :=
  s.compute i f.info fun r => r.setD f.rd (g (r.getD f.ra))

/-- A shift by IMM12 bits [5:0]. -/
def State.shiftImm (s : State) (i : StreamId) (f : IFmt) (g : Word64 → Nat → Word64) : Host.Outcome State Fault Refusal :=
  s.compute i f.infoShift fun r => r.setD f.rd (g (r.getD f.ra) (f.imm.toNat % 64))

/-- IO when an exact signed result does not fit 64 bits (04 R134). -/
def overflows (x : Int) : FlagSet := ioFlag 4 x

/-- An overflow-checked operation with exact result `x` (04 R134). -/
def Regs.exact (r : Regs) (rd : BitVec 5) (x : Int) : FlagSet × Regs := (overflows x, r.setD rd (BitVec.ofInt 64 x))

/-- An integer divide or remainder: a divisor of 0 traps or sets IDZF; `x` is the exact result that IO is tested on (04 R137). -/
def State.divide (s : State) (i : StreamId) (f : RFmt) (g : Word64 → Word64 → Word64) (x : Word64 → Word64 → Int) :
    Host.Outcome State Fault Refusal :=
  s.instruction i f.infoTrap fun s k =>
    let r := s.regs k
    let a := r.getD f.ra
    let b := r.getD f.rb
    if b = 0 then
      if r.traps.getLsbD 6 then .trap 9 0 0 0
      else .next (s.setRegs k { r.setD f.rd (g a b) with fpcsr := r.fpcsr ||| idzf })
    else
      let fl := overflows (x a b)
      match arithTrap r fl with
      | some v => .trap v 0 0 fl
      | none => .next (s.setRegs k ((r.setD f.rd (g a b)).orFlags fl))

/-- CC.C alone (07 R217). -/
def Regs.setCarry (r : Regs) (c : Bool) : Regs := { r with cc := { r.cc with c := c } }

/-- The 128-bit product of MULW and MULWU to D[RD] and D[RD+1] (04 R136). -/
def Regs.setPair (r : Regs) (rd : BitVec 5) (p : BitVec 128) : Regs :=
  (r.setD rd (p.truncate 64)).setD (rd + 1) ((p >>> 64).truncate 64)

/-! ### Class 0h -/

/-- ADD (07 R252). -/
def execAdd (i : StreamId) (f : RFmt) (s : State) : Host.Outcome State Fault Refusal :=
  s.binary i f fun a b => a + b

/-- SUB (07 R252). -/
def execSub (i : StreamId) (f : RFmt) (s : State) : Host.Outcome State Fault Refusal :=
  s.binary i f fun a b => a - b

/-- ADDV (04 R134). -/
def execAddv (i : StreamId) (f : RFmt) (s : State) : Host.Outcome State Fault Refusal :=
  s.checked i f.infoTrap fun r => r.exact f.rd ((r.getD f.ra).toInt + (r.getD f.rb).toInt)

/-- SUBV (04 R134). -/
def execSubv (i : StreamId) (f : RFmt) (s : State) : Host.Outcome State Fault Refusal :=
  s.checked i f.infoTrap fun r => r.exact f.rd ((r.getD f.ra).toInt - (r.getD f.rb).toInt)

/-- ADDC: sum with CC.C, carry out to CC.C (04 R135). -/
def execAddc (i : StreamId) (f : RFmt) (s : State) : Host.Outcome State Fault Refusal :=
  s.compute i f.infoCarry fun r =>
    let n := (r.getD f.ra).toNat + (r.getD f.rb).toNat + bit01 r.cc.c
    (r.setD f.rd (BitVec.ofNat 64 n)).setCarry (2 ^ 64 ≤ n)

/-- SUBC: difference with CC.C as borrow, borrow out to CC.C (04 R135). -/
def execSubc (i : StreamId) (f : RFmt) (s : State) : Host.Outcome State Fault Refusal :=
  s.compute i f.infoCarry fun r =>
    let n : Int := (r.getD f.ra).toNat - (r.getD f.rb).toNat - bit01 r.cc.c
    (r.setD f.rd (BitVec.ofInt 64 n)).setCarry (n < 0)

/-- CMP (07 R217). -/
def execCmp (i : StreamId) (f : RFmt) (s : State) : Host.Outcome State Fault Refusal :=
  s.compute i f.infoCmp fun r => { r with cc := ccSub (r.getD f.ra) (r.getD f.rb) }

/-- MUL: the low 64 bits of the product. -/
def execMul (i : StreamId) (f : RFmt) (s : State) : Host.Outcome State Fault Refusal :=
  s.binary i f fun a b => a * b

/-- MULV (04 R134). -/
def execMulv (i : StreamId) (f : RFmt) (s : State) : Host.Outcome State Fault Refusal :=
  s.checked i f.infoTrap fun r => r.exact f.rd ((r.getD f.ra).toInt * (r.getD f.rb).toInt)

/-- MULH: the high 64 bits of the signed product. -/
def execMulh (i : StreamId) (f : RFmt) (s : State) : Host.Outcome State Fault Refusal :=
  s.binary i f fun a b => BitVec.ofInt 64 (a.toInt * b.toInt / 2 ^ 64)

/-- MULHU: the high 64 bits of the unsigned product. -/
def execMulhu (i : StreamId) (f : RFmt) (s : State) : Host.Outcome State Fault Refusal :=
  s.binary i f fun a b => BitVec.ofNat 64 (a.toNat * b.toNat / 2 ^ 64)

/-- MULW (04 R136). -/
def execMulw (i : StreamId) (f : RFmt) (s : State) : Host.Outcome State Fault Refusal :=
  s.compute i f.infoPair fun r => r.setPair f.rd ((r.getD f.ra).signExtend 128 * (r.getD f.rb).signExtend 128)

/-- MULWU (04 R136). -/
def execMulwu (i : StreamId) (f : RFmt) (s : State) : Host.Outcome State Fault Refusal :=
  s.compute i f.infoPair fun r => r.setPair f.rd ((r.getD f.ra).zeroExtend 128 * (r.getD f.rb).zeroExtend 128)

/-- DIVS: the quotient truncated toward zero; −2^63 ÷ −1 overflows (04 R137). -/
def execDivs (i : StreamId) (f : RFmt) (s : State) : Host.Outcome State Fault Refusal :=
  s.divide i f (fun a b => a.sdiv b) fun a b => a.toInt.tdiv b.toInt

/-- DIVU (04 R137). -/
def execDivu (i : StreamId) (f : RFmt) (s : State) : Host.Outcome State Fault Refusal :=
  s.divide i f (fun a b => a.udiv b) fun _ _ => 0

/-- REMS: the remainder takes the sign of the dividend (04 R137). -/
def execRems (i : StreamId) (f : RFmt) (s : State) : Host.Outcome State Fault Refusal :=
  s.divide i f (fun a b => a.srem b) fun _ _ => 0

/-- REMU (04 R137). -/
def execRemu (i : StreamId) (f : RFmt) (s : State) : Host.Outcome State Fault Refusal :=
  s.divide i f (fun a b => a.umod b) fun _ _ => 0

/-- AND (07 R252). -/
def execAnd (i : StreamId) (f : RFmt) (s : State) : Host.Outcome State Fault Refusal :=
  s.binary i f fun a b => a &&& b

/-- OR (07 R252). -/
def execOr (i : StreamId) (f : RFmt) (s : State) : Host.Outcome State Fault Refusal :=
  s.binary i f fun a b => a ||| b

/-- XOR (07 R252). -/
def execXor (i : StreamId) (f : RFmt) (s : State) : Host.Outcome State Fault Refusal :=
  s.binary i f fun a b => a ^^^ b

/-- ANDN (07 R252). -/
def execAndn (i : StreamId) (f : RFmt) (s : State) : Host.Outcome State Fault Refusal :=
  s.binary i f fun a b => a &&& ~~~b

/-- SHL (07 R252). -/
def execShl (i : StreamId) (f : RFmt) (s : State) : Host.Outcome State Fault Refusal :=
  s.binary i f fun a b => a <<< (b.toNat % 64)

/-- SHR (07 R252). -/
def execShr (i : StreamId) (f : RFmt) (s : State) : Host.Outcome State Fault Refusal :=
  s.binary i f fun a b => a >>> (b.toNat % 64)

/-- SAR (07 R252). -/
def execSar (i : StreamId) (f : RFmt) (s : State) : Host.Outcome State Fault Refusal :=
  s.binary i f fun a b => a.sshiftRight (b.toNat % 64)

/-- ROR (07 R252). -/
def execRor (i : StreamId) (f : RFmt) (s : State) : Host.Outcome State Fault Refusal :=
  s.binary i f fun a b => a.rotateRight (b.toNat % 64)

/-- MIN (07 R252). -/
def execMin (i : StreamId) (f : RFmt) (s : State) : Host.Outcome State Fault Refusal :=
  s.binary i f fun a b => if b.slt a then b else a

/-- MAX (07 R252). -/
def execMax (i : StreamId) (f : RFmt) (s : State) : Host.Outcome State Fault Refusal :=
  s.binary i f fun a b => if a.slt b then b else a

/-- MINU (07 R252). -/
def execMinu (i : StreamId) (f : RFmt) (s : State) : Host.Outcome State Fault Refusal :=
  s.binary i f fun a b => if b.ult a then b else a

/-- MAXU (07 R252). -/
def execMaxu (i : StreamId) (f : RFmt) (s : State) : Host.Outcome State Fault Refusal :=
  s.binary i f fun a b => if a.ult b then b else a

/-- POPC (07 R252). -/
def execPopc (i : StreamId) (f : RFmt) (s : State) : Host.Outcome State Fault Refusal :=
  s.unary i f fun a => BitVec.ofNat 64 (popBits 64 a.toNat)

/-- CLZ (07 R252). -/
def execClz (i : StreamId) (f : RFmt) (s : State) : Host.Outcome State Fault Refusal :=
  s.unary i f fun a => BitVec.ofNat 64 (leadZeros 64 a.toNat)

/-- CTZ (07 R252). -/
def execCtz (i : StreamId) (f : RFmt) (s : State) : Host.Outcome State Fault Refusal :=
  s.unary i f fun a => BitVec.ofNat 64 (leadZeros 64 (revBits 64 a.toNat))

/-- PARITY (04 R141). -/
def execParity (i : StreamId) (f : RFmt) (s : State) : Host.Outcome State Fault Refusal :=
  s.unary i f fun a => BitVec.ofNat 64 (popBits 64 a.toNat % 2)

/-- BREV (04 R141). -/
def execBrev (i : StreamId) (f : RFmt) (s : State) : Host.Outcome State Fault Refusal :=
  s.unary i f fun a => BitVec.ofNat 64 (revBits 64 a.toNat)

/-- SEXT (07 R251, R252). -/
def execSext (i : StreamId) (f : RFmt) (s : State) : Host.Outcome State Fault Refusal :=
  s.compute i f.infoExt fun r => r.setD f.rd (extend true (widthBytes f.w) (r.getD f.ra).toNat)

/-- ZEXT (07 R251, R252). -/
def execZext (i : StreamId) (f : RFmt) (s : State) : Host.Outcome State Fault Refusal :=
  s.compute i f.infoExt fun r => r.setD f.rd (extend false (widthBytes f.w) (r.getD f.ra).toNat)

/-- CRC32C (04 R140). -/
def execCrc32c (i : StreamId) (f : RFmt) (s : State) : Host.Outcome State Fault Refusal :=
  s.compute i f.infoCrc fun r => r.setD f.rd (crcStep false (r.getD f.ra) (lowBytes (r.getD f.rb) (widthBytes f.w)))

/-- CRC64 (04 R140). -/
def execCrc64 (i : StreamId) (f : RFmt) (s : State) : Host.Outcome State Fault Refusal :=
  s.compute i f.infoCrc fun r => r.setD f.rd (crcStep true (r.getD f.ra) (lowBytes (r.getD f.rb) (widthBytes f.w)))

/-! ### Class 1h -/

/-- ADDI (07 R252). -/
def execAddi (i : StreamId) (f : IFmt) (s : State) : Host.Outcome State Fault Refusal :=
  s.immediate i f fun a => a + simm f.imm

/-- ADDVI (04 R134). -/
def execAddvi (i : StreamId) (f : IFmt) (s : State) : Host.Outcome State Fault Refusal :=
  s.checked i f.infoTrap fun r => r.exact f.rd ((r.getD f.ra).toInt + f.imm.toInt)

/-- CMPI: RD is not used (07 R217, R252). -/
def execCmpi (i : StreamId) (f : IFmt) (s : State) : Host.Outcome State Fault Refusal :=
  s.compute i { fieldsOk := f.rd == 0, reads := [.d f.ra], writes := [.special 1] } fun r =>
    { r with cc := ccSub (r.getD f.ra) (simm f.imm) }

/-- ANDI: IMM12 zero-extended (07 R251). -/
def execAndi (i : StreamId) (f : IFmt) (s : State) : Host.Outcome State Fault Refusal :=
  s.immediate i f fun a => a &&& f.imm.zeroExtend 64

/-- ORI: IMM12 zero-extended (07 R251). -/
def execOri (i : StreamId) (f : IFmt) (s : State) : Host.Outcome State Fault Refusal :=
  s.immediate i f fun a => a ||| f.imm.zeroExtend 64

/-- XORI: IMM12 zero-extended (07 R251). -/
def execXori (i : StreamId) (f : IFmt) (s : State) : Host.Outcome State Fault Refusal :=
  s.immediate i f fun a => a ^^^ f.imm.zeroExtend 64

/-- SHLI (07 R251, R252). -/
def execShli (i : StreamId) (f : IFmt) (s : State) : Host.Outcome State Fault Refusal :=
  s.shiftImm i f fun a n => a <<< n

/-- SHRI (07 R251, R252). -/
def execShri (i : StreamId) (f : IFmt) (s : State) : Host.Outcome State Fault Refusal :=
  s.shiftImm i f fun a n => a >>> n

/-- SARI (07 R251, R252). -/
def execSari (i : StreamId) (f : IFmt) (s : State) : Host.Outcome State Fault Refusal :=
  s.shiftImm i f fun a n => a.sshiftRight n

/-- RORI (07 R251, R252). -/
def execRori (i : StreamId) (f : IFmt) (s : State) : Host.Outcome State Fault Refusal :=
  s.shiftImm i f fun a n => a.rotateRight n

/-! ### Class Ah -/

/-- IMMS (07 R252). -/
def execImms (i : StreamId) (f : WFmt) (s : State) : Host.Outcome State Fault Refusal :=
  s.compute i { fieldsOk := f.rsv == 0, writes := [.d f.rd] } fun r => r.setD f.rd (f.imm.signExtend 64)

/-- IMMX (07 R252). -/
def execImmx (i : StreamId) (f : WFmt) (s : State) : Host.Outcome State Fault Refusal :=
  s.compute i { fieldsOk := f.rsv == 0, reads := [.d f.rd], writes := [.d f.rd] } fun r =>
    r.setD f.rd ((r.getD f.rd <<< 16) ||| f.imm.zeroExtend 64)

end Sys2Proof.Machine
end

