-- ==== Sys2Proof/Machine/Management.lean ====
section
/-!
DEFINITION. The management frame boundary: writes and commands take effect, trends are evaluated, and every value is published (12 R340,
R341, R364; 10 R293-R295; 06 R183, R195; 15 R435).
-/

namespace Sys2Proof.Machine

/-! ### Writes and commands (12 R340 steps 1 and 2) -/

/-- The flash device that an upload or a reservation reaches works while no program failure stands against it (log 38). -/
def State.flashFine (s : State) : Bool := !s.mgmt.failA && !s.mgmt.failB

/-- An accepted write of an RWP or WO object takes effect. -/
def State.applyDictWrite (s : State) (w : AcceptedWrite) : State :=
  match w.persist with
  | some p => s.putRwp w.key w.val p
  | none =>
    if w.key = (0x6040, 1) then s.uploadFirmware w.val s.flashFine
    else if w.key = (0x6040, 2) then s.uploadBoot w.val s.flashFine
    else if w.key = (0x8000, 1) then s.submitPass w.val
    else s

/-- A coverage run cut short by command: how many patterns it had applied, and how long it ran, the spec leaves to the run (log 13). -/
def State.abortCoverage (s : State) : State :=
  let (n, s) := s.draw
  let planned := programPlanned s.mgmt.rwp.bistProgram
  s.endCoverage ((Config.freeWord n).toNat % (max planned 1)) ((Config.freeWord n).toNat / 2 ^ 32)

/-- The command of an accepted CMD write starts. -/
def State.startCommand (s : State) (w : AcceptedWrite) : State :=
  let n := leNat w.val
  let k := w.key
  if k = (0x1010, 1) then (if n = 1 then s.askWarm else if n = 2 then s.askStandby else s.askLeave)
  else if k = (0x2002, 1) then s.setHeld (n == 1)
  else if k = (0x3036, 1) then s.queueRetire (BitVec.ofNat 32 n)
  else if k = (0x3050, 5) then (if n = 0xFFFF then s.deleteAll else s.deleteRecord n)
  else if k = (0x6000, 2) then s.blow n
  else if k = (0x7000, 2) then (if n = 1 then s.startCoverage else s.abortCoverage)
  else if k = (0x8000, 3) then s.endPasses
  else if k = (0x9000, 5) then s.restoreDefaults.setCmd k .done
  else if h : 0x6030 ≤ k.1 ∧ k.1 ≤ 0x6033 then s.attest ⟨k.1 - 0x6030, by omega⟩ w.val s.flashFine
  else s

/-- Whether an accepted write is a command. -/
def AcceptedWrite.isCmd (w : AcceptedWrite) : Bool :=
  w.persist.isNone && !(w.key == (0x6040, 1) || w.key == (0x6040, 2) || w.key == (0x8000, 1))

/-- The writes of the frame that ends take effect in their order of receipt, and then the commands start. -/
def State.applyAccepted (s : State) : State :=
  let ws := sortBy AcceptedWrite.stamp s.mgmt.accepted
  let s := { s with mgmt := { s.mgmt with accepted := [] } }
  let s := (ws.filter fun w => !w.isCmd).foldl State.applyDictWrite s
  (ws.filter AcceptedWrite.isCmd).foldl State.startCommand s

/-! ### Trends (10 R293-R295) -/

/-- One unit's trend: the count after the boundary, and whether it has reached its threshold. -/
def trendStep (t : Word32) (w thr leak : Nat) : Word32 × Bool :=
  let n := satAdd t w
  if thr ≤ n.toNat then (n, true) else (n - BitVec.ofNat 32 (min n.toNat leak), false)

/-- A unit whose retirement a boundary or a self-test decides: its record's FLAGS, and whether the port is lost (10 R295). -/
abbrev Hit := UnitRef × Byte × Bool

/-- Hits of one unit become one. -/
def joinHits (l : List Hit) : List Hit :=
  l.foldl (fun acc h =>
    if acc.any fun x => x.1 == h.1 then acc.map fun x => if x.1 = h.1 then (x.1, x.2.1 ||| h.2.1, x.2.2 || h.2.2) else x
    else acc ++ [h]) []

/-- 0 for what `m` maps to no logical number, else its logical number and 1. -/
def logicalKey {α : Type} [BEq α] (m : List α) (x : α) : Nat := if m.contains x then m.findIdx (· == x) + 1 else 0

/-- The order in which retirements of one clk are decided (01 R17): a unit that has no logical number stops being a spare first (log 148), then
by logical number. -/
def State.hitKey (s : State) (h : Hit) : Nat :=
  match h.1 with
  | .lane k l => 128 * k.val + logicalKey (s.slot k).laneMap.toList l
  | .slot k => match s.streamOf k with | some i => i.val + 1 | none => 0
  | .bank p b => 256 * p.val + logicalKey s.ports[p].bankMap.toList b
  | .port p => logicalKey s.repair.portMap p

def State.inOrder (s : State) (l : List Hit) : List Hit := sortBy s.hitKey (joinHits l)

/-- The hits of one kind are decided; the units that retire with them for want of a spare follow (01 R17). -/
def State.decideHits (s : State) (l : List Hit) : State × List Hit :=
  (s.inOrder l).foldl (fun (r : State × List Hit) h =>
    match h.1 with
    | .lane k x => match r.1.laneStep k x h.2.1 with | (s, up) => (s, if up then r.2 ++ [(.slot k, h.2.1, false)] else r.2)
    | .bank p b => match r.1.bankStep p b h.2.1 with | (s, up) => (s, if up then r.2 ++ [(.port p, h.2.1, false)] else r.2)
    | u => (r.1.decideUnit u h.2.1 h.2.2, r.2)) (s, [])

def isLane : UnitRef → Bool
  | .lane .. => true
  | _ => false

def isSlot : UnitRef → Bool
  | .slot _ => true
  | _ => false

def isBank : UnitRef → Bool
  | .bank .. => true
  | _ => false

def isPort : UnitRef → Bool
  | .port _ => true
  | _ => false

/-- Those of a list of one kind. -/
def ofKind (f : UnitRef → Bool) (l : List Hit) : List Hit := l.filter fun h => f h.1

def asHits (l : List UnitRef) : List Hit := l.map fun u => (u, 0, false)

/-- The lanes' trends, and those that have crossed. -/
def State.trendLanes (s : State) : State × List Hit :=
  let thr := s.mgmt.rwp.thresholds[0].toNat
  let leak := s.mgmt.rwp.thresholds[1].toNat
  let step (k : SlotId) (l : Fin 66) : Word32 × Bool :=
    let x := s.slot k
    if s.unitRetired (.lane k l) then (x.laneTrend[l], false) else trendStep x.laneTrend[l] x.laneWeight[l] thr leak
  ({ s with slots := Vector.ofFn fun (k : Fin 68) => { s.slots[k] with
      laneTrend := Vector.ofFn fun (l : Fin 66) => (step k l).1
      laneWeight := Vector.replicate 66 0 } },
    asHits ((List.finRange 68).flatMap fun k => ((List.finRange 66).filter fun l => (step k l).2).map fun l => .lane k l))

/-- The Stream slots' trends; those in `gone` retire with a lane. -/
def State.trendSlots (s : State) (gone : List Hit) : State × List Hit :=
  let thr := s.mgmt.rwp.thresholds[2].toNat
  let leak := s.mgmt.rwp.thresholds[3].toNat
  let step (k : SlotId) : Word32 × Bool :=
    let x := s.slot k
    if s.unitRetired (.slot k) || gone.any (fun h => h.1 == .slot k) then (x.trend, false) else trendStep x.trend x.weight thr leak
  ({ s with slots := Vector.ofFn fun (k : Fin 68) => { s.slots[k] with trend := (step k).1, weight := 0 } },
    asHits (((List.finRange 68).filter fun k => (step k).2).map .slot))

/-- The banks' trends. -/
def State.trendBanks (s : State) : State × List Hit :=
  let thr := s.mgmt.rwp.thresholds[4].toNat
  let leak := s.mgmt.rwp.thresholds[5].toNat
  let step (p : PortId) (b : Fin 128) : Word32 × Bool :=
    let x := s.ports[p]
    if s.unitRetired (.bank p b) then (x.bankTrend[b], false) else trendStep x.bankTrend[b] x.bankWeight[b] thr leak
  ({ s with ports := Vector.ofFn fun (p : Fin 32) => { s.ports[p] with
      bankTrend := Vector.ofFn fun (b : Fin 128) => (step p b).1
      bankWeight := Vector.replicate 128 0 } },
    asHits ((List.finRange 32).flatMap fun p => ((List.finRange 128).filter fun b => (step p b).2).map fun b => .bank p b))

/-- The ports' trends, and the ports with uncorrectable reads from 8 distinct banks in the frame, which are lost; those in `gone` retire with a
bank. -/
def State.trendPorts (s : State) (gone : List Hit) : State × List Hit :=
  let thr := s.mgmt.rwp.thresholds[6].toNat
  let leak := s.mgmt.rwp.thresholds[7].toNat
  let step (p : PortId) : Word32 × Bool :=
    let x := s.ports[p]
    if s.unitRetired (.port p) || gone.any (fun h => h.1 == .port p) then (x.trend, false) else trendStep x.trend x.weight thr leak
  ({ s with ports := Vector.ofFn fun (p : Fin 32) => { s.ports[p] with trend := (step p).1, weight := 0, badBanks := [] } },
    ((List.finRange 32).filter fun p => 8 ≤ s.ports[p].badBanks.length).map (fun p => (.port p, 0, true))
      ++ asHits (((List.finRange 32).filter fun p => (step p).2).map .port))

/-- Step 3, kind by kind: the units whose retirement is decided whatever their trend, those that retire for want of a spare, and those whose trend
has crossed; records not yet in flash are written again (10 R293, R295; 01 R15, R17). -/
def State.evaluate (s : State) : State :=
  let fs := s.repair.failed
  let s := { s with repair := { s.repair with failed := [] } }
  let (s, lanes) := s.trendLanes
  let (s, up) := s.decideHits (ofKind isLane fs ++ lanes)
  let (s, slots) := s.trendSlots up
  let (s, _) := s.decideHits (ofKind isSlot fs ++ up ++ slots)
  let (s, banks) := s.trendBanks
  let (s, up) := s.decideHits (ofKind isBank fs ++ banks)
  let (s, ports) := s.trendPorts up
  (s.decideHits (ofKind isPort fs ++ up ++ ports)).1.saveRecords

/-! ### What the sensors show (06 R195; 15 R435) -/

/-- Each port reads its devices' temperature, until it is retired and its field trip has completed (05 R440); of a port spare,
which has no field trip, until its retirement takes effect (DESIGN CHOICE, log 155). P_adm follows P_lim and T_j; event 426 when 5000h/03h takes a new value, event 427 at 95 °C or above. -/
def State.sense (s : State) (x : Sensors) : State :=
  let old := s.tt.pAdm10 / 10
  let p := admittedPower s.mgmt.rwp.pLim.toNat x.tj
  let s := { s with
    mgmt := { s.mgmt with sensors := x }
    tt := { s.tt with pAdm10 := p, tj := x.tj }
    ports := Vector.ofFn fun (q : Fin 32) =>
      let y := s.ports[q]
      if y.state = .retired then y else { y with temp := x.portTemp[q] } }
  let s := if p / 10 = old then s else s.raise 426
  if 95 ≤ x.tj then s.raise 427 else s

/-! ### READY (06 R183; 13 R376) -/

/-- The module becomes READY: the bell search starts its wait for B<0>. -/
def State.becomeReady (s : State) : State :=
  let t := s.tt.params.period
  { s with
    power := { s.power with ready := true, result := 1, duration := s.power.startMs }
    tt := { s.tt with timer := if s.tt.source then t else 2 * t } }

/-! ### The roll call (12 R364) -/

/-- STATE of the roll call. -/
def State.rollState (s : State) : Byte :=
  match s.power.phase with
  | .run => if s.repair.ladder = .ended then 2 else if s.power.ready && !s.bist.running then 1 else 0
  | .recovery => 2
  | .starting => 0
  | _ => if s.power.result = 0 ∨ s.power.result = 1 then 3 else 2

/-- FAULT_N is driven low while the roll call's STATE is 02h (15 R429). -/
def State.faultN (s : State) : Bool := s.mgmt.lastState != 2

/-- PWRGD, a push-pull output that is not driven without AUX (15 R428). -/
def State.pwrgdPin (s : State) : Option Bool := if s.power.phase = .off then none else some s.power.pwrgd

/-- XP_PERST#: without AUX it is not driven; it is low from AUX on until step 5 of start-up, after which the expansion link trains (15 R428, R432). -/
def State.xpPerstN (s : State) : Option Bool := if s.power.phase = .off then none else some (s.power.phase == .run)

/-- FLAGS of the roll call. -/
def State.rollFlags (s : State) : Nat :=
  let m := s.mgmt
  b2n (s.journalState != 0) * 512 + b2n m.sawCheckstop * 256 + b2n (decide (95 ≤ s.tt.tj)) * 128
    + b2n (decide (m.persistSafe.toNat < m.persistLast.toNat)) * 64 + b2n m.sawHealth * 32
    + b2n s.repair.lostSince * 16 + b2n (s.repair.ladder == .ended) * 8
    + b2n (m.rwp.holdoverReport != 0 && decide (m.rwp.holdoverReport.toNat ≤ s.tt.holdPeriods.toNat)) * 4
    + b2n s.runningTrip.isSome * 2 + b2n s.unsaved

/-- Logical Streams whose core is checkstopped. -/
def State.checkstops (s : State) : Nat :=
  (List.finRange 64).foldl (fun n i =>
    match s.slotOf i with
    | some k => if (s.slot k).status = .checkstopped then n + 2 ^ i.val else n
    | none => n) 0

/-- The 64 bytes of the roll call; in module standby those of main power read 0. -/
def State.rollBytes (s : State) (state : Byte) : List Byte :=
  let on := s.power.phase == .run
  let z (n v : Nat) : List Byte := leBytes n (if on then v else 0)
  let top := (List.finRange 64).foldl (fun m i => max m (s.level i)) 0
  let b := leBytes 8 s.mgmt.rcSeq.toNat
    ++ z 8 s.tt.bellNum.toNat
    ++ [state, BitVec.ofNat 8 s.sec.life.code]
    ++ z 1 s.repair.ladder.code ++ z 1 s.present ++ z 1 s.tt.src.code ++ z 1 top
    ++ z 2 (s.tt.pAdm10 / 10) ++ z 2 (twos 16 s.tt.tj)
    ++ leBytes 2 s.rollFlags
    ++ z 1 s.holdState ++ [0, 0, 0]
    ++ z 8 s.avail.failed.toNat ++ z 8 s.avail.judged.toNat ++ z 8 s.checkstops ++ z 4 s.avail.good
  b ++ leBytes 4 (crc32c b)

/-- The roll call is published when its time or a change of STATE asks for it: event 428, and the broadcast. In run it joins the history in the
work area (01 R13). -/
def State.publishRoll (s : State) : State :=
  let m := s.mgmt
  let iv := m.rwp.rollInterval.toNat
  let st := s.rollState
  if !((iv != 0 && m.frames.toNat % iv == 0) || st != m.lastState || m.releaseRoll) then s
  else
    let s := { s with mgmt := { m with rcSeq := m.rcSeq + 1, lastState := st, releaseRoll := false } }
    let b := s.rollBytes st
    let s := if s.power.phase = .run then { s with work := { s.work with history := s.work.history ++ [b] } } else s
    let s := { s with mgmt := { s.mgmt with
      rollCall := b
      sawCheckstop := false
      sawHealth := false
      txq := if m.node ≠ 0 ∧ iv ≠ 0 then s.mgmt.txq ++ [(BitVec.ofNat 11 (0x480 + m.node.toNat), b)] else s.mgmt.txq } }
    s.raise 428

/-! ### The boundary -/

/-- What counts frames (12 R341, R353; 13 R370, R390). -/
def State.countFrame (s : State) : State :=
  let m := s.mgmt
  let age (x : TransportState) : TransportState :=
    { x with rd := x.rd.map fun r => { r with idle := r.idle + 1 }, wr := x.wr.map fun w => { w with idle := w.idle + 1 } }
  { s with
    mgmt := { m with
      frames := satAdd m.frames 1
      framesRelease := if s.power.phase = .run then satAdd m.framesRelease 1 else m.framesRelease
      can := age m.can
      mailbox := age m.mailbox }
    power := { s.power with
      sinceTrip := s.power.sinceTrip.map fun n => n + 1
      waited := if s.power.bellRung then s.power.waited + 1 else s.power.waited } }

/-- Step 4: every value is sampled and published. -/
def State.publish (s : State) : State :=
  let s := s.publishRoll
  { s with mgmt := { s.mgmt with pub := s.snapshot, seen := s.sample } }

/-- MGMT_FRAME_BOUNDARY after `dt` clk: the steps of R340 in order; requests received before it are checked first. -/
def execMgmtFrameBoundary (dt : Nat) (x : Sensors) (s : State) : Host.Outcome State Fault Refusal :=
  let s := s.elapse dt
  if s.power.phase = .off then .next s
  else
    let s := s.settle.countFrame
    let s := s.applyPass.applyAccepted
    let s := if s.power.phase = .run then s.evaluate.sense x else { s.saveRecords with mgmt := { s.saveRecords.mgmt with sensors := x } }
    let s := if s.power.phase = .run ∧ !s.power.ready then s.becomeReady else s
    .next s.publish

end Sys2Proof.Machine
end

