-- ==== Sys2Proof/Machine/MemoryWork.lean ====
section
/-!
DEFINITION. What memory does beside the booked work: recess slices, field trips, scrub, refresh, retries, and the loss of a device (05
R150-R155; 10 R292-R311; 13 R385, R386).
-/

namespace Sys2Proof.Machine

/-- The unit that a failing slice retires (10 R295, R308): a desk bank belongs to its slot; paths, hubs and the IOT have no spares. -/
def retiredBySlice : SliceUnit → Option UnitRef
  | .unit u => some u
  | .deskBank k _ => some (.slot k)
  | _ => none

/-- The units of the module, spares included, that a pass of the fixed plan covers (13 R385): 66 lanes, 32 desk banks, the logic and the network path of
each slot; 128 banks and the logic of each port; 4 tile hubs; two halves each of the dictionary store and the trace buffer; the rest of the IOT. The
spec does not print the plan, DESIGN CHOICE (log 157). -/
def unitCount : Nat := 68 * (66 + 32 + 1 + 1) + 32 * (128 + 1) + 4 + 2 + 2 + 1

/-- clk of this recess that a slice has spent on unit `u` before it left it. -/
def Bist.spentOn (b : Bist) (u : SliceUnit) : Nat := ((b.spent.find? fun e => e.1 == u).map Prod.snd).getD 0

/-- The slice may work on unit `u` now: at most 80,000 clk in one recess, all its stays added (13 R385). -/
def State.mayTest (s : State) (u : SliceUnit) : Bool :=
  s.tt.inRecess && !s.bist.barred.contains u
  && (if s.bist.unit = some u then decide (s.clk ≤ s.bist.since + 80000) else decide (s.bist.spentOn u < 80000))

/-- A step of a slice on unit `u`; a unit that has been tested for 80,000 clk is left until the next recess, and one to which the slice returns has
what it spent before behind it (13 R385, R387). The first step of a pass begins it. -/
def State.testUnit (s : State) (u : SliceUnit) : State :=
  if s.mayTest u then
    (if s.bist.unit = some u then s
    else
      let s := s.leaveUnit
      { s with bist := { s.bist with
        unit := some u
        since := s.clk - s.bist.spentOn u
        passFrom := s.bist.passFrom.or (some s.tt.bellNum.toNat) } })
  else if s.bist.unit = some u then
    let s := s.leaveUnit
    { s with bist := { s.bist with barred := s.bist.barred ++ [u] } }
  else s

/-- The slice of unit `u` has ended: with the last unit of the pass, 7002h/04h shows the periods that the pass took. -/
def State.endSlice (s : State) (u : SliceUnit) : State :=
  let s := s.leaveUnit
  let b := s.bist
  let now := s.tt.bellNum.toNat
  let first := b.passFrom.getD now
  let done := if b.passed.contains u then b.passed else b.passed ++ [u]
  if done.length < unitCount then { s with bist := { b with passed := done, passFrom := some first } }
  else { s with bist := { b with passed := [], passFrom := none, passPeriods := BitVec.ofNat 32 (now - first + 1) } }

/-- RECESS_SLICE_STEP: a step of a slice on unit `u`; a failing unit is retired at the next frame boundary (10 R295). Only a step of the unit under
test can be abandoned. -/
def execRecessSliceStep (u : SliceUnit) (o : SliceOutcome) (s : State) : Host.Outcome State Fault Refusal :=
  let b := s.bist
  if !s.mgmt.rwp.slices || s.sec.life = .void || !s.tt.open_ then .next s
  else
    match o with
    | .abandoned => if b.unit = some u then .next { s with bist := { b with stepsAbandoned := satAdd b.stepsAbandoned 1 } }.leaveUnit else .next s
    | .stepped => .next (s.testUnit u)
    | .completed =>
      if !s.mayTest u then .next (s.testUnit u)
      else .next (({ s with bist := { b with slicesDone := satAdd b.slicesDone 1 } } : State).endSlice u)
    | .failed =>
      if !s.mayTest u then .next (s.testUnit u)
      else .next (({ s with
        bist := { b with slicesFailed := satAdd b.slicesFailed 1 }
        repair := { s.repair with failed := s.repair.failed ++ (retiredBySlice u).toList.map fun v => (v, 4, false) } } : State).endSlice u)

/-- RECESS_END after `dt` clk: at B<n> + T_rec recess work stops, the desk scrubs have run, the unit under test is left, and the
seats of the period take effect. -/
def execRecessEnd (dt : Nat) (s : State) : Host.Outcome State Fault Refusal :=
  let s := s.elapse dt
  if s.tt.inRecess ∧ s.tt.params.tRec ≤ s.now then
    let s := s.leaveUnit
    .next { s with
      slots := s.slots.map fun x => x.scrubDesk s.tt.params.tRec
      tt := { s.tt with inRecess := false, seats := s.seatPlan s.tt.bellNum.toNat }
      bist := { s.bist with barred := [], spent := [] } }
  else .next s

/-! ### Field trips (05 R150; 10 R304) -/

/-- The block that the trip's next copy moves; a bank of a port spare keeps none, and its trip copies none (01 R17). -/
def State.tripBlock (s : State) (t : FieldTrip) : Nat :=
  let p := s.portCount
  let l := s.repair.portMap.findIdx (· == t.srcPort)
  if t.kind = 1 then
    let lb := match t.srcBank with
      | some b => s.ports[t.srcPort].bankMap.toList.findIdx (· == b)
      | none => 0
    p * (127 * t.moved + lb) + l
  else if t.kind = 2 then t.moved * p + l
  else
    let moves := rebuildBlocks - stageBlocks
    if t.moved < stageBlocks then t.moved
    else if t.moved < stageBlocks + moves then rebuildBlocks - 1 - (t.moved - stageBlocks)
    else t.moved - stageBlocks - moves

/-- The error state of the blocks after a copy of `b`, which read uncorrectable or not: the copy is sound or poison, and a row of the bank spare
that it overwrote has no state of its own any more (10 R304). -/
def LocalMem.copied (m : LocalMem) (t : FieldTrip) (b : Nat) (bad : Bool) : LocalMem :=
  let row := spareBlock t.srcPort t.moved
  let keep (l : List Nat) : List Nat := if t.kind = 1 then l.erase row else l
  { m with
    bad := keep (if bad then insertNat b m.bad else m.bad)
    soft := keep (m.soft.erase b)
    writeBacks := m.writeBacks.filter fun w => w.1 != b && !(t.kind == 1 && w.1 == row) }

/-- Whether the copy that the rebuild makes next places a staged block (05 R150 phase 3). -/
def FieldTrip.places (t : FieldTrip) : Bool := t.kind == 3 && decide (rebuildBlocks ≤ t.moved)

/-- Block `b` has been placed: its staged copy stays behind in the staging area (05 R150). -/
def State.leaveStaged (s : State) (b : Nat) (bad : Bool) : State :=
  let n := stagingBase + b
  { s with mem := { s.mem with
    mem := s.mem.mem.writeBytes (64 * n) (s.mem.mem.readBytes (64 * b) 64)
    bad := if bad then insertNat n s.mem.bad else s.mem.bad.erase n
    soft := s.mem.soft.erase n } }

/-- FIELD_TRIP_COPY: one block is read at its home and written to the spare; its home moves when the write commits. With the last copy of a
rebuild the management controller writes the mode-29 work area (05 R150 phase 4). The last copy raises event 422. -/
def execFieldTripCopy (committed : Bool) (s : State) : Host.Outcome State Fault Refusal :=
  match s.repair.trips with
  | [] => .next s
  | t :: ts =>
    if !s.tt.inRecess || t.began.isNone || decide (t.total ≤ t.moved) then .next s
    else
      let b := s.tripBlock t
      let holds := t.kind = 3 ∨ s.repair.portMap.contains t.srcPort
      let bad := holds && s.blockBad b
      let s := if holds then (s.touchBlocks [b]).1 else s
      if !committed then .next s
      else
        let last := t.moved + 1 = t.total
        let s := if t.places then s.leaveStaged b bad else s
        let s := ({ s with
          mem := if holds then s.mem.copied t b bad else s.mem
          work := { s.work with in29 := s.work.in29 || (t.kind == 3 && last) }
          repair := { s.repair with
            trips := { t with moved := t.moved + 1, poisoned := if bad then t.poisoned + 1 else t.poisoned } :: ts } } : State).logTrips
        .next (if last then s.raise 422 else s)

/-! ### Scrub, refresh and retries -/

/-- The number of a block that an active port keeps: of the interleave and the work area, or of a bank spare that is in no use (05 R149, R155). -/
def State.blockOf (s : State) (b : MemBlock) : Option Nat :=
  match b with
  | .mapped n => if n < 983040 * s.portCount * 127 then some n else none
  | .spare p row =>
    if row < 983040 ∧ s.repair.portMap.contains p ∧ s.ports[p].spareBank ≠ 0xFF then some (spareBlock p row) else none

/-- The corrected write-back of block `n` that is scheduled is made; a lost port takes none (05 R154, R155; 10 R310). -/
def State.writeBack (s : State) (n : Nat) : State :=
  match s.mem.writeBacks.find? fun w => w.1 == n with
  | none => s
  | some w =>
    let m := s.mem.dropWriteBack n
    if s.ports[(s.homeOf n).1].gone then { s with mem := m }
    else { s with mem := { m with mem := m.mem.writeBytes (64 * n) w.2, bad := m.bad.erase n, soft := m.soft.erase n } }

/-- SCRUB: a slot for block `n`. It makes the corrected write-back that a read of the block has scheduled, else it reads the block and writes it back
when it was corrected; a write-back that a write has overtaken is dropped (05 R154, R155). Which slot makes a scheduled write-back is open: DESIGN
CHOICE (log 170). -/
def execScrub (b : MemBlock) (overtaken : Bool) (s : State) : Host.Outcome State Fault Refusal :=
  match s.blockOf b with
  | none => .next s
  | some n =>
    if s.power.phase ≠ .run then .next s
    else
      let s := if s.mem.writeBacks.any fun w => w.1 == n then s else (s.touchBlocks [n]).1
      if overtaken then .next { s with mem := s.mem.dropWriteBack n } else .next (s.writeBack n)

/-- The bytes of block `n` that are wrong. -/
def LocalMem.wrong (m : LocalMem) (n : Nat) : List (Fin 68) :=
  if m.soft.contains n then ((m.errs.find? fun e => e.1 == n).map Prod.snd).getD [] else []

/-- Block `n` reads corrected, with the wrong bytes `w`. -/
def LocalMem.correctable (m : LocalMem) (n : Nat) (w : List (Fin 68)) : LocalMem :=
  { m with soft := insertNat n m.soft, errs := (m.errs.filter fun e => e.1 != n) ++ [(n, w)] }

/-- An error hits bytes of block `n`: with those that are wrong already, one or two are corrected, and of more the syndrome decides, which the operand
gives (05 R153; log 158). -/
def LocalMem.hit (m : LocalMem) (n : Nat) (hit : List (Fin 68)) (e : BlockError) : LocalMem :=
  let w := (m.wrong n ++ hit).eraseDups
  if w.length ≤ 2 then m.correctable n w
  else
    match e with
    | .detected => { m with bad := insertNat n m.bad, soft := m.soft.erase n }
    | .miscorrected d f => ({ m with mem := m.mem.writeBytes (64 * n) d }).correctable n f

/-- What an error that has arisen leaves (log 139): a block reads corrected or uncorrectable, or as other data that are taken for corrected (05
R153); a word reads with its error; a row is marked for the start-up to come, once (05 R156; 10 R292); the rest is counted. -/
def State.upset (s : State) (u : Upset) : State :=
  match u with
  | .block b hit e =>
    match s.blockOf b with
    | none => s
    | some n => if s.mem.bad.contains n then s else { s with mem := s.mem.hit n hit e }
  | .deskWord k w double => s.modSlot k fun x =>
      { x with desk := { x.desk with
        bad := if double then insertNat w x.desk.bad else x.desk.bad
        soft := if double then x.desk.soft.erase w else if x.desk.bad.contains w then x.desk.soft else insertNat w x.desk.soft } }
  | .tableWord k w double => s.modSlot k fun x =>
      { x with
        tableBad := if double then insertNat w x.tableBad else x.tableBad
        tableSoft := if double then x.tableSoft else insertNat w x.tableSoft }
  | .row p bank row =>
    if s.flash.rows.contains (p, bank, row) then s
    else ({ s with flash := { s.flash with rows := s.flash.rows ++ [(p, bank, row)] } } : State).chargeBank p bank 128
  | .onDie p => s.modPort p fun x => { x with onDie := x.onDie + 1 }
  | .flit b => s.chargePort (s.homeOf b).1 1
  | .iot unc => s.countHealth (if unc then 5 else 4)
  | .flashPage => s.countHealth 2

/-- REFRESH: a per-bank refresh takes its slot and changes no state of its own (05 R152, R157); the row carries the errors that have arisen since
the refresh before it, which no row of the table brings about (DESIGN CHOICE, log 139). -/
def execRefresh (_p : PortId) (r : BankRefresh) (s : State) : Host.Outcome State Fault Refusal :=
  if !r.upsets.all Upset.ok then .fault .illFormed
  else if s.power.phase ≠ .run then .next s
  else .next (r.upsets.foldl State.upset s)

/-- A retry that failed was the last one. A read is uncorrectable: it counts now, one whose flit was bad as that flit (10 R292), and its reader meets
the error, DATA 03h of a flit and else 01h, when it takes the data (05 R154; 10 R299). A write leaves poison. -/
def State.lastRetryFails (s : State) (r : RetryOp) : State :=
  let s := if r.kind = .flit then s.chargePort (s.homeOf r.block).1 16 else s
  if r.write then
    let s := { s with mem := { s.mem with bad := insertNat r.block s.mem.bad, soft := s.mem.soft.erase r.block } }
    s.notePoisonedWrite r.block
  else
    let s := if r.kind = .flit then s else s.noteUncorrectable r.block
    let f := (r.block, if r.kind = .flit then 3 else 1)
    { s with mem := { s.mem with failed := s.mem.failed.filter (fun e => e.1 != r.block) ++ [f] } }

/-- Link-CRC failures cured by a retry (05, PORT.ERRCNT; 10 R292). -/
def State.noteCured (s : State) (r : RetryOp) : State :=
  let p := (s.homeOf r.block).1
  let n := r.access - 1
  let s := s.modPort p fun x => if r.write then { x with edcWr := x.edcWr.add n } else { x with edcRd := x.edcRd.add n }
  s.chargePort p n

/-- BLOCK_RETRY: one retry of a block access, which is metered and counts nothing toward ENERGY (06 R196). Each beyond the first counts and extends
its booking (05 R154; 06 R202); a late one exhausts the client's reserve (10 R298). Two results that disagree, or a read-back that does, are
retried in reconstruction mode only (10 R303). -/
def execBlockRetry (r : RetryOp) (s : State) : Host.Outcome State Fault Refusal :=
  if r.access < 2 then .fault .illFormed
  else if s.power.phase ≠ .run ∨ (r.kind = .disagree ∧ !s.reconstructing r.block) then .next s
  else
    let s := match r.client with
      | some c => s.modClient c fun x => x.meterOnly 1300
      | none => s
    let s := if r.kind = .flit then s.chargePort (s.homeOf r.block).1 16 else s
    let s := if 2 < r.access then
        let s := { s with avail := { s.avail with retries := satAdd s.avail.retries 1 } }
        match r.client with
        | some c => s.extendBooking c 1100
        | none => s
      else s
    let s := if r.late then
        let s := { s with avail := { s.avail with lateRetries := satAdd s.avail.lateRetries 1 } }
        match r.client with
        | some c => s.exhaust c
        | none => s
      else s
    if r.cured then .next (if r.kind = .link then s.noteCured r else s)
    else if r.kind = .reread ∨ 4 ≤ r.access then .next (s.lastRetryFails r)
    else .next s

/-! ### Sudden losses (10 R295, R310) -/

/-- A port that the next frame boundary retires as lost. -/
def State.losePort (s : State) (p : PortId) : State :=
  { s with repair := { s.repair with failed := s.repair.failed ++ [(.port p, 0, true)] } }

/-- DEVICE_FAILURE: from now every read of a block whose home is on the port is uncorrectable. -/
def execDeviceFailure (p : PortId) (s : State) : Host.Outcome State Fault Refusal :=
  if s.power.phase ≠ .run ∨ s.ports[p].dead then .next s
  else .next ((s.modPort p fun x => { x with dead := true }).losePort p)

/-- PORT_TRAINING_FAILURE: PORT.LINKSTAT.TRAIN becomes 11b in run. -/
def execPortTrainingFailure (p : PortId) (s : State) : Host.Outcome State Fault Refusal :=
  if s.power.phase ≠ .run ∨ s.ports[p].train ≠ .trained then .next s
  else .next ((s.modPort p fun x => { x with train := .failed }).losePort p)

end Sys2Proof.Machine
end

