-- ==== Sys2Proof/Machine/PowerOps.lean ====
section
/-!
DEFINITION. Supplies, start-up, resets of the main domain and of the host link, and the TAP (13 R368-R394; 11 R317, R318; 14 R422; 15 R429).
-/

namespace Sys2Proof.Machine

/-! ### What a reset leaves (13 R393) -/

/-- M1 to M7 are zero until the first release since AUX on (14 R402). -/
def Security.measured (x : Security) : Vector (BitVec 256) 8 :=
  if x.released then x.meas else Vector.ofFn fun (i : Fin 8) => if i.val = 0 then x.meas[i] else 0

/-- The main rails go off: the main-cycle column of the master table, and module standby. A device that is dead stays dead (10 R310). -/
def State.mainOff (s : State) : State :=
  { s with
    clk := 0
    power := { s.power with
      phase := .standby
      pwrgd := false
      warmPending := false
      standbyPending := false
      bellRung := false
      waited := 0
      leaveAsked := false
      ready := false }
    sec := { s.sec with meas := s.sec.measured, grants := Vector.replicate 64 none, lastPass := 0, pass := none, accepted := none }
    mgmt := { s.mgmt with
      framesRelease := 0
      mailbox := TransportState.reset
      cmds := CmdStatuses.reset
      events := Vector.replicate 512 0
      health := Vector.replicate 7 0 }
    slots := Vector.replicate 68 Slot.reset
    ports := s.ports.map fun p => { Port.reset with dead := p.dead }
    mem := ⟨Mem.zero, [], [], [], [], []⟩
    work := WorkArea.reset
    repair := { Repair.reset with toSave := s.repair.toSave }
    tt := Timetable.reset
    avail := Avail.reset
    host := { HostLink.reset with perstN := s.host.perstN }
    sm := ServiceMatrix.reset
    xp := Expansion.reset
    table := LiveTable.reset
    dbg := DebugUnit.reset
    bist := Bist.reset }

/-- The warm column: GDDR7 and desk contents, the work area, and the PCIe link and its configuration stay. The field trips are those of the
progress log in the work area; one that had begun goes on in the first recess after B<0> (13 R394). -/
def State.warmCleared (s : State) : State :=
  let trips := s.work.log.map fun t => { t with began := t.began.map fun _ => 0, notBefore := 0 }
  { s with
    clk := 0
    power := { s.power with
      warmPending := false
      standbyPending := false
      bellRung := false
      waited := 0
      ready := false }
    sec := { s.sec with grants := Vector.replicate 64 none, lastPass := 0, pass := none, accepted := none }
    mgmt := { s.mgmt with
      framesRelease := 0
      mailbox := TransportState.reset
      cmds := CmdStatuses.reset
      events := Vector.replicate 512 0
      health := Vector.replicate 7 0 }
    slots := s.slots.map fun x => { Slot.reset with desk := { Desk.reset with mem := x.desk.mem, bad := x.desk.bad, soft := x.desk.soft } }
    ports := s.ports.map fun p => { Port.reset with dead := p.dead }
    mem := { s.mem with writeBacks := [] }
    repair := { Repair.reset with
      toSave := s.repair.toSave
      trips := trips
      withdrawn := s.repair.withdrawn
      withdrawAt := if trips.any fun t => t.kind == 3 then some 0 else none
      degradedAfter := if trips.isEmpty then none else some 1
      rebuildAfter := if trips.any fun t => t.kind == 3 then some 1 else none }
    tt := Timetable.reset
    avail := Avail.reset
    host := { s.host with
      pairs := Vector.replicate 16 QueuePair.reset
      sqMem := Mem.zero
      mbReq := Vector.replicate 64 0
      mbResp := Vector.replicate 64 0
      mbUnread := false }
    sm := ServiceMatrix.reset
    xp := Expansion.reset
    table := LiveTable.reset
    dbg := DebugUnit.reset
    bist := Bist.reset }

/-- A start-up fails: the main rails go off, and the result stands in 1010h/03h (13 R376, R377). -/
def State.failStart (s : State) (code : Byte) : State :=
  { s.mainOff with power := { s.mainOff.power with result := code } }

/-- A thermal trip (13 R391; 15 R429, R435); `starting`: it strikes before READY. -/
def State.trip (s : State) (starting : Bool) : State :=
  let s := s.mainOff
  { s with power := { s.power with
    result := if starting then 0x60 else s.power.result
    cause := 4
    thermtripN := false
    sinceTrip := some 0
    trips := satAdd s.power.trips 1 } }

/-! ### Start-up (13 R371-R376) -/

/-- What the instruction in the instruction register drives while boundary scan may (`may`): EXTEST and CLAMP the pins from the boundary cells, and
HIGHZ releases them; otherwise they act as BYPASS (14 R422). -/
def Tap.settle (t : Tap) (may : Bool) : Tap :=
  { t with driven := may && (t.ir == .extest || t.ir == .clamp), highz := may && t.ir == .highz }

/-- Step 2: the life-cycle state takes effect, with it what boundary scan may drive, and M4 is taken (13 R379; 14 R402, R422). -/
def State.loadFuses (s : State) : State :=
  let m4 := Config.shake256 (Config.optionFuses ++ [BitVec.ofNat 8 s.fuses.life.code] ++ s.fuses.factory.flatMap recordBytes)
  { s with
    sec := { s.sec with life := s.fuses.life, meas := s.sec.meas.set 4 m4 }
    tap := s.tap.settle s.fuses.life.open_ }

/-- The bank with the higher version whose image verifies, a page that fails its CRC excepted; A when both have the same (13 R373). -/
def State.bootBank (s : State) (o : StartupObs) : Option Byte :=
  let a := s.flash.bootA.verified && !o.badPageA
  let b := s.flash.bootB.verified && !o.badPageB
  if a && b then some (if s.flash.bootA.version.toNat < s.flash.bootB.version.toNat then 1 else 0)
  else if a then some 0
  else if b then some 1
  else none

/-- Each page that fails its CRC counts (13 R373; 12 R365). -/
def State.countPages (s : State) (o : StartupObs) : State :=
  let s := if o.badPageA then s.countHealth 2 else s
  if o.badPageB then s.countHealth 2 else s

/-- The field records that are valid in either device, and their sequence numbers (13 R373). -/
def Flash.valid (f : Flash) (o : StartupObs) : List (Nat × RepairRec) :=
  f.fieldA.filter (fun e => !o.badRecords.contains (false, e.1)) ++ f.fieldB.filter fun e => !o.badRecords.contains (true, e.1)

/-- Each of these records once, in sequence order. -/
def inSequence (l : List (Nat × RepairRec)) : List RepairRec := (sortBy Prod.fst l).eraseDups.map Prod.snd

/-- The field records that the module uses (13 R373). -/
def Flash.validField (f : Flash) (o : StartupObs) : List RepairRec := inSequence (f.valid o)

/-- The bytes of a journal record for M5 (12 R359; their layout is the model's, log 39). -/
def JournalRec.bytes (r : JournalRec) : List Byte :=
  let b := leBytes 2 r.key.1 ++ leBytes 1 r.key.2 ++ leBytes 4 r.val.length ++ r.val ++ leBytes 4 r.persist.toNat
  b ++ leBytes 4 (crc32c b)

/-- The RWP objects take the values of the records that the two devices hold; the first start-up in RETURNED gives them their defaults (12 R360; 14 R405). -/
def State.loadObjects (s : State) : State :=
  let s := { s with mgmt := { s.mgmt with rwp := loadRwp (s.flash.journalA ++ s.flash.journalB) } }
  if s.sec.life = .returned ∧ !s.fuses.returnedOnce then { s with fuses := { s.fuses with returnedOnce := true } }.restoreDefaults else s

/-- The live table is built from the images that validate and pass their flash check; it is not sealed yet (09 R283). -/
def State.buildTable (s : State) (o : StartupObs) : State :=
  let im (i : Fin 64) : List Byte := s.mgmt.rwp.images[i]
  let live (i : Fin 64) : List Byte := if (im i).isEmpty || o.badImages.contains i || imageReason i (im i) != 0 then [] else im i
  let bytes := (List.finRange 64).flatMap fun i => leBytes 2 (live i).length ++ live i
  { s with table := {
    sealed := false
    slots := Vector.ofFn fun (i : Fin 64) => imageWords (live i)
    skipped := BitVec.ofNat 8 ((List.finRange 64).filter fun i => !(im i).isEmpty && (live i).isEmpty).length
    digest := Config.shake256 bytes } }

/-- Step 3 in the bank `bank`: objects, decode table, field records, and M1, M5 and M6; the first start-up in RETURNED has just written every record anew
(14 R402, R405). Records that are not in flash by now are lost (10 R309; for
want of a working device, log 169), but those of field trips that go on after a warm reset (13 R394). -/
def State.configure (s : State) (bank : Byte) (o : StartupObs) : State :=
  let first := s.fuses.returnedOnce
  let s := (s.loadObjects.buildTable o).saveRecords
  let restored := if s.fuses.returnedOnce && !first then s.mgmt.toPersist else []
  let s := { s with flash := { s.flash with field := s.flash.validField o } }
  let rs := compact (s.flash.journalA ++ (s.flash.journalB.filter fun r => !s.flash.journalA.contains r) ++ restored)
  let boot := if bank = 1 then s.flash.bootB else s.flash.bootA
  let key := s.mgmt.rwp.ownerKey
  let m5 := (sortBy (fun (r : JournalRec) => 256 * r.key.1 + r.key.2) rs).flatMap JournalRec.bytes
  let d6 := Config.shake256 (if key.isEmpty then List.replicate 32 0 else key)
  let meas := ((s.sec.meas.set 1 (Config.shake256 boot.bytes)).set 5 (Config.shake256 m5)).set 6 d6
  { s with
    power := { s.power with bank := bank }
    repair := { s.repair with toSave := s.repair.toSave.filter fun r => s.repair.trips.any fun t => t.entry == r }
    sec := { s.sec with meas := meas } }

/-- Retirements decided in a start-up from standby take effect at once, in the order of recording: no memory holds data, and no field trip follows
(12 R366; 13 R374, R375). -/
def State.settleRepairs (s : State) : State :=
  let decided := s.repair.subs.map Substitution.entry ++ s.repair.trips.map FieldTrip.entry
  let es := s.recorded.filter decided.contains
  let ended := s.repair.endAtBell
  let s := es.foldl State.applyRecord s
  { s with
    work := { s.work with log := [] }
    repair := { s.repair with
      field := s.repair.field ++ es
      subs := []
      trips := []
      withdrawAt := none
      degradedAfter := none
      rebuildAfter := none
      endAtBell := false
      ladder := if ended then .ended else s.repair.ladder }
    tt := Timetable.reset }

/-- Units that a step of start-up finds failed, kind by kind; a spare among them stops being a spare first (13 R374; 01 R17). -/
def State.retireAll (s : State) (fs : List Hit) : State :=
  let (s, up) := s.decideHits (ofKind isLane fs)
  let (s, _) := s.decideHits (ofKind isSlot fs ++ up)
  let (s, up) := s.decideHits (ofKind isBank fs)
  (s.decideHits (ofKind isPort fs ++ up)).1

/-- Every desk is written with zeros and valid check bits (13 R374). -/
def State.zeroDesks (s : State) : State :=
  { s with slots := s.slots.map fun x => { x with desk := { x.desk with mem := Mem.zero, bad := [], soft := [] } } }

/-- Step 4: the power-up program's report, M3, and the units that fail (13 R374, R380). -/
def State.selfTest (s : State) (o : StartupObs) : State :=
  let w := s.mgmt.rwp
  let own := s.sec.life.open_ && w.bistAtPowerUp && bistImageOk w.bistProgram
  let v := if own then w.bistProgram else Config.fixedBistPlan
  let (n, s) := s.draw
  let us := (Config.freeWord n).toNat % 2 ^ 32
  let s := { s with
    bist := s.bist.report v w.bistMode (if own then 2 else 1) (min o.bistPatterns (programPlanned v)) us
    sec := { s.sec with meas := s.sec.meas.set 3 (Config.shake256 v) } }
  (s.retireAll (o.bistFailed.map fun u => (u, 4, false))).settleRepairs.zeroDesks

/-- Hard post-package repair: each port repairs the rows that are marked, while its devices report a resource (05 R156; 13 R375). -/
def State.hardRepair (s : State) (o : StartupObs) : State :=
  { s with flash := { s.flash with rows := (List.finRange 32).flatMap fun p =>
    (s.flash.rows.filter fun r => r.1 == p).drop o.pprFree[p].toNat } }

/-- The ports train and report, those that are retired excepted (05 R440). -/
def State.trainPorts (s : State) (o : StartupObs) : State :=
  { s with ports := Vector.ofFn fun (p : Fin 32) =>
    let x := s.ports[p]
    if x.state = .retired then { x with train := .untrained, pprLeft := 0, temp := 0 }
    else { x with train := if o.untrained.contains p then .failed else .trained, pprLeft := o.pprLeft[p], temp := o.portTemp[p] } }

/-- The ports whose training failed retire; in a warm reset they are lost and their field trips wait for B<0> (13 R375). -/
def State.retireUntrained (s : State) (lost : Bool) : State :=
  s.retireAll (((List.finRange 32).filter fun p => s.ports[p].train == .failed).map fun p => (.port p, 0, lost))

/-- Step 6: the table is sealed, the counters since release start, and the bell search begins (13 R376; 06 R183). -/
def State.release (s : State) (o : StartupObs) : State :=
  let s := s.endClk
  let w := s.mgmt.rwp
  let internal := w.bellSource == 1
  { s with
    clk := 0
    power := { s.power with phase := .run, ready := false, startMs := BitVec.ofNat 32 o.ms }
    flash := { s.flash with releases := satAdd s.flash.releases 1 }
    sec := { s.sec with meas := (s.sec.meas.set 2 s.table.digest).set 7 0, released := true }
    table := { s.table with sealed := true }
    mgmt := { s.mgmt with releaseRoll := true, events := Vector.replicate 512 0 }
    xp := { s.xp with link := 1 }
    tt := { Timetable.reset with
      params := ⟨w.periodUs.toNat, w.recess.toNat, w.reserve.toNat⟩
      source := internal
      src := if internal then .internal else .searching
      pAdm10 := admittedPower w.pLim.toNat s.mgmt.sensors.tj
      tj := s.mgmt.sensors.tj } }

/-- Steps 5 and 6 of a start-up from standby. -/
def State.coldTail (s : State) (o : StartupObs) : State :=
  let s := (((s.hardRepair o).trainPorts o).retireUntrained false).settleRepairs
  if s.repair.ladder = .ended then s.failStart 0x50
  else if o.thermal = some .release then s.trip true
  else s.release o

/-- Steps 2 to 6 of a start-up from standby. A thermal trip ends it in its step, with the steps before it done (13 R377, R379, R391). -/
def State.startUp (s : State) (o : StartupObs) : State :=
  if o.thermal = some .fuses then s.trip true
  else if !o.fuseOk then s.failStart 0x20
  else
    let s := s.loadFuses
    if s.sec.life = .void then s.failStart 0x21
    else if o.thermal = some .configuration then s.trip true
    else
      let s := s.countPages o
      match s.bootBank o with
      | none => s.failStart 0x30
      | some b =>
        let s := s.configure b o
        let s := { s with flash := { s.flash with kept := [] } }
        if o.thermal = some .selfTest then s.trip true
        else
          let s := (s.buildMaps s.flash.field).selfTest o
          if o.bistShared then s.failStart 0x40
          else if s.repair.ladder = .ended then s.failStart 0x50
          else if o.thermal = some .memory then s.trip true
          else s.coldTail o

/-- Steps 3, 5 and 6 of a module warm reset: the maps keep deleted records and use no other that is not valid, and the field trips that are not
complete are no part of them; their units show what they are from release (01 R24; 12 R367; 13 R373, R375, R394). -/
def State.warmStart (s : State) (o : StartupObs) : State :=
  if o.thermal.isSome && o.thermal != some .release then s.trip true
  else
    let s := s.countPages o
    match s.bootBank o with
    | none => s.failStart 0x30
    | some b =>
      let s := s.configure b o
      let waiting := s.repair.trips.map FieldTrip.entry
      let inEffect (r : RepairRec) : Bool := !waiting.contains r
      let s := s.buildMaps ((inSequence (s.flash.valid o ++ s.flash.kept)).filter inEffect)
      let s := { s with repair := { s.repair with field := s.flash.field.filter inEffect } }
      let s := (s.trainPorts o).retireUntrained true
      if s.repair.ladder = .ended || s.repair.endAtBell then s.failStart 0x50
      else if o.thermal = some .release then s.trip true
      else
        let s := s.release o
        ({ s with repair := { s.repair with
          trips := s.repair.trips.map fun t => { t with notBefore := 0 }
          withdrawAt := s.repair.withdrawAt.map fun _ => 0
          degradedAfter := s.repair.degradedAfter.map fun _ => 1
          rebuildAfter := s.repair.rebuildAfter.map fun _ => 1 } } : State).logTrips.showSources

/-- MAIN_POWER_GOOD: PWRGD rises, and the start-up runs to its end (13 R370-R377). The health counters start with it, so that what step 3 counts
stands at release (12 R365; 13 R373; log 147). -/
def execMainPowerGood (o : StartupObs) (s : State) : Host.Outcome State Fault Refusal :=
  if s.power.phase ≠ .enabling then .next s
  else .next ({ s with
    power := { s.power with pwrgd := true, phase := .starting }
    mgmt := { s.mgmt with health := Vector.replicate 7 0 } }.startUp o)

/-- PWRGD_TIMEOUT: PWRGD has not risen within 50 ms of the enable. -/
def execPwrgdTimeout (s : State) : Host.Outcome State Fault Refusal :=
  if s.power.phase = .enabling then .next (s.failStart 0x12) else .next s

/-! ### The bell of a warm reset or standby entry (13 R390) -/

/-- Every record that is due is posted, and written while its ring has room. -/
def State.postAll (s : State) : State :=
  let s := s.tt.due.foldl (fun (s : State) r =>
    match execCompletionRecordPost r.client s with
    | .next t => t
    | _ => s) s
  (List.finRange 16).foldl (fun (s : State) q =>
    s.host.pairs[q].wait.foldl (fun (s : State) _ =>
      match execCqEntryWrite q false s with
      | .next t => t
      | _ => s) s) s

/-- The bell has rung, and every assigned persist number is safe or 64 frames have passed. -/
def State.bellDone (s : State) : Bool :=
  s.power.phase == .run && s.power.bellRung && (decide (s.mgmt.persistLast.toNat ≤ s.mgmt.persistSafe.toNat) || decide (64 ≤ s.power.waited))

/-- WARM_RESET_EXECUTE. -/
def execWarmResetExecute (o : StartupObs) (s : State) : Host.Outcome State Fault Refusal :=
  if s.bellDone && s.power.warmPending then
    let s := s.postAll.warmCleared
    .next ({ s with power := { s.power with phase := .starting, cause := 5 } }.warmStart o)
  else .next s

/-- STANDBY_ENTRY_EXECUTE. -/
def execStandbyEntryExecute (s : State) : Host.Outcome State Fault Refusal :=
  if s.bellDone && s.power.standbyPending && !s.power.warmPending then
    let s := s.postAll.mainOff
    .next { s with power := { s.power with cause := 2 } }
  else .next s

/-! ### Supplies (13 R368-R370, R391) -/

/-- The firmware that AUX on selects: the verified image with the higher version, device A's when they are equal; an image with a page that fails
its CRC does not verify (13 R368; 14 R396). -/
def Flash.bootFirmware (f : Flash) (badA badB : Bool) : Option Bool :=
  let a := f.fwA.verified && !badA
  let b := f.fwB.verified && !badB
  if a && b then some (decide (f.fwA.version.toNat < f.fwB.version.toNat))
  else if a then some false
  else if b then some true
  else none

/-- The 48 V input is in range and the module leaves standby by itself, or by the command that waits. -/
def State.mayLeave (s : State) : State :=
  let go := s.power.phase == .standby && s.power.main48 && (s.mgmt.rwp.autoLeave || s.power.leaveAsked)
  if go then
    let s := if s.power.leaveAsked then s.setCmd (0x1010, 1) .done else s
    { s with power := { s.power with phase := .enabling, leaveAsked := false, cause := if s.power.leaveAsked then 2 else s.power.cause } }
  else s

def lastPersist (l : List JournalRec) : Nat := l.foldl (fun m r => max m r.persist.toNat) 0

/-- The controller begins to serve the dictionary: the roll call shows STATE (13 R368, R369), and every value is sampled. -/
def State.serves (s : State) : State :=
  let st := s.rollState
  let s := { s with mgmt := { s.mgmt with rollCall := s.rollBytes st, lastState := st } }
  { s with mgmt := { s.mgmt with pub := s.snapshot, seen := s.sample } }

/-- AUX on: the engine takes i and RT from the valid records of RT, and an invalid record counts as none (14 R399, R400). The spec states no value for
the case that neither is valid: it is free (log 168). The life-cycle state in force and a reservation that has failed outlast AUX (13 R379; 14 R399). -/
def State.loadSecurity (s : State) (a : AuxPins) : State :=
  let (n, s) := s.draw
  let f := s.flash
  let none := (Config.freeWord n).toNat % 1048577
  let rtA := if a.badRtA then (if a.badRtB then none else 0) else f.rtA
  let rtB := if a.badRtB then (if a.badRtA then none else 0) else f.rtB
  { s with
    flash := { f with rtA := rtA, rtB := rtB }
    sec := { Security.reset with life := s.sec.life, flashFault := s.sec.flashFault, index := max rtA rtB } }

/-- AUX_ON: the controller starts from mask ROM, and serves the dictionary in module standby or in recovery. -/
def execAuxOn (a : AuxPins) (s : State) : Host.Outcome State Fault Refusal :=
  if s.power.phase ≠ .off then .next s
  else
    let f := s.flash
    let s := s.loadSecurity a
    let s := { s with
      mgmt := { Mgmt.reset with
        node := a.sb
        canState := if a.sb = 0 then .offBus else .errorActive
        rwp := loadRwp (f.journalA ++ f.journalB)
        persistLast := BitVec.ofNat 32 (max (lastPersist f.journalA) (lastPersist f.journalB))
        persistSafe := BitVec.ofNat 32 (min (lastPersist f.journalA) (lastPersist f.journalB)) } }
    match f.bootFirmware a.badA a.badB with
    | none =>
      .next { s with power := { Power.reset with main48 := s.power.main48, phase := .recovery, result := 0x10 } }.serves
    | some inB =>
      let im := if inB then f.fwB else f.fwA
      let s := { s with
        power := { Power.reset with main48 := s.power.main48, phase := .standby }
        sec := { s.sec with fwInB := inB, meas := s.sec.meas.set 0 (Config.shake256 im.bytes) } }
      .next s.mayLeave.serves

/-- AUX_LOSS: a cold reset; the fuses, the flash devices, the pins, what has left the module, the life-cycle state in force and a failed reservation
stay (13 R379, R393; 14 R399, R405). -/
def execAuxLoss (s : State) : Host.Outcome State Fault Refusal :=
  .next { State.reset with
    pending := s.pending
    free := s.free
    out := s.out
    fuses := s.fuses
    flash := s.flash
    sec := { Security.reset with life := s.sec.life, flashFault := s.sec.flashFault }
    power := { Power.reset with main48 := s.power.main48 }
    ports := s.ports.map fun p => { Port.reset with dead := p.dead }
    host := { HostLink.reset with perstN := s.host.perstN } }

/-- MAIN_INPUT_RETURN: the 48 V input has been in range for 10 ms. -/
def execMainInputReturn (s : State) : Host.Outcome State Fault Refusal :=
  .next ({ s with power := { s.power with main48 := true } }.mayLeave)

/-- MAIN_INPUT_LOSS: the main rails go off; PWRGD then cannot rise, and a start-up under way fails. -/
def execMainInputLoss (s : State) : Host.Outcome State Fault Refusal :=
  let s := { s with power := { s.power with main48 := false } }
  match s.power.phase with
  | .run =>
    let s := s.mainOff
    .next { s with power := { s.power with cause := 3 } }
  | .enabling =>
    let s := s.failStart 0x12
    .next { s with power := { s.power with cause := 3 } }
  | _ => .next s

/-- THERMAL_TRIP: a junction sensor reads 110 °C or more in two samples. -/
def execThermalTrip (s : State) : Host.Outcome State Fault Refusal :=
  match s.power.phase with
  | .run => .next (s.trip (!s.power.ready))
  | .enabling => .next (s.trip true)
  | _ => .next s

/-! ### The host link (11 R317, R318; 13 R378, R393) -/

/-- HOST_RESET: the host column of the master table; the transactions of the host DMA master end (11 R339). The table does not name the
submission-queue memory, and its pairs' rings start anew: it is set to 0 with them, DESIGN CHOICE (log 178). -/
def execHostReset (why : HostResetKind) (s : State) : Host.Outcome State Fault Refusal :=
  .next { s.dropMaster .hdma with
    tt := { s.tt with view := { s.tt.view with queues := DecisionView.reset.queues, sqMem := Mem.zero } }
    host := { HostLink.reset with perstN := if why = .perst then false else s.host.perstN }
    mgmt := { s.mgmt with mailbox := TransportState.reset } }

/-- HOST_LINK_TRAINING: PERST# is deasserted, and after step 2 the link trains at `lanes` lanes and `rate` tenths of a GT/s. -/
def execHostLinkTraining (lanes rate : Nat) (s : State) : Host.Outcome State Fault Refusal :=
  let ok := s.power.phase == .run && [16, 8, 4, 1].contains lanes && [640, 320, 160, 80, 50, 25].contains rate
  .next { s with host := { s.host with
    perstN := true
    linkUp := s.host.linkUp || ok
    lanes := if ok then lanes else s.host.lanes
    rate := if ok then rate else s.host.rate } }

/-- CONFIG_SPACE_WRITE. -/
def execConfigSpaceWrite (w : ConfigWrite) (s : State) : Host.Outcome State Fault Refusal :=
  let h := s.host
  if !h.linkUp then .next s
  else
    match w with
    | .powerState d => .next { s with host := { h with d3hot := d } }
    | .functionMask on => .next { s with host := HostLink.release { h with fnMask := on } }
    | .aer on => .next { s with host := { h with aer := on } }
    | .ecrc g c => .next { s with host := { h with ecrcGen := g, ecrcCheck := c } }

/-! ### The TAP (14 R422) -/

/-- The life-cycle states in which boundary scan may drive pins. -/
def State.mayDrive (s : State) : Bool := s.sec.life.open_

/-- The TAP has power while AUX is in range; an instruction takes the instruction register. -/
def State.tapLoad (s : State) (code : Byte) : State :=
  if s.power.phase = .off then s else { s with tap := ({ s.tap with ir := TapInstr.ofCode code } : Tap).settle s.mayDrive }

/-- TAP_RESET: the reset selects IDCODE (log 27). -/
def execTapReset (s : State) : Host.Outcome State Fault Refusal := .next (s.tapLoad 0x01)

/-- BYPASS: the code FFh, or any other that is no instruction's, is loaded. -/
def execBypass (s : State) : Host.Outcome State Fault Refusal := .next (s.tapLoad 0xFF)

/-- IDCODE: version 1h, part C064h, manufacturer 4B5h, 1. -/
def execIdcode (s : State) : Host.Outcome State Fault Refusal :=
  if s.power.phase = .off then .next s else .next ((s.tapLoad 0x01).output (.tdo 0x1C06496B))

/-- The levels at the pins of the boundary-scan register: the static pins of the main connector as the module holds them, and the others. -/
def State.pins (s : State) (levels : PinLevels) : ScanCells :=
  ⟨s.host.perstN, s.pwrgdPin.getD false, s.faultN, s.power.thermtripN, levels⟩

/-- One scan of the boundary-scan register: the pins are captured, and the cells take what is shifted in. -/
def State.scan (s : State) (levels : PinLevels) (cells : ScanCells) : State :=
  { s with tap := { s.tap with sampled := s.pins levels, preload := cells } }

/-- SAMPLE/PRELOAD. -/
def execSamplePreload (levels : PinLevels) (preload : ScanCells) (s : State) : Host.Outcome State Fault Refusal :=
  if s.power.phase = .off then .next s else .next ((s.tapLoad 0x02).scan levels preload)

/-- EXTEST drives the pins from the boundary cells; outside BLANK and RETURNED it acts as BYPASS. The row has no operand: a scan under EXTEST, which captures
the pins and drives the cells shifted in, is SAMPLE_PRELOAD with these cells and EXTEST after it, DESIGN CHOICE (log 182). -/
def execExtest (s : State) : Host.Outcome State Fault Refusal := .next (s.tapLoad 0x00)

def execClamp (s : State) : Host.Outcome State Fault Refusal := .next (s.tapLoad 0x03)

def execHighz (s : State) : Host.Outcome State Fault Refusal := .next (s.tapLoad 0x04)

/-- DBGACC: an access of the debug access master over the TAP. -/
def execDbgacc (a : Access) (s : State) : Host.Outcome State Fault Refusal := (s.tapLoad 0x10).debugAccess a

end Sys2Proof.Machine
end

