-- ==== Sys2Proof/Machine/Strings.lean ====
section
/-!
DEFINITION. String instructions and the REP prefix, class 8h (07 R241-R244).
-/

namespace Sys2Proof

open Machine

/-! ### Decode rules, and the registers an instruction reads and writes -/

/-- The fields that a string instruction uses: CK for CRCS only, RD for none of MOVS and CMPS (07 R252). -/
def SFmt.fieldsOk (f : SFmt) : StringOp → Bool
  | .movs => f.rsv == 0 && f.ck == 0 && f.rd == 0
  | .fills => f.rsv == 0 && f.ck == 0
  | .cmps => f.rsv == 0 && f.ck == 0 && f.rd == 0
  | .scans => f.rsv == 0 && f.ck == 0
  | .crcs => f.rsv == 0

/-- What it reads beside its pointers and count. -/
def SFmt.reads (f : SFmt) : StringOp → List Reg
  | .movs => [.a 8, .a 9, .a 10]
  | .fills => [.a 9, .a 10, .d f.rd]
  | .cmps => [.a 8, .a 9, .a 10]
  | .scans => [.a 8, .a 10, .d f.rd]
  | .crcs => [.a 8, .a 10, .d f.rd]

def SFmt.writes (f : SFmt) : StringOp → List Reg
  | .movs => [.a 8, .a 9, .a 10]
  | .fills => [.a 9, .a 10]
  | .cmps => [.a 8, .a 9, .a 10, .special 1]
  | .scans => [.a 8, .a 10, .special 1]
  | .crcs => [.a 8, .a 10, .d f.rd]

/-- Whether an operation reads mem[A8], and how it uses mem[A9] (07 R241). -/
def StringOp.reads8 : StringOp → Bool
  | .fills => false
  | _ => true

def StringOp.uses9 : StringOp → Bool
  | .movs => true
  | .fills => true
  | .cmps => true
  | _ => false

/-- A string instruction without a prefix: none may stand in a delay slot (07 R224). -/
def SFmt.info (f : SFmt) (op : StringOp) : Info where
  slotOk := false
  fieldsOk := f.fieldsOk op
  reads := f.reads op
  writes := f.writes op

end Sys2Proof

namespace Sys2Proof.Machine

/-- What one iteration comes to. -/
inductive IterRes where
  | ok (s : State)
  | fault (vec : Byte) (code : BitVec 12) (faddr : Word64)
  /-- an uncorrectable read, with what it counted -/
  | bad (s : State) (code : BitVec 12) (faddr : Word64)
  /-- a full store buffer, or a read that meets an entry that does not cover it (07 R230, R231) -/
  | wait
  deriving DecidableEq, Repr

/-- An element that an iteration reads: forwarded from one entry that covers it, else from memory (07 R231). -/
def State.readElement (s : State) (k : SlotId) (a n : Nat) : Nat × Option (BitVec 12) × State :=
  match forward (s.slot k).sbuf a n with
  | .data bs => (leNat bs, none, s)
  | _ =>
    let (bs, bad, s) := s.loadBytes k a n
    (leNat bs, bad, s)

/-- An iteration waits for the store buffer: it is full and the iteration stores, or an entry meets an element that it reads without covering
it (07 R230, R231). -/
def Slot.stringWaits (x : Slot) (op : StringOp) (n : Nat) : Bool :=
  let p := (x.regs.getA 8).toNat
  let q := (x.regs.getA 9).toNat
  match op with
  | .movs => decide (8 ≤ x.sbuf.length) || forward x.sbuf p n == .wait
  | .fills => decide (8 ≤ x.sbuf.length)
  | .cmps => forward x.sbuf p n == .wait || forward x.sbuf q n == .wait
  | .scans => forward x.sbuf p n == .wait
  | .crcs => forward x.sbuf p n == .wait

/-- A8, A9 and A10 after an iteration of elements of `n` bytes. -/
def Regs.advance (r : Regs) (op : StringOp) (n : Nat) : Regs :=
  let r := if op.reads8 then r.setA 8 (r.getA 8 + BitVec.ofNat 64 n) else r
  let r := if op.uses9 then r.setA 9 (r.getA 9 + BitVec.ofNat 64 n) else r
  r.setA 10 (r.getA 10 - 1)

/-- One iteration (07 R241): every address is checked, then the element is read, then the effect. -/
def State.iterate (s : State) (k : SlotId) (op : StringOp) (f : SFmt) : IterRes :=
  let r := s.regs k
  let n := widthBytes f.sz
  let p := r.getA 8
  let q := r.getA 9
  let v := (r.getD f.rd).toNat % 2 ^ (8 * n)
  let f8 := if op.reads8 then s.accessFault p n 1 2 else none
  let f9 := if op.uses9 then s.accessFault q n 1 (if op = .cmps then 2 else 3) else none
  match f8.or f9 with
  | some (vec, c, a) => .fault vec c a
  | none =>
    if (s.slot k).stringWaits op n then .wait else
    let (x, bad, s) := if op.reads8 then s.readElement k p.toNat n else (v, none, s)
    match bad with
    | some c => .bad s c p
    | none =>
      let s := if op.reads8 then s.watch k false p.toNat n else s
      let done (s : State) (g : Regs → Regs) : IterRes := .ok (s.setRegs k ((g (s.regs k)).advance op n))
      let put (s : State) : State := (s.modSlot k fun x' => x'.pushStore q.toNat (leBytes n x)).watch k true q.toNat n
      match op with
      | .movs => done (put s) id
      | .fills => done (put s) id
      | .cmps =>
        let (y, bad, s) := s.readElement k q.toNat n
        match bad with
        | some c => .bad s c q
        | none => done (s.watch k false q.toNat n) fun r => { r with cc := ccSub (BitVec.ofNat 64 x) (BitVec.ofNat 64 y) }
      | .scans => done s fun r => { r with cc := ccSub (BitVec.ofNat 64 x) (BitVec.ofNat 64 v) }
      | .crcs => done s fun r => r.setD f.rd (crcStep (f.ck == 1) (r.getD f.rd) (leBytes n x))

/-- A string instruction alone performs one iteration, whatever A10 holds. -/
def State.stringOne (s : State) (i : StreamId) (op : StringOp) (f : SFmt) : Host.Outcome State Fault Refusal :=
  s.instruction i (f.info op) fun s k =>
    match s.iterate k op f with
    | .ok s => .next s
    | .fault v c a => .trap v c a 0
    | .bad s c a => .stay (s.raiseExc k ((s.slot k).excAt 6 c a 0))
    | .wait => .wait

/-- A REP pair has performed an iteration: what it wrote stands against a load whose shadow the pair is (07 R228, R244). -/
def Slot.iterated (x : Slot) (writes : List Reg) : Slot :=
  { x with
    loads := x.loads.map fun l => { l with vals := l.vals.filter fun v => !writes.contains v.1.reg }
    partsDone := x.partsDone + 1 }

/-- A REP pair goes on with a later command: it has not started before its first iteration. -/
def State.pause (s : State) (k : SlotId) : Done := if (s.slot k).partsDone = 0 then .wait else .stay s

/-- The REP loop for at most `iters` iterations (07 R242, R244): whether the pair is finished, and the state; it stops between iterations
when a debug event waits or the store buffer makes it wait. -/
def State.repeat (s : State) (k : SlotId) (op : StringOp) (f : SFmt) (untl : BitVec 4) : Nat → Done
  | 0 => if (s.regs k).getA 10 = 0 then .next s else s.pause k
  | n + 1 =>
    if (s.regs k).getA 10 = 0 then .next s
    else
      match s.iterate k op f with
      | .fault v c a => .stay (s.raiseExc k ((s.slot k).excAt v c a 0))
      | .bad s c a => .stay (s.raiseExc k ((s.slot k).excAt 6 c a 0))
      | .wait => s.pause k
      | .ok s =>
        let s := s.modSlot k fun x => x.iterated (f.writes op)
        if untl != 15 && condHolds untl (s.regs k).cc then .next s
        else if (s.regs k).getA 10 ≠ 0 && (s.slot k).dbg.event.isSome && s.debugOn k then .stay s
        else s.repeat k op f untl n

/-- Whether the prefix stands before an instruction that R243 allows. -/
def repPrefixOk (untl : BitVec 4) : AfterRep → Bool
  | .string op _ => untl == 15 || op == .cmps || op == .scans
  | _ => false

/-- The decode rules of a REP pair of 8 bytes: it cannot be cancelled (07 R229). A pair with A10 = 0 (`none`) performs no iteration and writes nothing, so
a load in whose shadow it stands keeps its destination (07 R228, R242). -/
def repInfo (f : PFmt) (next : AfterRep) (none : Bool) : Info :=
  match next with
  | .string op g =>
    { size := 8, span := 8, slotOk := false, cancel := false, prefixOk := repPrefixOk f.untl next
      fieldsOk := f.rsv == 0 && f.untl != 14 && g.fieldsOk op, reads := g.reads op
      writes := if none then [] else g.writes op }
  | _ => { size := 8, span := 8, slotOk := false, cancel := false, prefixOk := false }

/-- The word after the prefix lies where nothing can be fetched: the pair raises Address at the prefix, unless it stands in a delay slot, which
raises Illegal Sequence by the prefix alone (07 R220, R243, R244; 08 R261). -/
def State.noString (s : State) (i : StreamId) : Option (Byte × BitVec 12 × Word64) :=
  match s.slotOf i with
  | none => none
  | some k =>
    let a := (s.regs k).pc + 4
    if (s.slot k).delay.isNone && (s.badByte a.toNat 1).isSome then some (5, 1, a) else none

/-- REP: `iters` bounds the iterations before an interrupt may come (log 28). The string instruction enters its own line after the prefix's (07
R220). -/
def execRep (i : StreamId) (f : PFmt) (next : AfterRep) (iters : Nat) (s : State) : Host.Outcome State Fault Refusal :=
  s.instruction i { repInfo f next ((s.slotOf i).any fun k => (s.regs k).getA 10 == 0) with early := s.noString i } fun s k =>
    match next with
    | .string op g => (s.enterLast k 8).repeat k op g f.untl iters
    | _ => .wait

/-- MOVS (07 R241). -/
def execMovs (i : StreamId) (f : SFmt) (s : State) : Host.Outcome State Fault Refusal :=
  s.stringOne i .movs f

/-- FILLS (07 R241). -/
def execFills (i : StreamId) (f : SFmt) (s : State) : Host.Outcome State Fault Refusal :=
  s.stringOne i .fills f

/-- CMPS (07 R241). -/
def execCmps (i : StreamId) (f : SFmt) (s : State) : Host.Outcome State Fault Refusal :=
  s.stringOne i .cmps f

/-- SCANS (07 R241). -/
def execScans (i : StreamId) (f : SFmt) (s : State) : Host.Outcome State Fault Refusal :=
  s.stringOne i .scans f

/-- CRCS (07 R241). -/
def execCrcs (i : StreamId) (f : SFmt) (s : State) : Host.Outcome State Fault Refusal :=
  s.stringOne i .crcs f

end Sys2Proof.Machine
end

