-- ==== Sys2Proof/Machine/System.lean ====
section
/-!
DEFINITION. System and special-register instructions of class 9h (07 R214-R216, R235, R252, R253; 08 R257, R265; 14 R410).
-/

namespace Sys2Proof

open Machine

/-! ### Decode rules, and the registers an instruction reads and writes -/

/-- An X-format instruction that uses no field. -/
def XFmt.none (f : XFmt) : Bool := f.rd == 0 && f.sn == 0 && f.imm == 0

/-- NOP, SETC and CLRC may stand in a delay slot. -/
def XFmt.info (f : XFmt) : Info where
  fieldsOk := f.none

/-- FENCE, IFLUSH, RTE, TRAP, BKPT and END: not in a delay slot, not cancelled in a load shadow (07 R224, R229). -/
def XFmt.infoSys (f : XFmt) (endOk : Bool) : Info where
  slotOk := false
  endOk := endOk
  cancel := false
  fieldsOk := f.none

/-- RTE: it writes every A and D register, and reads FPCSR and SR.QD (08 R265; 02 R31; 07 R255). -/
def XFmt.infoRte (f : XFmt) : Info where
  slotOk := false
  endOk := false
  cancel := false
  fieldsOk := f.none
  reads := [.special 9, .special 10]
  writes := (List.finRange 16).map (fun n => .a (BitVec.ofFin n)) ++ (List.finRange 32).map fun n => .d (BitVec.ofFin n)

/-- TRAP uses IMM12. -/
def XFmt.infoTrap (f : XFmt) : Info where
  slotOk := false
  cancel := false
  fieldsOk := f.rd == 0 && f.sn == 0

/-- MFS: SN 11 to 31 are reserved (07 R214). -/
def XFmt.infoMfs (f : XFmt) : Info where
  fieldsOk := f.imm == 0 && decide (f.sn.toNat ≤ 10)
  reads := [.special f.sn.toNat]
  writes := [.d f.rd]

/-- MTS: SN 0 and 11 to 31 are reserved; it cannot be cancelled (07 R214, R229). -/
def XFmt.infoMts (f : XFmt) : Info where
  cancel := false
  fieldsOk := f.imm == 0 && decide (1 ≤ f.sn.toNat) && decide (f.sn.toNat ≤ 10)
  reads := [.d f.rd]
  writes := [.special f.sn.toNat]

end Sys2Proof

namespace Sys2Proof.Machine

/-- MFS and MTS of VX and FPCSR wait until the vector queue is empty or the engine is stopped (07 R216; 04 R106). -/
def Slot.specialBusy (x : Slot) (sn : Nat) : Bool := (sn == 3 || sn == 9) && !x.eng.stopped && !x.eng.queue.isEmpty

/-- NOP. -/
def execNop (i : StreamId) (f : XFmt) (s : State) : Host.Outcome State Fault Refusal :=
  s.compute i f.info id

/-- MFS (07 R214). -/
def execMfs (i : StreamId) (f : XFmt) (s : State) : Host.Outcome State Fault Refusal :=
  s.instruction i f.infoMfs fun s k =>
    let x := s.slot k
    let sn := f.sn.toNat
    if x.specialBusy sn then .wait else .next (s.setRegs k (x.regs.setD f.rd ((x.special sn).getD 0)))

/-- MTS: a value that breaks a field rule raises Reserved Field, and an LS or LE that is no multiple of 4 Alignment (07 R214, R215;
04 R106). -/
def execMts (i : StreamId) (f : XFmt) (s : State) : Host.Outcome State Fault Refusal :=
  s.instruction i f.infoMts fun s k =>
    let x := s.slot k
    let sn := f.sn.toNat
    let v := x.regs.getD f.rd
    if x.specialBusy sn then .wait
    else if mtsReserved sn v then .trap 1 0 0 0
    else if (sn = 5 ∨ sn = 6) ∧ v.toNat % 4 ≠ 0 then .trap 4 4 v 0
    else .next (s.setRegs k (x.regs.mts sn v))

/-- SETC. -/
def execSetc (i : StreamId) (f : XFmt) (s : State) : Host.Outcome State Fault Refusal :=
  s.compute i f.info fun r => { r with cc := { r.cc with c := true } }

/-- CLRC. -/
def execClrc (i : StreamId) (f : XFmt) (s : State) : Host.Outcome State Fault Refusal :=
  s.compute i f.info fun r => { r with cc := { r.cc with c := false } }

/-- FENCE waits until the store buffer is empty. -/
def execFence (i : StreamId) (f : XFmt) (s : State) : Host.Outcome State Fault Refusal :=
  s.instruction i (f.infoSys true) fun s k =>
    if (s.slot k).sbuf.isEmpty then .next s else .wait

/-- The line buffer and the branch-target buffer are empty, and no line is on its way (07 R235). -/
def Slot.flushCode (x : Slot) : Slot := { x with lines := [], ahead := [], line := none, prefetch := [], btb := Vector.replicate 64 none }

/-- IFLUSH: with an empty store buffer it invalidates the line buffer and the branch-target buffer (07 R235). -/
def execIflush (i : StreamId) (f : XFmt) (s : State) : Host.Outcome State Fault Refusal :=
  s.instruction i (f.infoSys true) fun s k =>
    if (s.slot k).sbuf.isEmpty then .next (s.modSlot k Slot.flushCode) else .wait

/-- RTE (08 R265). -/
def execRte (i : StreamId) (f : XFmt) (s : State) : Host.Outcome State Fault Refusal :=
  s.instruction i f.infoRte fun s k =>
    match s.rte k with
    | .wait => .wait
    | .trap v c a => .trap v c a 0
    | .escalated s => .stay s
    | .done s => .goto s (s.regs k).pc

/-- TRAP: the exception carries IMM12 and returns to the instruction after it (08 R257, R261). -/
def execTrap (i : StreamId) (f : XFmt) (s : State) : Host.Outcome State Fault Refusal :=
  s.instruction i f.infoTrap fun s k =>
    .stay (s.raiseExc k ⟨0x0C, (s.regs k).pc + 4, false, 0, f.imm, 0, 0⟩)

/-- BKPT: a debug event, or a no-operation that is counted (14 R409, R410). -/
def execBkpt (i : StreamId) (f : XFmt) (s : State) : Host.Outcome State Fault Refusal :=
  s.instruction i (f.infoSys true) fun s k =>
    if s.debugOn k then .next (s.raiseDebug k ⟨0x003, 0, false⟩)
    else
      let x := s.slot k
      let counted := !x.dbg.monen || (match s.streamOf k with | some i => s.level i != 2 | none => true)
      .next (if counted then s.setSlot k { x with dbg := { x.dbg with bkptNop := x.dbg.bkptNop.add 1 } } else s)

/-- END: the core waits for the vector queue and the store buffer to drain, which LESSON_END ends; with the engine stopped it
raises Vector Sequence, or Vector Fault when the engine stopped while it waited (07 R253; 08 R266). -/
def execEndLesson (i : StreamId) (f : XFmt) (s : State) : Host.Outcome State Fault Refusal :=
  s.instruction i (f.infoSys false) fun s k =>
    let x := s.slot k
    if x.eng.stopped then
      if x.waitAt = some .endLesson then .trap 0x0B (x.eng.cause.cause.zeroExtend 12) 0 0 else .trap 0x0A 0 0 0
    else .hold .endLesson

end Sys2Proof.Machine
end

