-- ==== Sys2Proof/Machine/TracePort.lean ====
section
/-!
DEFINITION. The trace port and its line code (15 R434). The spec names 8b/10b and does not print it: the code groups are those that the name stands
for (PRESUMED, log 167).
-/

namespace Sys2Proof.Machine

/-- What one symbol of a lane carries. -/
inductive TraceSymbol where
  | k28_5
  | data (b : Byte)
  deriving DecidableEq, Repr

/-- Bits abcdei of D.0 to D.31 at negative running disparity, a first. -/
def code6 : List (BitVec 6) := [
  0b100111, 0b011101, 0b101101, 0b110001, 0b110101, 0b101001, 0b011001, 0b111000,
  0b111001, 0b100101, 0b010101, 0b110100, 0b001101, 0b101100, 0b011100, 0b010111,
  0b011011, 0b100011, 0b010011, 0b110010, 0b001011, 0b101010, 0b011010, 0b111010,
  0b110011, 0b100110, 0b010110, 0b110110, 0b001110, 0b101110, 0b011110, 0b101011]

/-- Bits fghj of D.x.0 to D.x.7 at negative running disparity, f first. -/
def code4 : List (BitVec 4) := [0b1011, 0b1001, 0b0101, 0b1100, 0b1101, 0b1010, 0b0110, 0b1110]

/-- How many of the low `n` bits of `v` are 1. -/
def onesOf (n v : Nat) : Nat := ((List.range n).filter fun i => v.testBit i).length

/-- The 6-bit group of data value `x` at running disparity `rd`, positive when true; D.7 alternates though it is balanced. -/
def group6 (rd : Bool) (x : Nat) : BitVec 6 :=
  let c := code6.getD x 0
  if rd && (onesOf 6 c.toNat != 3 || x == 7) then ~~~c else c

/-- The 4-bit group of data value `y` after the 6-bit group of `x`, at the running disparity between the two; D.x.3 alternates, and D.x.7 has a second
form against runs of five. -/
def group4 (rd : Bool) (x y : Nat) : BitVec 4 :=
  let alt := y == 7 && (if rd then x == 11 || x == 13 || x == 14 else x == 17 || x == 18 || x == 20)
  let c : BitVec 4 := if alt then 0b0111 else code4.getD y 0
  if rd && (onesOf 4 c.toNat != 2 || y == 3) then ~~~c else c

/-- The running disparity after a group of `n` bits. -/
def afterGroup (rd : Bool) (n v : Nat) : Bool := if 2 * onesOf n v = n then rd else decide (n < 2 * onesOf n v)

/-- The code group of a symbol, first bit highest, and the running disparity after it. -/
def TraceSymbol.code (rd : Bool) : TraceSymbol → BitVec 10 × Bool
  | .k28_5 => (if rd then 0b1100000101 else 0b0011111010, !rd)
  | .data b =>
    let x := b.toNat % 32
    let y := b.toNat / 32
    let g := group6 rd x
    let mid := afterGroup rd 6 g.toNat
    let h := group4 mid x y
    (g ++ h, afterGroup mid 4 h.toNat)

/-- A lane's symbols in order, and the running disparity after them. -/
def codeLane (rd : Bool) (l : List TraceSymbol) : List (BitVec 10) × Bool :=
  l.foldl (fun (r : List (BitVec 10) × Bool) y => let (c, rd) := y.code r.2; (r.1 ++ [c], rd)) ([], rd)

/-- The lanes send symbols. -/
def State.sendLanes (s : State) (lane : Fin 4 → List TraceSymbol) : State :=
  let sent (k : Fin 4) : List (BitVec 10) × Bool := codeLane s.dbg.portRd[k] (lane k)
  { s with dbg := { s.dbg with portRd := Vector.ofFn fun k => (sent k).2 } }.output (.traceSymbols (Vector.ofFn fun k => (sent k).1))

/-- The 9 symbols of a packet on lane `k`: K28.5, then packet bytes 8k to 8k + 7. -/
def Packet.symbols (p : Packet) (k : Fin 4) : List TraceSymbol := .k28_5 :: ((p.bytes.drop (8 * k.val)).take 8).map .data

/-- TRACE_PORT_SEND: the oldest packet goes out, or, where none waits or none has selected the port since release, K28.5 on every lane. -/
def execTracePortSend (s : State) : Host.Outcome State Fault Refusal :=
  if s.power.phase ≠ .run then .next s
  else
    match s.dbg.portStarted, s.dbg.portq with
    | true, p :: ps => .next ({ s with dbg := { s.dbg with portq := ps } }.sendLanes p.symbols)
    | _, _ => .next (s.sendLanes fun _ => [.k28_5])

end Sys2Proof.Machine
end

