-- ==== Sys2Proof/Machine/Dispatch.lean ====
section
/-!
DEFINITION. One arm for each command: its meaning.
-/

namespace Sys2Proof.Machine

/-- The effect of a command on everything but the queue. -/
def exec (i : Instr) (s : State) : Host.Outcome State Fault Refusal :=
  match i with
  | .add st f => Sys2Proof.Machine.execAdd st f s
  | .sub st f => Sys2Proof.Machine.execSub st f s
  | .addv st f => Sys2Proof.Machine.execAddv st f s
  | .subv st f => Sys2Proof.Machine.execSubv st f s
  | .addc st f => Sys2Proof.Machine.execAddc st f s
  | .subc st f => Sys2Proof.Machine.execSubc st f s
  | .cmp st f => Sys2Proof.Machine.execCmp st f s
  | .mul st f => Sys2Proof.Machine.execMul st f s
  | .mulv st f => Sys2Proof.Machine.execMulv st f s
  | .mulh st f => Sys2Proof.Machine.execMulh st f s
  | .mulhu st f => Sys2Proof.Machine.execMulhu st f s
  | .mulw st f => Sys2Proof.Machine.execMulw st f s
  | .mulwu st f => Sys2Proof.Machine.execMulwu st f s
  | .divs st f => Sys2Proof.Machine.execDivs st f s
  | .divu st f => Sys2Proof.Machine.execDivu st f s
  | .rems st f => Sys2Proof.Machine.execRems st f s
  | .remu st f => Sys2Proof.Machine.execRemu st f s
  | .and st f => Sys2Proof.Machine.execAnd st f s
  | .or st f => Sys2Proof.Machine.execOr st f s
  | .xor st f => Sys2Proof.Machine.execXor st f s
  | .andn st f => Sys2Proof.Machine.execAndn st f s
  | .shl st f => Sys2Proof.Machine.execShl st f s
  | .shr st f => Sys2Proof.Machine.execShr st f s
  | .sar st f => Sys2Proof.Machine.execSar st f s
  | .ror st f => Sys2Proof.Machine.execRor st f s
  | .min st f => Sys2Proof.Machine.execMin st f s
  | .max st f => Sys2Proof.Machine.execMax st f s
  | .minu st f => Sys2Proof.Machine.execMinu st f s
  | .maxu st f => Sys2Proof.Machine.execMaxu st f s
  | .popc st f => Sys2Proof.Machine.execPopc st f s
  | .clz st f => Sys2Proof.Machine.execClz st f s
  | .ctz st f => Sys2Proof.Machine.execCtz st f s
  | .parity st f => Sys2Proof.Machine.execParity st f s
  | .brev st f => Sys2Proof.Machine.execBrev st f s
  | .sext st f => Sys2Proof.Machine.execSext st f s
  | .zext st f => Sys2Proof.Machine.execZext st f s
  | .crc32c st f => Sys2Proof.Machine.execCrc32c st f s
  | .crc64 st f => Sys2Proof.Machine.execCrc64 st f s
  | .addi st f => Sys2Proof.Machine.execAddi st f s
  | .addvi st f => Sys2Proof.Machine.execAddvi st f s
  | .cmpi st f => Sys2Proof.Machine.execCmpi st f s
  | .andi st f => Sys2Proof.Machine.execAndi st f s
  | .ori st f => Sys2Proof.Machine.execOri st f s
  | .xori st f => Sys2Proof.Machine.execXori st f s
  | .shli st f => Sys2Proof.Machine.execShli st f s
  | .shri st f => Sys2Proof.Machine.execShri st f s
  | .sari st f => Sys2Proof.Machine.execSari st f s
  | .rori st f => Sys2Proof.Machine.execRori st f s
  | .adda st f => Sys2Proof.Machine.execAdda st f s
  | .addar st f => Sys2Proof.Machine.execAddar st f s
  | .subar st f => Sys2Proof.Machine.execSubar st f s
  | .movad st f => Sys2Proof.Machine.execMovad st f s
  | .movda st f => Sys2Proof.Machine.execMovda st f s
  | .cmpa st f => Sys2Proof.Machine.execCmpa st f s
  | .leapc st f => Sys2Proof.Machine.execLeapc st f s
  | .fadd st f => Sys2Proof.Machine.execFadd st f s
  | .fsub st f => Sys2Proof.Machine.execFsub st f s
  | .fmul st f => Sys2Proof.Machine.execFmul st f s
  | .fdiv st f => Sys2Proof.Machine.execFdiv st f s
  | .fsqrt st f => Sys2Proof.Machine.execFsqrt st f s
  | .fma st f => Sys2Proof.Machine.execFma st f s
  | .fms st f => Sys2Proof.Machine.execFms st f s
  | .fnma st f => Sys2Proof.Machine.execFnma st f s
  | .fmin st f => Sys2Proof.Machine.execFmin st f s
  | .fmax st f => Sys2Proof.Machine.execFmax st f s
  | .fabs st f => Sys2Proof.Machine.execFabs st f s
  | .fneg st f => Sys2Proof.Machine.execFneg st f s
  | .fcmp st f => Sys2Proof.Machine.execFcmp st f s
  | .fcmps st f => Sys2Proof.Machine.execFcmps st f s
  | .fclass st f => Sys2Proof.Machine.execFclass st f s
  | .frint st f => Sys2Proof.Machine.execFrint st f s
  | .fcvt st f => Sys2Proof.Machine.execFcvt st f s
  | .ldb st f => Sys2Proof.Machine.execLdb st f s
  | .ldbu st f => Sys2Proof.Machine.execLdbu st f s
  | .ldh st f => Sys2Proof.Machine.execLdh st f s
  | .ldhu st f => Sys2Proof.Machine.execLdhu st f s
  | .ldw st f => Sys2Proof.Machine.execLdw st f s
  | .ldwu st f => Sys2Proof.Machine.execLdwu st f s
  | .ldd st f => Sys2Proof.Machine.execLdd st f s
  | .stb st f => Sys2Proof.Machine.execStb st f s
  | .sth st f => Sys2Proof.Machine.execSth st f s
  | .stw st f => Sys2Proof.Machine.execStw st f s
  | .std st f => Sys2Proof.Machine.execStd st f s
  | .lda st f => Sys2Proof.Machine.execLda st f s
  | .sta st f => Sys2Proof.Machine.execSta st f s
  | .ldv st f => Sys2Proof.Machine.execLdv st f s
  | .stv st f => Sys2Proof.Machine.execStv st f s
  | .ldl st f => Sys2Proof.Machine.execLdl st f s
  | .stc st f => Sys2Proof.Machine.execStc st f s
  | .qld st f => Sys2Proof.Machine.execQld st f s
  | .qst st f => Sys2Proof.Machine.execQst st f s
  | .bcc st f => Sys2Proof.Machine.execBcc st f s
  | .bz st f => Sys2Proof.Machine.execBz st f s
  | .bnz st f => Sys2Proof.Machine.execBnz st f s
  | .jmp st f => Sys2Proof.Machine.execJmp st f s
  | .jal st f => Sys2Proof.Machine.execJal st f s
  | .jr st f => Sys2Proof.Machine.execJr st f s
  | .jalr st f => Sys2Proof.Machine.execJalr st f s
  | .loopi st f => Sys2Proof.Machine.execLoopi st f s
  | .loopr st f => Sys2Proof.Machine.execLoopr st f s
  | .movs st f => Sys2Proof.Machine.execMovs st f s
  | .fills st f => Sys2Proof.Machine.execFills st f s
  | .cmps st f => Sys2Proof.Machine.execCmps st f s
  | .scans st f => Sys2Proof.Machine.execScans st f s
  | .crcs st f => Sys2Proof.Machine.execCrcs st f s
  | .rep st f next iters => Sys2Proof.Machine.execRep st f next iters s
  | .nop st f => Sys2Proof.Machine.execNop st f s
  | .mfs st f => Sys2Proof.Machine.execMfs st f s
  | .mts st f => Sys2Proof.Machine.execMts st f s
  | .setc st f => Sys2Proof.Machine.execSetc st f s
  | .clrc st f => Sys2Proof.Machine.execClrc st f s
  | .fence st f => Sys2Proof.Machine.execFence st f s
  | .iflush st f => Sys2Proof.Machine.execIflush st f s
  | .rte st f => Sys2Proof.Machine.execRte st f s
  | .trap st f => Sys2Proof.Machine.execTrap st f s
  | .bkpt st f => Sys2Proof.Machine.execBkpt st f s
  | .endLesson st f => Sys2Proof.Machine.execEndLesson st f s
  | .qclr st f => Sys2Proof.Machine.execQclr st f s
  | .qaddd st f => Sys2Proof.Machine.execQaddd st f s
  | .qaddq st f => Sys2Proof.Machine.execQaddq st f s
  | .qrnd st f => Sys2Proof.Machine.execQrnd st f s
  | .imms st f => Sys2Proof.Machine.execImms st f s
  | .immx st f => Sys2Proof.Machine.execImmx st f s
  | .vcopy st f => Sys2Proof.Machine.execVcopy st f s
  | .vcvt st f => Sys2Proof.Machine.execVcvt st f s
  | .vfill st f => Sys2Proof.Machine.execVfill st f s
  | .viota st f => Sys2Proof.Machine.execViota st f s
  | .vsel st f => Sys2Proof.Machine.execVsel st f s
  | .vperm st f => Sys2Proof.Machine.execVperm st f s
  | .vbrev st f => Sys2Proof.Machine.execVbrev st f s
  | .chain st f => Sys2Proof.Machine.execChain st f s
  | .vfence st f => Sys2Proof.Machine.execVfence st f s
  | .vsuspend st f => Sys2Proof.Machine.execVsuspend st f s
  | .vresume st f => Sys2Proof.Machine.execVresume st f s
  | .vdiscard st f => Sys2Proof.Machine.execVdiscard st f s
  | .vfadd st f => Sys2Proof.Machine.execVfadd st f s
  | .vfsub st f => Sys2Proof.Machine.execVfsub st f s
  | .vfmul st f => Sys2Proof.Machine.execVfmul st f s
  | .vfdiv st f => Sys2Proof.Machine.execVfdiv st f s
  | .vfsqrt st f => Sys2Proof.Machine.execVfsqrt st f s
  | .vfma st f => Sys2Proof.Machine.execVfma st f s
  | .vfms st f => Sys2Proof.Machine.execVfms st f s
  | .vfnma st f => Sys2Proof.Machine.execVfnma st f s
  | .vfmin st f => Sys2Proof.Machine.execVfmin st f s
  | .vfmax st f => Sys2Proof.Machine.execVfmax st f s
  | .vfabs st f => Sys2Proof.Machine.execVfabs st f s
  | .vfneg st f => Sys2Proof.Machine.execVfneg st f s
  | .vfcmp st f => Sys2Proof.Machine.execVfcmp st f s
  | .vfclass st f => Sys2Proof.Machine.execVfclass st f s
  | .vfrint st f => Sys2Proof.Machine.execVfrint st f s
  | .vfmaw st f => Sys2Proof.Machine.execVfmaw st f s
  | .vadd st f => Sys2Proof.Machine.execVadd st f s
  | .vsub st f => Sys2Proof.Machine.execVsub st f s
  | .vmul st f => Sys2Proof.Machine.execVmul st f s
  | .vmulh st f => Sys2Proof.Machine.execVmulh st f s
  | .vaddc st f => Sys2Proof.Machine.execVaddc st f s
  | .vaddco st f => Sys2Proof.Machine.execVaddco st f s
  | .vsubb st f => Sys2Proof.Machine.execVsubb st f s
  | .vsubbo st f => Sys2Proof.Machine.execVsubbo st f s
  | .vand st f => Sys2Proof.Machine.execVand st f s
  | .vor st f => Sys2Proof.Machine.execVor st f s
  | .vxor st f => Sys2Proof.Machine.execVxor st f s
  | .vandn st f => Sys2Proof.Machine.execVandn st f s
  | .vshl st f => Sys2Proof.Machine.execVshl st f s
  | .vshr st f => Sys2Proof.Machine.execVshr st f s
  | .vsar st f => Sys2Proof.Machine.execVsar st f s
  | .vicmp st f => Sys2Proof.Machine.execVicmp st f s
  | .vimin st f => Sys2Proof.Machine.execVimin st f s
  | .vimax st f => Sys2Proof.Machine.execVimax st f s
  | .vpopc st f => Sys2Proof.Machine.execVpopc st f s
  | .vclz st f => Sys2Proof.Machine.execVclz st f s
  | .qdot st f => Sys2Proof.Machine.execQdot st f s
  | .qsum st f => Sys2Proof.Machine.execQsum st f s
  | .visum st f => Sys2Proof.Machine.execVisum st f s
  | .vimaxr st f => Sys2Proof.Machine.execVimaxr st f s
  | .viminr st f => Sys2Proof.Machine.execViminr st f s
  | .vfmaxr st f => Sys2Proof.Machine.execVfmaxr st f s
  | .vfminr st f => Sys2Proof.Machine.execVfminr st f s
  | .vcrc st f => Sys2Proof.Machine.execVcrc st f s
  | .vmcnt st f => Sys2Proof.Machine.execVmcnt st f s
  | .userInstruction st u f => Sys2Proof.Machine.execUserInstruction st u f s
  | .vectorEntryExecute e => Sys2Proof.Machine.execVectorEntryExecute e s
  | .runAheadRead st accesses => Sys2Proof.Machine.execRunAheadRead st accesses s
  | .vectorSuspendStop st p => Sys2Proof.Machine.execVectorSuspendStop st p s
  | .loadDataReturn st resp => Sys2Proof.Machine.execLoadDataReturn st resp s
  | .lineFill st addr resp => Sys2Proof.Machine.execLineFill st addr resp s
  | .storeCommit st o => Sys2Proof.Machine.execStoreCommit st o s
  | .exceptionEntry st why => Sys2Proof.Machine.execExceptionEntry st why s
  | .lazyQSave st n => Sys2Proof.Machine.execLazyQSave st n s
  | .monitorEntry st => Sys2Proof.Machine.execMonitorEntry st s
  | .watchdogExpiry st dt => Sys2Proof.Machine.execWatchdogExpiry st dt s
  | .lessonStart st dt => Sys2Proof.Machine.execLessonStart st dt s
  | .lessonEnd st dt => Sys2Proof.Machine.execLessonEnd st dt s
  | .budgetPointStop cl dt => Sys2Proof.Machine.execBudgetPointStop cl dt s
  | .energyLimitStop cl dt => Sys2Proof.Machine.execEnergyLimitStop cl dt s
  | .lessonRerun st => Sys2Proof.Machine.execLessonRerun st s
  | .streamDeskCopy st => Sys2Proof.Machine.execStreamDeskCopy st s
  | .completionRecordPost cl => Sys2Proof.Machine.execCompletionRecordPost cl s
  | .bookingDecision q => Sys2Proof.Machine.execBookingDecision q s
  | .cqEntryWrite q refused => Sys2Proof.Machine.execCqEntryWrite q refused s
  | .msixMessage v => Sys2Proof.Machine.execMsixMessage v s
  | .tickEdge dt => Sys2Proof.Machine.execTickEdge dt s
  | .bellTimerExpiry dt => Sys2Proof.Machine.execBellTimerExpiry dt s
  | .recessEnd dt => Sys2Proof.Machine.execRecessEnd dt s
  | .recessSliceStep u o => Sys2Proof.Machine.execRecessSliceStep u o s
  | .fieldTripCopy committed => Sys2Proof.Machine.execFieldTripCopy committed s
  | .scrub b overtaken => Sys2Proof.Machine.execScrub b overtaken s
  | .refresh p r => Sys2Proof.Machine.execRefresh p r s
  | .blockRetry r => Sys2Proof.Machine.execBlockRetry r s
  | .deskEccWriteBack k word => Sys2Proof.Machine.execDeskEccWriteBack k word s
  | .deskDmaLineIssue k excursion other eng => Sys2Proof.Machine.execDeskDmaLineIssue k excursion other eng s
  | .deskWakeStart w => Sys2Proof.Machine.execDeskWakeStart w s
  | .deskWakeComplete k => Sys2Proof.Machine.execDeskWakeComplete k s
  | .excursionStart e dt => Sys2Proof.Machine.execExcursionStart e dt s
  | .excursionComplete e dt => Sys2Proof.Machine.execExcursionComplete e dt s
  | .farResponse e r => Sys2Proof.Machine.execFarResponse e r s
  | .smPieceGrant t w => Sys2Proof.Machine.execSmPieceGrant t w s
  | .gspBlockService waiting => Sys2Proof.Machine.execGspBlockService waiting s
  | .hostReadRequest bar off r => Sys2Proof.Machine.execHostReadRequest bar off r s
  | .hostWriteRequest bar off data tlp => Sys2Proof.Machine.execHostWriteRequest bar off data tlp s
  | .debugAccess a => Sys2Proof.Machine.execDebugAccess a s
  | .submissionTailDoorbell q v whole => Sys2Proof.Machine.execSubmissionTailDoorbell q v whole s
  | .completionHeadDoorbell q v whole => Sys2Proof.Machine.execCompletionHeadDoorbell q v whole s
  | .queuePairEnable q ien cqsz iv => Sys2Proof.Machine.execQueuePairEnable q ien cqsz iv s
  | .queuePairDisable q ien iv => Sys2Proof.Machine.execQueuePairDisable q ien iv s
  | .hostEventRaise raise => Sys2Proof.Machine.execHostEventRaise raise s
  | .mailboxRequest off data => Sys2Proof.Machine.execMailboxRequest off data s
  | .streamReset tile slots => Sys2Proof.Machine.execStreamReset tile slots s
  | .debugReset m go st => Sys2Proof.Machine.execDebugReset m go st s
  | .haltRequest m k => Sys2Proof.Machine.execHaltRequest m k s
  | .haltCancel m k => Sys2Proof.Machine.execHaltCancel m k s
  | .registerWrite m addr wide v => Sys2Proof.Machine.execRegisterWrite m addr wide v s
  | .registerReadClear m addr wide => Sys2Proof.Machine.execRegisterReadClear m addr wide s
  | .mgmtFrameBoundary dt sensors => Sys2Proof.Machine.execMgmtFrameBoundary dt sensors s
  | .journalPersist okA okB => Sys2Proof.Machine.execJournalPersist okA okB s
  | .canFrameReceive f => Sys2Proof.Machine.execCanFrameReceive f s
  | .canBusOffRecovery => Sys2Proof.Machine.execCanBusOffRecovery s
  | .read t => Sys2Proof.Machine.execRead t s
  | .write t => Sys2Proof.Machine.execWrite t s
  | .sreadInit t => Sys2Proof.Machine.execSreadInit t s
  | .sreadSeg t => Sys2Proof.Machine.execSreadSeg t s
  | .swriteInit t => Sys2Proof.Machine.execSwriteInit t s
  | .swriteSeg t => Sys2Proof.Machine.execSwriteSeg t s
  | .abort t => Sys2Proof.Machine.execAbort t s
  | .unknownRequest t => Sys2Proof.Machine.execUnknownRequest t s
  | .segmentTransferTimeout t => Sys2Proof.Machine.execSegmentTransferTimeout t s
  | .moduleWarmReset => Sys2Proof.Machine.execModuleWarmReset s
  | .warmResetExecute obs => Sys2Proof.Machine.execWarmResetExecute obs s
  | .enterModuleStandby => Sys2Proof.Machine.execEnterModuleStandby s
  | .standbyEntryExecute => Sys2Proof.Machine.execStandbyEntryExecute s
  | .leaveModuleStandby => Sys2Proof.Machine.execLeaveModuleStandby s
  | .timetableHold => Sys2Proof.Machine.execTimetableHold s
  | .timetableResume => Sys2Proof.Machine.execTimetableResume s
  | .retireUnit v => Sys2Proof.Machine.execRetireUnit v s
  | .deleteFieldRecord k => Sys2Proof.Machine.execDeleteFieldRecord k s
  | .deleteAllFieldRecords => Sys2Proof.Machine.execDeleteAllFieldRecords s
  | .restoreDefaults => Sys2Proof.Machine.execRestoreDefaults s
  | .decodeImageWrite u image => Sys2Proof.Machine.execDecodeImageWrite u image s
  | .coverageRunStart => Sys2Proof.Machine.execCoverageRunStart s
  | .bistAbort patterns us => Sys2Proof.Machine.execBistAbort patterns us s
  | .attestationRequest cl nonce flashOk => Sys2Proof.Machine.execAttestationRequest cl nonce flashOk s
  | .lifeCycleTransition code => Sys2Proof.Machine.execLifeCycleTransition code s
  | .firmwareImageUpload image flashOk => Sys2Proof.Machine.execFirmwareImageUpload image flashOk s
  | .bootImageUpload image flashOk => Sys2Proof.Machine.execBootImageUpload image flashOk s
  | .hallPassSubmit pass => Sys2Proof.Machine.execHallPassSubmit pass s
  | .hallPassDecision => Sys2Proof.Machine.execHallPassDecision s
  | .endAllPasses => Sys2Proof.Machine.execEndAllPasses s
  | .tracePortSend => Sys2Proof.Machine.execTracePortSend s
  | .auxOn a => Sys2Proof.Machine.execAuxOn a s
  | .auxLoss => Sys2Proof.Machine.execAuxLoss s
  | .mainInputReturn => Sys2Proof.Machine.execMainInputReturn s
  | .mainInputLoss => Sys2Proof.Machine.execMainInputLoss s
  | .mainPowerGood obs => Sys2Proof.Machine.execMainPowerGood obs s
  | .pwrgdTimeout => Sys2Proof.Machine.execPwrgdTimeout s
  | .thermalTrip => Sys2Proof.Machine.execThermalTrip s
  | .hostReset why => Sys2Proof.Machine.execHostReset why s
  | .hostLinkTraining lanes rate => Sys2Proof.Machine.execHostLinkTraining lanes rate s
  | .expansionLinkUp d => Sys2Proof.Machine.execExpansionLinkUp d s
  | .expansionLinkDown => Sys2Proof.Machine.execExpansionLinkDown s
  | .deviceFailure p => Sys2Proof.Machine.execDeviceFailure p s
  | .tapReset => Sys2Proof.Machine.execTapReset s
  | .bypass => Sys2Proof.Machine.execBypass s
  | .idcode => Sys2Proof.Machine.execIdcode s
  | .samplePreload levels preload => Sys2Proof.Machine.execSamplePreload levels preload s
  | .extest => Sys2Proof.Machine.execExtest s
  | .clamp => Sys2Proof.Machine.execClamp s
  | .highz => Sys2Proof.Machine.execHighz s
  | .dbgacc a => Sys2Proof.Machine.execDbgacc a s
  | .portTrainingFailure p => Sys2Proof.Machine.execPortTrainingFailure p s
  | .submissionQueueEntryWrite off data => Sys2Proof.Machine.execSubmissionQueueEntryWrite off data s
  | .msixVectorUnmask v => Sys2Proof.Machine.execMsixVectorUnmask v s
  | .configSpaceWrite w => Sys2Proof.Machine.execConfigSpaceWrite w s
  | .canFrameTransmit o => Sys2Proof.Machine.execCanFrameTransmit o s
  | .journalCompaction ok => Sys2Proof.Machine.execJournalCompaction ok s
  | .coverageRunEnd patterns us => Sys2Proof.Machine.execCoverageRunEnd patterns us s
  | .powerStageRailWarning => Sys2Proof.Machine.execPowerStageRailWarning s

end Sys2Proof.Machine
end

