-- ==== Sys2Proof/Safety.lean ====
section
/-!
DEFINITION. What a safe step, a well-kept state and an undisturbed core are, in the terms that statements use.
-/

namespace Sys2Proof.Machine

/-- A step that neither faults nor is refused. -/
def State.safeStep (s : State) : Prop := ∃ t, step s = Host.Outcome.next t

/-- Every byte memory of the module is in canonical form: local memory, the desks, the submission queues and the trace rings. -/
def State.memWf (s : State) : Bool :=
  s.mem.mem.wf && s.host.sqMem.wf && (s.slots.toList.all fun x => x.desk.mem.wf) && s.dbg.rings.toList.all fun r => r.mem.wf

/-- Every byte of local memory, of every desk, of the submission queues and of the trace rings reads in `t` as in `s`. -/
def State.sameBytes (s t : State) : Prop :=
  (∀ a, t.mem.mem.read a = s.mem.mem.read a)
  ∧ (∀ (k : SlotId) a, (t.slot k).desk.mem.read a = (s.slot k).desk.mem.read a)
  ∧ (∀ a, t.host.sqMem.read a = s.host.sqMem.read a)
  ∧ ∀ (i : StreamId) a, t.dbg.rings[i].mem.read a = s.dbg.rings[i].mem.read a

/-! ### A core between instructions -/

/-- The core in slot `k` serves Stream `i` and executes; no load is out, no exception, store error, watchdog expiry or group stands open, no
register fails its parity check, no queued vector instruction has a D register or an accumulator as destination (02 R31), and the debug
monitor is not enabled (14 R409). -/
def State.clear (s : State) (i : StreamId) (k : SlotId) : Prop :=
  let x := s.slot k
  s.slotOf i = some k ∧ (x.status = .running ∨ x.status = .monitor) ∧ x.exc = none ∧ x.loads = [] ∧ x.storeErr = none
  ∧ x.wd.pending = false ∧ x.chain = none ∧ x.parity = [] ∧ x.dbg.monen = false
  ∧ (∀ n, x.eng.targetsD n = false) ∧ ∀ n, x.eng.targetsQ n = false

/-- The next sequential address of an instruction of `size` bytes is not LE of a loop that runs (07 R238, R239). -/
def Slot.notAtEnd (x : Slot) (size : Nat) : Prop := x.regs.lc = 0 ∨ x.regs.pc + BitVec.ofNat 64 size ≠ x.regs.le

/-- In no delay slot, or at no loop end: the one place where R239 forbids every instruction is a delay slot that ends a loop. -/
def Slot.placed (x : Slot) (size : Nat) : Prop := x.delay = none ∨ x.notAtEnd size

/-- What every completed instruction does to its slot besides its own effect: its line is entered (07 R220, R222), nothing waits
at it, the watchdog counts it as progress (08 R269) and its own breakpoint exemption ends (14 R411). -/
def Slot.completed (x : Slot) (more : Bool) : Slot :=
  { x.enterLine more with
    waitAt := none
    partsDone := 0
    wd := x.progress.wd
    dbg := { x.dbg with exempt := x.exemptAfter } }

/-- From `s` the core in slot `k` has completed an instruction of `size` bytes whose own effect on the slot is `g`; PC then goes on in
sequence, or by the delay slot or the loop (07 R223, R238). Nothing else changes. -/
def State.after (s : State) (k : SlotId) (size : Nat) (g : Slot → Slot) : State :=
  s.modSlot k fun x => (g (x.completed (s.moreLines k))).sequence size

/-- The same for an effect on the registers. -/
def State.afterRegs (s : State) (k : SlotId) (size : Nat) (g : Regs → Regs) : State :=
  s.after k size fun x => { x with regs := g x.regs }

/-- From `s` the core in slot `k` has completed a branch or jump of 4 bytes, taken to `target` or not taken, with the register effect `g`: its
delay slot comes next, and a taken branch enters the branch-target buffer (07 R221, R223). -/
def State.afterBranch (s : State) (k : SlotId) (target : Option Word64) (g : Regs → Regs) : State :=
  s.modSlot k fun x =>
    let a := x.regs.pc
    { x.completed (s.moreLines k) with
      regs := { g x.regs with pc := a + 4 }
      delay := some ⟨a, target.getD (a + 8)⟩
      btb := match target with
        | some t => x.btb.set (a.toNat / 4 % 64) (some ⟨a, t⟩) (Nat.mod_lt _ (by decide))
        | none => x.btb }

/-- From `s` the core in slot `k` raises an exception in execution: the line of the instruction is entered (07 R220), and nothing that the
instruction would write is written. -/
def State.trapped (s : State) (k : SlotId) (e : Exc) : State := (s.enterLine k).raiseExc k e

/-! ### What a core may access -/

/-- The byte that the core in slot `k` finds at `a`, in its desk window or in local memory (05 R142, R144). -/
def State.byteAt (s : State) (k : SlotId) (a : Nat) : Byte :=
  if deskBase ≤ a then (s.slot k).desk.mem.read (a - deskBase) else s.mem.mem.read a

/-- No block and no desk word under `n` bytes at `a` has an error, and no read of one of the blocks has failed its last retry (05 R154, R166;
10 R299). -/
def State.sound (s : State) (k : SlotId) (a n : Nat) : Prop :=
  if deskBase ≤ a then ∀ w ∈ wordsOf (a - deskBase) n, w ∉ (s.slot k).desk.bad ∧ w ∉ (s.slot k).desk.soft
  else ∀ b ∈ blocksOf a n, b ∉ s.mem.bad ∧ b ∉ s.mem.soft ∧ (∀ f ∈ s.mem.failed, f.1 ≠ b) ∧ s.ports[(s.homeOf b).1].gone = false

/-- A core access of `n` bytes at `a` breaks no rule of address or alignment (07 R227). -/
def State.mayAccess (s : State) (a n align : Nat) : Prop := a % align = 0 ∧ s.badByte a n = none

/-- A core read of `n` bytes at `a` comes from memory alone: it is permitted and sound, no store-buffer entry shares a byte with it (07 R231),
and no vector entry runs (02 R30). -/
def State.mayRead (s : State) (k : SlotId) (a n align : Nat) : Prop :=
  s.mayAccess a n align ∧ s.sound k a n ∧ (∀ e ∈ (s.slot k).sbuf, e.meets a n = false)
  ∧ ((s.slot k).eng.queue = [] ∨ (s.slot k).eng.stopped = true)

end Sys2Proof.Machine
end

