-- ==== Sys2Proof/Certificates/Slice0/Obligations.lean ====
section
/-!
DEFINITION. The statements for the provers, with the tables of rows that they speak of.
-/

namespace Sys2Proof.Machine

/-! ### Rows of one shape -/

/-- Two-source integer rows: what D[RD] becomes from D[RA] and D[RB] (07 R252; 04 R141 has the unary ones). -/
def Rows.binary : List ((StreamId → RFmt → Instr) × (Word64 → Word64 → Word64 → Prop)) := [
  (.add, fun a b v => v.toNat = (a.toNat + b.toNat) % 2 ^ 64),
  (.sub, fun a b v => (v.toNat + b.toNat) % 2 ^ 64 = a.toNat),
  (.mul, fun a b v => v.toNat = a.toNat * b.toNat % 2 ^ 64),
  (.mulh, fun a b v => v.toInt = a.toInt * b.toInt / 2 ^ 64),
  (.mulhu, fun a b v => v.toNat = a.toNat * b.toNat / 2 ^ 64),
  (.and, fun a b v => ∀ j, v.getLsbD j = (a.getLsbD j && b.getLsbD j)),
  (.or, fun a b v => ∀ j, v.getLsbD j = (a.getLsbD j || b.getLsbD j)),
  (.xor, fun a b v => ∀ j, v.getLsbD j = (a.getLsbD j ^^ b.getLsbD j)),
  (.andn, fun a b v => ∀ j, v.getLsbD j = (a.getLsbD j && !b.getLsbD j)),
  (.shl, fun a b v => v.toNat = a.toNat * 2 ^ (b.toNat % 64) % 2 ^ 64),
  (.shr, fun a b v => v.toNat = a.toNat / 2 ^ (b.toNat % 64)),
  (.sar, fun a b v => v.toInt = a.toInt / 2 ^ (b.toNat % 64)),
  (.ror, fun a b v => ∀ j < 64, v.getLsbD j = a.getLsbD ((j + b.toNat % 64) % 64)),
  (.min, fun a b v => v.toInt = Min.min a.toInt b.toInt),
  (.max, fun a b v => v.toInt = Max.max a.toInt b.toInt),
  (.minu, fun a b v => v.toNat = Min.min a.toNat b.toNat),
  (.maxu, fun a b v => v.toNat = Max.max a.toNat b.toNat)]

/-- The number of 1 bits of a word. -/
def ones (a : Word64) : Nat := ((List.range 64).filter fun j => a.getLsbD j).length

/-- One-source integer rows (07 R252; 04 R141). -/
def Rows.unary : List ((StreamId → RFmt → Instr) × (Word64 → Word64 → Prop)) := [
  (.popc, fun a v => v.toNat = ones a),
  (.parity, fun a v => v.toNat = ones a % 2),
  (.brev, fun a v => ∀ j < 64, v.getLsbD j = a.getLsbD (63 - j)),
  (.clz, fun a v => (a = 0 → v.toNat = 64)
    ∧ (a ≠ 0 → v.toNat < 64 ∧ a.toNat < 2 ^ (64 - v.toNat) ∧ 2 ^ (63 - v.toNat) ≤ a.toNat)),
  (.ctz, fun a v => (a = 0 → v.toNat = 64) ∧ (a ≠ 0 → v.toNat < 64 ∧ a.getLsbD v.toNat = true ∧ 2 ^ v.toNat ∣ a.toNat))]

/-- The extensions of the low 1, 2 or 4 bytes (07 R251, R252). -/
def Rows.extend : List ((StreamId → RFmt → Instr) × (Nat → Word64 → Word64 → Prop)) := [
  (.sext, fun n a v => ∀ j < 64, v.getLsbD j = a.getLsbD (Min.min j (8 * n - 1))),
  (.zext, fun n a v => v.toNat = a.toNat % 2 ^ (8 * n))]

/-- I-format rows without a shift count (07 R251, R252). -/
def Rows.immediate : List ((StreamId → IFmt → Instr) × (Word64 → BitVec 12 → Word64 → Prop)) := [
  (.addi, fun a m v => v.toInt = (a.toInt + m.toInt).bmod (2 ^ 64)),
  (.andi, fun a m v => ∀ j, v.getLsbD j = (a.getLsbD j && m.getLsbD j)),
  (.ori, fun a m v => ∀ j, v.getLsbD j = (a.getLsbD j || m.getLsbD j)),
  (.xori, fun a m v => ∀ j, v.getLsbD j = (a.getLsbD j ^^ m.getLsbD j))]

/-- Shifts by IMM12 bits [5:0] (07 R251, R252). -/
def Rows.shift : List ((StreamId → IFmt → Instr) × (Word64 → Nat → Word64 → Prop)) := [
  (.shli, fun a n v => v.toNat = a.toNat * 2 ^ n % 2 ^ 64),
  (.shri, fun a n v => v.toNat = a.toNat / 2 ^ n),
  (.sari, fun a n v => v.toInt = a.toInt / 2 ^ n),
  (.rori, fun a n v => ∀ j < 64, v.getLsbD j = a.getLsbD ((j + n) % 64))]

/-- The overflow-checked rows with two sources: the exact result (04 R134). -/
def Rows.checked : List ((StreamId → RFmt → Instr) × (Int → Int → Int)) := [
  (.addv, fun a b => a + b),
  (.subv, fun a b => a - b),
  (.mulv, fun a b => a * b)]

/-- The divide rows: the result for a divisor that is not 0, and for a divisor of 0 (04 R137). -/
def Rows.divide : List ((StreamId → RFmt → Instr) × (Word64 → Word64 → Word64 → Prop) × (Word64 → Word64)) := [
  (.divs, fun a b v => v.toInt = (a.toInt.tdiv b.toInt).bmod (2 ^ 64), fun _ => 0),
  (.divu, fun a b v => v.toNat = a.toNat / b.toNat, fun _ => 0),
  (.rems, fun a b v => v.toInt = a.toInt.tmod b.toInt, fun a => a),
  (.remu, fun a b v => v.toNat = a.toNat % b.toNat, fun a => a)]

/-! ### Exact results, rounded once -/

/-- (−1)^neg · m · 2^e, the number of a finite encoding (04 R100). -/
def ratOf (neg : Bool) (m : Nat) (e : Int) : ℚ := (if neg then -1 else 1) * m * 2 ^ e

/-- The numbers m · 2^e with at most p significant bits: in the exponent range of the format, or with an unbounded one (04 R103, R111). -/
def FloatFmt.reaches (p : FloatFmt) (bounded : Bool) (y : ℝ) : Prop :=
  ∃ m e : ℤ, |m| < 2 ^ p.p ∧ (bounded = true → p.qmin ≤ e ∧ e ≤ p.emax - p.fw) ∧ y = m * 2 ^ e

/-- `y` is the number of `S` to which the exact `v` rounds: toward zero, up, down, to the nearest with ties away from zero, and else to the nearest
with ties to the even one, which is an even multiple of its distance from the other (04 R103, rounding table; a code that FPCSR.RM cannot hold,
R106, rounds as RNE). -/
def roundsTo (rm : BitVec 3) (S : ℝ → Prop) (v y : ℝ) : Prop :=
  S y
  ∧ (rm = 2 → |y| ≤ |v| ∧ 0 ≤ y * v ∧ ∀ z, S z → |z| ≤ |v| → 0 ≤ z * v → |z| ≤ |y|)
  ∧ (rm = 3 → v ≤ y ∧ ∀ z, S z → v ≤ z → y ≤ z)
  ∧ (rm = 4 → y ≤ v ∧ ∀ z, S z → z ≤ v → z ≤ y)
  ∧ (rm ≠ 2 → rm ≠ 3 → rm ≠ 4 → ∀ z, S z → |y - v| ≤ |z - v|
    ∧ (|y - v| = |z - v| → z ≠ y → (rm = 5 → |z| < |y|) ∧ (rm ≠ 5 → ∃ n : ℤ, y = 2 * n * (z - y))))

/-- `x` delivers the exact `v` rounded once to the format, with OF, UF and IX: an exact zero has the sign `zeroNeg`; a number whose rounding with an
unbounded exponent range exceeds Ω overflows; a tiny result that is inexact underflows (04 R103, R110-R112; IX beside OF whether or not overflow
traps is the model's choice, log 131). -/
def FloatFmt.rounded (p : FloatFmt) (rm : BitVec 3) (v : ℝ) (zeroNeg : Bool) (x : FRes) : Prop :=
  x.val < 2 ^ p.width
  ∧ (v = 0 → p.decode x.val = .fin zeroNeg 0 p.qmin ∧ x.flags = 0)
  ∧ (v ≠ 0 → ∃ (neg : Bool) (u : ℝ), (neg = true ↔ v < 0) ∧ roundsTo rm (p.reaches false) v u
    ∧ ((2 ^ p.p - 1) * 2 ^ (p.emax - p.fw) < |u| → x.flags = 0x14
      ∧ p.decode x.val = if rm = 2 ∨ (rm = 3 ∧ neg = true) ∨ (rm = 4 ∧ neg = false) then .fin neg (2 ^ p.p - 1) (p.emax - p.fw) else .inf neg)
    ∧ (|u| ≤ (2 ^ p.p - 1) * 2 ^ (p.emax - p.fw) → ∃ m e, p.decode x.val = .fin neg m e
      ∧ roundsTo rm (p.reaches true) v (ratOf neg m e)
      ∧ (ratOf neg m e = v → x.flags = 0)
      ∧ (ratOf neg m e ≠ v → (|u| < 2 ^ p.emin → x.flags = 0x18) ∧ (2 ^ p.emin ≤ |u| → x.flags = 0x10))))

/-- The default NaNs (04, format table). -/
def FloatFmt.quietNaN (p : FloatFmt) : Nat :=
  if p = binary64 then 0x7FF8000000000000 else if p = binary32 then 0x7FC00000 else if p = binary16 then 0x7E00 else 0x7FC0

/-- `x` is the default NaN, with IV when `iv` holds (04 R108, R109). -/
def FloatFmt.givesNaN (p : FloatFmt) (iv : Prop) (x : FRes) : Prop := x.val = p.quietNaN ∧ (iv → x.flags = 1) ∧ (¬iv → x.flags = 0)

/-- `x` is an infinity with the flags `fl`. -/
def FloatFmt.givesInf (p : FloatFmt) (neg : Bool) (fl : FlagSet) (x : FRes) : Prop :=
  x.val < 2 ^ p.width ∧ p.decode x.val = .inf neg ∧ x.flags = fl

/-- `x` is a + b: with infinities of opposite sign IV, and the zero signs of R110 (04 R109, R110). -/
def FloatFmt.sums (p : FloatFmt) (rm : BitVec 3) (a b : FVal) (x : FRes) : Prop :=
  match a, b with
  | .fin s m e, .fin t n g => p.rounded rm (ratOf s m e + ratOf t n g : ℚ) (if m = 0 ∧ n = 0 ∧ s = t then s else rm == 4) x
  | .fin _ _ _, .inf t => p.givesInf t 0 x
  | .inf s, .fin _ _ _ => p.givesInf s 0 x
  | .inf s, .inf t => if s = t then p.givesInf s 0 x else p.givesNaN True x
  | _, _ => p.givesNaN (a = .nan true ∨ b = .nan true) x

/-- `x` is a × b: 0 × ∞ raises IV (04 R109, R110). -/
def FloatFmt.multiplies (p : FloatFmt) (rm : BitVec 3) (a b : FVal) (x : FRes) : Prop :=
  match a, b with
  | .fin s m e, .fin t n g => p.rounded rm (ratOf s m e * ratOf t n g : ℚ) (s != t) x
  | .fin s m _, .inf t => if m = 0 then p.givesNaN True x else p.givesInf (s != t) 0 x
  | .inf s, .fin t n _ => if n = 0 then p.givesNaN True x else p.givesInf (s != t) 0 x
  | .inf s, .inf t => p.givesInf (s != t) 0 x
  | _, _ => p.givesNaN (a = .nan true ∨ b = .nan true) x

/-- `x` is a ÷ b: 0 ÷ 0 and ∞ ÷ ∞ raise IV, another number divided by zero raises DZ (04 R109-R111). -/
def FloatFmt.divides (p : FloatFmt) (rm : BitVec 3) (a b : FVal) (x : FRes) : Prop :=
  match a, b with
  | .fin s m e, .fin t n g =>
    if n = 0 then (if m = 0 then p.givesNaN True x else p.givesInf (s != t) 2 x)
    else p.rounded rm (ratOf s m e / ratOf t n g : ℚ) (s != t) x
  | .fin s _ _, .inf t => p.rounded rm 0 (s != t) x
  | .inf s, .fin t _ _ => p.givesInf (s != t) 0 x
  | .inf _, .inf _ => p.givesNaN True x
  | _, _ => p.givesNaN (a = .nan true ∨ b = .nan true) x

/-- `x` is √a: IV below zero, and √(−0) is −0 (04 R109, R110). -/
def FloatFmt.roots (p : FloatFmt) (rm : BitVec 3) (a : FVal) (x : FRes) : Prop :=
  match a with
  | .fin s m e => if s = true ∧ m ≠ 0 then p.givesNaN True x else p.rounded rm (√(ratOf s m e : ℝ)) s x
  | .inf s => if s then p.givesNaN True x else p.givesInf false 0 x
  | .nan s => p.givesNaN (s = true) x

/-- `x` is a × b + c, rounded once after the addition: 0 × ∞ raises IV whatever c is (02 R66; 04 R103, R109). -/
def FloatFmt.fuses (p : FloatFmt) (rm : BitVec 3) (a b c : FVal) (x : FRes) : Prop :=
  match a, b with
  | .fin s m e, .fin t n g => p.sums rm (.fin (s != t) (m * n) (e + g)) c x
  | .fin s m _, .inf t => if m = 0 then p.givesNaN True x else p.sums rm (.inf (s != t)) c x
  | .inf s, .fin t n _ => if n = 0 then p.givesNaN True x else p.sums rm (.inf (s != t)) c x
  | .inf s, .inf t => p.sums rm (.inf (s != t)) c x
  | _, _ => p.givesNaN (a = .nan true ∨ b = .nan true ∨ c = .nan true) x

/-- `x` is `a` rounded to an integral value, without IX; zeros and infinities stay as they are (04 R122). -/
def FloatFmt.integrates (p : FloatFmt) (rm : BitVec 3) (a : FVal) (x : FRes) : Prop :=
  match a with
  | .fin s m e => x.flags = 0 ∧ x.val < 2 ^ p.width ∧ ∃ n g, p.decode x.val = .fin s n g
    ∧ roundsTo rm (fun y => ∃ i : ℤ, y = i) (ratOf s m e) (ratOf s n g)
  | .inf s => p.givesInf s 0 x
  | .nan s => p.givesNaN (s = true) x

/-- a < b for numbers, infinities included, with −0 below +0 (04 R117). -/
def FVal.below (a b : FVal) : Prop :=
  match a, b with
  | .fin s m e, .fin t n g => ratOf s m e < ratOf t n g ∨ (m = 0 ∧ n = 0 ∧ s = true ∧ t = false)
  | .fin _ _ _, .inf t => t = false
  | .inf s, .fin _ _ _ => s = true
  | .inf s, .inf t => s = true ∧ t = false
  | _, _ => False

/-- `x` is the smaller or the larger of the encodings `a` and `b`: a NaN yields to a number, two give the default NaN, and only a signalling one
raises IV (04 R117). -/
def FloatFmt.picks (p : FloatFmt) (larger : Bool) (a b : Nat) (x : FRes) : Prop :=
  let y := p.decode a
  let z := p.decode b
  (x.flags = if y = .nan true ∨ z = .nan true then 1 else 0)
  ∧ (y.isNaN = true → z.isNaN = true → x.val = p.quietNaN)
  ∧ (y.isNaN = true → z.isNaN = false → x.val = b)
  ∧ (y.isNaN = false → z.isNaN = true → x.val = a)
  ∧ (y.isNaN = false → z.isNaN = false → (x.val = a ∨ x.val = b)
    ∧ ∀ w ∈ [y, z], if larger then ¬(p.decode x.val).below w else ¬w.below (p.decode x.val))

/-- a < b and a = b for two values, where −0 equals +0 (04 R116). -/
def FVal.less (a b : FVal) : Prop := match a, b with
  | .fin s m e, .fin t n g => ratOf s m e < ratOf t n g
  | _, _ => a.below b
def FVal.same (a b : FVal) : Prop := match a, b with
  | .fin s m e, .fin t n g => ratOf s m e = ratOf t n g
  | .inf s, .inf t => s = t
  | _, _ => False

/-- `v` is the class of the encoding `a`: NaNs, infinities, normal and subnormal numbers and zeros by their signs (04 R118). -/
def FloatFmt.classes (p : FloatFmt) (a v : Nat) : Prop :=
  match p.decode a with
  | .nan s => v = if s then 0 else 1
  | .inf s => v = if s then 2 else 9
  | .fin s n e => (n = 0 → v = if s then 5 else 6) ∧ (n ≠ 0 → ratOf false n e < 2 ^ p.emin → v = if s then 4 else 7)
    ∧ (2 ^ p.emin ≤ ratOf false n e → v = if s then 3 else 8)

/-- `x` is element `a` of type `src` converted to type `dst` (04 R119-R121). -/
def convertsTo (rm : BitVec 3) (src dst a : Nat) (x : FRes) : Prop :=
  x.val < 2 ^ typeBits dst
  ∧ match floatOf src, floatOf dst with
    | some f, some g => match f.decode a with
      | .fin s m e => g.rounded rm (ratOf s m e) s x
      | .inf s => g.givesInf s 0 x
      | .nan s => g.givesNaN (s = true) x
    | some f, none =>
      let lo := (intRange dst).1
      let hi := (intRange dst).2
      match f.decode a with
      | .fin s m e => ∃ i : ℤ, roundsTo rm (fun y => ∃ j : ℤ, y = j) (ratOf s m e) i
        ∧ (i < lo → asInt dst x.val = lo ∧ x.flags = 1) ∧ (hi < i → asInt dst x.val = hi ∧ x.flags = 1)
        ∧ (lo ≤ i → i ≤ hi → asInt dst x.val = i ∧ (ratOf s m e = i → x.flags = 0) ∧ (ratOf s m e ≠ i → x.flags = 0x10))
      | .inf s => asInt dst x.val = (if s then lo else hi) ∧ x.flags = 1
      | .nan _ => x.val = 0 ∧ x.flags = 1
    | none, some g => g.rounded rm (asInt src a) false x
    | none, none => (asInt dst x.val - asInt src a) % 2 ^ typeBits dst = 0
      ∧ (asInt dst x.val = asInt src a → x.flags = 0) ∧ (asInt dst x.val ≠ asInt src a → x.flags = 0x20)

/-- Two-source floating-point rows: the result in the format that P selects, for a rounding mode (07 R252; 04 R103). -/
def Rows.float : List ((StreamId → FFmt → Instr) × (FloatFmt → BitVec 3 → FVal → FVal → FRes → Prop)) := [
  (.fadd, fun p rm a b x => p.sums rm a b x),
  (.fsub, fun p rm a b x => p.sums rm a b.neg x),
  (.fmul, fun p rm a b x => p.multiplies rm a b x),
  (.fdiv, fun p rm a b x => p.divides rm a b x)]

/-- One-source floating-point rows that round or raise flags. -/
def Rows.float1 : List ((StreamId → FFmt → Instr) × (FloatFmt → BitVec 3 → FVal → FRes → Prop)) := [
  (.fsqrt, fun p rm a x => p.roots rm a x),
  (.frint, fun p rm a x => p.integrates rm a x)]

/-- FMIN and FMAX (04 R117). -/
def Rows.floatMin : List ((StreamId → FFmt → Instr) × Bool) := [(.fmin, false), (.fmax, true)]

/-- The fused rows: a × b + c, a × b − c and −(a × b) + c, rounded once (02 R66; 04 R103). -/
def Rows.fused : List ((StreamId → F4Fmt → Instr) × (FloatFmt → BitVec 3 → FVal → FVal → FVal → FRes → Prop)) := [
  (.fma, fun p rm a b c x => p.fuses rm a b c x),
  (.fms, fun p rm a b c x => p.fuses rm a b c.neg x),
  (.fnma, fun p rm a b c x => p.fuses rm a.neg b c x)]

/-- The rows that copy or classify bits, and whether the row raises IV on a signalling NaN: all operations but those of R108 do, so FCLASS
does (04 R108, R109, R118; log 128). -/
def Rows.floatBits : List ((StreamId → FFmt → Instr) × (FloatFmt → Nat → Word64 → Prop) × Bool) := [
  (.fabs, fun p a v => ∀ j, v.getLsbD j = (decide (j < p.width - 1) && a.testBit j), false),
  (.fneg, fun p a v => ∀ j, v.getLsbD j = if j = p.width - 1 then !a.testBit j else decide (j < p.width) && a.testBit j, false),
  (.fclass, fun p a v => p.classes a v.toNat, true)]

/-- FCMP and FCMPS: whether a quiet NaN raises IV (04 R116; 07 R217). -/
def Rows.floatCmp : List ((StreamId → FFmt → Instr) × Bool) := [(.fcmp, false), (.fcmps, true)]

/-- What a completed arithmetic row leaves in the registers: the result, and its flags in the sticky bits (04 R115). -/
def Regs.withResult (r : Regs) (rd : BitVec 5) (x : FRes) : Regs :=
  { r.setD rd (BitVec.ofNat 64 x.val) with fpcsr := r.fpcsr ||| x.flags.zeroExtend 32 }

/-- An instruction that raises a flag set: it completes when no condition is enabled, or none that is raised, and else takes the exception of the
first enabled one, with the flags in its record and nothing written (04 R114, R115). -/
def State.completesOrTraps (s : State) (c : Instr) (k : SlotId) (fl : FlagSet) (g : Regs → Regs) : Prop :=
  (((s.regs k).fpcsr >>> 7).truncate 7 = (0 : BitVec 7) → exec c s = .next (s.afterRegs k 4 g))
  ∧ (arithTrap (s.regs k) fl = none → exec c s = .next (s.afterRegs k 4 g))
  ∧ ∀ v, arithTrap (s.regs k) fl = some v → exec c s = .next (s.trapped k ((s.slot k).excAt v 0 0 fl))

/-! ### Rows of memory and control -/

/-- The condition that a code of BCC names, 0 to 14 (07 R223). -/
def CC.meets (cc : CC) (c : Nat) : Bool :=
  [cc.z, !cc.z, cc.n != cc.v, cc.n == cc.v, cc.z || cc.n != cc.v, !cc.z && cc.n == cc.v, cc.c, !cc.c,
    cc.c || cc.z, !cc.c && !cc.z, cc.n, !cc.n, cc.v, !cc.v, true].getD c false

/-- The condition codes of the comparison of `a` with `b`, that is of a − b (07 R217). -/
def CC.compares (cc : CC) (a b : Word64) : Prop :=
  (cc.n = true ↔ (a - b).toInt < 0) ∧ (cc.z = true ↔ a = b) ∧ (cc.v = true ↔ (a - b).toInt ≠ a.toInt - b.toInt)
  ∧ (cc.c = true ↔ a.toNat < b.toNat)

/-- Loads of a D register: bytes, and whether the value is sign-extended (07 R252). -/
def Rows.load : List ((StreamId → MFmt → Instr) × Nat × Bool) := [
  (.ldb, 1, true), (.ldbu, 1, false), (.ldh, 2, true), (.ldhu, 2, false), (.ldw, 4, true), (.ldwu, 4, false), (.ldd, 8, false)]

/-- Stores of a D register, with their bytes. -/
def Rows.store : List ((StreamId → MFmt → Instr) × Nat) := [(.stb, 1), (.sth, 2), (.stw, 4), (.std, 8)]

/-- The word that `n` little-endian bytes spell, sign-extended or zero-extended to 64 bits. -/
def extended (signed : Bool) (bs : List Byte) : Word64 :=
  if signed then BitVec.ofInt 64 ((leNat bs : Int).bmod (2 ^ (8 * bs.length))) else BitVec.ofNat 64 (leNat bs)

/-- The bytes that the core in slot `k` finds from `a` upward. -/
def State.bytesAt (s : State) (k : SlotId) (a n : Nat) : List Byte := (List.range n).map fun j => s.byteAt k (a + j)

/-- A load that is out, its data captured (07 R228). -/
def Slot.loading (x : Slot) (a : Word64) (vals : List (Dest × Word64)) : PendingLoad :=
  ⟨vals, a, none, decide (a.toNat < deskBase), x.back.1, x.back.2, false, false, none, [], x.regs.lc⟩

/-- The command completes as a load of `n` bytes at `a` with the values `vals`: PC goes on, the values are out, and no register or byte changes
yet (07 R228). -/
def State.loads (s : State) (c : Instr) (k : SlotId) (a : Word64) (n : Nat) (vals : List (Dest × Word64)) : Prop :=
  exec c s = .next ((s.meterCore k a.toNat n).after k 4 fun x => { x with loads := [x.loading a vals] })

/-- The command completes as a store: its entry is the youngest of the store buffer, and nothing else changes (07 R230). -/
def State.stores (s : State) (c : Instr) (k : SlotId) (a : Word64) (bs : List Byte) : Prop :=
  exec c s = .next (s.after k 4 fun x => { x with sbuf := x.sbuf ++ [⟨a.toNat, bs, false⟩] })
  ∧ ∀ t, exec c s = .next t → s.sameBytes t

/-- The low `n` bytes of a word, lowest first. -/
def wordLow (v : Word64) (n : Nat) : List Byte := (List.range n).map fun j => BitVec.ofNat 8 (v.toNat / 256 ^ j)

/-- Command `c` performs `j` iterations of a REP pair of the core in slot `k`: the entries `buf` join the store buffer, the registers become `g` of what they
were, no byte changes yet, and the pair is over when `ends` holds, else the core stays at its prefix (07 R242, R244). -/
def State.repeats (s : State) (c : Instr) (k : SlotId) (j : Nat) (ends : Prop) (buf : List StoreEntry) (g : Regs → Regs) : Prop :=
  let after : Slot := { s.slot k with regs := g (s.regs k) }
  ∃ t, exec c s = .next t ∧ s.sameBytes t ∧ (t.slot k).sbuf = (s.slot k).sbuf ++ buf
    ∧ (ends → t.regs k = (after.sequence 8).regs ∧ (t.slot k).partsDone = 0)
    ∧ (¬ends → t.regs k = after.regs ∧ (t.slot k).partsDone = (s.slot k).partsDone + j)

/-- A branch may stand here: in no delay slot and not before LE of a loop that runs (07 R224, R239). -/
def Slot.mayBranch (x : Slot) : Prop := x.delay = none ∧ x.notAtEnd 4

/-- The special registers as MFS reads them (07 R214). -/
def Rows.special : List (Nat × (Slot → Word64)) := [
  (0, fun x => x.regs.pc),
  (1, fun x => BitVec.ofNat 64 (8 * x.regs.cc.n.toNat + 4 * x.regs.cc.z.toNat + 2 * x.regs.cc.v.toNat + x.regs.cc.c.toNat)),
  (2, fun x => x.regs.vl.zeroExtend 64), (3, fun x => x.regs.vx.zeroExtend 64), (4, fun x => x.regs.lc.zeroExtend 64),
  (5, fun x => x.regs.ls), (6, fun x => x.regs.le), (7, fun x => x.regs.tsbp), (8, fun x => x.regs.edb),
  (9, fun x => x.regs.fpcsr.zeroExtend 64),
  (10, fun x => BitVec.ofNat 64 (x.resv.isSome.toNat * 2 ^ 16 + x.regs.qd.toNat * 2 ^ 8 + x.regs.iml.toNat))]

/-- What MTS of a value does to each special register, and the values that it takes (07 R214, R215; 04 R106). -/
def Rows.writable : List (Nat × (Word64 → Prop) × (Regs → Word64 → Regs)) := [
  (1, fun v => v.toNat < 16, fun r v => { r with cc := ⟨v.getLsbD 3, v.getLsbD 2, v.getLsbD 1, v.getLsbD 0⟩ }),
  (2, fun v => v.toNat < 2 ^ 32, fun r v => { r with vl := BitVec.ofNat 32 v.toNat }),
  (3, fun v => v.toNat < 2 ^ 32, fun r v => { r with vx := BitVec.ofNat 32 v.toNat }),
  (4, fun v => v.toNat < 2 ^ 32, fun r v => { r with lc := BitVec.ofNat 32 v.toNat }),
  (5, fun v => v.toNat % 4 = 0, fun r v => { r with ls := v }),
  (6, fun v => v.toNat % 4 = 0, fun r v => { r with le := v }),
  (7, fun _ => True, fun r v => { r with tsbp := v }),
  (8, fun _ => True, fun r v => { r with edb := v }),
  (9, fun v => v.toNat < 2 ^ 32 ∧ v.toNat / 2 ^ 19 % 2 = 0 ∧ v.toNat / 2 ^ 14 % 4 = 0 ∧ 1 ≤ v.toNat / 2 ^ 16 % 8 ∧ v.toNat / 2 ^ 16 % 8 ≤ 5,
    fun r v => { r with fpcsr := BitVec.ofNat 32 v.toNat }),
  (10, fun v => v.toNat < 2 ^ 17 ∧ v.toNat / 2 ^ 12 % 16 = 0 ∧ v.toNat / 2 ^ 4 % 16 = 0,
    fun r v => { r with qd := BitVec.ofNat 4 (v.toNat / 2 ^ 8), iml := BitVec.ofNat 4 v.toNat })]

/-- Qn is not guarded, so that its writer saves nothing first (08 R264). -/
def State.unguarded (s : State) (k : SlotId) (n : BitVec 2) : Prop := (s.regs k).qg.getLsbD n.toNat = false

/-! ### Exceptions -/

/-- The 64-bit word at a desk offset, as a number. -/
def Slot.deskWord (x : Slot) (o : Nat) : Nat := leNat ((List.range 8).map fun j => x.desk.mem.read (o + j))

/-- The descriptor words `w0` and `w1` keep the rules of R258: handler `h`, level `iml`, TSB selector `sel`, and the new A15, if any. -/
def State.describes (s : State) (w0 w1 : Nat) (h : Nat) (iml sel : Nat) (nsp : Option Nat) : Prop :=
  w0 = h ∧ h < 2 ^ 42 ∧ h % 4 = 0 ∧ s.badByte h 4 = none ∧ iml < 16 ∧ sel < 8
  ∧ w1 = iml * 2 ^ 56 + sel * 2 ^ 53 + 2 ^ 52 + nsp.getD (2 ^ 51)
  ∧ ∀ a, nsp = some a → a % 16 = 0 ∧ 16 ≤ a ∧ a < 2 ^ 42 ∧ s.badByte (a - 16 : Nat) 16 = none

/-- Entry of vector `v` passes every check of R258 and R259, finds its TSB free, and reads no uncorrectable word. -/
def State.entryReady (s : State) (k : SlotId) (v : Byte) (h iml sel : Nat) (nsp : Option Nat) : Prop :=
  let x := s.slot k
  let r := s.regs k
  let tb := r.tsbp.toNat + 512 * sel
  let d := r.edb.toNat - deskBase + 16 * v.toNat
  r.edb.toNat % 1024 = 0 ∧ inOwnDesk r.edb.toNat 1024 = true ∧ s.sound k (deskBase + d) 16
  ∧ s.describes (x.deskWord d) (x.deskWord (d + 8)) h iml sel nsp
  ∧ r.tsbp.toNat % 512 = 0 ∧ inOwnDesk tb 512 = true ∧ s.sound k (tb + 0x1F0) 8 ∧ x.deskWord (tb - deskBase + 0x1F0) % 2 = 0

/-- What an entry leaves in slot `k` of `t`, from the state `s` before it: R260 steps 4 and 5 at the TSB `tb`, with the record of R261, of which VEC,
OVEC and ECAUSE are as given; escalation also writes QSP (08 R267). -/
def State.saved (s t : State) (k : SlotId) (e : Exc) (vec ovec ecause tb : Nat) (escalation : Bool) (h iml : Nat) (nsp : Option Nat) : Prop :=
  let r := s.regs k
  let o := tb - deskBase
  let word (j : Nat) : Nat := (t.slot k).deskWord (o + 8 * j)
  let sr := (s.slot k).resv.isSome.toNat * 2 ^ 16 + r.qd.toNat * 2 ^ 8 + r.iml.toNat
  let v := if vec = 0xFF then ovec else vec
  let async := v = 0x0D ∨ v = 0x0E ∨ (0x20 ≤ v ∧ v < 0x40)
  let line := ((t.slot k).lines ++ (t.slot k).ahead).find? fun l => l.addr == e.ret.toNat / 256 * 256
  t.regs k = { r with
    a := (match nsp with | some v => r.a.set 15 (BitVec.ofNat 64 v) | none => r.a)
    iml := BitVec.ofNat 4 iml, qg := r.qg ||| r.qd, qd := 0, lc := 0, ctsb := BitVec.ofNat 64 tb, pc := BitVec.ofNat 64 h }
  ∧ (t.slot k).resv = none ∧ (t.slot k).delay = none ∧ (t.slot k).status = (s.slot k).status ∧ (t.slot k).sbuf = (s.slot k).sbuf
  ∧ (∀ n : Fin 16, word n.val = r.a[n].toNat) ∧ (∀ n : Fin 32, word (16 + n.val) = r.d[n].toNat)
  ∧ (word 48 = e.ret.toNat ∧ word 49 = 8 * r.cc.n.toNat + 4 * r.cc.z.toNat + 2 * r.cc.v.toNat + r.cc.c.toNat ∧ word 50 = r.vl.toNat
    ∧ word 51 = r.vx.toNat ∧ word 52 = r.lc.toNat ∧ word 53 = r.ls.toNat ∧ word 54 = r.le.toNat ∧ word 55 = r.fpcsr.toNat ∧ word 56 = sr)
  ∧ (word 57 = vec * 2 ^ 56 + ovec * 2 ^ 48 + ecause * 2 ^ 40 + e.ds.toNat * 2 ^ 32 ∧ word 58 = e.faddr.toNat
    ∧ word 59 % 2 ^ 32 = e.code.toNat * 2 ^ 20 + e.offs.toNat * 2 ^ 8 + e.flags.toNat ∧ (async → word 59 / 2 ^ 32 = 0)
    ∧ (¬async → ∀ l, line = some l → word 59 / 2 ^ 32 = leNat ((l.bytes.drop (e.ret.toNat % 256)).take 4))
    ∧ (¬async → line = none → s.badByte e.ret.toNat 4 = none → word 59 / 2 ^ 32 = leNat (s.bytesAt k e.ret.toNat 4))
    ∧ word 60 = r.qg.toNat ∧ (escalation = true → word 61 = 0x3A003FC400) ∧ word 62 = 1 ∧ word 63 = r.ctsb.toNat)
  ∧ (∀ b, (b < o ∨ o + 512 ≤ b ∨ escalation = false ∧ o + 0x1E8 ≤ b ∧ b < o + 0x1F0) →
    (t.slot k).desk.mem.read b = (s.slot k).desk.mem.read b)
  ∧ (∀ k', k' ≠ k → (t.slot k').regs = (s.slot k').regs ∧ ∀ b, (t.slot k').desk.mem.read b = (s.slot k').desk.mem.read b)
  ∧ ∀ b, t.mem.mem.read b = s.mem.mem.read b

/-- The entry of exception `e` by the descriptor with handler `h`, level `iml`, selector `sel` and new A15 `nsp`; it touches no other slot, no local memory
and nothing of the host's (08 R260, R261). -/
def State.entered (s t : State) (k : SlotId) (e : Exc) (h iml sel : Nat) (nsp : Option Nat) : Prop :=
  s.saved t k e e.vec.toNat 0 0 ((s.regs k).tsbp.toNat + 512 * sel) false h iml nsp
  ∧ (∀ k', k' ≠ k → t.slot k' = s.slot k') ∧ t.mem = s.mem ∧ t.host = s.host

/-- The one rule of R258 that the descriptor words `w0` and `w1` break, as an ECAUSE: 1 a field, 2 HADDR, 3 NSP (08 R267). -/
def State.breaks (s : State) (w0 w1 ecause : Nat) : Prop :=
  let keeps := w1 / 2 ^ 51 % 2 = 1
  let n := w1 % 2 ^ 42
  let fields := w0 < 2 ^ 42 ∧ w1 < 2 ^ 60 ∧ w1 / 2 ^ 42 % 2 ^ 9 = 0 ∧ w1 / 2 ^ 52 % 2 = 1 ∧ (keeps → n = 0)
  let haddr := w0 % 2 ^ 42 % 4 = 0 ∧ s.badByte (w0 % 2 ^ 42 : Nat) 4 = none
  let nsp := keeps ∨ (n % 16 = 0 ∧ 16 ≤ n ∧ s.badByte (n - 16 : Nat) 16 = none)
  (ecause = 1 ∧ ¬fields ∧ haddr ∧ nsp) ∨ (ecause = 2 ∧ fields ∧ ¬haddr ∧ nsp) ∨ (ecause = 3 ∧ fields ∧ haddr ∧ ¬nsp)

/-- A word of `n` bytes at desk offset `o` is uncorrectable. -/
def Slot.spoiled (x : Slot) (o n : Nat) : Prop := ∃ w ∈ wordsOf o n, w ∈ x.desk.bad

/-- Entry of vector `v` cannot complete, for the cause `c` of R267's table: 4 EDB, 7 an uncorrectable read, 1 to 3 the descriptor, 5 the place of the
TSB, 6 a TSB in use. -/
def State.failsEntry (s : State) (k : SlotId) (v : Byte) (c : Nat) : Prop :=
  let x := s.slot k
  let r := s.regs k
  let edb := r.edb.toNat % 1024 = 0 ∧ inOwnDesk r.edb.toNat 1024 = true
  let d := r.edb.toNat - deskBase + 16 * v.toNat
  (c = 4 ∧ ¬edb) ∨ (c = 7 ∧ edb ∧ x.spoiled d 16) ∨ (edb ∧ s.sound k (deskBase + d) 16 ∧ s.breaks (x.deskWord d) (x.deskWord (d + 8)) c)
  ∨ (edb ∧ s.sound k (deskBase + d) 16 ∧ ∃ h iml sel nsp, s.describes (x.deskWord d) (x.deskWord (d + 8)) h iml sel nsp ∧
    let tb := r.tsbp.toNat + 512 * sel
    let place := r.tsbp.toNat % 512 = 0 ∧ inOwnDesk tb 512 = true
    (c = 5 ∧ ¬place) ∨ (c = 7 ∧ place ∧ x.spoiled (tb - deskBase + 0x1F0) 8)
    ∨ (c = 6 ∧ place ∧ s.sound k (tb + 0x1F0) 8 ∧ x.deskWord (tb - deskBase + 0x1F0) % 2 = 1))

/-- Escalation entry finds its descriptor, with handler `h`, level `iml` and new A15 `nsp`, and its TSB free (08 R267). -/
def State.escalationReady (s : State) (k : SlotId) (h iml : Nat) (nsp : Option Nat) : Prop :=
  let x := s.slot k
  s.sound k (deskBase + 0x3FC000) 16 ∧ s.describes (x.deskWord 0x3FC000) (x.deskWord 0x3FC008) h iml 0 nsp
  ∧ s.sound k (deskBase + 0x3FC3F0) 8 ∧ x.deskWord 0x3FC3F0 % 2 = 0

/-- Escalation entry fails for the cause `c`: an uncorrectable read, a descriptor that breaks a rule or has SEL ≠ 0, or a TSB in use (08 R267,
R268). -/
def State.failsEscalation (s : State) (k : SlotId) (c : Nat) : Prop :=
  let x := s.slot k
  let w0 := x.deskWord 0x3FC000
  let w1 := x.deskWord 0x3FC008
  let read := s.sound k (deskBase + 0x3FC000) 16
  (c = 7 ∧ x.spoiled 0x3FC000 16) ∨ (read ∧ s.breaks w0 w1 c)
  ∨ (read ∧ ∃ h iml sel nsp, s.describes w0 w1 h iml sel nsp ∧
    ((c = 1 ∧ sel ≠ 0) ∨ (sel = 0 ∧ ((c = 7 ∧ x.spoiled 0x3FC3F0 8)
      ∨ (c = 0x0C ∧ s.sound k (deskBase + 0x3FC3F0) 8 ∧ x.deskWord 0x3FC3F0 % 2 = 1)))))

/-- From `s` the Stream `i` of slot `k` has checkstopped: STREAM.CSTOP and CSTOPPC, the report CHECKSTOP of its lesson, or EXCUSED for one that was in the
monitor, and the event of the Stream (08 R268). -/
def State.hasCheckstopped (s t : State) (i : StreamId) (k : SlotId) (vec ovec ecause : Byte) (ret : Word64) : Prop :=
  (t.slot k).status = .checkstopped ∧ (t.slot k).cstop = ⟨vec, ovec, ecause, true, ret⟩ ∧ (t.client (.stream i)).run = none
  ∧ t.mgmt.events[440 + i.val]'(by omega) = satAdd (s.mgmt.events[440 + i.val]'(by omega)) 1
  ∧ ∀ r, (s.client (.stream i)).run = some r → ∃ rec, t.tt.due = s.tt.due ++ [rec] ∧ rec.tag = r.adm.b.tag
    ∧ rec.status = if r.excused then 3 else 5

/-! ### Vector rows -/

/-- The rows of the vector opcode table and their VOP codes (02 R66). -/
def Rows.vector : List ((StreamId → VFmt → Instr) × Nat) := [
  (.vcopy, 0x00), (.vcvt, 0x01), (.vfill, 0x02), (.viota, 0x03), (.vsel, 0x04), (.vperm, 0x05), (.vbrev, 0x06),
  (.vfadd, 0x10), (.vfsub, 0x11), (.vfmul, 0x12), (.vfdiv, 0x13), (.vfsqrt, 0x14), (.vfma, 0x15), (.vfms, 0x16), (.vfnma, 0x17),
  (.vfmin, 0x18), (.vfmax, 0x19), (.vfabs, 0x1A), (.vfneg, 0x1B), (.vfcmp, 0x1C), (.vfclass, 0x1D), (.vfrint, 0x1E), (.vfmaw, 0x20),
  (.vadd, 0x30), (.vsub, 0x31), (.vmul, 0x32), (.vmulh, 0x33), (.vaddc, 0x34), (.vaddco, 0x35), (.vsubb, 0x36), (.vsubbo, 0x37),
  (.vand, 0x38), (.vor, 0x39), (.vxor, 0x3A), (.vandn, 0x3B), (.vshl, 0x3C), (.vshr, 0x3D), (.vsar, 0x3E), (.vicmp, 0x3F),
  (.vimin, 0x40), (.vimax, 0x41), (.vpopc, 0x42), (.vclz, 0x43),
  (.qdot, 0x50), (.qsum, 0x51), (.visum, 0x52), (.vimaxr, 0x53), (.viminr, 0x54), (.vfmaxr, 0x55), (.vfminr, 0x56), (.vcrc, 0x57),
  (.vmcnt, 0x58)]

/-- The fields of a vector operation keep the columns of its row: a field that the row does not use is 0, SCL = 1 stands where the row has a scalar
form, and RND and FN hold codes of their tables (02 R63, R64, R66). -/
abbrev keepsRow (vop : Nat) (f : VFmt) : Prop :=
  let scalarForm := vop = 0x04 ∨ (0x10 ≤ vop ∧ vop ≤ 0x13) ∨ (0x15 ≤ vop ∧ vop ≤ 0x19) ∨ vop = 0x1C ∨ vop = 0x20 ∨ (0x30 ≤ vop ∧ vop ≤ 0x41)
  let rounds := vop = 0x01 ∨ (0x10 ≤ vop ∧ vop ≤ 0x17) ∨ vop = 0x1E ∨ vop = 0x20
  let third := vop = 0x04 ∨ (0x15 ≤ vop ∧ vop ≤ 0x17) ∨ vop = 0x20 ∨ (0x34 ≤ vop ∧ vop ≤ 0x37)
  (vop < 0x50 ∨ f.ad = 0) ∧ ((vop ≠ 0x02 ∧ vop ≠ 0x03) ∨ f.as1 = 0)
  ∧ ((scalarForm ∧ f.scl = 0) ∨ vop = 0x05 ∨ vop = 0x50 ∨ f.as2 = 0) ∧ (third ∨ f.as3 = 0)
  ∧ (vop = 0x02 ∨ (0x52 ≤ vop ∧ vop ≤ 0x58) ∨ f.scl = 1 ∨ f.ds = 0) ∧ (vop = 0x50 ∨ vop = 0x51 ∨ f.qn = 0)
  ∧ (scalarForm ∨ f.scl = 0) ∧ ((rounds ∧ f.rnd.toNat < 6) ∨ f.rnd = 0)
  ∧ (f.fn.toNat < if vop = 0x1C then 8 else if vop = 0x3F then 6 else if vop = 0x57 then 2 else 1) ∧ f.cnt = 0 ∧ f.rsv = 0

/-- What the result of an element depends on beside its sources: FN, the rounding mode, and the types of AD and AS1. -/
structure ElemMode where
  fn : Nat
  rm : BitVec 3
  td : Nat
  t1 : Nat

/-- A row of the vector opcode table with a destination: its VOP, its sources, the types of AD, AS1, AS2 and AS3, and what it delivers at element
`i` of its sources (02 R66). -/
structure ElemRow where
  vop : Nat
  srcs : Nat
  types : Nat → Nat → Nat → Nat → Prop
  gives : ElemMode → Nat → Nat → Nat → Nat → FRes → Prop

/-- The codes of FN that a row takes (02 R64). -/
def ElemRow.fnOk (row : ElemRow) (fn : Nat) : Prop := fn < if row.vop = 0x1C then 8 else if row.vop = 0x3F then 6 else 1

/-- A floating-point element by the values of its sources. -/
def ElemMode.float (m : ElemMode) (g : FloatFmt → FVal → FVal → FVal → FRes → Prop) (a1 a2 a3 : Nat) (x : FRes) : Prop :=
  ∃ p, floatOf m.t1 = some p ∧ g p (p.decode a1) (p.decode a2) (p.decode a3) x

/-- An integer element: the low bits of `n`, and integer overflow for a signed type that does not hold it, where the row raises it (04 R134). -/
def ElemMode.wraps (m : ElemMode) (checked : Bool) (n : Int) (x : FRes) : Prop :=
  (x.val : Int) = n % 2 ^ typeBits m.td
  ∧ (checked = true → (∃ b, intOf m.td = some (true, b)) → (n < (intRange m.td).1 ∨ (intRange m.td).2 < n) → x.flags = 0x20)
  ∧ (checked = false ∨ (¬∃ b, intOf m.td = some (true, b)) ∨ ((intRange m.td).1 ≤ n ∧ n ≤ (intRange m.td).2) → x.flags = 0)

/-- An element given bit by bit. -/
def ElemMode.bitwise (m : ElemMode) (g : Nat → Bool) (x : FRes) : Prop :=
  x.flags = 0 ∧ ∀ j, x.val.testBit j = (decide (j < typeBits m.td) && g j)

/-- A truth value and its flags. -/
def truth (holds : Prop) (x : FRes) : Prop := (holds → x.val = 1) ∧ (¬holds → x.val = 0)

/-- The comparison that FN selects, of two numbers (02 R64; 04 R116). -/
def compares (fn : Nat) (lt eq gt unordered : Prop) : Prop :=
  match fn with
  | 0 => eq
  | 1 => ¬eq
  | 2 => lt
  | 3 => lt ∨ eq
  | 4 => gt
  | 5 => gt ∨ eq
  | 6 => unordered
  | _ => ¬unordered

/-- The types of a row whose operands are all of one type (02 R66). -/
def sameTypes (ok : Nat → Bool) (td t1 t2 t3 : Nat) : Prop := ok td = true ∧ t1 = td ∧ t2 = td ∧ t3 = td

/-- The vector rows with a destination (02 R66). -/
def Rows.element : List ElemRow := [
  -- VCOPY, VCVT, VFILL (its scalar as a1), VIOTA, VSEL, VPERM (the selected element as a1), VBREV
  ⟨0x00, 1, fun td t1 _ _ => td ≤ 10 ∧ t1 ≤ 10 ∧ typeBits td = typeBits t1, fun _ a1 _ _ _ x => x = ⟨a1, 0⟩⟩,
  ⟨0x01, 1, fun td t1 _ _ => td < 10 ∧ t1 < 10, fun m a1 _ _ _ x => convertsTo m.rm m.t1 m.td a1 x⟩,
  ⟨0x02, 0, fun td t1 _ _ => td < 10 ∧ t1 = 0, fun m a1 _ _ _ x => x = ⟨a1 % 2 ^ typeBits m.td, 0⟩⟩,
  ⟨0x03, 0, fun td t1 _ _ => isI td = true ∧ t1 = 0, fun m _ _ _ i x => x = ⟨i % 2 ^ typeBits m.td, 0⟩⟩,
  ⟨0x04, 3, fun td t1 t2 t3 => td ≤ 10 ∧ t1 = td ∧ t2 = td ∧ (isI t3 = true ∨ t3 = 10),
    fun _ a1 a2 a3 _ x => x = ⟨if a3 ≠ 0 then a1 else a2, 0⟩⟩,
  ⟨0x05, 2, fun td t1 t2 _ => td ≤ 10 ∧ t1 = td ∧ isI t2 = true, fun _ a1 _ _ _ x => x = ⟨a1, 0⟩⟩,
  ⟨0x06, 1, sameTypes isI, fun m a1 _ _ _ x => m.bitwise (fun j => a1.testBit (typeBits m.td - 1 - j)) x⟩,
  -- VFADD to VFNMA
  ⟨0x10, 2, sameTypes isF, fun m a1 a2 a3 _ x => m.float (fun p a b _ => p.sums m.rm a b) a1 a2 a3 x⟩,
  ⟨0x11, 2, sameTypes isF, fun m a1 a2 a3 _ x => m.float (fun p a b _ => p.sums m.rm a b.neg) a1 a2 a3 x⟩,
  ⟨0x12, 2, sameTypes isF, fun m a1 a2 a3 _ x => m.float (fun p a b _ => p.multiplies m.rm a b) a1 a2 a3 x⟩,
  ⟨0x13, 2, sameTypes (· < 2), fun m a1 a2 a3 _ x => m.float (fun p a b _ => p.divides m.rm a b) a1 a2 a3 x⟩,
  ⟨0x14, 1, sameTypes (· < 2), fun m a1 a2 a3 _ x => m.float (fun p a _ _ => p.roots m.rm a) a1 a2 a3 x⟩,
  ⟨0x15, 3, sameTypes isF, fun m a1 a2 a3 _ x => m.float (fun p a b c => p.fuses m.rm a b c) a1 a2 a3 x⟩,
  ⟨0x16, 3, sameTypes isF, fun m a1 a2 a3 _ x => m.float (fun p a b c => p.fuses m.rm a b c.neg) a1 a2 a3 x⟩,
  ⟨0x17, 3, sameTypes isF, fun m a1 a2 a3 _ x => m.float (fun p a b c => p.fuses m.rm a.neg b c) a1 a2 a3 x⟩,
  -- VFMIN, VFMAX, VFABS, VFNEG, VFCMP, VFCLASS, VFRINT, VFMAW
  ⟨0x18, 2, sameTypes isF, fun m a1 a2 _ _ x => ∃ p, floatOf m.t1 = some p ∧ p.picks false a1 a2 x⟩,
  ⟨0x19, 2, sameTypes isF, fun m a1 a2 _ _ x => ∃ p, floatOf m.t1 = some p ∧ p.picks true a1 a2 x⟩,
  ⟨0x1A, 1, sameTypes isF, fun m a1 _ _ _ x => m.bitwise (fun j => decide (j + 1 < typeBits m.td) && a1.testBit j) x⟩,
  ⟨0x1B, 1, sameTypes isF, fun m a1 _ _ _ x => m.bitwise (fun j => decide (j + 1 = typeBits m.td) != a1.testBit j) x⟩,
  ⟨0x1C, 2, fun td t1 t2 _ => (isI td = true ∨ td = 10) ∧ isF t1 = true ∧ t2 = t1, fun m a1 a2 _ _ x => ∃ p, floatOf m.t1 = some p ∧
    let a := p.decode a1
    let b := p.decode a2
    let nan := a.isNaN = true ∨ b.isNaN = true
    let iv := a = .nan true ∨ b = .nan true ∨ (2 ≤ m.fn ∧ m.fn ≤ 5 ∧ nan)
    truth (compares m.fn (a.less b) (a.same b) (b.less a) nan) x ∧ (iv → x.flags = 1) ∧ (¬iv → x.flags = 0)⟩,
  ⟨0x1D, 1, fun td t1 _ _ => isI td = true ∧ isF t1 = true, fun m a1 _ _ _ x => ∃ p, floatOf m.t1 = some p ∧
    p.classes a1 x.val ∧ (p.decode a1 = .nan true → x.flags = 1) ∧ (p.decode a1 ≠ .nan true → x.flags = 0)⟩,
  ⟨0x1E, 1, sameTypes isF, fun m a1 a2 a3 _ x => m.float (fun p a _ _ => p.integrates m.rm a) a1 a2 a3 x⟩,
  ⟨0x20, 3, fun td t1 t2 t3 => td = 1 ∧ (t1 = 2 ∨ t1 = 3) ∧ t2 = t1 ∧ t3 = 1,
    fun m a1 a2 a3 _ x => m.float (fun _ a b _ => binary32.fuses m.rm a b (binary32.decode a3)) a1 a2 a3 x⟩,
  -- VADD to VSUBBO
  ⟨0x30, 2, sameTypes isI, fun m a1 a2 _ _ x => m.wraps true (asInt m.td a1 + asInt m.td a2) x⟩,
  ⟨0x31, 2, sameTypes isI, fun m a1 a2 _ _ x => m.wraps true (asInt m.td a1 - asInt m.td a2) x⟩,
  ⟨0x32, 2, sameTypes isI, fun m a1 a2 _ _ x => m.wraps true (asInt m.td a1 * asInt m.td a2) x⟩,
  ⟨0x33, 2, sameTypes isI, fun m a1 a2 _ _ x => m.wraps false (asInt m.td a1 * asInt m.td a2 / 2 ^ typeBits m.td) x⟩,
  ⟨0x34, 3, sameTypes isI, fun m a1 a2 a3 _ x => m.wraps false (a1 + a2 + (a3 % 2 : Nat)) x⟩,
  ⟨0x35, 3, sameTypes isI, fun m a1 a2 a3 _ x => x.flags = 0 ∧ truth (2 ^ typeBits m.td ≤ a1 + a2 + a3 % 2) x⟩,
  ⟨0x36, 3, sameTypes isI, fun m a1 a2 a3 _ x => m.wraps false (a1 - a2 - (a3 % 2 : Nat)) x⟩,
  ⟨0x37, 3, sameTypes isI, fun _ a1 a2 a3 _ x => x.flags = 0 ∧ truth (a1 < a2 + a3 % 2) x⟩,
  -- VAND, VOR, VXOR, VANDN, the shifts, VICMP, VIMIN, VIMAX, VPOPC, VCLZ
  ⟨0x38, 2, sameTypes isI, fun m a1 a2 _ _ x => m.bitwise (fun j => a1.testBit j && a2.testBit j) x⟩,
  ⟨0x39, 2, sameTypes isI, fun m a1 a2 _ _ x => m.bitwise (fun j => a1.testBit j || a2.testBit j) x⟩,
  ⟨0x3A, 2, sameTypes isI, fun m a1 a2 _ _ x => m.bitwise (fun j => a1.testBit j ^^ a2.testBit j) x⟩,
  ⟨0x3B, 2, sameTypes isI, fun m a1 a2 _ _ x => m.bitwise (fun j => a1.testBit j && !a2.testBit j) x⟩,
  ⟨0x3C, 2, sameTypes isI, fun m a1 a2 _ _ x => m.wraps false (a1 * 2 ^ (a2 % typeBits m.td)) x⟩,
  ⟨0x3D, 2, sameTypes isI, fun m a1 a2 _ _ x => m.wraps false (a1 / 2 ^ (a2 % typeBits m.td)) x⟩,
  ⟨0x3E, 2, sameTypes isI, fun m a1 a2 _ _ x =>
    m.wraps false ((if a1.testBit (typeBits m.td - 1) then (a1 : Int) - 2 ^ typeBits m.td else a1) / 2 ^ (a2 % typeBits m.td)) x⟩,
  ⟨0x3F, 2, fun td t1 t2 _ => (isI td = true ∨ td = 10) ∧ isI t1 = true ∧ t2 = t1, fun m a1 a2 _ _ x =>
    let a := asInt m.t1 a1
    let b := asInt m.t1 a2
    x.flags = 0 ∧ truth (compares m.fn (a < b) (a = b) (b < a) False) x⟩,
  ⟨0x40, 2, sameTypes isI, fun m a1 a2 _ _ x => m.wraps false (min (asInt m.td a1) (asInt m.td a2)) x⟩,
  ⟨0x41, 2, sameTypes isI, fun m a1 a2 _ _ x => m.wraps false (max (asInt m.td a1) (asInt m.td a2)) x⟩,
  ⟨0x42, 1, sameTypes isI, fun m a1 _ _ _ x => x = ⟨((List.range (typeBits m.td)).filter fun j => a1.testBit j).length, 0⟩⟩,
  ⟨0x43, 1, sameTypes isI, fun m a1 _ _ _ x => x.flags = 0 ∧ (a1 = 0 → x.val = typeBits m.td)
    ∧ (a1 ≠ 0 → x.val < typeBits m.td ∧ a1 < 2 ^ (typeBits m.td - x.val) ∧ 2 ^ (typeBits m.td - 1 - x.val) ≤ a1)⟩]

/-- A reduction into D[DS]: its VOP, the types of AS1, and what an element makes of the register, with its flags (02 R54, R66). -/
structure ReduceRow where
  vop : Nat
  types : Nat → Prop
  gives : Nat → Nat → Word64 → Nat → Word64 → FlagSet → Prop

/-- D[DS] as the number that VIMAXR and VIMINR compare: int64 or uint64 by the signedness of the type (02 R66). -/
def reduceInt (t1 : Nat) (d : Word64) : Int := if t1 = 5 ∨ t1 = 7 then d.toNat else d.toInt

/-- The reductions into D[DS] (02 R66; 04 R101, R117, R140). -/
def Rows.reduction : List ReduceRow := [
  ⟨0x52, fun t => isI t = true, fun _ t d a d' fl => fl = 0 ∧ (d'.toNat : Int) = (d.toNat + asInt t a) % 2 ^ 64⟩,
  ⟨0x53, fun t => isI t = true, fun _ t d a d' fl => fl = 0 ∧ reduceInt t d' = max (reduceInt t d) (asInt t a)⟩,
  ⟨0x54, fun t => isI t = true, fun _ t d a d' fl => fl = 0 ∧ reduceInt t d' = min (reduceInt t d) (asInt t a)⟩,
  ⟨0x55, fun t => t < 2, fun _ t d a d' fl => ∃ p, floatOf t = some p ∧ p.picks true (d.toNat % 2 ^ p.width) a ⟨d'.toNat, fl⟩⟩,
  ⟨0x56, fun t => t < 2, fun _ t d a d' fl => ∃ p, floatOf t = some p ∧ p.picks false (d.toNat % 2 ^ p.width) a ⟨d'.toNat, fl⟩⟩,
  ⟨0x57, fun t => t < 10, fun fn t d a d' fl =>
    let shift (poly c : Nat) : Nat := if c % 2 = 1 then (c / 2).xor poly else c / 2
    let byte (poly c b : Nat) : Nat := (shift poly)^[8] (c.xor b)
    let bytes := (List.range (typeBits t / 8)).map fun j => a / 256 ^ j % 256
    fl = 0 ∧ d'.toNat = if fn = 0 then bytes.foldl (byte 0x82F63B78) (d.toNat % 2 ^ 32) else bytes.foldl (byte 0xC96C5795D7870F42) d.toNat⟩,
  ⟨0x58, fun t => isI t = true ∨ t = 10, fun _ _ d a d' fl => fl = 0 ∧ d' = d + if a ≠ 0 then 1 else 0⟩]

/-- The operation with what it captures at issue (02 R26; 04 R104, R114). -/
def Regs.captured (r : Regs) (vop : Nat) (f : VFmt) (user : Option (Fin 64 × BitVec 5)) : VOp where
  vop := BitVec.ofNat 8 vop
  f := f
  aAd := r.getA f.ad
  a1 := r.getA f.as1
  a2 := r.getA f.as2
  a3 := r.getA f.as3
  scalar := r.getD f.ds
  rm := if f.rnd = 0 then (r.fpcsr >>> 16).truncate 3 else f.rnd
  traps := (r.fpcsr >>> 7).truncate 7
  user := user

/-- The engine of slot `k` takes an entry of `n` slots: it is not stopped, every earlier store has committed, and the queue of 128 has room
(02 R27, R29, R32). -/
def State.takesEntry (s : State) (k : SlotId) (n : Nat) : Prop :=
  let x := s.slot k
  x.eng.stopped = false ∧ x.sbuf = [] ∧ (x.eng.queue.map VEntry.slots).sum + n ≤ 128

/-- Entries at the end of the queue, with their accumulators marked dirty (08 R263). -/
def Slot.queued (x : Slot) (es : List VEntry) (dirty : BitVec 4) : Slot :=
  { x with
    regs := { x.regs with qd := x.regs.qd ||| dirty }
    chain := none
    eng := { x.eng with queue := x.eng.queue ++ es } }

/-- The accumulator that an operation writes, as a bit of SR.QD (08 R263). -/
def dirtyBit (vop : Nat) (f : VFmt) : BitVec 4 := if vop = 0x50 ∨ vop = 0x51 then 1#4 <<< f.qn.toNat else 0

/-- `v` is the address of a contiguous descriptor without a mask, of `vl` elements of type `ty` at desk address `base` (02 R33-R37). -/
def Slot.plainDesc (x : Slot) (v : Word64) (ty base vl : Nat) : Prop :=
  let o := v.toNat - deskBase
  v.toNat % 32 = 0 ∧ inOwnDesk v.toNat 32 = true ∧ x.deskWord o = base ∧ x.deskWord (o + 8) = 0 ∧ x.deskWord (o + 16) = ty * 2 ^ 28
  ∧ x.deskWord (o + 24) = 0 ∧ ty < 10 ∧ base % typeBytes ty = 0 ∧ inOwnDesk base (typeBytes ty * vl) = true

/-- The front entry of slot `x` is one VADD of 64-bit unsigned elements, from 0 to `vl` − 1, out of the desk and into it, whose destination
meets neither source. -/
def Slot.sums (x : Slot) (v : VOp) (es : List VEntry) (vl : Word32) (d a b : Nat) : Prop :=
  let n := 8 * vl.toNat
  x.eng.queue = ⟨[v], 1, vl, 0⟩ :: es ∧ x.eng.stopped = false ∧ v.vop = 0x30 ∧ v.f.scl = 0 ∧ x.desk.bad = []
  ∧ x.plainDesc v.aAd 5 d vl.toNat ∧ x.plainDesc v.a1 5 a vl.toNat ∧ x.plainDesc v.a2 5 b vl.toNat
  ∧ (d + n ≤ a ∨ a + n ≤ d) ∧ (d + n ≤ b ∨ b + n ≤ d)

/-- Element `j` of type `ty` of an array at a desk address. -/
def Slot.elem (x : Slot) (ty base j : Nat) : Nat :=
  leNat ((List.range (typeBytes ty)).map fun b => x.desk.mem.read (base - deskBase + typeBytes ty * j + b))

/-- The front entry of slot `x` is the operation `v` over elements 0 to `vl` − 1, with no condition enabled; nothing in the desk is uncorrectable. -/
def Slot.fronts (x : Slot) (v : VOp) (es : List VEntry) (vl : Word32) (vop : Nat) : Prop :=
  x.eng.queue = ⟨[v], 1, vl, 0⟩ :: es ∧ x.eng.stopped = false ∧ x.eng.suspend = false ∧ v.vop = BitVec.ofNat 8 vop ∧ v.f.scl = 0 ∧ v.traps = 0
  ∧ x.desk.bad = []

/-- The operands of `v` in the row `row` are contiguous desk arrays at `at_` of types `ty`, that of AD first, and the destination meets no
source. -/
def Slot.operands (x : Slot) (row : ElemRow) (v : VOp) (vl : Nat) (ty at_ : Fin 4 → Nat) : Prop :=
  row.types (ty 0) (ty 1) (ty 2) (ty 3) ∧ row.fnOk v.f.fn.toNat ∧ x.plainDesc v.aAd (ty 0) (at_ 0) vl
  ∧ (1 ≤ row.srcs → x.plainDesc v.a1 (ty 1) (at_ 1) vl) ∧ (2 ≤ row.srcs → x.plainDesc v.a2 (ty 2) (at_ 2) vl)
  ∧ (3 ≤ row.srcs → x.plainDesc v.a3 (ty 3) (at_ 3) vl)
  ∧ ∀ n : Fin 4, 1 ≤ n.val → n.val ≤ row.srcs → at_ 0 + typeBytes (ty 0) * vl ≤ at_ n ∨ at_ n + typeBytes (ty n) * vl ≤ at_ 0

/-- Source 1 of `v` at element `j`: the scalar of VFILL, the element that VPERM selects, or the element itself (02 R66). -/
def Slot.source1 (x : Slot) (row : ElemRow) (v : VOp) (vl : Nat) (ty at_ : Fin 4 → Nat) (j : Nat) : Nat :=
  let selected := 64 * (j / 64) + x.elem (ty 2) (at_ 2) j % 64
  if row.vop = 0x02 then v.scalar.toNat
  else if row.srcs = 0 then 0
  else if row.vop = 0x05 then (if selected < vl then x.elem (ty 1) (at_ 1) selected else 0)
  else x.elem (ty 1) (at_ 1) j

/-- The sticky bits after the flag sets of the elements (04 R113). -/
def sticky (f : Word32) (fls : List FlagSet) : Word32 := fls.foldl (fun f fl => f ||| fl.zeroExtend 32) f

/-- What a stream descriptor that is not transient says (02 R33). -/
structure VStream where
  base : Nat
  stride : Int
  brw : Nat
  mask : Option (Nat × Bool)
  zero : Bool
  mode : Nat
  ty : Nat
  idx : Nat

/-- Its four words, with STRIDE sign-extended (02 R33, R34). -/
def VStream.words (d : VStream) : List Nat :=
  let m := match d.mask with
    | some (p, inv) => (p * 2 ^ 32, 2 ^ 39 + inv.toNat * 2 ^ 38)
    | none => (0, 0)
  [d.base, (d.stride % 2 ^ 64).toNat, d.brw * 2 ^ 46 + m.2 + d.zero.toNat * 2 ^ 37 + d.mode * 2 ^ 32 + d.ty * 2 ^ 28, m.1 + d.idx]

/-- It keeps the field rules: a pointer in use names 32 bytes of the desk, an unused field is 0, a mask-bit operand is contiguous, and BASE is a multiple
of the element size (02 R33, R34, R36, R39). -/
def VStream.keepsRules (d : VStream) : Prop :=
  d.base < 2 ^ 42 ∧ -2 ^ 39 ≤ d.stride ∧ d.stride < 2 ^ 39 ∧ d.mode < 4 ∧ d.ty ≤ 10 ∧ (d.ty = 10 → d.mode = 0) ∧ d.base % typeBytes d.ty = 0
  ∧ (if d.mode = 3 then 1 ≤ d.brw ∧ d.brw ≤ 32 ∧ d.stride ≠ 0 else d.brw = 0) ∧ (d.mode = 0 ∨ d.mode = 2 → d.stride = 0)
  ∧ (d.mode ≠ 2 → d.idx = 0) ∧ d.idx % 32 = 0 ∧ d.idx < 2 ^ 22 ∧ ∀ p inv, d.mask = some (p, inv) → p % 32 = 0 ∧ p < 2 ^ 22

/-- The byte address of element `i`, at index element `x` in indexed mode, exact (02 R37). -/
def VStream.addr (d : VStream) (i : Nat) (x : Int) : Int :=
  let s : Int := typeBytes d.ty
  let p := i / 2 ^ d.brw * 2 ^ d.brw + ((List.range d.brw).map fun b => if i.testBit b then 2 ^ (d.brw - 1 - b) else 0).sum
  if d.ty = 10 then d.base + i / 8
  else if d.mode = 0 then d.base + i * s
  else if d.mode = 1 then d.base + i * d.stride * s
  else if d.mode = 2 then d.base + x * s
  else d.base + p * d.stride * s

/-- The descriptor at address `a` of the own desk is `d`. -/
def Slot.holds (x : Slot) (a : Nat) (d : VStream) : Prop :=
  a % 32 = 0 ∧ inOwnDesk a 32 = true ∧ (List.range 4).map (fun n => x.deskWord (a - deskBase + 8 * n)) = d.words ∧ d.keepsRules

/-- The element that lies at address `a`: its bytes, or bit i mod 8 (02 R37). -/
def State.elemAt (s : State) (k : SlotId) (d : VStream) (a : Int) (i : Nat) : Nat :=
  let w := leNat (s.bytesAt k a.toNat (typeBytes d.ty))
  if d.ty = 10 then w / 2 ^ (i % 8) % 2 else w

/-- The descriptors of an operation: AD, AS1, AS2 and AS3, their index streams, and the mask. -/
structure VecArgs where
  main : Fin 4 → VStream
  index : Fin 4 → VStream
  mask : VStream

/-- The descriptors that `v` names are these: an operand `n` in `named`, an index stream of each indexed one, which is a plain int32 or int64 stream, and the
mask of the operand `bearer`, a plain mask-bit stream (02 R33, R36, R42). -/
def Slot.names (x : Slot) (g : VecArgs) (v : VOp) (named : Fin 4 → Prop) (bearer : Fin 4) : Prop :=
  let a (n : Fin 4) : Word64 := [v.aAd, v.a1, v.a2, v.a3].getD n.val 0
  let plain (d : VStream) : Prop := d.mask = none ∧ d.zero = false ∧ d.mode ≤ 1
  ∀ n, named n → x.holds (a n).toNat (g.main n) ∧ (n ≠ bearer → (g.main n).mask = none)
    ∧ ((g.main n).mode = 2 → x.holds (deskBase + (g.main n).idx) (g.index n) ∧ plain (g.index n) ∧ ((g.index n).ty = 4 ∨ (g.index n).ty = 6))
    ∧ ∀ p inv, (g.main n).mask = some (p, inv) → x.holds (deskBase + p) g.mask ∧ plain g.mask ∧ g.mask.ty = 10

/-- The index element of operand `n` at element `i`, sign-extended. -/
def VecArgs.indexAt (g : VecArgs) (s : State) (k : SlotId) (n : Fin 4) (i : Nat) : Int :=
  if (g.main n).mode = 2 then asInt (g.index n).ty (s.elemAt k (g.index n) ((g.index n).addr i 0) i) else 0

/-- The address and the value of element `i` of operand `n`, and whether the address is valid (02 R37, R38). -/
def VecArgs.addr (g : VecArgs) (s : State) (k : SlotId) (n : Fin 4) (i : Nat) : Int := (g.main n).addr i (g.indexAt s k n i)
def VecArgs.elem (g : VecArgs) (s : State) (k : SlotId) (n : Fin 4) (i : Nat) : Nat := s.elemAt k (g.main n) (g.addr s k n i) i
def VecArgs.valid (g : VecArgs) (s : State) (k : SlotId) (n : Fin 4) (i : Nat) : Prop :=
  s.badByte (g.addr s k n i) (typeBytes (g.main n).ty) = none

/-- Element `i` is active under the mask of operand `bearer` (02 R33, R43; log 136). -/
def VecArgs.active (g : VecArgs) (s : State) (k : SlotId) (bearer : Fin 4) (i : Nat) : Bool :=
  match (g.main bearer).mask with
  | none => true
  | some (_, inv) => (s.elemAt k g.mask (g.mask.addr i 0) i == 1) != inv

/-- The streams that an operation reads beside its destination: operands, index streams and the mask, with their addresses at element `i`. -/
def VecArgs.reads (g : VecArgs) (s : State) (k : SlotId) (named : Fin 4 → Prop) (bearer : Fin 4) (d : VStream) (at_ : Nat → Int) : Prop :=
  (∃ n, n ≠ 0 ∧ named n ∧ d = g.main n ∧ at_ = g.addr s k n)
  ∨ (∃ n, named n ∧ (g.main n).mode = 2 ∧ d = g.index n ∧ at_ = fun i => (g.index n).addr i 0)
  ∨ ((g.main bearer).mask ≠ none ∧ d = g.mask ∧ at_ = fun i => g.mask.addr i 0)

/-- Every index and mask element of the element groups from that of `vx` up to `vl` has a valid address; nothing that the Stream may read is in error, and
its lesson has a WEIGHT (02 R38; 06 R190). -/
def State.mayCompute (s : State) (k : SlotId) (g : VecArgs) (named : Fin 4 → Prop) (bearer : Fin 4) (vx vl : Nat) : Prop :=
  let may (d : VStream) : Prop := ∀ i, 64 * (vx / 64) ≤ i → i < vl → s.badByte (d.addr i 0) (typeBytes d.ty) = none
  (∀ n, named n → (g.main n).mode = 2 → may (g.index n)) ∧ ((g.main bearer).mask ≠ none → may g.mask)
  ∧ (s.slot k).desk.bad = [] ∧ (∀ a : Nat, s.badByte a 1 = none → s.sound k a 1)
  ∧ ∀ i r, s.streamOf k = some i → (s.client (.stream i)).run = some r → r.adm.b.weight ≠ 0

/-- Bit `j` of the byte at `a` lies in element `i` of stream `d` at address `at_`. -/
def VStream.covers (d : VStream) (at_ : Int) (i a j : Nat) : Prop :=
  at_ ≤ a ∧ (a : Int) < at_ + typeBytes d.ty ∧ (d.ty = 10 → j = i % 8)

/-- From `s` to `t` the elements that `written` names, and no other bit of the own desk, of local memory or of another desk, have been written: each
that no later element overwrites holds its value of `val` (02 R43, R49). -/
def State.wrote (s t : State) (k : SlotId) (d : VStream) (at_ : Nat → Int) (written : Nat → Prop) (val : Nat → Nat) : Prop :=
  (∀ i, written i → (∀ i', i < i' → written i' → d.ty ≠ 10 → at_ i' ≠ at_ i) → t.elemAt k d (at_ i) i = val i)
  ∧ (∀ a j, j < 8 → (∀ i, written i → ¬d.covers (at_ i) i a j) → (t.byteAt k a).getLsbD j = (s.byteAt k a).getLsbD j)
  ∧ ∀ k', k' ≠ k → ∀ b, (t.slot k').desk.mem.read b = (s.slot k').desk.mem.read b

/-- The ADDR subcode of an element of `n` bytes at `a`, by its lowest byte outside both ranges (02 R38, cause table). -/
def State.addrCode (s : State) (a : Int) (n : Nat) (sub : Nat) : Prop :=
  ∃ b, s.badByte a n = some b ∧ sub = match s.classify b with
    | .far => 2
    | .withdrawn => 3
    | .work => 4
    | .outside => 5
    | _ => 1

/-- The cause and subcode of the trap of a flag set `fl`, of which the conditions `en` are enabled: the first of IV, DZ, OF, UF and IX, or integer overflow
(04 R114). -/
def trapCode (fl en : FlagSet) (cause sub : Nat) : Prop :=
  ∃ b, b < 6 ∧ (fl &&& en).getLsbD b = true ∧ (∀ j < b, (fl &&& en).getLsbD j = false) ∧ cause = (if b = 5 then 0x0B else 0x0A)
    ∧ sub = if b = 5 then 1 else b + 1

/-- The engine of slot `k` has completed its entry (02 R46). -/
def State.vecDone (t : State) (k : SlotId) (es : List VEntry) (r : Regs) : Prop :=
  (t.slot k).eng.queue = es ∧ (t.slot k).eng.stopped = false ∧ t.regs k = { r with vx := 0 }

/-- It has stopped at element `m`, with its entry still in the queue and the cause noted (02 R53, R57; 04 R114). -/
def State.vecStopped (s t : State) (k : SlotId) (r : Regs) (m : Nat) (cause sub opnd : Nat) (addr : Word64) (fl : FlagSet) : Prop :=
  let e := (t.slot k).eng
  e.queue = (s.slot k).eng.queue ∧ e.stopped = true ∧ t.regs k = { r with vx := BitVec.ofNat 32 m }
  ∧ e.cause = ⟨true, BitVec.ofNat 4 opnd, 0, BitVec.ofNat 8 cause, BitVec.ofNat 8 sub⟩ ∧ e.vfaddr = addr ∧ e.veflags = fl
  ∧ (s.slot k).eng.queue.head?.map VEntry.vl = some e.vfvl

/-- A transient operand of type `ty` on link `l` (02 R33, R41). -/
def Slot.linkDesc (x : Slot) (v : Word64) (ty l : Nat) : Prop :=
  let o := v.toNat - deskBase
  v.toNat % 32 = 0 ∧ inOwnDesk v.toNat 32 = true ∧ x.deskWord o = 0 ∧ x.deskWord (o + 8) = 0 ∧ x.deskWord (o + 16) = ty * 2 ^ 28 + l * 2 ^ 52 + 2 ^ 55
  ∧ x.deskWord (o + 24) = 0 ∧ ty < 10 ∧ l < 8

/-! ### Requests -/

/-- A request frame: CMD, SEQ, INDEX, SUB, LEN, two zero bytes, and the data filled with zeros (12 R345). -/
def requestFrame (cmd seq sub : Byte) (index : Word16) (data : List Byte) : List Byte :=
  [cmd, seq, BitVec.ofNat 8 index.toNat, BitVec.ofNat 8 (index.toNat / 256), sub, BitVec.ofNat 8 data.length, 0, 0]
    ++ data ++ List.replicate (56 - data.length) 0

/-- The response: CMD, the request's SEQ, INDEX and SUB, LEN, STATUS, and the data (12 R345). -/
def responseFrame (cmd seq sub : Byte) (index : Word16) (status : Byte) (data : List Byte) : List Byte :=
  [cmd, seq, BitVec.ofNat 8 index.toNat, BitVec.ofNat 8 (index.toNat / 256), sub, BitVec.ofNat 8 data.length, status, 0]
    ++ data ++ List.replicate (56 - data.length) 0

/-- From `s` to `t` the response `f` has left on transport `tr`, the requests `rest` still wait there, and the other transport's turn comes next
(12 R346). -/
def State.replied (s t : State) (tr : Transport) (rest : List Request) (f : List Byte) : Prop :=
  (t.trans tr).queue = rest ∧ t.mgmt.turn = otherTransport tr
  ∧ match tr with
    | .can => t.mgmt.txq = s.mgmt.txq ++ [(BitVec.ofNat 11 (0x440 + s.mgmt.node.toNat), f)]
    | .mailbox => t.host.mbResp.toList = f ∧ t.host.mbUnread = true

/-! ### The service matrix -/

/-- From `s`, command `c` is answered with the bytes `bs` and leaves `t`, but for the arbitration of the matrix, which has noted its grant. -/
def State.answers (s : State) (c : Instr) (t : State) (bs : List Byte) : Prop :=
  ∃ u, exec c s = .next u ∧ u = { t with sm := u.sm, out := t.out ++ [.response .ok bs] }
    ∧ u.sm.txns = [] ∧ u.sm.prio = s.sm.prio ∧ u.sm.errlog = s.sm.errlog

/-- The DMA port of slot `k` issues `n` lines, one after the other, each in a clk in which the engine leaves it the bank. -/
def State.portServes (k : SlotId) : Nat → State → State → Prop
  | 0, s, t => t = s
  | n + 1, s, t => ∃ u, exec (.deskDmaLineIssue k none none .idle) s = .next u ∧ u.portServes k n t

/-- Command `c` makes an access of `lines` lines at the desk of slot `k`: they wait at its DMA port, nothing has changed and nothing is answered yet;
once the port has served them the access is over, and `done` holds. -/
def State.throughPort (s : State) (k : SlotId) (lines : Nat) (c : Instr) (done : State → Prop) : Prop :=
  ∃ t u, exec c s = .next t ∧ s.sameBytes t ∧ t.out = s.out ∧ (t.slot k).desk.dma.length = lines ∧ t.portServes k lines u
    ∧ (u.slot k).desk.dma = [] ∧ u.sm.txns = [] ∧ done u

/-! ### A start-up without surprises -/

/-- A start-up that finds no fault: sound fuses, every self-test passed, every port trained, a die without retirements, and no repair that
waits. -/
def State.startsClean (s : State) (o : StartupObs) : Prop :=
  o.fuseOk = true ∧ o.bistFailed = [] ∧ o.bistShared = false ∧ o.untrained = [] ∧ o.thermal = none ∧ s.fuses.factory = []
  ∧ s.flash.fieldA = [] ∧ s.flash.fieldB = [] ∧ s.flash.kept = [] ∧ s.work.log = []
  ∧ s.repair.subs = [] ∧ s.repair.trips = [] ∧ s.repair.endAtBell = false ∧ s.repair.toSave = []
  ∧ s.flash.bootA.verified = true ∧ o.badPageA = false ∧ s.fuses.life ≠ .void

/-! ### Security -/

/-- The bytes of a signed image have the layout of 14 R395 within a flash area: `len` bytes of payload, and every reserved byte 0. -/
def laidOut (len : Nat) (v : List Byte) : Prop :=
  v.length = 2884 + len ∧ v.length ≤ 1048576 ∧ len % 8 = 0 ∧ ∀ i b, v[i]? = some b → (1 ≤ i ∧ i ≤ 3) ∨ (16 ≤ i ∧ i ≤ 63) → b = 0

/-- An image of type `ty` verifies: its type, its layout, its security version and its signature (14 R396). -/
def verifies (ty : Byte) (v : List Byte) : Prop :=
  let len := leNat ((v.drop 12).take 4)
  v.head? = some ty ∧ laidOut len v ∧ Config.minSvn.toNat ≤ leNat ((v.drop 8).take 4)
  ∧ Config.xmssVerify Config.brirelKey (v.take (64 + len)) (v.drop (64 + len)) = true

/-- Why an upload of type `ty` fails (6040h/03h; the order of the reasons is log 37). -/
def failsUpload (ty : Byte) (v : List Byte) (code : Byte) : Prop :=
  let len := leNat ((v.drop 12).take 4)
  (v.head? ≠ some ty ∧ code = 6)
  ∨ (v.head? = some ty ∧ ¬laidOut len v ∧ code = 3)
  ∨ (v.head? = some ty ∧ laidOut len v ∧ leNat ((v.drop 8).take 4) < Config.minSvn.toNat ∧ code = 4)
  ∨ (v.head? = some ty ∧ laidOut len v ∧ Config.minSvn.toNat ≤ leNat ((v.drop 8).take 4)
    ∧ Config.xmssVerify Config.brirelKey (v.take (64 + len)) (v.drop (64 + len)) = false ∧ code = 3)

/-- The result code of a hall pass: the checks in the order of the codes, the first failure counts (14 R407, R408). -/
def State.passVerdict (s : State) (v : List Byte) (code : Byte) : Prop :=
  let field (a n : Nat) : Nat := leNat ((v.drop a).take n)
  let key : List Byte := if field 2 1 = 0 then Config.brirelKey else s.mgmt.rwp.ownerKey
  if ¬(v.length = 2884 ∧ field 0 1 = 1 ∧ (field 1 1 = 1 ∨ field 1 1 = 2) ∧ field 2 1 ≤ 1 ∧ field 3 1 = 0 ∧ field 14 2 = 0 ∧ field 56 8 = 0) then code = 2
  else if field 4 4 ≠ s.flash.releases.toNat then code = 3
  else if (v.drop 24).take 32 ≠ digest (Config.shake256 Config.identityKey) then code = 4
  else if field 8 8 ≤ s.tt.bellNum.toNat then code = 5
  else if s.sec.life = .void then code = 6
  else if field 2 1 = 1 ∧ s.mgmt.rwp.ownerKey = [] then code = 7
  else if Config.xmssVerify key (v.take 64) (v.drop 64) = false then code = 8
  else code = 1

/-- What an upload of type `ty` does: a verified image goes to the area that is not in use, any other leaves the flash as it is; when the device
fails, 6040h/03h reads 5 and only that area may change (14 R397). -/
def State.uploads (s : State) (ty : Byte) (v : List Byte) (c : Bool → Instr) (stored kept : State → Image) : Prop :=
  (s.sec.life = .void → ∀ ok, exec (c ok) s = .next s)
  ∧ (s.sec.life ≠ .void →
    (∀ code ok, failsUpload ty v code → exec (c ok) s = .next { s with sec := { s.sec with upload := code } })
    ∧ (verifies ty v → (∃ t, exec (c true) s = .next t ∧ t.sec.upload = 2 ∧ (stored t).bytes = v ∧ (stored t).verified = true
        ∧ (stored t).version.toNat = leNat ((v.drop 4).take 4) ∧ kept t = kept s ∧ s.sameBytes t)
      ∧ ∃ t, exec (c false) s = .next t ∧ t.sec.upload = 5 ∧ kept t = kept s
        ∧ (stored t = stored s ∨ stored t = { stored s with verified := false })))

end Sys2Proof.Machine

open Sys2Proof Sys2Proof.Machine

/-! ### Integer rows -/

/-- Every two-source row completes on every undisturbed core with the value of its row in D[RD], and changes nothing else. Behind a vector instruction
that is queued or runs and has one of its registers as destination it waits and changes nothing; a source that fails its parity check raises Uncorrectable
Data, whose record names the register, before anything is written (02 R31; 07 R252, R255). -/
def Obligations.BinaryRowsWriteTheirValue : Prop :=
  ∀ row ∈ Rows.binary, ∀ (s : State) (i : StreamId) (k : SlotId) (f : RFmt), f.w = 0 → f.rsv = 0 →
    (s.clear i k → (s.slot k).placed 4 →
      ∃ v, row.2 ((s.regs k).getD f.ra) ((s.regs k).getD f.rb) v
        ∧ exec (row.1 i f) s = .next (s.afterRegs k 4 fun r => r.setD f.rd v))
    ∧ ((s.modSlot k fun x => { x with eng := { x.eng with queue := [] } }).clear i k → (s.slot k).delay = none →
      (s.slot k).eng.stopped = false →
      (∃ e ∈ (s.slot k).eng.queue, ∃ v ∈ e.ops, 0x52 ≤ v.vop.toNat ∧ v.vop.toNat ≤ 0x58 ∧ (v.f.ds = f.ra ∨ v.f.ds = f.rb ∨ v.f.ds = f.rd)) →
      exec (row.1 i f) s = .next s)
    ∧ ∀ n : BitVec 5, (s.modSlot k fun x => { x with parity := [] }).clear i k → (s.slot k).placed 4 →
      (s.slot k).parity = [BitVec.ofNat 8 (0x20 + n.toNat)] → (n = f.ra ∨ n = f.rb) →
      exec (row.1 i f) s = .next (((s.enterLine k).chargeSlot k 32).raiseExc k ((s.slot k).excAt 6 3 (BitVec.ofNat 64 (0x20 + n.toNat)) 0))

/-- The same for the one-source rows, and SEXT and ZEXT for W = 1, 2 and 4 bytes (07 R251, R252; 04 R141). -/
def Obligations.UnaryRowsWriteTheirValue : Prop :=
  (∀ row ∈ Rows.unary, ∀ (s : State) (i : StreamId) (k : SlotId) (f : RFmt),
    s.clear i k → (s.slot k).placed 4 → f.w = 0 → f.rsv = 0 → f.rb = 0 →
    ∃ v, row.2 ((s.regs k).getD f.ra) v ∧ exec (row.1 i f) s = .next (s.afterRegs k 4 fun r => r.setD f.rd v))
  ∧ ∀ row ∈ Rows.extend, ∀ (s : State) (i : StreamId) (k : SlotId) (f : RFmt),
    s.clear i k → (s.slot k).placed 4 → f.w ≠ 3 → f.rsv = 0 → f.rb = 0 →
    ∃ v, row.2 (2 ^ f.w.toNat) ((s.regs k).getD f.ra) v ∧ exec (row.1 i f) s = .next (s.afterRegs k 4 fun r => r.setD f.rd v)

/-- Immediate rows, IMMS and IMMX included (07 R251, R252). -/
def Obligations.ImmediateRowsWriteTheirValue : Prop :=
  (∀ row ∈ Rows.immediate, ∀ (s : State) (i : StreamId) (k : SlotId) (f : IFmt),
    s.clear i k → (s.slot k).placed 4 →
    ∃ v, row.2 ((s.regs k).getD f.ra) f.imm v ∧ exec (row.1 i f) s = .next (s.afterRegs k 4 fun r => r.setD f.rd v))
  ∧ (∀ row ∈ Rows.shift, ∀ (s : State) (i : StreamId) (k : SlotId) (f : IFmt),
    s.clear i k → (s.slot k).placed 4 → f.imm.toNat < 64 →
    ∃ v, row.2 ((s.regs k).getD f.ra) f.imm.toNat v ∧ exec (row.1 i f) s = .next (s.afterRegs k 4 fun r => r.setD f.rd v))
  ∧ ∀ (s : State) (i : StreamId) (k : SlotId) (f : WFmt), s.clear i k → (s.slot k).placed 4 → f.rsv = 0 →
    (∃ v, v.toInt = f.imm.toInt ∧ exec (.imms i f) s = .next (s.afterRegs k 4 fun r => r.setD f.rd v))
    ∧ ∃ v, v.toNat = (((s.regs k).getD f.rd).toNat * 2 ^ 16 + f.imm.toNat) % 2 ^ 64
      ∧ exec (.immx i f) s = .next (s.afterRegs k 4 fun r => r.setD f.rd v)

/-- MULW and MULWU write the 128-bit product to an even pair; an odd RD is a reserved field; the registers but the pair, PC and the loop count
stay as they are, so CC does (04 R136). -/
def Obligations.WideProductsFillAnEvenPair : Prop :=
  ∀ (s : State) (i : StreamId) (k : SlotId) (f : RFmt), s.clear i k → (s.slot k).placed 4 → f.w = 0 → f.rsv = 0 →
    (f.rd.toNat % 2 = 0 →
      (∃ lo hi : Word64, (hi ++ lo).toInt = ((s.regs k).getD f.ra).toInt * ((s.regs k).getD f.rb).toInt
        ∧ exec (.mulw i f) s = .next (s.afterRegs k 4 fun r => (r.setD f.rd lo).setD (f.rd + 1) hi))
      ∧ ∃ lo hi : Word64, (hi ++ lo).toNat = ((s.regs k).getD f.ra).toNat * ((s.regs k).getD f.rb).toNat
        ∧ exec (.mulwu i f) s = .next (s.afterRegs k 4 fun r => (r.setD f.rd lo).setD (f.rd + 1) hi))
    ∧ (f.rd.toNat % 2 = 1 →
      exec (.mulw i f) s = .next (s.raiseExc k ((s.slot k).excAt 1 0 0 0))
      ∧ exec (.mulwu i f) s = .next (s.raiseExc k ((s.slot k).excAt 1 0 0 0)))

/-- ADDC and SUBC: the low 64 bits of the sum or the difference with CC.C, the carry or the borrow in CC.C, and no overflow (04 R135). -/
def Obligations.CarryRowsChain : Prop :=
  ∀ (s : State) (i : StreamId) (k : SlotId) (f : RFmt), s.clear i k → (s.slot k).placed 4 → f.w = 0 → f.rsv = 0 →
    let a := ((s.regs k).getD f.ra).toNat
    let b := ((s.regs k).getD f.rb).toNat
    let c := if (s.regs k).cc.c then 1 else 0
    (∃ v : Word64, v.toNat = (a + b + c) % 2 ^ 64
      ∧ exec (.addc i f) s = .next (s.afterRegs k 4 fun r => { r.setD f.rd v with cc := { r.cc with c := decide (2 ^ 64 ≤ a + b + c) } }))
    ∧ ∃ v : Word64, (v.toNat + b + c) % 2 ^ 64 = a
      ∧ exec (.subc i f) s = .next (s.afterRegs k 4 fun r => { r.setD f.rd v with cc := { r.cc with c := decide (a < b + c) } })

/-- CMP, CMPI and CMPA set N, Z, V and C as the subtraction of the second operand from the first does, and write nothing else (07 R217). -/
def Obligations.ComparesSetCC : Prop :=
  ∀ (s : State) (i : StreamId) (k : SlotId), s.clear i k → (s.slot k).placed 4 →
    let sets (c : Instr) (a b : Word64) : Prop :=
      ∃ cc : CC, cc.compares a b ∧ exec c s = .next (s.afterRegs k 4 fun r => { r with cc := cc })
    (∀ f : RFmt, f.w = 0 → f.rsv = 0 → f.rd = 0 → sets (.cmp i f) ((s.regs k).getD f.ra) ((s.regs k).getD f.rb))
    ∧ (∀ f : IFmt, f.rd = 0 → sets (.cmpi i f) ((s.regs k).getD f.ra) (BitVec.ofInt 64 f.imm.toInt))
    ∧ ∀ f : ARFmt, f.ad = 0 → f.sc = 0 → f.rsv = 0 → sets (.cmpa i f) ((s.regs k).getA f.aa) ((s.regs k).getA f.ab)

/-- ADDV, SUBV, MULV and ADDVI: the result wraps to the low 64 bits; an overflow with IOE = 0 sets IOF, and with IOE = 1 takes the Integer
Overflow exception before anything is written (04 R134, R115). -/
def Obligations.CheckedRowsWrapOrTrap : Prop :=
  ∀ (s : State) (i : StreamId) (k : SlotId), s.clear i k → (s.slot k).placed 4 →
    let checks (c : Instr) (rd : BitVec 5) (x : Int) : Prop :=
      let fits := -2 ^ 63 ≤ x ∧ x < 2 ^ 63
      let ioe := (s.regs k).fpcsr.getLsbD 12
      ∃ v : Word64, v.toInt = x.bmod (2 ^ 64)
        ∧ (fits → exec c s = .next (s.afterRegs k 4 fun r => r.setD rd v))
        ∧ (¬fits → ioe = false → exec c s = .next (s.afterRegs k 4 fun r => { r.setD rd v with fpcsr := r.fpcsr ||| 0x20 }))
        ∧ (¬fits → ioe = true → exec c s = .next (s.trapped k ((s.slot k).excAt 8 0 0 0x20)))
    (∀ row ∈ Rows.checked, ∀ f : RFmt, f.w = 0 → f.rsv = 0 →
      checks (row.1 i f) f.rd (row.2 ((s.regs k).getD f.ra).toInt ((s.regs k).getD f.rb).toInt))
    ∧ ∀ f : IFmt, checks (.addvi i f) f.rd (((s.regs k).getD f.ra).toInt + f.imm.toInt)

/-- Divides and remainders: truncation toward zero, the remainder with the dividend's sign, −2^63 ÷ −1, and a divisor of 0 with its sticky
flag or its exception (04 R137). -/
def Obligations.DivideRowsFollowTheirCorners : Prop :=
  ∀ row ∈ Rows.divide, ∀ (s : State) (i : StreamId) (k : SlotId) (f : RFmt),
    s.clear i k → (s.slot k).placed 4 → f.w = 0 → f.rsv = 0 →
    let a := (s.regs k).getD f.ra
    let b := (s.regs k).getD f.rb
    let corner := (∃ g, row.1 i f = .divs i g) ∧ a.toInt = -2 ^ 63 ∧ b.toInt = -1
    (b = 0 → (s.regs k).fpcsr.getLsbD 13 = false →
      exec (row.1 i f) s = .next (s.afterRegs k 4 fun r => { r.setD f.rd (row.2.2 a) with fpcsr := r.fpcsr ||| 0x40 }))
    ∧ (b = 0 → (s.regs k).fpcsr.getLsbD 13 = true → exec (row.1 i f) s = .next (s.trapped k ((s.slot k).excAt 9 0 0 0)))
    ∧ (b ≠ 0 → ∃ v, row.2.1 a b v
      ∧ (¬corner → exec (row.1 i f) s = .next (s.afterRegs k 4 fun r => r.setD f.rd v))
      ∧ (corner → (s.regs k).fpcsr.getLsbD 12 = false →
        exec (row.1 i f) s = .next (s.afterRegs k 4 fun r => { r.setD f.rd v with fpcsr := r.fpcsr ||| 0x20 }))
      ∧ (corner → (s.regs k).fpcsr.getLsbD 12 = true →
        exec (row.1 i f) s = .next (s.trapped k ((s.slot k).excAt 8 0 0 0x20))))

/-- The address rows: sums and differences of addresses, LEAPC from its own address, and the moves between the two files (07 R212, R252). -/
def Obligations.AddressRowsWriteTheirValue : Prop :=
  ∀ (s : State) (i : StreamId) (k : SlotId), s.clear i k → (s.slot k).placed 4 →
    (∀ f : AFmt, ∃ v : Word64, v.toNat = (((s.regs k).getA f.aa).toNat + f.imm.toInt) % 2 ^ 64
      ∧ exec (.adda i f) s = .next (s.afterRegs k 4 fun r => r.setA f.ad v))
    ∧ (∀ f : ARFmt, f.rsv = 0 → ∃ v : Word64,
      v.toNat = (((s.regs k).getA f.aa).toNat + ((s.regs k).getA f.ab).toNat * 2 ^ f.sc.toNat) % 2 ^ 64
      ∧ exec (.addar i f) s = .next (s.afterRegs k 4 fun r => r.setA f.ad v))
    ∧ (∀ f : ARFmt, f.rsv = 0 → ∃ v : Word64,
      (v.toNat + ((s.regs k).getA f.ab).toNat * 2 ^ f.sc.toNat) % 2 ^ 64 = ((s.regs k).getA f.aa).toNat
      ∧ exec (.subar i f) s = .next (s.afterRegs k 4 fun r => r.setA f.ad v))
    ∧ (∀ f : AFmt, f.aa = 0 → ∃ v : Word64, v.toNat = ((s.regs k).pc.toNat + 4 * f.imm.toInt) % 2 ^ 64
      ∧ exec (.leapc i f) s = .next (s.afterRegs k 4 fun r => r.setA f.ad v))
    ∧ (∀ f : AXFmt, f.aa = 0 → f.rsv = 0 →
      exec (.movad i f) s = .next (s.afterRegs k 4 fun r => { r with a := r.a.set f.ad.toFin (r.getD f.rx) }))
    ∧ ∀ f : AXFmt, f.ad = 0 → f.rsv = 0 →
      exec (.movda i f) s = .next (s.afterRegs k 4 fun r => { r with d := r.d.set f.rx.toFin (r.getA f.aa) })

/-- CRC32C and CRC64 step over the low 1, 2, 4 or 8 bytes of D[RB], low byte first, by the reflected polynomials, without an initial load or a
final inversion (04 R140). -/
def Obligations.CrcRowsStep : Prop :=
  ∀ (s : State) (i : StreamId) (k : SlotId) (f : RFmt), s.clear i k → (s.slot k).placed 4 → f.rsv = 0 →
    let shift (poly c : Nat) : Nat := if c % 2 = 1 then (c / 2).xor poly else c / 2
    let byte (poly c b : Nat) : Nat := (shift poly)^[8] (c.xor b)
    let bytes := (List.range (2 ^ f.w.toNat)).map fun j => ((s.regs k).getD f.rb).toNat / 256 ^ j % 256
    let c := ((s.regs k).getD f.ra).toNat
    exec (.crc32c i f) s = .next (s.afterRegs k 4 fun r => r.setD f.rd (BitVec.ofNat 64 (bytes.foldl (byte 0x82F63B78) (c % 2 ^ 32))))
    ∧ exec (.crc64 i f) s = .next (s.afterRegs k 4 fun r => r.setD f.rd (BitVec.ofNat 64 (bytes.foldl (byte 0xC96C5795D7870F42) c)))

/-! ### Floating-point rows -/

/-- The rows of class 3h that raise flags deliver the exact result rounded once in the selected mode, with 0 in the upper bits, and join their flags
to the sticky bits, or take the exception of an enabled condition (04 R101, R103, R104, R109-R112, R115, R117, R119-R122; 07 R251, R252; the flags
of an overflow that traps are the model's choice, log 131). -/
def Obligations.FloatRowsCompleteOrTrap : Prop :=
  ∀ (s : State) (i : StreamId) (k : SlotId), s.clear i k → (s.slot k).placed 4 →
    let r := s.regs k
    let mode (rnd : BitVec 3) : BitVec 3 := if rnd = 0 then (r.fpcsr >>> 16).truncate 3 else rnd
    let done (c : Instr) (rd : BitVec 5) (is : FRes → Prop) : Prop := ∃ x, is x ∧ s.completesOrTraps c k x.flags fun r => r.withResult rd x
    let value (p : FloatFmt) (n : BitVec 5) : FVal := p.decode (r.floatD p n)
    (∀ row ∈ Rows.float, ∀ f : FFmt, f.rsv = 0 → f.rnd.toNat < 6 →
      let p := precision f.p
      done (row.1 i f) f.rd (row.2 p (mode f.rnd) (value p f.ra) (value p f.rb)))
    ∧ (∀ row ∈ Rows.float1, ∀ f : FFmt, f.rsv = 0 → f.rnd.toNat < 6 → f.rb = 0 →
      let p := precision f.p
      done (row.1 i f) f.rd (row.2 p (mode f.rnd) (value p f.ra)))
    ∧ (∀ row ∈ Rows.floatMin, ∀ f : FFmt, f.rsv = 0 → f.rnd = 0 →
      let p := precision f.p
      done (row.1 i f) f.rd (p.picks row.2 (r.floatD p f.ra) (r.floatD p f.rb)))
    ∧ (∀ row ∈ Rows.fused, ∀ f : F4Fmt, f.rsv = 0 →
      let p := precision f.p
      done (row.1 i f) f.rd (row.2 p (mode 0) (value p f.ra) (value p f.rb) (value p f.rc)))
    ∧ ∀ f : FCFmt, f.rsv = 0 → f.rnd.toNat < 6 → f.dt.toNat < 10 → f.st.toNat < 10 → (f.dt.toNat < 4 ∨ f.st.toNat < 4) →
      let dt := f.dt.toNat
      let st := f.st.toNat
      ∃ x, convertsTo (mode f.rnd) st dt ((r.getD f.ra).toNat % 2 ^ typeBits st) x
        ∧ s.completesOrTraps (.fcvt i f) k x.flags fun r =>
          { r.setD f.rd (if dt < 4 then BitVec.ofNat 64 x.val else BitVec.ofInt 64 (asInt dt x.val)) with
            fpcsr := r.fpcsr ||| x.flags.zeroExtend 32 }

/-- FABS and FNEG change the sign bit alone and raise nothing; FCLASS delivers the class code, and a signalling NaN raises IV. FCMP and FCMPS
set Z when the operands are equal, N when the first is less, C when they are unordered, and V = 0; a NaN raises IV where it signals or the row
does (04 R108, R109, R116, R118; 07 R217; that FCLASS raises it is log 128). -/
def Obligations.FloatBitRowsAndCompares : Prop :=
  (∀ row ∈ Rows.floatBits, ∀ (s : State) (i : StreamId) (k : SlotId) (f : FFmt),
    s.clear i k → (s.slot k).placed 4 → f.rsv = 0 → f.rnd = 0 → f.rb = 0 →
    let a := (s.regs k).floatD (precision f.p) f.ra
    ∃ (v : Word64) (fl : FlagSet), row.2.1 (precision f.p) a v ∧ (row.2.2 = true → (precision f.p).decode a = .nan true → fl = 1)
      ∧ (row.2.2 = false ∨ (precision f.p).decode a ≠ .nan true → fl = 0)
      ∧ s.completesOrTraps (row.1 i f) k fl fun r => { r.setD f.rd v with fpcsr := r.fpcsr ||| fl.zeroExtend 32 })
  ∧ ∀ row ∈ Rows.floatCmp, ∀ (s : State) (i : StreamId) (k : SlotId) (f : FFmt),
    s.clear i k → (s.slot k).placed 4 → f.rsv = 0 → f.rnd = 0 → f.rd = 0 →
    let p := precision f.p
    let x := p.decode ((s.regs k).floatD p f.ra)
    let y := p.decode ((s.regs k).floatD p f.rb)
    let unordered := x.isNaN || y.isNaN
    let iv := x = .nan true ∨ y = .nan true ∨ (row.2 = true ∧ unordered = true)
    ∃ (cc : CC) (fl : FlagSet), cc.v = false ∧ (cc.c = unordered) ∧ (cc.z = true ↔ x.same y)
      ∧ (cc.n = true ↔ x.less y) ∧ (iv → fl = 1) ∧ (¬iv → fl = 0)
      ∧ s.completesOrTraps (row.1 i f) k fl fun r => { r with cc := cc, fpcsr := r.fpcsr ||| fl.zeroExtend 32 }

/-- Every NaN that an operation delivers is the default NaN of its format; no payload is propagated. Every vector row with a destination delivers at
an element what its row of the opcode table says, and every reduction adds an element as its row says (02 R54, R66, R68; 04 R101, R103, R108-R112,
R116-R122, R134, R140, R141; that VSHR and VSAR shift by a2 mod element bits is the model's choice, log 129; that VFCLASS raises IV for a signalling
NaN is log 128). -/
def Obligations.EveryNaNResultIsTheDefaultNaN : Prop :=
  (∀ (p : FloatFmt), p = binary64 ∨ p = binary32 → ∀ (rm : BitVec 3) (a b c : Nat),
    let x := p.decode a
    let y := p.decode b
    let z := p.decode c
    ∀ r ∈ [p.addV rm x y, p.addV rm x y.neg, p.mul rm x y, p.div rm x y, p.sqrt rm x, p.rint rm a, p.fma rm x y z, p.fma rm x y z.neg,
      p.fma rm x.neg y z, p.minMax false a b, p.minMax true a b], (p.decode r.val).isNaN = true → r.val = p.quietNaN)
  ∧ (∀ row ∈ Rows.element, ∀ (fn : BitVec 5) (rm : BitVec 3) (td t1 t2 t3 a1 a2 a3 i : Nat), row.types td t1 t2 t3 →
    row.fnOk fn.toNat → a1 < 2 ^ typeBits t1 → a2 < 2 ^ typeBits t2 →
    row.gives ⟨fn.toNat, rm, td, t1⟩ a1 a2 a3 i (elemResult row.vop fn.toNat rm td t1 a1 a2 a3 i))
  ∧ ∀ row ∈ Rows.reduction, ∀ (fn t1 a1 : Nat) (d : Word64), row.types t1 → fn < 2 → a1 < 2 ^ typeBits t1 →
    row.gives fn t1 d a1 (reduceStep row.vop fn t1 d a1).1 (reduceStep row.vop fn t1 d a1).2

/-! ### Loads, stores and commits -/

/-- Every load row reads its bytes, extends them as its row says and leaves the registers for its shadow; LDL also takes the reservation on its
block; LDA and LDV name other registers (07 R212, R227, R228, R234, R252). -/
def Obligations.LoadRowsReadTheirBytes : Prop :=
  ∀ (s : State) (i : StreamId) (k : SlotId) (f : MFmt), s.clear i k → (s.slot k).placed 4 →
    let a : Word64 := (s.regs k).getA f.ab + f.disp.signExtend 64
    (∀ row ∈ Rows.load, s.mayRead k a.toNat row.2.1 1 →
      s.loads (row.1 i f) k a row.2.1 [(.d f.rd.toFin, extended row.2.2 (s.bytesAt k a.toNat row.2.1))])
    ∧ (∀ n : BitVec 4, f.rd = n.zeroExtend 5 → s.mayRead k a.toNat 8 1 →
      s.loads (.lda i f) k a 8 [(.a n.toFin, extended false (s.bytesAt k a.toNat 8))])
    ∧ (∀ n : Fin 8, f.rd.toNat = n.val → s.mayRead k a.toNat 32 32 →
      s.loads (.ldv i f) k a 32 ((List.finRange 4).map fun j =>
        (.d ⟨4 * n.val + j.val, by omega⟩, extended false (s.bytesAt k (a.toNat + 8 * j.val) 8))))
    ∧ (s.mayRead k a.toNat 8 8 →
      exec (.ldl i f) s = .next ((s.meterCore k a.toNat 8).after k 4 fun x => { x with
        loads := [x.loading a [(.d f.rd.toFin, extended false (s.bytesAt k a.toNat 8))]]
        resv := some (a.toNat / 64) }))

/-- A load whose youngest overlapping store-buffer entry covers it takes its bytes from that entry and reads no memory; one that an entry meets
in part waits and changes nothing (07 R231). -/
def Obligations.LoadsForwardFromTheStoreBuffer : Prop :=
  ∀ row ∈ Rows.load, ∀ (s : State) (i : StreamId) (k : SlotId) (f : MFmt) (old new : List StoreEntry) (e : StoreEntry),
    s.clear i k → (s.slot k).placed 4 → (s.slot k).delay = none →
    let a : Word64 := (s.regs k).getA f.ab + f.disp.signExtend 64
    let n := row.2.1
    s.mayAccess a.toNat n 1 → (s.slot k).sbuf = old ++ [e] ++ new → (∀ y ∈ new, y.meets a.toNat n = false) → e.meets a.toNat n = true →
    let covers := e.addr ≤ a.toNat ∧ a.toNat + n ≤ e.addr + e.bytes.length
    (covers → exec (row.1 i f) s = .next (s.after k 4 fun x => { x with
      loads := [x.loading a [(.d f.rd.toFin, extended row.2.2 ((e.bytes.drop (a.toNat - e.addr)).take n))]] }))
    ∧ (¬covers → exec (row.1 i f) s = .next s)

/-- The data of a load comes back: before its shadow has run the load waits with it; after its shadow has run the values are written, all but
those that the shadow wrote itself, and a register so written is sound. In both cases the stores of the shadow stand. The instruction after a load
reads what its registers held before the load; the loaded value is written after it unless the instruction writes the load's destination itself (07
R228, R229, R255). That the bytes are those of the moment of issue is the model's choice, log 8. -/
def Obligations.LoadsDeliverAfterTheirShadow : Prop :=
  (∀ (s : State) (i : StreamId) (k : SlotId) (l : PendingLoad), s.slotOf i = some k → (s.slot k).loads = [l] → l.returned = false →
    l.bad = none →
    (l.shadowed = false → exec (.loadDataReturn i .ok) s = .next (s.modSlot k fun x => { x with
      loads := [{ l with returned := true }]
      sbuf := x.sbuf.map fun e => { e with inShadow := false } }))
    ∧ ∀ v w, l.shadowed = true → l.vals = [(.d v, w)] →
      exec (.loadDataReturn i .ok) s = .next (s.modSlot k fun x => { x with
        regs := { x.regs with d := x.regs.d.set v w }
        parity := x.parity.filter fun c => c != 0x20 + BitVec.ofNat 8 v.val
        loads := []
        sbuf := x.sbuf.map fun e => { e with inShadow := false } }))
  ∧ ∀ row ∈ Rows.binary, ∀ (s : State) (i : StreamId) (k : SlotId) (f : RFmt) (l : PendingLoad) (n : Fin 32) (w : Word64),
    ({ s with slots := s.slots.set k { s.slot k with loads := [] } }).clear i k → (s.slot k).delay = none → (s.slot k).notAtEnd 4 →
    (s.slot k).loads = [l] → l.returned = true → l.shadowed = false → l.vals = [(.d n, w)] → f.w = 0 → f.rsv = 0 →
    ∃ v t, row.2 ((s.regs k).getD f.ra) ((s.regs k).getD f.rb) v ∧ exec (row.1 i f) s = .next t ∧ (t.slot k).loads = []
      ∧ (t.regs k).d = (if f.rd.toFin = n then (s.regs k).d.set n v else ((s.regs k).d.set f.rd.toFin v).set n w)
      ∧ (t.regs k).a = (s.regs k).a ∧ (t.regs k).cc = (s.regs k).cc ∧ (t.regs k).pc = (s.regs k).pc + 4 ∧ s.sameBytes t

/-- Every store row enters the store buffer with its low bytes and changes no byte of memory; with 8 entries it stalls (07 R230, R252). -/
def Obligations.StoreRowsEnterTheStoreBuffer : Prop :=
  ∀ (s : State) (i : StreamId) (k : SlotId) (f : MFmt), s.clear i k → (s.slot k).placed 4 →
    let a : Word64 := (s.regs k).getA f.ab + f.disp.signExtend 64
    ((s.slot k).sbuf.length < 8 →
      (∀ row ∈ Rows.store, s.mayAccess a.toNat row.2 1 → s.stores (row.1 i f) k a (wordLow ((s.regs k).getD f.rd) row.2))
      ∧ (∀ n : BitVec 4, f.rd = n.zeroExtend 5 → s.mayAccess a.toNat 8 1 → s.stores (.sta i f) k a (wordLow ((s.regs k).getA n) 8))
      ∧ ∀ n : Fin 8, f.rd.toNat = n.val → s.mayAccess a.toNat 32 32 →
        s.stores (.stv i f) k a ((List.finRange 4).flatMap fun j => wordLow (s.regs k).d[4 * n.val + j.val] 8))
    ∧ ((s.slot k).sbuf.length = 8 → (s.slot k).delay = none → ∀ row ∈ Rows.store, s.mayAccess a.toNat row.2 1 → exec (row.1 i f) s = .next s)

/-- STORE_COMMIT: the oldest entry leaves the buffer; without an error exactly its bytes are written; with a parity error nothing of it is, and
with an upper-half error the lower half is; each error raises the asynchronous store error with the entry's address (07 R233). -/
def Obligations.StoreCommitWritesExactlyTheEntry : Prop :=
  ∀ (s : State) (i : StreamId) (k : SlotId) (e : StoreEntry) (es : List StoreEntry) (o : CommitOutcome),
    s.memWf = true → s.slotOf i = some k → (s.slot k).sbuf = e :: es → e.inShadow = false → (s.slot k).storeErr = none →
    (e.addr + e.bytes.length ≤ deskBase ∨ deskBase ≤ e.addr) →
    let lower := 64 - e.addr % 64
    let split := lower < e.bytes.length
    let n := match o with
      | .ok => e.bytes.length
      | .parity => 0
      | .errorResp => 0
      | .upperError => if split then lower else 0
    let kind : Option (BitVec 2) := match o with
      | .ok => none
      | .parity => some 1
      | .errorResp => some 2
      | .upperError => if split then some 3 else some 2
    ∃ t, exec (.storeCommit i o) s = .next t ∧ (t.slot k).sbuf = es
      ∧ (∀ j (h : j < e.bytes.length), j < n → t.byteAt k (e.addr + j) = e.bytes[j])
      ∧ (∀ b, (b < e.addr ∨ e.addr + n ≤ b) → t.byteAt k b = s.byteAt k b)
      ∧ (∀ k', k' ≠ k → ∀ b, (t.slot k').desk.mem.read b = (s.slot k').desk.mem.read b)
      ∧ (∀ b, t.host.sqMem.read b = s.host.sqMem.read b)
      ∧ (t.slot k).storeErr = kind.map (fun c => ⟨BitVec.ofNat 64 e.addr, c, false⟩)
      ∧ (t.slot k).regs = (s.slot k).regs

/-- STC with an empty store buffer: with a reservation on its block it stores 8 bytes and sets CC.Z, else it stores nothing and clears CC.Z; the
reservation is gone in both cases (07 R234). -/
def Obligations.StoreConditionalNeedsItsReservation : Prop :=
  ∀ (s : State) (i : StreamId) (k : SlotId) (f : MFmt), s.memWf = true → s.clear i k → (s.slot k).placed 4 → (s.slot k).sbuf = [] →
    let a : Word64 := (s.regs k).getA f.ab + f.disp.signExtend 64
    s.mayAccess a.toNat 8 8 →
    let held := (s.slot k).resv = some (a.toNat / 64)
    ∃ t, exec (.stc i f) s = .next t ∧ (t.slot k).resv = none
      ∧ (t.regs k).cc = { (s.regs k).cc with z := decide held } ∧ (t.regs k).d = (s.regs k).d ∧ (t.regs k).a = (s.regs k).a
      ∧ (∀ b, t.byteAt k b = if held ∧ a.toNat ≤ b ∧ b < a.toNat + 8 then BitVec.ofNat 8 (((s.regs k).getD f.rd).toNat / 256 ^ (b - a.toNat))
          else s.byteAt k b)
      ∧ ∀ k', k' ≠ k → ∀ b, (t.slot k').desk.mem.read b = (s.slot k').desk.mem.read b

/-- QLD reads the 536-byte image of an accumulator into Qn, with its state 000b, and marks Qn dirty. QST stores the image in 67 words through the
store buffer: as many of its next words as the buffer has room for enter, in order, and with the last of them it completes; with a full buffer
it waits. LAZY_Q_SAVE writes the image of a guarded accumulator and its state to its place at QSP, notes it in the TSB and takes the guard away;
no other byte changes; behind a buffered store to one of these bytes it waits (04 R131, R132; 08 R263, R264; how many words one command enters is log
16, that the save waits for the store buffer log 164). -/
def Obligations.AccumulatorImagesMove : Prop :=
  (∀ (s : State) (i : StreamId) (k : SlotId) (f : MFmt) (n : BitVec 2), s.clear i k → (s.slot k).placed 4 → f.rd = n.zeroExtend 5 →
    s.unguarded k n →
    let a : Word64 := (s.regs k).getA f.ab + f.disp.signExtend 64
    s.mayRead k a.toNat 536 8 →
    exec (.qld i f) s = .next ((s.meterCore k a.toNat 536).afterRegs k 4 fun r => { r with
      q := r.q.set n.toFin (BitVec.ofNat 4288 (leNat (s.bytesAt k a.toNat 536)))
      fpcsr := r.fpcsr &&& ~~~(7#32 <<< (20 + 3 * n.toNat))
      qd := r.qd ||| (1#4 <<< n.toNat) }))
  ∧ (∀ (s : State) (i : StreamId) (k : SlotId) (f : MFmt) (n : BitVec 2), s.clear i k → (s.slot k).placed 4 → f.rd = n.zeroExtend 5 →
    let a : Word64 := (s.regs k).getA f.ab + f.disp.signExtend 64
    s.mayAccess a.toNat 536 8 →
    let x := s.slot k
    let done := x.partsDone
    let more := Min.min (8 - x.sbuf.length) (67 - done)
    let img (j : Nat) : Byte := BitVec.ofNat 8 ((s.regs k).q[n.toFin].toNat / 256 ^ j)
    let words : List StoreEntry := (List.range more).map fun w =>
      ⟨a.toNat + 8 * (done + w), (List.range 8).map fun j => img (8 * (done + w) + j), false⟩
    done < 67 →
    (x.sbuf.length < 8 → done + more < 67 → ∃ t, exec (.qst i f) s = .next t ∧ (t.slot k).sbuf = x.sbuf ++ words
      ∧ (t.slot k).partsDone = done + more ∧ t.regs k = s.regs k ∧ s.sameBytes t)
    ∧ (x.sbuf.length < 8 → done + more = 67 → exec (.qst i f) s = .next (s.after k 4 fun x => { x with sbuf := x.sbuf ++ words }))
    ∧ (x.sbuf.length = 8 → x.delay = none → exec (.qst i f) s = .next s))
  ∧ ∀ (s : State) (i : StreamId) (k : SlotId) (n : Fin 4), s.memWf = true → s.clear i k → (s.regs k).qg.getLsbD n.val = true →
    let r := s.regs k
    let o := r.ctsb.toNat - deskBase
    let q := (s.slot k).deskWord (o + 0x1E8)
    let at_ := q - deskBase + 544 * n.val
    inOwnDesk r.ctsb.toNat 512 = true → q % 8 = 0 → inOwnDesk q 2176 = true → (s.slot k).desk.bad = [] →
    (q + 2176 ≤ deskBase + o ∨ deskBase + o + 512 ≤ q) →
    let buffered := ∃ e ∈ (s.slot k).sbuf, e.meets (deskBase + o + 0x1E0) 16 = true ∨ e.meets (deskBase + at_) 544 = true
    (buffered → exec (.lazyQSave i n) s = .next s)
    ∧ (¬buffered → ∃ t, exec (.lazyQSave i n) s = .next t
      ∧ t.regs k = { r with qg := r.qg &&& ~~~(1#4 <<< n.val) }
      ∧ (∀ j < 536, (t.slot k).desk.mem.read (at_ + j) = BitVec.ofNat 8 (r.q[n].toNat / 256 ^ j))
      ∧ (t.slot k).deskWord (at_ + 536) = r.fpcsr.toNat / 2 ^ (20 + 3 * n.val) % 8
      ∧ (t.slot k).deskWord (o + 0x1E0) = (s.slot k).deskWord (o + 0x1E0) ||| 2 ^ (8 + n.val)
      ∧ ∀ b, (b < at_ ∨ at_ + 544 ≤ b) → (b < o + 0x1E0 ∨ o + 0x1E8 ≤ b) → (t.slot k).desk.mem.read b = (s.slot k).desk.mem.read b)

/-! ### Branches and loops -/

/-- Every branch and jump: condition, target and link from the registers before the delay slot, which comes next; a JR or
JALR target that is no multiple of 4 raises Alignment at the jump, before AD is written (07 R223, R226, R251). -/
def Obligations.BranchesOpenADelaySlot : Prop :=
  ∀ (s : State) (i : StreamId) (k : SlotId), s.clear i k → (s.slot k).mayBranch →
    let r := s.regs k
    let cc := r.cc
    let dest (disp : Int) : Word64 := BitVec.ofInt 64 (r.pc.toNat + 4 * disp)
    (∀ f : BFmt, f.cond.toNat < 15 →
      exec (.bcc i f) s = .next (s.afterBranch k (if cc.meets f.cond.toNat then some (dest f.disp.toInt) else none) id))
    ∧ (∀ f : BZFmt,
      exec (.bz i f) s = .next (s.afterBranch k (if r.getD f.rd = 0 then some (dest f.disp.toInt) else none) id)
      ∧ exec (.bnz i f) s = .next (s.afterBranch k (if r.getD f.rd = 0 then none else some (dest f.disp.toInt)) id))
    ∧ (∀ f : JFmt, exec (.jmp i f) s = .next (s.afterBranch k (some (dest f.disp.toInt)) id))
    ∧ (∀ f : BFmt, exec (.jal i f) s = .next (s.afterBranch k (some (dest f.disp.toInt)) fun r => r.setA f.cond (r.pc + 8)))
    ∧ ∀ f : AFmt,
      let t : Word64 := BitVec.ofInt 64 ((r.getA f.aa).toNat + 4 * f.imm.toInt)
      (t.toNat % 4 = 0 → (f.ad = 0 → exec (.jr i f) s = .next (s.afterBranch k (some t) id))
        ∧ exec (.jalr i f) s = .next (s.afterBranch k (some t) fun r => r.setA f.ad (r.pc + 8)))
      ∧ (t.toNat % 4 ≠ 0 → (f.ad = 0 → exec (.jr i f) s = .next (s.trapped k ⟨4, r.pc, false, t, 5, 0, 0⟩))
        ∧ exec (.jalr i f) s = .next (s.trapped k ⟨4, r.pc, false, t, 5, 0, 0⟩))

/-- LOOPI and LOOPR: LS, LE and LC are set whatever loop was active, a count of 0 goes on at LE, and END10 = 0 raises Reserved Field (07 R237). -/
def Obligations.LoopsSetUpTheirRegisters : Prop :=
  ∀ (s : State) (i : StreamId) (k : SlotId), s.clear i k → (s.slot k).mayBranch →
    let sets (c : Instr) (endw : BitVec 10) (n : Word32) : Prop :=
      (endw ≠ 0 → exec c s = .next (s.after k 4 fun x => { x with regs := { x.regs with
        lc := n
        ls := x.regs.pc + 4
        le := x.regs.pc + 4 + BitVec.ofNat 64 (4 * endw.toNat)
        pc := if n = 0 then x.regs.pc + BitVec.ofNat 64 (4 * endw.toNat) else x.regs.pc } }))
      ∧ (endw = 0 → exec c s = .next (s.raiseExc k ((s.slot k).excAt 1 0 0 0)))
    (∀ f : LoopIFmt, sets (.loopi i f) f.endw (BitVec.ofNat 32 f.count.toNat))
    ∧ ∀ f : LoopRFmt, f.rsv = 0 → sets (.loopr i f) f.endw (BitVec.ofNat 32 ((s.regs k).getD f.rd).toNat)

/-- The loop test of R238 at the end of an instruction of any size, with LC as the instruction left it (an MTS of LC included); a taken branch to
LE performs no test (that an instruction in a delay slot makes it too, and goes on at the branch's target, is log 126). A branch or jump, a LOOP, RTE,
END, an instruction in a delay slot, a CHAIN, or a member that is not the last raises Illegal Sequence where it ends at LE with LC ≠ 0 (R239). -/
def Obligations.TheLoopTestRunsAtLE : Prop :=
  (∀ (x : Slot) (size : Nat), x.regs.pc + BitVec.ofNat 64 size = x.regs.le →
    let y := x.sequence size
    let on := match x.delay with
      | none => x.regs.le
      | some d => d.target
    (1 < x.regs.lc.toNat → y.regs.lc.toNat = x.regs.lc.toNat - 1 ∧ y.regs.pc = x.regs.ls)
    ∧ (x.regs.lc.toNat = 1 → y.regs.lc = 0 ∧ y.regs.pc = on)
    ∧ (x.regs.lc.toNat = 0 → y.regs.lc = 0 ∧ y.regs.pc = on))
  ∧ (∀ (s : State) (i : StreamId) (k : SlotId) (f : XFmt), s.clear i k → (s.slot k).delay = none → f.sn = 4 → f.imm = 0 →
    (s.regs k).pc + 4 = (s.regs k).le → 1 < ((s.regs k).getD f.rd).toNat → ((s.regs k).getD f.rd).toNat < 2 ^ 32 →
    ∃ t, exec (.mts i f) s = .next t ∧ (t.regs k).lc.toNat = ((s.regs k).getD f.rd).toNat - 1 ∧ (t.regs k).pc = (s.regs k).ls)
  ∧ (∀ (x : Slot) (d : DelaySlot) (size : Nat), x.delay = some d → d.target = x.regs.le → x.regs.pc + BitVec.ofNat 64 size ≠ x.regs.le →
    (x.sequence size).regs.pc = x.regs.le ∧ (x.sequence size).regs.lc = x.regs.lc)
  ∧ ∀ (s : State) (i : StreamId) (k : SlotId), (s.regs k).lc ≠ 0 →
    let traps (c : Instr) : Prop := exec c s = .next (s.raiseExc k ((s.slot k).excAt 2 0 0 0))
    let endsAtLE (size : Nat) : Prop := (s.regs k).pc + BitVec.ofNat 64 size = (s.regs k).le
    (s.clear i k → endsAtLE 4 →
      ((s.slot k).delay = none →
        (∀ f : BFmt, traps (.bcc i f) ∧ traps (.jal i f)) ∧ (∀ f : BZFmt, traps (.bz i f) ∧ traps (.bnz i f)) ∧ (∀ f : JFmt, traps (.jmp i f))
        ∧ (∀ f : AFmt, traps (.jr i f) ∧ traps (.jalr i f)) ∧ (∀ f : LoopIFmt, traps (.loopi i f)) ∧ (∀ f : LoopRFmt, traps (.loopr i f))
        ∧ ∀ f : XFmt, traps (.rte i f) ∧ traps (.endLesson i f))
      ∧ ((s.slot k).delay ≠ none → ∀ row ∈ Rows.binary, ∀ f : RFmt, traps (row.1 i f)))
    ∧ (s.clear i k → (s.slot k).delay = none → endsAtLE 8 → ∀ f : VFmt, traps (.chain i f))
    ∧ ∀ c : OpenChain, (s.modSlot k fun x => { x with chain := none }).clear i k → (s.slot k).delay = none → (s.slot k).chain = some c →
      c.ops.length + 1 < c.count → endsAtLE 8 → ∀ row ∈ Rows.vector, ∀ f : VFmt, traps (row.1 i f)

/-! ### Strings -/

/-- One element of each string instruction: what moves, what CC or D[RD] becomes, and the pointers and the count after it. REP performs iterations until the
count is 0, or CMPS or SCANS meets the condition of UNTIL; one that ends early at its bound `iters` (log 28) or at a full store buffer leaves pointers
and count of what is left, and PC at the prefix. A pair whose string word cannot be fetched raises Address at the prefix (07 R220, R230, R241, R242,
R244; 04 R140). -/
def Obligations.StringRowsMoveTheirElements : Prop :=
  (∀ (s : State) (i : StreamId) (k : SlotId) (f : SFmt), s.clear i k → (s.slot k).delay = none → f.rsv = 0 → (s.slot k).sbuf = [] →
    let r := s.regs k
    let n := 2 ^ f.sz.toNat
    let p := r.a[8]
    let q := r.a[9]
    let x := s.bytesAt k p.toNat n
    let y := s.bytesAt k q.toNat n
    let v := (r.getD f.rd).toNat % 256 ^ n
    let w : Word64 := BitVec.ofNat 64 n
    let on8 (r : Regs) : Regs := { r with a := (r.a.set 8 (p + w)).set 10 (r.a[10] - 1) }
    let on9 (r : Regs) : Regs := { r with a := (r.a.set 9 (q + w)).set 10 (r.a[10] - 1) }
    let on89 (r : Regs) : Regs := { r with a := ((r.a.set 8 (p + w)).set 9 (q + w)).set 10 (r.a[10] - 1) }
    (f.ck = 0 → f.rd = 0 → s.mayRead k p.toNat n 1 → s.mayAccess q.toNat n 1 →
      exec (.movs i f) s = .next ((s.meterCore k p.toNat n).after k 4 fun z => { z with regs := on89 z.regs, sbuf := [⟨q.toNat, x, false⟩] }))
    ∧ (f.ck = 0 → s.mayAccess q.toNat n 1 →
      exec (.fills i f) s = .next (s.after k 4 fun z => { z with regs := on9 z.regs, sbuf := [⟨q.toNat, wordLow (r.getD f.rd) n, false⟩] }))
    ∧ (f.ck = 0 → f.rd = 0 → s.mayRead k p.toNat n 1 → s.mayRead k q.toNat n 1 →
      ∃ cc : CC, cc.compares (BitVec.ofNat 64 (leNat x)) (BitVec.ofNat 64 (leNat y))
        ∧ exec (.cmps i f) s = .next (((s.meterCore k p.toNat n).meterCore k q.toNat n).afterRegs k 4 fun r => { on89 r with cc := cc }))
    ∧ (f.ck = 0 → s.mayRead k p.toNat n 1 →
      ∃ cc : CC, cc.compares (BitVec.ofNat 64 (leNat x)) (BitVec.ofNat 64 v)
        ∧ exec (.scans i f) s = .next ((s.meterCore k p.toNat n).afterRegs k 4 fun r => { on8 r with cc := cc }))
    ∧ (s.mayRead k p.toNat n 1 →
      exec (.crcs i f) s = .next ((s.meterCore k p.toNat n).afterRegs k 4 fun r =>
        { on8 r with d := r.d.set f.rd.toFin (crcStep (decide (f.ck = 1)) (r.getD f.rd) x) })))
  ∧ ∀ (s : State) (i : StreamId) (k : SlotId) (f : PFmt) (g : SFmt) (iters : Nat), s.clear i k → (s.slot k).delay = none →
    let r := s.regs k
    let p := r.a[8]
    let q := r.a[9]
    let m := r.a[10].toNat
    let n := 2 ^ g.sz.toNat
    let here := Min.min m iters
    let len := here * n
    let w (j : Nat) : Word64 := BitVec.ofNat 64 (j * n)
    let left (j : Nat) : Word64 := BitVec.ofNat 64 (m - j)
    let c (op : StringOp) : Instr := .rep i f (.string op g) iters
    (s.badByte (r.pc + 4).toNat 1 ≠ none → ∀ next : AfterRep,
      exec (.rep i f next iters) s = .next (s.raiseExc k ((s.slot k).excAt 5 1 (r.pc + 4) 0)))
    ∧ (s.badByte (r.pc + 4).toNat 1 = none → f.rsv = 0 → g.rsv = 0 →
      (∀ op : StringOp, m = 0 → g.ck = 0 → g.rd = 0 → (f.untl = 15 ∨ f.untl.toNat < 14 ∧ (op = .cmps ∨ op = .scans)) →
        s.repeats (c op) k 0 True [] id)
      ∧ (f.untl = 15 → g.ck = 0 → g.rd = 0 → s.mayRead k p.toNat len 1 → s.mayAccess q.toNat len 1 →
        (p.toNat + len ≤ q.toNat ∨ q.toNat + len ≤ p.toNat) →
        let j := Min.min here (8 - (s.slot k).sbuf.length)
        s.repeats (c .movs) k j (j = m) ((List.range j).map fun l => ⟨q.toNat + l * n, s.bytesAt k (p.toNat + l * n) n, false⟩)
          fun r => { r with a := ((r.a.set 8 (p + w j)).set 9 (q + w j)).set 10 (left j) })
      ∧ (f.untl = 15 → g.ck = 0 → s.mayAccess q.toNat len 1 →
        let j := Min.min here (8 - (s.slot k).sbuf.length)
        s.repeats (c .fills) k j (j = m) ((List.range j).map fun l => ⟨q.toNat + l * n, wordLow (r.getD g.rd) n, false⟩)
          fun r => { r with a := (r.a.set 9 (q + w j)).set 10 (left j) })
      ∧ (f.untl = 15 → s.mayRead k p.toNat len 1 →
        s.repeats (c .crcs) k here (here = m) [] fun r => { r with
          a := (r.a.set 8 (p + w here)).set 10 (left here)
          d := if here = 0 then r.d else r.d.set g.rd.toFin (crcStep (decide (g.ck = 1)) (r.getD g.rd) (s.bytesAt k p.toNat len)) })
      ∧ ((f.untl = 15 ∨ f.untl.toNat < 14) → g.ck = 0 → s.mayRead k p.toNat len 1 → ∀ (j : Nat) (ccs : Nat → CC),
        let elem (a : Word64) (l : Nat) : Word64 := BitVec.ofNat 64 (leNat (s.bytesAt k (a.toNat + l * n) n))
        let met (l : Nat) : Prop := f.untl ≠ 15 ∧ (ccs l).meets f.untl.toNat = true
        let stops := 0 < j ∧ met (j - 1)
        let codes (r : Regs) : CC := if j = 0 then r.cc else ccs (j - 1)
        j ≤ here → (∀ l, l + 1 < j → ¬met l) → (j = here ∨ stops) →
        (g.rd = 0 → s.mayRead k q.toNat len 1 → (∀ l < j, (ccs l).compares (elem p l) (elem q l)) →
          s.repeats (c .cmps) k j (j = m ∨ stops) []
            fun r => { r with a := ((r.a.set 8 (p + w j)).set 9 (q + w j)).set 10 (left j), cc := codes r })
        ∧ ((∀ l < j, (ccs l).compares (elem p l) (BitVec.ofNat 64 ((r.getD g.rd).toNat % 256 ^ n))) →
          s.repeats (c .scans) k j (j = m ∨ stops) []
            fun r => { r with a := (r.a.set 8 (p + w j)).set 10 (left j), cc := codes r })))

/-! ### System rows -/

/-- MFS reads and MTS writes each special register; a value that breaks a field rule raises Reserved Field, and an LS or LE that is no
multiple of 4 Alignment. An MFS or MTS of VX or FPCSR waits, and changes nothing, while the vector queue holds an entry and the engine is not
stopped (07 R214, R215, R216; 04 R106). That FADDR of this Alignment exception is the value written is the model's choice, log 57. -/
def Obligations.SpecialRegistersMove : Prop :=
  ∀ (s : State) (i : StreamId) (k : SlotId) (f : XFmt), s.clear i k → (s.slot k).placed 4 → f.imm = 0 →
    let v := (s.regs k).getD f.rd
    let idle := (s.slot k).eng.queue = [] ∨ (s.slot k).eng.stopped = true
    (f.sn.toNat = 3 ∨ f.sn.toNat = 9 → ¬idle → (s.slot k).delay = none → exec (.mfs i f) s = .next s ∧ exec (.mts i f) s = .next s) ∧
    (∀ row ∈ Rows.special, f.sn.toNat = row.1 → (row.1 = 3 ∨ row.1 = 9 → idle) →
      exec (.mfs i f) s = .next (s.afterRegs k 4 fun r => r.setD f.rd (row.2 (s.slot k))))
    ∧ (∀ row ∈ Rows.writable, f.sn.toNat = row.1 → (row.1 = 3 ∨ row.1 = 9 → idle) →
      (row.2.1 v → exec (.mts i f) s = .next (s.afterRegs k 4 fun r => row.2.2 r v))
      ∧ (¬row.2.1 v → exec (.mts i f) s = .next (s.trapped k
          (if row.1 = 5 ∨ row.1 = 6 then (s.slot k).excAt 4 4 v 0 else (s.slot k).excAt 1 0 0 0))))

/-- NOP, SETC, CLRC, FENCE, IFLUSH, TRAP, BKPT with and without a monitor, and END, which waits for the queue and the store buffer and raises Vector
Sequence with the engine stopped, or Vector Fault with the cause when the engine stopped in its wait (07 R235, R252, R253; 08 R257, R266; 14 R409,
R410). -/
def Obligations.SystemRowsHaveTheirEffect : Prop :=
  ∀ (s : State) (i : StreamId) (k : SlotId) (f : XFmt), s.clear i k → f.rd = 0 → f.sn = 0 →
    ((s.slot k).placed 4 → f.imm = 0 →
      exec (.nop i f) s = .next (s.after k 4 id)
      ∧ exec (.setc i f) s = .next (s.afterRegs k 4 fun r => { r with cc := { r.cc with c := true } })
      ∧ exec (.clrc i f) s = .next (s.afterRegs k 4 fun r => { r with cc := { r.cc with c := false } }))
    ∧ ((s.slot k).delay = none → f.imm = 0 →
      ((s.slot k).sbuf = [] → exec (.fence i f) s = .next (s.after k 4 id)
        ∧ exec (.iflush i f) s = .next (s.after k 4 fun x =>
          { x with lines := [], ahead := [], line := none, prefetch := [], btb := Vector.replicate 64 none }))
      ∧ ((s.slot k).sbuf ≠ [] → exec (.fence i f) s = .next s ∧ exec (.iflush i f) s = .next s)
      ∧ exec (.bkpt i f) s = .next (s.after k 4 fun x =>
          { x with dbg := { x.dbg with bkptNop := x.dbg.bkptNop.add 1 } })
      ∧ (let u := s.modSlot k fun x => { x with dbg := { x.dbg with monen := true, halt := false, step := false, event := none } }
        (s.slot k).status = .running → s.streamOf k = some i → s.level i = 2 → (∀ n : Fin 4, ((s.slot k).dbg.ibp[n]).1 = false) →
        exec (.bkpt i f) u = .next (u.after k 4 fun x => { x with dbg := { x.dbg with event := some ⟨3, 0, false⟩ } }))
      ∧ ((s.slot k).notAtEnd 4 → (s.slot k).eng.stopped = true →
        ((s.slot k).waitAt = some .endLesson → exec (.endLesson i f) s
          = .next (s.trapped k ⟨0x0B, (s.regs k).pc, false, 0, BitVec.ofNat 12 (s.slot k).eng.cause.cause.toNat, 0, 0⟩))
        ∧ ((s.slot k).waitAt ≠ some .endLesson → exec (.endLesson i f) s = .next (s.trapped k ⟨0x0A, (s.regs k).pc, false, 0, 0, 0, 0⟩)))
      ∧ ((s.slot k).notAtEnd 4 → (s.slot k).eng.stopped = false →
        ∃ t, exec (.endLesson i f) s = .next t ∧ (t.slot k).waitAt = some .endLesson ∧ t.regs k = s.regs k ∧ s.sameBytes t ∧ t.tt = s.tt))
    ∧ ((s.slot k).delay = none → exec (.trap i f) s = .next ((s.start k).raiseExc k ⟨0x0C, (s.regs k).pc + 4, false, 0, f.imm, 0, 0⟩))

/-- The accumulator rows: QCLR; QADDD and QADDQ add exactly as multiples of 2^−2148, infinities and NaNs enter the state bits, and a sum out of range
keeps its low 4,288 bits, sets P or M by its sign and raises OF; IV where P and M meet, or for a signalling NaN. QRND rounds N once, and delivers NaNs
and infinities by the state bits. Behind a queued or running vector instruction that has Qn as destination each of them waits and changes nothing
(02 R31; 04 R115, R126-R130; 08 R263; the flags of an overflow that traps are the model's choice, log 131). -/
def Obligations.AccumulatorRowsAddExactly : Prop :=
  (∀ (s : State) (i : StreamId) (k : SlotId) (f : QFmt), s.clear i k → (s.slot k).placed 4 → f.rsv = 0 → s.unguarded k f.qn →
    let r := s.regs k
    let n := f.qn.toNat
    let q := r.q[f.qn.toFin].toInt
    let st (n : Nat) : BitVec 3 := (r.fpcsr >>> (20 + 3 * n)).truncate 3
    let puts (x : Int) (r : Regs) : Regs := { r with q := r.q.set f.qn.toFin (BitVec.ofInt 4288 x), qd := r.qd ||| (1#4 <<< n) }
    let bit (neg : Bool) : BitVec 3 := if neg then 2 else 1
    let both (b : BitVec 3) : Prop := b &&& 3 = 3
    let delivers (c : Instr) (e : Int) (b : BitVec 3) (iv : Prop) : Prop :=
      let past := e < -2 ^ 4287 ∨ 2 ^ 4287 ≤ e
      let neg := decide (e < 0)
      ∃ (b' : BitVec 3) (fl : FlagSet), (past → b' = b ||| bit neg) ∧ (¬past → b' = b) ∧ (fl &&& 4 ≠ 0 ↔ past)
        ∧ (fl &&& 1 ≠ 0 ↔ iv ∨ (past ∧ b &&& bit (!neg) ≠ 0)) ∧ fl &&& ~~~5 = 0
        ∧ s.completesOrTraps c k fl fun r => { puts e r with
          fpcsr := ((r.fpcsr &&& ~~~(7#32 <<< (20 + 3 * n))) ||| (b'.zeroExtend 32 <<< (20 + 3 * n))) ||| fl.zeroExtend 32 }
    (f.qm = 0 → f.rd = 0 → f.rnd = 0 →
      exec (.qclr i f) s = .next (s.afterRegs k 4 fun r => { puts 0 r with fpcsr := r.fpcsr &&& ~~~(7#32 <<< (20 + 3 * n)) }))
    ∧ (f.qm = 0 → f.rnd = 0 →
      match binary64.decode (r.getD f.rd).toNat with
      | .fin neg m e => delivers (.qaddd i f) (q + (if neg then -1 else 1) * m * 2 ^ (e + 2148).toNat) (st n) False
      | .inf neg => delivers (.qaddd i f) q (st n ||| bit neg) (st n &&& bit (!neg) ≠ 0)
      | .nan signalling => delivers (.qaddd i f) q (st n ||| 4) (signalling = true))
    ∧ (f.rd = 0 → f.rnd = 0 →
      let b := st n ||| st f.qm.toNat
      delivers (.qaddq i f) (q + r.q[f.qm.toFin].toInt) b (both b ∧ ¬both (st n) ∧ ¬both (st f.qm.toNat)))
    ∧ (f.qm = 0 → f.rnd.toNat < 6 →
      let mode : BitVec 3 := if f.rnd = 0 then (r.fpcsr >>> 16).truncate 3 else f.rnd
      let done (x : FRes) : Prop := s.completesOrTraps (.qrnd i f) k x.flags fun r => r.withResult f.rd x
      (st n = 0 → ∃ x, binary64.rounded mode (ratOf false 1 (-2148) * q : ℚ) false x ∧ done x)
      ∧ (st n = 1 → done ⟨0x7FF0000000000000, 0⟩)
      ∧ (st n = 2 → done ⟨0xFFF0000000000000, 0⟩)
      ∧ (3 ≤ (st n).toNat → done ⟨binary64.quietNaN, 0⟩)))
  ∧ ∀ (s : State) (i : StreamId) (k : SlotId) (f : QFmt), (s.modSlot k fun x => { x with eng := { x.eng with queue := [] } }).clear i k →
    (s.slot k).delay = none → (s.slot k).eng.stopped = false → f.rsv = 0 →
    (∃ e ∈ (s.slot k).eng.queue, ∃ v ∈ e.ops, (v.vop = 0x50 ∨ v.vop = 0x51) ∧ v.f.qn = f.qn) →
    (f.qm = 0 → f.rd = 0 → f.rnd = 0 → exec (.qclr i f) s = .next s) ∧ (f.qm = 0 → f.rnd = 0 → exec (.qaddd i f) s = .next s)
    ∧ (f.rd = 0 → f.rnd = 0 → exec (.qaddq i f) s = .next s) ∧ (f.qm = 0 → f.rnd.toNat < 6 → exec (.qrnd i f) s = .next s)

/-! ### Forms that trap -/

/-- A field that its format or its row reserves raises Reserved Field; a vector instruction at an address with bit 2 set, and an instruction that
no delay slot takes in a delay slot, raise Illegal Sequence whatever their fields hold; REP before an instruction that its UNTIL does not allow raises
Illegal Prefix where the word after it can be fetched: nothing else is done, and the record is that of the instruction, or of its branch (02 R64; 03 R72; 07 R224, R225, R243, R250-R252,
R254). -/
def Obligations.ReservedFormsTrap : Prop :=
  ∀ (s : State) (i : StreamId) (k : SlotId), s.clear i k →
    let traps (v : Byte) (c : Instr) : Prop := exec c s = .next (s.raiseExc k ((s.slot k).excAt v 0 0 0))
    let reserved (c : Instr) : Prop := traps 1 c
    ((s.slot k).placed 4 →
      (∀ f : RFmt, (f.w ≠ 0 ∨ f.rsv ≠ 0 → (∀ row ∈ Rows.binary, reserved (row.1 i f)) ∧ (∀ row ∈ Rows.checked, reserved (row.1 i f))
          ∧ (∀ row ∈ Rows.divide, reserved (row.1 i f)) ∧ reserved (.addc i f) ∧ reserved (.subc i f) ∧ reserved (.mulw i f)
          ∧ reserved (.mulwu i f))
        ∧ (f.w ≠ 0 ∨ f.rsv ≠ 0 ∨ f.rb ≠ 0 → ∀ row ∈ Rows.unary, reserved (row.1 i f))
        ∧ (f.w = 3 ∨ f.rsv ≠ 0 ∨ f.rb ≠ 0 → ∀ row ∈ Rows.extend, reserved (row.1 i f))
        ∧ (f.w ≠ 0 ∨ f.rsv ≠ 0 ∨ f.rd ≠ 0 → reserved (.cmp i f))
        ∧ (f.rsv ≠ 0 → reserved (.crc32c i f) ∧ reserved (.crc64 i f)))
      ∧ (∀ f : IFmt, (64 ≤ f.imm.toNat → ∀ row ∈ Rows.shift, reserved (row.1 i f)) ∧ (f.rd ≠ 0 → reserved (.cmpi i f)))
      ∧ (∀ f : WFmt, f.rsv ≠ 0 → reserved (.imms i f) ∧ reserved (.immx i f))
      ∧ (∀ f : ARFmt, (f.rsv ≠ 0 → reserved (.addar i f) ∧ reserved (.subar i f))
        ∧ (f.ad ≠ 0 ∨ f.sc ≠ 0 ∨ f.rsv ≠ 0 → reserved (.cmpa i f)))
      ∧ (∀ f : AFmt, f.aa ≠ 0 → reserved (.leapc i f))
      ∧ (∀ f : AXFmt, (f.aa ≠ 0 ∨ f.rsv ≠ 0 → reserved (.movad i f)) ∧ (f.ad ≠ 0 ∨ f.rsv ≠ 0 → reserved (.movda i f)))
      ∧ (∀ f : FFmt, (f.rsv ≠ 0 ∨ 6 ≤ f.rnd.toNat → ∀ row ∈ Rows.float, reserved (row.1 i f))
        ∧ (f.rsv ≠ 0 ∨ 6 ≤ f.rnd.toNat ∨ f.rb ≠ 0 → ∀ row ∈ Rows.float1, reserved (row.1 i f))
        ∧ (f.rsv ≠ 0 ∨ f.rnd ≠ 0 → ∀ row ∈ Rows.floatMin, reserved (row.1 i f))
        ∧ (f.rsv ≠ 0 ∨ f.rnd ≠ 0 ∨ f.rb ≠ 0 → ∀ row ∈ Rows.floatBits, reserved (row.1 i f))
        ∧ (f.rsv ≠ 0 ∨ f.rnd ≠ 0 ∨ f.rd ≠ 0 → ∀ row ∈ Rows.floatCmp, reserved (row.1 i f)))
      ∧ (∀ f : F4Fmt, f.rsv ≠ 0 → ∀ row ∈ Rows.fused, reserved (row.1 i f))
      ∧ (∀ f : FCFmt, f.rsv ≠ 0 ∨ 6 ≤ f.rnd.toNat ∨ 10 ≤ f.dt.toNat ∨ 10 ≤ f.st.toNat ∨ (4 ≤ f.dt.toNat ∧ 4 ≤ f.st.toNat) →
        reserved (.fcvt i f))
      ∧ (∀ f : QFmt, (f.qm ≠ 0 ∨ f.rd ≠ 0 ∨ f.rnd ≠ 0 ∨ f.rsv ≠ 0 → reserved (.qclr i f))
        ∧ (f.qm ≠ 0 ∨ f.rnd ≠ 0 ∨ f.rsv ≠ 0 → reserved (.qaddd i f)) ∧ (f.rd ≠ 0 ∨ f.rnd ≠ 0 ∨ f.rsv ≠ 0 → reserved (.qaddq i f))
        ∧ (f.qm ≠ 0 ∨ 6 ≤ f.rnd.toNat ∨ f.rsv ≠ 0 → reserved (.qrnd i f)))
      ∧ (∀ f : MFmt, (16 ≤ f.rd.toNat → reserved (.lda i f) ∧ reserved (.sta i f))
        ∧ (8 ≤ f.rd.toNat → reserved (.ldv i f) ∧ reserved (.stv i f))
        ∧ (4 ≤ f.rd.toNat → reserved (.qld i f) ∧ reserved (.qst i f)))
      ∧ ∀ f : XFmt, (f.imm ≠ 0 ∨ 10 < f.sn.toNat → reserved (.mfs i f) ∧ reserved (.mts i f)) ∧ (f.sn = 0 → reserved (.mts i f))
        ∧ (f ≠ ⟨0, 0, 0⟩ → reserved (.nop i f) ∧ reserved (.setc i f) ∧ reserved (.clrc i f)))
    ∧ ((s.slot k).mayBranch → (∀ f : BFmt, f.cond = 15 → reserved (.bcc i f)) ∧ (∀ f : AFmt, f.ad ≠ 0 → reserved (.jr i f))
      ∧ (∀ f : LoopRFmt, f.rsv ≠ 0 → reserved (.loopr i f)) ∧ ∀ f : XFmt, f ≠ ⟨0, 0, 0⟩ → reserved (.rte i f) ∧ reserved (.endLesson i f))
    ∧ ((s.slot k).delay = none →
      (∀ f : XFmt, (f ≠ ⟨0, 0, 0⟩ → reserved (.fence i f) ∧ reserved (.iflush i f) ∧ reserved (.bkpt i f))
        ∧ (f.rd ≠ 0 ∨ f.sn ≠ 0 → reserved (.trap i f)))
      ∧ (∀ f : SFmt, (f.rsv ≠ 0 ∨ f.ck ≠ 0 → reserved (.movs i f) ∧ reserved (.fills i f) ∧ reserved (.cmps i f) ∧ reserved (.scans i f))
        ∧ (f.rd ≠ 0 → reserved (.movs i f) ∧ reserved (.cmps i f)) ∧ (f.rsv ≠ 0 → reserved (.crcs i f)))
      ∧ (∀ (f : PFmt) (op : StringOp) (g : SFmt) (iters : Nat),
        let allowed := f.untl = 15 ∨ op = .cmps ∨ op = .scans
        let bad := f.rsv ≠ 0 ∨ f.untl = 14 ∨ g.rsv ≠ 0 ∨ (op ≠ .crcs ∧ g.ck ≠ 0) ∨ ((op = .movs ∨ op = .cmps) ∧ g.rd ≠ 0)
        s.badByte ((s.regs k).pc + 4).toNat 1 = none → (allowed → bad → reserved (.rep i f (.string op g) iters)) ∧ (¬allowed → traps 3 (.rep i f (.string op g) iters))
          ∧ traps 3 (.rep i f .rep iters) ∧ traps 3 (.rep i f .other iters))
      ∧ ∀ f : VFmt, ((s.regs k).pc.getLsbD 2 = true → (∀ row ∈ Rows.vector, traps 2 (row.1 i f)) ∧ traps 2 (.chain i f)
          ∧ traps 2 (.vfence i f) ∧ traps 2 (.vsuspend i f) ∧ traps 2 (.vresume i f) ∧ traps 2 (.vdiscard i f))
        ∧ ((s.regs k).pc.getLsbD 2 = false →
          (∀ row ∈ Rows.vector, ¬keepsRow row.2 f → reserved (row.1 i f))
          ∧ ((s.slot k).notAtEnd 8 → 8 ≤ f.cnt.toNat ∨ f ≠ ⟨0, 0, 0, 0, 0, 0, 0, 0, 0, f.cnt, 0⟩ → reserved (.chain i f))
          ∧ (f ≠ ⟨0, 0, 0, 0, 0, 0, 0, 0, 0, 0, 0⟩ → reserved (.vfence i f) ∧ reserved (.vsuspend i f) ∧ reserved (.vresume i f)
            ∧ reserved (.vdiscard i f))))
    ∧ ((s.slot k).delay ≠ none →
      (∀ f : BFmt, traps 2 (.bcc i f) ∧ traps 2 (.jal i f)) ∧ (∀ f : BZFmt, traps 2 (.bz i f) ∧ traps 2 (.bnz i f))
      ∧ (∀ f : JFmt, traps 2 (.jmp i f)) ∧ (∀ f : AFmt, traps 2 (.jr i f) ∧ traps 2 (.jalr i f))
      ∧ (∀ f : LoopIFmt, traps 2 (.loopi i f)) ∧ (∀ f : LoopRFmt, traps 2 (.loopr i f))
      ∧ (∀ f : XFmt, traps 2 (.fence i f) ∧ traps 2 (.iflush i f) ∧ traps 2 (.rte i f) ∧ traps 2 (.trap i f) ∧ traps 2 (.bkpt i f)
        ∧ traps 2 (.endLesson i f))
      ∧ (∀ f : SFmt, traps 2 (.movs i f) ∧ traps 2 (.fills i f) ∧ traps 2 (.cmps i f) ∧ traps 2 (.scans i f) ∧ traps 2 (.crcs i f))
      ∧ (∀ (f : PFmt) (next : AfterRep) (iters : Nat), traps 2 (.rep i f next iters))
      ∧ (∀ (u : Fin 64) (f : VFmt), (s.slot k).tableBad = [] → (s.slot k).tableSoft = [] → s.table.slots[u] ≠ [] → traps 2 (.userInstruction i u f))
      ∧ ∀ f : VFmt, (∀ row ∈ Rows.vector, traps 2 (row.1 i f)) ∧ traps 2 (.chain i f) ∧ traps 2 (.vfence i f) ∧ traps 2 (.vsuspend i f)
        ∧ traps 2 (.vresume i f) ∧ traps 2 (.vdiscard i f))

/-! ### Exceptions -/

/-- TRAP, and the vectors that EXCEPTION_ENTRY raises at PC, in a delay slot with the branch as return address and DS = 1, save the whole task in the TSB that
the descriptor selects, with the instruction word, and start its handler; no other byte changes. A TRAP whose entry cannot complete escalates with its
cause, into the escalation TSB, and checkstops its Stream where escalation fails too: a TSB in use is the case of an exception in a handler that shares
it (07 R225; 08 R257-R261, R267, R268). -/
def Obligations.ExceptionEntrySavesTheTask : Prop :=
  ∀ (s : State) (i : StreamId) (k : SlotId), s.memWf = true → s.clear i k →
    let pc := (s.regs k).pc
    (∀ (h iml sel : Nat) (nsp : Option Nat),
      let ret := match (s.slot k).delay with
        | some d => d.branch
        | none => pc
      let ds := (s.slot k).delay.isSome
      (∀ f : XFmt, (s.slot k).delay = none → f.rd = 0 → f.sn = 0 → s.entryReady k 0x0C h iml sel nsp →
        ∃ t, exec (.trap i f) s = .next t ∧ s.entered t k ⟨0x0C, pc + 4, false, 0, f.imm, 0, 0⟩ h iml sel nsp)
      ∧ (s.table.defines (s.iword k pc) (s.iword k (pc + 4)) = false → s.entryReady k 0 h iml sel nsp →
        ∃ t, exec (.exceptionEntry i .undefined) s = .next t ∧ s.entered t k ⟨0, ret, ds, 0, 0, 0, 0⟩ h iml sel nsp)
      ∧ (pc.getLsbD 2 = true → bits (s.iword k pc) 31 28 = 15 → s.table.defines (s.iword k pc) (s.iword k (pc + 4)) = true →
        (s.slot k).tableBad = [] → s.entryReady k 2 h iml sel nsp →
        ∃ t, exec (.exceptionEntry i .misplaced) s = .next t ∧ s.entered t k ⟨2, ret, ds, 0, 0, 0, 0⟩ h iml sel nsp)
      ∧ (s.badByte pc.toNat 1 ≠ none → s.entryReady k 5 h iml sel nsp →
        ∃ t, exec (.exceptionEntry i .fetchAddress) s = .next t ∧ s.entered t k ⟨5, ret, ds, pc, 1, 0, 0⟩ h iml sel nsp))
    ∧ ∀ (f : XFmt) (c : Nat), (s.slot k).delay = none → f.rd = 0 → f.sn = 0 → s.failsEntry k 0x0C c →
      (∀ h iml nsp, s.escalationReady k h iml nsp →
        ∃ t, exec (.trap i f) s = .next t
          ∧ s.saved t k ⟨0x0C, pc + 4, false, 0, f.imm, 0, 0⟩ 0xFF 0x0C c (deskBase + 0x3FC200) true h iml nsp)
      ∧ ∀ c', s.failsEscalation k c' → s.streamOf k = some i →
        ∃ t, exec (.trap i f) s = .next t ∧ s.hasCheckstopped t i k 0xFF 0x0C (BitVec.ofNat 8 c') (pc + 4)

/-- The pending line of highest level above SR.IML, the lowest number among equals, is taken at a boundary after a store error and a Watchdog
exception; its pending bit goes (08 R271; 07 R247). -/
def Obligations.BoundariesTakeWhatIsPending : Prop :=
  ∀ (s : State) (i : StreamId) (k : SlotId) (h iml sel : Nat) (nsp : Option Nat), s.memWf = true → s.slotOf i = some k →
    let x := s.slot k
    x.status = .running → x.exc = none → x.loads = [] → x.chain = none → x.delay = none → x.parity = [] → x.dbg.monen = false →
    let pc := x.regs.pc
    let takes (u : State) (e : Exc) : Prop := s.entryReady k e.vec h iml sel nsp →
      ∃ t, exec (.exceptionEntry i .pending) s = .next t ∧ u.entered t k e h iml sel nsp
    (∀ e, x.storeErr = some e →
      takes (s.modSlot k fun x => { x with storeErr := none })
        ⟨0x0D, pc, false, e.addr, BitVec.ofNat 12 (e.more.toNat * 2 ^ 11 + e.kind.toNat), 0, 0⟩)
    ∧ (x.storeErr = none → x.wd.pending = true →
      takes (s.modSlot k fun x => { x with wd := { x.wd with pending := false } }) ⟨0x0E, pc, false, 0, 0, 0, 0⟩)
    ∧ (∀ l : Fin 32, x.storeErr = none → x.wd.pending = false → x.evpend.getLsbD l.val = true →
      x.regs.iml.toNat < x.lines32[l].level.toNat →
      (∀ m : Fin 32, x.evpend.getLsbD m.val = true → x.lines32[m].level.toNat ≤ x.lines32[l].level.toNat) →
      (∀ m : Fin 32, m < l → x.evpend.getLsbD m.val = true → x.lines32[m].level.toNat < x.lines32[l].level.toNat) →
      takes (s.modSlot k fun x => { x with evpend := x.evpend &&& ~~~(1#32 <<< l.val) })
        ⟨BitVec.ofNat 8 (0x20 + l.val), pc, false, 0, 0, 0, 0⟩)

/-- A handler that a TRAP enters and that returns at once resumes its task with every register as it was, PC at the instruction after the TRAP,
and its TSB free again (08 R260, R265; registers that no run breaks keep the field rules of FPCSR). That the instruction after a TRAP at LE starts at
LE, without the loop test, is the model's choice (log 56), as is the check of QSP by an RTE that reads no image (log 47). The RTE does not wait where no
store to its TSB is buffered (log 164). -/
def Obligations.AnExceptionReturnsToItsTask : Prop :=
  ∀ (s : State) (i : StreamId) (k : SlotId) (f g : XFmt) (h iml sel : Nat) (nsp : Option Nat), s.memWf = true → s.clear i k →
    (s.slot k).delay = none → f.rd = 0 → f.sn = 0 → g = ⟨0, 0, 0⟩ → s.entryReady k 0x0C h iml sel nsp →
    let r := s.regs k
    let o := r.tsbp.toNat + 512 * sel - deskBase
    let qsp := (s.slot k).deskWord (o + 0x1E8)
    r.pc.toNat % 4 = 0 → fpcsrOk (r.fpcsr.zeroExtend 64) = true → qsp % 8 = 0 → inOwnDesk qsp 2176 = true →
    (s.slot k).desk.bad = [] → (s.slot k).status = .running → (∀ e ∈ (s.slot k).sbuf, e.meets (deskBase + o) 512 = false) →
    ∃ t u, exec (.trap i f) s = .next t ∧ exec (.rte i g) t = .next u
      ∧ u.regs k = { r with pc := r.pc + 4 } ∧ (u.slot k).resv = none ∧ (u.slot k).deskWord (o + 0x1F0) = 0
      ∧ (u.slot k).status = .running ∧ ∀ b, (b < o ∨ o + 512 ≤ b) → (u.slot k).desk.mem.read b = (s.slot k).desk.mem.read b

/-- LINE_FILL of a line that the core waits for, MONITOR_ENTRY and WATCHDOG_EXPIRY (07 R220, R222; 08 R268, R269; 14 R412; where a filled line
stands until the core enters it is log 160, and CSTOP at a second expiry log 54). -/
def Obligations.CoreEventsTakeTheirEffect : Prop :=
  ∀ (s : State) (i : StreamId) (k : SlotId), s.memWf = true → s.slotOf i = some k → s.streamOf k = some i →
    (∀ a : Word64, a.toNat % 256 = 0 → s.badByte a.toNat 256 = none → s.sound k a.toNat 256 →
      ((s.slot k).status = .running ∨ (s.slot k).status = .monitor) → (∀ l ∈ (s.slot k).lines ++ (s.slot k).ahead, l.addr ≠ a.toNat) →
      (a.toNat = (s.regs k).pc.toNat / 256 * 256 ∨ a.toNat ∈ (s.slot k).prefetch) →
      ∃ t, exec (.lineFill i a .ok) s = .next t ∧ s.sameBytes t ∧ t.regs k = s.regs k
        ∧ (t.slot k).lines = (s.slot k).lines ∧ (t.slot k).prefetch = (s.slot k).prefetch.erase a.toNat
        ∧ (t.slot k).ahead = ((s.slot k).ahead.filter fun l => l.addr == (s.regs k).pc.toNat / 256 * 256) ++ [⟨a.toNat, s.bytesAt k a.toNat 256⟩])
    ∧ (∀ h iml nsp, s.clear i k → (s.slot k).delay = none → (s.slot k).status = .running →
      let m (g : Debug) : Debug := { g with monen := true, halt := true, event := none }
      let u := s.modSlot k fun x => { x with dbg := m x.dbg }
      let g := (s.slot k).dbg
      s.level i = 2 → g.tsb.toNat % 512 = 0 → inOwnDesk g.tsb.toNat 512 = true → s.describes g.desc0.toNat g.desc1.toNat h iml 0 nsp →
      ∃ t, exec (.monitorEntry i) u = .next t ∧ (t.slot k).status = .monitor ∧ (t.regs k).pc = BitVec.ofNat 64 h
        ∧ (t.regs k).ctsb = g.tsb ∧ (t.regs k).lc = 0 ∧ (t.slot k).dbg.halt = false
        ∧ (t.slot k).deskWord (g.tsb.toNat - deskBase + 0x180) = (s.regs k).pc.toNat
        ∧ ∀ r, (s.client (.stream i)).run = some r → (t.client (.stream i)).run.map Run.excused = some true)
    ∧ (∀ dt, let u := s.elapse dt
      (u.slot k).wd.mode ≠ 0 → (u.slot k).status = .running → (u.slot k).wd.count = 0 →
      ((u.slot k).wd.exp = false →
        ∃ t, exec (.watchdogExpiry i dt) s = .next t ∧ (t.slot k).wd.exp = true ∧ (t.slot k).wd.pending = true
          ∧ (t.slot k).wd.count = (u.slot k).wd.load ∧ t.regs k = u.regs k ∧ u.sameBytes t)
      ∧ ((u.slot k).wd.exp = true →
        ∃ t, exec (.watchdogExpiry i dt) s = .next t ∧ (t.slot k).status = .checkstopped
          ∧ (t.slot k).cstop = ⟨0x0E, 0, 0x0B, true, (u.slot k).back.1⟩ ∧ (t.client (.stream i)).run = none))

/-! ### Vector rows -/

/-- Every vector row outside a group enters the queue as one entry of one slot with its captured values, and marks its accumulator; with the
engine stopped it raises Vector Sequence, and behind an uncommitted store or with every slot taken it waits and changes nothing (02 R26, R27, R29, R32;
08 R263). -/
def Obligations.VectorRowsEnterTheQueue : Prop :=
  ∀ row ∈ Rows.vector, ∀ (s : State) (i : StreamId) (k : SlotId) (f : VFmt), s.clear i k → (s.slot k).delay = none →
    (s.regs k).pc.getLsbD 2 = false → keepsRow row.2 f → (s.regs k).qg = 0 →
    let r := s.regs k
    (s.takesEntry k 1 → exec (row.1 i f) s = .next (s.after k 8 fun x =>
      x.queued [⟨[r.captured row.2 f none], 1, r.vl, r.vx⟩] (dirtyBit row.2 f)))
    ∧ ((s.slot k).eng.stopped = false → ((s.slot k).sbuf ≠ [] ∨ ((s.slot k).eng.queue.map VEntry.slots).sum = 128) →
      exec (row.1 i f) s = .next s)
    ∧ ((s.slot k).eng.stopped = true →
      exec (row.1 i f) s = .next ((s.start k).raiseExc k ⟨0x0A, r.pc, false, 0, 0, 0, 0⟩))

/-- CHAIN opens a group of CNT + 1; each member is captured at its own issue; the last one sends the whole group into CNT + 2 slots (02 R27; 03
R72-R74). That the group has the VL and VX of its first member is the model's choice, log 66. -/
def Obligations.GroupsEnterTogether : Prop :=
  ∀ (s : State) (i : StreamId) (k : SlotId) (f : VFmt), (s.slot k).delay = none → (s.slot k).notAtEnd 8 → (s.regs k).qg = 0 →
    (s.slot k).sbuf = [] → (s.regs k).pc.getLsbD 2 = false →
    let r := s.regs k
    (s.clear i k → f.cnt.toNat < 8 → f = ⟨0, 0, 0, 0, 0, 0, 0, 0, 0, f.cnt, 0⟩ →
      exec (.chain i f) s = .next (s.after k 8 fun x => { x with chain := some ⟨r.pc, f.cnt.toNat + 1, [], r.vl, r.vx⟩ }))
    ∧ ∀ row ∈ Rows.vector, ∀ c : OpenChain, (s.modSlot k fun x => { x with chain := none }).clear i k → (s.slot k).chain = some c →
      keepsRow row.2 f →
      let ops := c.ops ++ [r.captured row.2 f none]
      let first := c.ops = []
      let vl := if first then r.vl else c.vl
      let vx := if first then r.vx else c.vx
      (ops.length < c.count → exec (row.1 i f) s = .next (s.after k 8 fun x => { x with chain := some ⟨c.at_, c.count, ops, vl, vx⟩ }))
      ∧ (ops.length = c.count → (∀ v ∈ ops, v.qDest = none) → s.takesEntry k (c.count + 1) →
        exec (row.1 i f) s = .next (s.after k 8 fun x => x.queued [⟨ops, c.count + 1, vl, vx⟩] 0))

/-- VFENCE, VSUSPEND, VRESUME and VDISCARD, and the reads ahead of the engine (02 R32, R58-R62; 03 R81, R85). -/
def Obligations.EngineControlRows : Prop :=
  ∀ (s : State) (i : StreamId) (k : SlotId) (f : VFmt), s.clear i k → (s.slot k).delay = none →
    (s.regs k).pc.getLsbD 2 = false → f = ⟨0, 0, 0, 0, 0, 0, 0, 0, 0, 0, 0⟩ →
    let x := s.slot k
    let runs := x.eng.stopped = false ∧ x.eng.queue ≠ []
    (x.eng.stopped = false → x.eng.queue = [] → exec (.vfence i f) s = .next (s.after k 8 id))
    ∧ (runs → ∃ t, exec (.vfence i f) s = .next t ∧ t.regs k = s.regs k ∧ (t.slot k).waitAt = some .vfence ∧ s.sameBytes t)
    ∧ (x.eng.stopped = true → x.waitAt = some .vfence →
      exec (.vfence i f) s = .next (s.trapped k ⟨0x0B, x.regs.pc, false, 0, x.eng.cause.cause.zeroExtend 12, 0, 0⟩))
    ∧ (x.eng.stopped = true → x.waitAt = none → exec (.vfence i f) s = .next (s.trapped k ⟨0x0A, x.regs.pc, false, 0, 0, 0, 0⟩))
    ∧ (runs → exec (.vsuspend i f) s = .next (s.after k 8 fun x => { x with eng := { x.eng with suspend := true } }))
    ∧ (¬runs → exec (.vsuspend i f) s = .next (s.after k 8 id))
    ∧ (x.eng.stopped = false → exec (.vresume i f) s = .next (s.after k 8 id) ∧ exec (.vdiscard i f) s = .next (s.after k 8 id))
    ∧ (∀ e es, x.eng.stopped = true → x.eng.queue = e :: es →
      exec (.vresume i f) s = .next (s.after k 8 fun x => { x with eng := { x.eng with
        stopped := false
        cause := { x.eng.cause with valid := false }
        queue := { e with vx := x.regs.vx } :: es } }))
    ∧ (x.eng.stopped = true → ∃ t, exec (.vdiscard i f) s = .next t ∧ (t.slot k).eng.queue = [] ∧ (t.slot k).eng.stopped = false
      ∧ (t.slot k).eng.cause.valid = false ∧ (t.regs k).vx = 0 ∧ (t.regs k).d = (s.regs k).d ∧ (t.regs k).a = (s.regs k).a ∧ s.sameBytes t)
    ∧ ∀ n e1 e es, x.eng.queue = e1 :: e :: es → x.mayRunAhead = true → s.drains k e1 = true →
      let reads := ((s.aheadPlan k e).drop (x.eng.raHeld + x.eng.raLines)).take n
      ∃ t, exec (.runAheadRead i n) s = .next t ∧ t.regs k = s.regs k ∧ s.sameBytes t ∧ (t.slot k).eng.queue = x.eng.queue
        ∧ (t.slot k).eng.raIssued = x.eng.raIssued.add (reads.filter fun w => !w.desk).length

/-- A user instruction of a loaded program without UCHAIN enters as one entry for each micro-operation, resolved and numbered; an unloaded slot
is an undefined instruction (09 R278, R279, R284-R286, R289). -/
def Obligations.UserInstructionsExpand : Prop :=
  ∀ (s : State) (i : StreamId) (k : SlotId) (u : Fin 64) (f : VFmt) (header : Word64) (us : List Word64),
    s.clear i k → (s.slot k).delay = none → (s.slot k).tableBad = [] → (s.slot k).tableSoft = [] → (s.regs k).qg = 0 →
    let r := s.regs k
    (s.table.slots[u] = [] → exec (.userInstruction i u f) s = .next (s.raiseExc k ⟨0, r.pc, false, 0, 0, 0, 0⟩))
    ∧ (r.pc.getLsbD 2 = false → s.table.slots[u] = header :: us → userFieldsOk (header :: us) f = true → us.length < 32 →
      (∀ w ∈ us, Uop.op w ≠ 8 ∧ Uop.op w ≠ 0x50 ∧ Uop.op w ≠ 0x51) → s.takesEntry k us.length →
      exec (.userInstruction i u f) s = .next (s.after k 8 fun x =>
        x.queued (us.mapIdx fun j w => ⟨[r.captured (Uop.op w) (Uop.resolved w f) (some (u, BitVec.ofNat 5 j))], 1, r.vl, r.vx⟩) 0))

/-- Vector execution. Every row with a destination, from VX on, under any mask, with operands of every address mode in the desk or in local memory and in its
scalar form, writes the elements that are active, or inactive under ZERO, as its row says, raises their flags, and changes no other bit; a reduction
folds its row over the active elements. An enabled condition, an invalid source, index destination or destination address stops it at its element with its
cause, and a descriptor address that names none, or VL < VX, before all elements. A group of two rows hands each element on over its transient link. A
vector sum suspended at element group `g` stops there with VX at its first element, and QDOT and QSUM add the exact terms (02 R37, R43, R46, R53, R54, R57,
R60, R66; 03 R76, R80; 04 R114, R128; the element streams of the first clauses lie apart from the destination; an entry is one command, log 11; VFADDR of
an address beyond 64 bits is log 135, MASKINV log 136). -/
def Obligations.AVectorSumIsComputed : Prop :=
  (∀ row ∈ Rows.element, ∀ (s : State) (i : StreamId) (k : SlotId) (v : VOp) (es : List VEntry) (vl vx : Word32) (g : VecArgs),
    s.memWf = true → s.slotOf i = some k → keepsRow row.vop v.f → v.vop = BitVec.ofNat 8 row.vop →
    (s.slot k).eng.queue = ⟨[v], 1, vl, vx⟩ :: es → (s.slot k).eng.stopped = false → (s.slot k).eng.suspend = false →
    let r := s.regs k
    let x := vx.toNat
    let n := vl.toNat
    let named (o : Fin 4) : Prop := o.val ≤ row.srcs ∧ (o = 2 → v.f.scl = 0)
    let ty (o : Fin 4) : Nat := (g.main o).ty
    let dst := g.main 0
    let runs (c : State → Prop) : Prop := ∃ t, exec (.vectorEntryExecute ⟨i, [], true⟩) s = .next t ∧ c t
    row.types (ty 0) (ty 1) (ty 2) (ty 3) → (s.slot k).names g v named 0 → s.mayCompute k g named 0 x n →
    (dst.mode = 1 → dst.stride ≠ 0) →
    (∃ lo hi : Int, (∀ j, x ≤ j → j < n → lo ≤ g.addr s k 0 j ∧ g.addr s k 0 j + typeBytes dst.ty ≤ hi)
      ∧ ∀ d at_, g.reads s k named 0 d at_ →
        (∀ j, 64 * (x / 64) ≤ j → j < n → at_ j + typeBytes d.ty ≤ lo) ∨ (∀ j, 64 * (x / 64) ≤ j → j < n → hi ≤ at_ j)) →
    let a2 (j : Nat) : Nat := if v.f.scl = 1 then v.scalar.toNat % 2 ^ typeBits (ty 2) else g.elem s k 2 j
    let picked (j : Nat) : Nat := 64 * (j / 64) + a2 j % 64
    let a1 (j : Nat) : Nat := if row.vop = 0x02 then v.scalar.toNat else if row.srcs = 0 then 0
      else if row.vop = 0x05 then (if picked j < n then g.elem s k 1 (picked j) else 0) else g.elem s k 1 j
    let fits (o : Fin 4) (j : Nat) : Prop :=
      if row.vop = 0x05 ∧ o = 1 then picked j < n → g.valid s k 1 (picked j) else g.valid s k o j
    let sources (j : Nat) : Prop := ∀ o, o ≠ 0 → named o → fits o j
    let on (j : Nat) : Bool := g.active s k 0 j
    let writes (j : Nat) : Prop := on j = true ∨ dst.zero = true
    let en : FlagSet := v.traps.truncate 6
    (n < x → runs fun t => s.vecStopped t k r x 7 0 9 0 0 ∧ s.sameBytes t)
    ∧ ∃ rs : Nat → FRes,
      (∀ j, x ≤ j → j < n → on j = true → row.gives ⟨v.f.fn.toNat, v.rm, ty 0, ty 1⟩ (a1 j) (a2 j) (g.elem s k 3 j) j (rs j))
      ∧ ∀ m, x ≤ m → m ≤ n →
        (∀ j, x ≤ j → j < m → (on j = true → sources j ∧ (rs j).flags &&& en = 0) ∧ (writes j → g.valid s k 0 j)) →
        let wrote (t : State) : Prop :=
          s.wrote t k dst (g.addr s k 0) (fun j => x ≤ j ∧ j < m ∧ writes j) fun j => if on j then (rs j).val else 0
        let now : Regs := { r with fpcsr := sticky r.fpcsr (((List.range m).filter fun j => decide (x ≤ j) && on j).map fun j => (rs j).flags) }
        (m = n → runs fun t => wrote t ∧ t.vecDone k es now)
        ∧ (m < n → on m = true → row.vop ≠ 0x05 → ∀ o sub, o ≠ 0 → named o → (∀ o' < o, o' ≠ 0 → named o' → g.valid s k o' m) →
          s.addrCode (g.addr s k o m) (typeBytes (ty o)) sub →
          runs fun t => wrote t ∧ s.vecStopped t k now m 8 sub o.val (BitVec.ofInt 64 (g.addr s k o m)) 0)
        ∧ (m < n → on m = true → sources m → ∀ cause sub, trapCode (rs m).flags en cause sub →
          runs fun t => wrote t ∧ s.vecStopped t k now m cause sub 9 0 (rs m).flags)
        ∧ (m < n → writes m → (on m = true → sources m ∧ (rs m).flags &&& en = 0) →
          ∀ sub, s.addrCode (g.addr s k 0 m) (typeBytes dst.ty) sub →
          runs fun t => wrote t ∧ s.vecStopped t k now m 8 sub 0 (BitVec.ofInt 64 (g.addr s k 0 m)) 0))
  ∧ (∀ row ∈ Rows.reduction, ∀ (s : State) (i : StreamId) (k : SlotId) (v : VOp) (es : List VEntry) (vl vx : Word32) (g : VecArgs),
    s.memWf = true → s.slotOf i = some k → keepsRow row.vop v.f → v.vop = BitVec.ofNat 8 row.vop →
    (s.slot k).eng.queue = ⟨[v], 1, vl, vx⟩ :: es → (s.slot k).eng.stopped = false → (s.slot k).eng.suspend = false →
    let r := s.regs k
    let x := vx.toNat
    let n := vl.toNat
    let t1 := (g.main 1).ty
    let on (j : Nat) : Bool := g.active s k 1 j
    let en : FlagSet := v.traps.truncate 6
    let runs (c : State → Prop) : Prop := ∃ t, exec (.vectorEntryExecute ⟨i, [], true⟩) s = .next t ∧ s.sameBytes t ∧ c t
    row.types t1 → (s.slot k).names g v (fun o => o = 1) 1 → s.mayCompute k g (fun o => o = 1) 1 x n →
    ∃ (ds : Nat → Word64) (fls : Nat → FlagSet), ds x = r.getD v.f.ds
      ∧ (∀ j, x ≤ j → j < n → (on j = true → row.gives v.f.fn.toNat t1 (ds j) (g.elem s k 1 j) (ds (j + 1)) (fls j))
        ∧ (on j = false → ds (j + 1) = ds j ∧ fls j = 0))
      ∧ ∀ m, x ≤ m → m ≤ n → (∀ j, x ≤ j → j < m → on j = true → g.valid s k 1 j ∧ fls j &&& en = 0) →
        let upTo (d : Word64) : Regs := { r.setD v.f.ds d with fpcsr := sticky r.fpcsr (((List.range m).filter fun j => decide (x ≤ j)).map fls) }
        let stopped : Regs := upTo (if (row.vop = 0x55 ∨ row.vop = 0x56) ∧ t1 = 1 then BitVec.ofNat 64 ((ds m).toNat % 2 ^ 32) else ds m)
        (m = n → runs fun t => t.vecDone k es (upTo (ds m)))
        ∧ (m < n → on m = true → ∀ sub, s.addrCode (g.addr s k 1 m) (typeBytes t1) sub →
          runs fun t => s.vecStopped t k stopped m 8 sub 1 (BitVec.ofInt 64 (g.addr s k 1 m)) 0)
        ∧ (m < n → on m = true → g.valid s k 1 m → ∀ cause sub, trapCode (fls m) en cause sub →
          runs fun t => s.vecStopped t k stopped m cause sub 9 0 (fls m)))
  ∧ (∀ row ∈ Rows.element, ∀ (s : State) (i : StreamId) (k : SlotId) (v : VOp) (es : List VEntry) (vl vx : Word32),
    s.memWf = true → s.slotOf i = some k → v.vop = BitVec.ofNat 8 row.vop → (s.slot k).eng.queue = ⟨[v], 1, vl, vx⟩ :: es →
    (s.slot k).eng.stopped = false → (s.slot k).eng.suspend = false → (v.aAd.toNat % 32 ≠ 0 ∨ inOwnDesk v.aAd.toNat 32 = false) →
    ∃ t, exec (.vectorEntryExecute ⟨i, [], true⟩) s = .next t ∧ s.sameBytes t ∧ s.vecStopped t k (s.regs k) vx.toNat 1 0 0 v.aAd 0)
  ∧ (∀ row ∈ Rows.element, ∀ row' ∈ Rows.element, row.vop ≠ 0x05 → row'.vop ≠ 0x05 → 1 ≤ row'.srcs → row.srcs + row'.srcs ≤ 5 →
    ∀ (s : State) (i : StreamId) (k : SlotId) (v v' : VOp) (es : List VEntry) (vl : Word32) (ty at_ ty' at' : Fin 4 → Nat) (l : Nat),
    s.memWf = true → s.slotOf i = some k →
    let x := s.slot k
    let n := vl.toNat
    x.eng.queue = ⟨[v, v'], 3, vl, 0⟩ :: es → x.eng.stopped = false → x.eng.suspend = false → x.desk.bad = [] →
    v.vop = BitVec.ofNat 8 row.vop → v'.vop = BitVec.ofNat 8 row'.vop → v.f.scl = 0 → v'.f.scl = 0 → v.traps = 0 → v'.traps = 0 →
    keepsRow row.vop v.f → keepsRow row'.vop v'.f → row.types (ty 0) (ty 1) (ty 2) (ty 3) → row'.types (ty' 0) (ty' 1) (ty' 2) (ty' 3) →
    let arrays (row : ElemRow) (v : VOp) (ty at_ : Fin 4 → Nat) (first : Nat) : Prop :=
      ∀ o : Fin 4, first ≤ o.val → o.val ≤ row.srcs → x.plainDesc ([v.aAd, v.a1, v.a2, v.a3].getD o.val 0) (ty o) (at_ o) n
        ∧ (at' 0 + typeBytes (ty' 0) * n ≤ at_ o ∨ at_ o + typeBytes (ty o) * n ≤ at' 0)
    x.linkDesc v.aAd (ty 0) l → x.linkDesc v'.a1 (ty 0) l → ty' 1 = ty 0 → x.plainDesc v'.aAd (ty' 0) (at' 0) n →
    arrays row v ty at_ 1 → arrays row' v' ty' at' 2 →
    let a1 (j : Nat) : Nat := if row.vop = 0x02 then v.scalar.toNat else if row.srcs = 0 then 0 else x.elem (ty 1) (at_ 1) j
    ∃ (t : State) (rs rs' : List FRes), rs.length = n ∧ rs'.length = n ∧ exec (.vectorEntryExecute ⟨i, [], true⟩) s = .next t
      ∧ t.vecDone k es { s.regs k with fpcsr := sticky (s.regs k).fpcsr ((rs ++ rs').map FRes.flags) }
      ∧ (∀ j (h : j < rs.length) (h' : j < rs'.length), (t.slot k).elem (ty' 0) (at' 0) j = rs'[j].val
        ∧ row.gives ⟨v.f.fn.toNat, v.rm, ty 0, ty 1⟩ (a1 j) (x.elem (ty 2) (at_ 2) j) (x.elem (ty 3) (at_ 3) j) j rs[j]
        ∧ row'.gives ⟨v'.f.fn.toNat, v'.rm, ty' 0, ty' 1⟩ rs[j].val (x.elem (ty' 2) (at' 2) j) (x.elem (ty' 3) (at' 3) j) j rs'[j])
      ∧ ∀ o, (o < at' 0 - deskBase ∨ at' 0 - deskBase + typeBytes (ty' 0) * n ≤ o) → (t.slot k).desk.mem.read o = x.desk.mem.read o)
  ∧
  (∀ (s : State) (i : StreamId) (k : SlotId) (v : VOp) (es : List VEntry) (vl : Word32) (d a b : Nat),
    s.memWf = true → s.slotOf i = some k → (s.slot k).sums v es vl d a b →
    let x := s.slot k
    let sum (j : Nat) : Nat := (x.elem 5 a j + x.elem 5 b j) % 2 ^ 64
    let keeps (t : State) (n : Nat) : Prop := (∀ j < n, (t.slot k).elem 5 d j = sum j)
      ∧ (∀ o, (o < d - deskBase ∨ d - deskBase + 8 * n ≤ o) → (t.slot k).desk.mem.read o = x.desk.mem.read o)
      ∧ t.mem = s.mem ∧ ∀ k', k' ≠ k → t.slot k' = s.slot k'
    (x.eng.suspend = false → ∃ t, exec (.vectorEntryExecute ⟨i, [], true⟩) s = .next t ∧ keeps t vl.toNat
      ∧ (t.slot k).eng.queue = es ∧ (t.slot k).eng.stopped = false ∧ t.regs k = { s.regs k with vx := 0 })
    ∧ ∀ g, x.eng.suspend = true → 64 * g < vl.toNat →
      ∃ t, exec (.vectorSuspendStop i ⟨g, []⟩) s = .next t ∧ (∀ j < 64 * g, (t.slot k).elem 5 d j = sum j)
        ∧ (∀ o, (o < d - deskBase ∨ d - deskBase + 512 * g ≤ o) → (t.slot k).desk.mem.read o = x.desk.mem.read o)
        ∧ (t.slot k).eng.queue = x.eng.queue ∧ (t.slot k).eng.stopped = true ∧ (t.slot k).eng.suspend = false
        ∧ (t.slot k).eng.cause = ⟨true, 9, 0, 0x0C, 0⟩ ∧ t.regs k = { s.regs k with vx := BitVec.ofNat 32 (64 * g) })
  ∧ ∀ (s : State) (i : StreamId) (k : SlotId) (v : VOp) (es : List VEntry) (vl : Word32), s.memWf = true → s.slotOf i = some k →
    let x := s.slot k
    let n := vl.toNat
    let ends (t : State) (r : Regs) : Prop := exec (.vectorEntryExecute ⟨i, [], true⟩) s = .next t ∧ (t.slot k).eng.queue = es
      ∧ (t.slot k).eng.stopped = false ∧ t.regs k = { r with vx := 0 } ∧ t.mem = s.mem ∧ ∀ k', k' ≠ k → t.slot k' = s.slot k'
    (∀ row ∈ Rows.element, ∀ ty at_ : Fin 4 → Nat, x.fronts v es vl row.vop → x.operands row v n ty at_ →
      ∃ (t : State) (rs : List FRes), rs.length = n ∧ ends t { s.regs k with fpcsr := sticky (s.regs k).fpcsr (rs.map FRes.flags) }
        ∧ (∀ j (h : j < rs.length), (t.slot k).elem (ty 0) (at_ 0) j = rs[j].val
          ∧ row.gives ⟨v.f.fn.toNat, v.rm, ty 0, ty 1⟩ (x.source1 row v n ty at_ j) (x.elem (ty 2) (at_ 2) j) (x.elem (ty 3) (at_ 3) j) j rs[j])
        ∧ ∀ o, (o < at_ 0 - deskBase ∨ at_ 0 - deskBase + typeBytes (ty 0) * n ≤ o) → (t.slot k).desk.mem.read o = x.desk.mem.read o)
    ∧ (∀ row ∈ Rows.reduction, ∀ t1 a : Nat, x.fronts v es vl row.vop → row.types t1 → v.f.fn.toNat < 2 → x.plainDesc v.a1 t1 a n →
      ∃ (t : State) (ds : Nat → Word64) (fls : List FlagSet), fls.length = n ∧ ds 0 = (s.regs k).getD v.f.ds
        ∧ (∀ j (h : j < fls.length), row.gives v.f.fn.toNat t1 (ds j) (x.elem t1 a j) (ds (j + 1)) fls[j])
        ∧ ends t { (s.regs k).setD v.f.ds (ds n) with fpcsr := sticky (s.regs k).fpcsr fls } ∧ s.sameBytes t)
    ∧ ∀ (p : FloatFmt) (t1 a b : Nat) (term : Nat → Int), t1 < 2 → floatOf t1 = some p → x.plainDesc v.a1 t1 a n →
      let q := (s.regs k).q[v.f.qn.toFin].toInt
      let upTo (j : Nat) : Int := q + ((List.range j).map term).sum
      (∀ j ≤ n, -2 ^ 4287 ≤ upTo j ∧ upTo j < 2 ^ 4287) →
      let adds : Prop := ∃ t, ends t { s.regs k with q := (s.regs k).q.set v.f.qn.toFin (BitVec.ofInt 4288 (upTo n)) } ∧ s.sameBytes t
      (x.fronts v es vl 0x51 → (∀ j < n, ∃ g m e, p.decode (x.elem t1 a j) = .fin g m e ∧ term j = ratOf g m e * 2 ^ 2148) → adds)
      ∧ (x.fronts v es vl 0x50 → x.plainDesc v.a2 t1 b n →
        (∀ j < n, ∃ g m e h l o, p.decode (x.elem t1 a j) = .fin g m e ∧ p.decode (x.elem t1 b j) = .fin h l o
          ∧ term j = ratOf g m e * ratOf h l o * 2 ^ 2148) → adds)

/-! ### Bells, bookings and lessons -/

/-- A lesson starts with the core state of R186; it ends with DONE (01h) once END has drained; at its budget point, or when its counted energy
reaches ENERGY, it is stopped and its record waits (06 R186, R189, R196, R198, R199, R203, R207, R209; 07 R253). That the other A and D registers are
0 at its start is the model's choice, log 21. -/
def Obligations.LessonsStartEndAndAreStopped : Prop :=
  ∀ (s : State) (i : StreamId) (k : SlotId) (dt : Nat),
    let u := s.elapse dt
    let c := Client.stream i
    let x := u.client c
    u.slotOf i = some k →
    (∀ a, u.tt.open_ = true → u.tt.inRecess = false → x.run = none → x.rerun = none → x.copy = none → x.nextStart ≤ u.now →
      u.nextBooking c = some a → u.repair.ladder ≠ .ended → x.lostCause = none → (u.repair.withdrawn = true → a.b.touchesWithdrawn = false) →
      (u.slot k).status ≠ .monitor → (u.slot k).desk.power = .on → (u.slot k).sbuf = [] → (u.slot k).resetHold = none →
      ∃ t r, exec (.lessonStart i dt) s = .next t ∧ (t.slot k).status = .running
        ∧ t.regs k = { Regs.reset with
            a := ((Vector.replicate 16 0).set 0 a.b.arg).set 15 a.b.stack
            d := Vector.replicate 32 0
            pc := a.b.entry, tsbp := a.b.tsbp, edb := a.b.edb }
        ∧ (t.slot k).sbuf = [] ∧ (t.slot k).loads = [] ∧ (t.slot k).eng.queue = [] ∧ (t.slot k).resv = none
        ∧ (t.slot k).wd.exp = false ∧ (t.slot k).wd.count = (u.slot k).wd.load
        ∧ (t.client c).run = some r ∧ r.adm = a ∧ r.start = u.now ∧ r.ext = 0
        ∧ t.tt.admitted = u.tt.admitted.erase a ∧ t.mem = u.mem ∧ (t.slot k).desk = (u.slot k).desk)
    ∧ ∀ r, x.run = some r →
      let ends (cmd : Instr) (status cause : Byte) : Prop :=
        ∃ t rec, exec cmd s = .next t ∧ (t.client c).run = none ∧ (t.slot k).status = .quiet ∧ t.tt.due = u.tt.due ++ [rec]
          ∧ rec.client = c ∧ rec.queue = r.adm.queue ∧ rec.tag = r.adm.b.tag ∧ rec.used = u.now - r.start
          ∧ rec.status = (if r.excused then 3 else status) ∧ rec.cause = (if r.excused then 0 else cause)
          ∧ (t.client c).nextStart = u.now + 400
      ((u.slot k).waitAt = some .endLesson → (u.slot k).eng.queue = [] → (u.slot k).eng.stopped = false → (u.slot k).sbuf = [] →
        (u.slot k).delay = none → (u.slot k).storeErr = none → (u.slot k).wd.pending = false → (u.slot k).dbg.monen = false →
        ends (.lessonEnd i dt) 1 0)
      ∧ (r.start + r.adm.b.budget + r.ext ≤ u.now → r.farSlow = false →
        ends (.budgetPointStop c dt) (if x.exhausted then 4 else 2) (if x.exhausted then 2 else 1))
      ∧ (r.adm.b.energy ≠ 0 → r.adm.b.energy * 1000000 ≤ r.counted + (if r.adm.b.lesson then 1500 * Min.min (u.now - r.start) r.adm.b.budget else 0) →
        ends (.energyLimitStop c dt) 2 2)

/-- A stopped lesson: the desk copy to the spare, and its re-run or its FAULT-MISSED record; and the post of a record to its queue pair (06
R202, R204, R209, R210; 10 R302; 11 R327; what a draw past the reserve does is log 72, the causes log 73). -/
def Obligations.StoppedLessonsAreCopiedReRunAndReported : Prop :=
  (∀ (s : State) (i : StreamId) (k n : SlotId), let c := Client.stream i
    let x := s.client c
    x.copy = some (k, n) → (s.slot k).sbuf = [] →
    ∃ t, exec (.streamDeskCopy i) s = .next t ∧ (t.client c).copy = none ∧ (t.slot n).desk.mem = (s.slot k).desk.mem
      ∧ (x.exhausted = false → x.drawn + 2600 ≤ s.tt.params.tFr → t.slotOf i = some n ∧ (t.client c).drawn = x.drawn + 2600)
      ∧ (x.exhausted = true ∨ s.tt.params.tFr < x.drawn + 2600 → (t.client c).lostCause = some 2))
  ∧ (∀ (s : State) (i : StreamId) (k : SlotId) (r : Run) (at_ : Nat), let c := Client.stream i
    let x := s.client c
    x.rerun = some (r, at_) → x.copy = none → s.slotOf i = some k → (s.slot k).sbuf = [] →
    let mayRun := r.adm.b.repeat_ = true ∧ x.lostCause = none ∧ x.exhausted = false ∧ x.drawn + r.adm.b.budget + 400 ≤ s.tt.params.tFr
      ∧ s.now + r.adm.b.budget + 2400 ≤ s.tt.params.period
    (mayRun → ∃ t, exec (.lessonRerun i) s = .next t ∧ (t.slot k).status = .running ∧ (t.regs k).pc = r.adm.b.entry
      ∧ (t.client c).run = some { r with
          start := s.now
          ext := 0
          counted := 0
          before := r.before + r.metered + 1500 * (at_ - r.start)
          metered := 0
          rerun := true
          extCap := r.extCap || decide (x.drawn + r.adm.b.budget + 400 = s.tt.params.tFr) }
      ∧ (t.client c).rerun = none
      ∧ (t.client c).drawn = x.drawn + r.adm.b.budget + 400)
    ∧ (¬mayRun → ∃ t rec, exec (.lessonRerun i) s = .next t ∧ (t.client c).run = x.run ∧ (t.client c).rerun = none
      ∧ t.tt.due = s.tt.due ++ [rec] ∧ rec.used = at_ - r.start ∧ rec.status = (if r.excused then 3 else 4)
      ∧ rec.cause = (if r.excused then 0 else 1)))
  ∧ ∀ (s : State) (c : Client) (r : Record) (rest : List Record), s.tt.due = r :: rest → r.client = c →
    ∃ t, exec (.completionRecordPost c) s = .next t ∧ t.tt.due = rest ∧ s.sameBytes t
      ∧ (s.host.pairs[r.queue].state = .running → t.host.pairs[r.queue].wait = s.host.pairs[r.queue].wait ++ [(2, r.bytes)])
      ∧ (s.host.pairs[r.queue].state ≠ .running → t.host.pairs[r.queue].wait = s.host.pairs[r.queue].wait
        ∧ t.host.pairs[r.queue].drop = s.host.pairs[r.queue].drop.add 1)

/-- A decision takes the entry at the head of the queue whose turn it is, and its response waits in that queue; a malformed entry, a held
timetable and a timetable that is not open decline with 01h, 04h and 02h; a booking is admitted only for one of the 64 periods after the next
one, within the bookable time of its client, the 64 seats and the energy of its period, by P_adm and the hold of the clk before (06 R187-R195). -/
def Obligations.DecisionsAnswerTheirEntries : Prop :=
  ∀ (s : State) (q : QueueId), s.power.ready = true → s.turnQueue = some q →
    let x := s.host.pairs[q]
    let v := s.tt.view
    let e := readEntry v.params.bookable ((List.range 128).map fun j => v.sqMem.read (0x8000 * q.val + 128 * v.queues[q].head.toNat + j))
    let cur := s.tt.bellNum.toNat
    let answers (t : State) (w0 : Nat) (w1 : Nat) : Prop := exec (.bookingDecision q) s = .next t
      ∧ t.tt.turn = q + 1 ∧ s.sameBytes t ∧ t.tt.view.queues[q].head = v.queues[q].head + 1
      ∧ ∃ p, (if x.renewed then t.host.pairs[q].wait = x.wait ∧ t.host.pairs[q].drop = x.drop.add 1
          else t.host.pairs[q].sqHead = x.sqHead + 1
            ∧ if x.state = .running then t.host.pairs[q].wait = x.wait ++ [(1, p)]
              else t.host.pairs[q].wait = x.wait ∧ t.host.pairs[q].drop = x.drop.add 1)
        ∧ p.length = 32 ∧ leNat (p.take 8) = w0 % 2 ^ 64 ∧ leNat ((p.drop 8).take 8) = w1 % 2 ^ 64
    let declines (reason n : Nat) : Prop := ∃ t, answers t (2 * 2 ^ 56 + reason * 2 ^ 48 + n) e.b.tag.toNat ∧ t.tt.admitted = s.tt.admitted
      ∧ t.tt.nDeclined = satAdd s.tt.nDeclined 1
    (e.bad = true → declines 1 0)
    ∧ (e.bad = false → v.held = true → declines 4 0)
    ∧ (e.bad = false → v.held = false → s.tt.open_ = false → declines 2 e.b.target)
    ∧ (e.bad = false → v.held = false → s.tt.open_ = true →
      (∃ (a : Admitted) (t : State), answers t (2 ^ 56 + a.period % 2 ^ 48) (a.offset * 2 ^ 32 + a.client.engineNo * 2 ^ 24 + e.b.tag.toNat)
        ∧ t.tt.admitted = s.tt.admitted ++ [a] ∧ a.b = e.b ∧ cur + 2 ≤ a.period ∧ a.period ≤ cur + 65
        ∧ (e.b.early = false → a.period = e.b.target)
        ∧ s.bookedClk a.client a.period + e.b.budget + 400 ≤ v.params.bookable
        ∧ s.seatsHeld a.period - s.held a.client a.period + Max.max (s.held a.client a.period) (e.b.weight / 23) ≤ 64
        ∧ 10 * (s.energyBooked a.period + a.charge) ≤ (v.pAdm10 - 10 * Config.pBase) * v.params.us)
      ∨ ∃ reason n, 1 < reason ∧ reason ≤ 16 ∧ declines reason n)

/-- A bell starts the next period, the first one period 0: the timer's in every source state, TICK's as the first bell or within 1,000 clk
of T_p in lock; other edges in lock are counted and ignored, and edges outside lock are measured. RECESS_END ends recess work (06 R177,
R180-R183; the slew amount is free, log 77, and the count of edges log 78). -/
def Obligations.BellsOpenPeriods : Prop :=
  ∀ (s : State) (dt : Nat), let u := s.elapse dt
    u.power.phase = .run →
    let rings (c : Instr) : Prop := ∃ t, exec c s = .next t ∧ t.tt.bellNum.toNat = (if u.tt.open_ then (u.tt.bellNum.toNat + 1) % 2 ^ 48 else 0)
      ∧ t.tt.pclk = 0 ∧ t.tt.open_ = true ∧ t.tt.inRecess = true ∧ t.tt.seats = []
      ∧ t.tt.params = ⟨s.mgmt.rwp.periodUs.toNat, s.mgmt.rwp.recess.toNat, s.mgmt.rwp.reserve.toNat⟩
      ∧ ∀ e : Fin 2, (t.client (.engine e)).run = none ∨ u.tt.open_ = false
    let p := u.tt.params.period
    (u.power.ready = true → u.tt.timer = 0 → rings (.bellTimerExpiry dt))
    ∧ (u.power.ready = true → u.tt.source = false → u.tt.open_ = false → rings (.tickEdge dt))
    ∧ (u.power.ready = true → u.tt.source = false → u.tt.open_ = true → u.tt.src = .locked →
      (p - 1000 ≤ u.now → u.now ≤ p + 1000 → rings (.tickEdge dt))
      ∧ (u.now < p - 1000 ∨ p + 1000 < u.now →
        exec (.tickEdge dt) s = .next { u with tt := { u.tt with rej := u.tt.rej.add 1, rejTotal := satAdd u.tt.rejTotal 1 } }))
    ∧ (u.power.ready = true → u.tt.source = false → u.tt.open_ = true → u.tt.src ≠ .locked →
      ∃ t, exec (.tickEdge dt) s = .next t ∧ t.tt.sinceEdge = some 0 ∧ t.tt.bellNum = u.tt.bellNum
        ∧ t.tt.phase.toInt = (if u.now ≤ u.tt.timer then ((Min.min (u.now / 2) (p / 4) : Nat) : Int)
            else -((Min.min (u.tt.timer / 2) (p / 4) : Nat) : Int)).bmod (2 ^ 32))
    ∧ (u.tt.inRecess = true → u.tt.params.tRec ≤ u.now → u.sm.txns = [] →
      ∃ t, exec (.recessEnd dt) s = .next t ∧ t.tt.inRecess = false ∧ t.bist.unit = none ∧ u.sameBytes t ∧ t.tt.bellNum = u.tt.bellNum)

/-! ### Queue pairs, interrupts and the host's windows -/

/-- Enabling a pair starts both rings at 0 with phase 1, disabling it discards what waits; the doorbells set tail and head, and a partial write
or a value out of range stops the pair with its code; CQ_ENTRY_WRITE writes the oldest entry and advances the tail, or stops the pair (11
R317, R322-R327; when DROP and FULLW count is logs 81, 82). While the BARs are not decoded these writes change nothing. -/
def Obligations.QueuePairsRunTheirRings : Prop :=
  ∀ (s : State) (q : QueueId),
    let x := s.host.pairs[q]
    let put (y : QueuePair) : State := { s with host := { s.host with pairs := s.host.pairs.set q y } }
    let stops (y : QueuePair) (st : PairState) (err : BitVec 6) : QueuePair :=
      { y with state := st, err := err, drop := y.drop.add y.wait.length, wait := [] }
    (s.barOn = true →
      (∀ ien sz iv, x.state = .disabled → sz ≠ 0 → exec (.queuePairEnable q ien sz iv) s = .next (put { x with
      ien := ien, iv := iv, cqsz := sz, state := .running, err := 0, sqHead := 0, sqTail := 0, cqHead := 0, cqTail := 0, phase := true
      wait := [], renewed := true }))
      ∧ (∀ ien iv, x.state = .disabled → exec (.queuePairEnable q ien 0 iv) s = .next (put { x with ien := ien, iv := iv }))
      ∧ (∀ ien iv, x.state ≠ .disabled → exec (.queuePairDisable q ien iv) s = .next (put (stops { x with ien := ien, iv := iv } .disabled 0))))
    ∧ (s.barOn = false → ∀ ien sz iv, exec (.queuePairEnable q ien sz iv) s = .next s ∧ exec (.queuePairDisable q ien iv) s = .next s)
    ∧ (s.barOn = true → s.power.ready = true → x.state = .running → ∀ v whole,
      exec (.submissionTailDoorbell q v whole) s = .next (put (if whole = true ∧ v.toNat < 256 then { x with sqTail := BitVec.ofNat 8 v.toNat }
        else stops x .error 1))
      ∧ exec (.completionHeadDoorbell q v whole) s = .next (put (if whole = true ∧ v.toNat ≤ x.cqsz.toNat
        then { x with cqHead := BitVec.ofNat 12 v.toNat } else stops x .error 2)))
    ∧ (s.barOn = false ∨ s.power.ready = false ∨ x.state ≠ .running → ∀ v whole, exec (.submissionTailDoorbell q v whole) s = .next s
      ∧ exec (.completionHeadDoorbell q v whole) s = .next s)
    ∧ ∀ e rest, x.wait = e :: rest → x.state = .running → x.used ≠ x.cqsz.toNat →
      exec (.cqEntryWrite q true) s = .next (put (stops x .error 3))
      ∧ ∃ t bs, exec (.cqEntryWrite q false) s = .next t
        ∧ t.host.pairs[q] = { x with
            wait := rest
            cqTail := if x.cqTail = x.cqsz then 0 else x.cqTail + 1
            phase := if x.cqTail = x.cqsz then !x.phase else x.phase }
        ∧ t.out = s.out ++ [.cqWrite q (BitVec.ofNat 64 (x.cqbase.toNat * 4096 + 64 * x.cqTail.toNat)) bs s.host.ecrcGen]
        ∧ bs.take e.2.length = e.2
        ∧ leNat ((bs.drop e.2.length).take 8) = e.1.toNat * 2 ^ 56 + q.val * 2 ^ 52 + x.sqHead.toNat * 2 ^ 44 + x.phase.toNat
        ∧ s.sameBytes t

/-- MSI-X messages, masks and pending bits; host events; submission-queue bytes; the mailbox frame; configuration writes (11 R317, R321, R322,
R329, R330; 12 R354; what PCI Express says of MSI-X and the configuration space is log 24). While the BARs are not decoded their writes change
nothing. -/
def Obligations.HostWindowsTakeTheirWrites : Prop :=
  ∀ (s : State), s.memWf = true →
    (∀ v : Fin 2048, s.host.asked.getLsbD v.val = true → s.host.linkUp = true →
      let e := s.host.msix[v]
      let m := 1#2048 <<< v.val
      let off : HostLink := { s.host with asked := s.host.asked &&& ~~~m }
      (s.host.fnMask = false → e.masked = false →
        exec (.msixMessage v) s = .next { s with host := off, out := s.out ++ [.msix v e.addr e.data s.host.ecrcGen] })
      ∧ (s.host.fnMask = true ∨ e.masked = true → exec (.msixMessage v) s = .next { s with host := { off with pba := off.pba ||| m } }))
    ∧ (∀ v : Fin 2048, s.barOn = true → ∃ t, exec (.msixVectorUnmask v) s = .next t ∧ t.host.msix[v] = { s.host.msix[v] with masked := false }
      ∧ (s.host.fnMask = false → t.host.pba.getLsbD v.val = false
        ∧ t.host.asked.getLsbD v.val = (s.host.asked.getLsbD v.val || s.host.pba.getLsbD v.val))
      ∧ (∀ w : Fin 2048, w ≠ v → t.host.msix[w] = s.host.msix[w] ∧ t.host.pba.getLsbD w.val = s.host.pba.getLsbD w.val))
    ∧ (∀ b : Byte, s.barOn = true → ∃ t, exec (.hostEventRaise b) s = .next t ∧ s.sameBytes t
      ∧ ∀ i : Fin 8, let n : Fin 512 := ⟨504 + i.val, by omega⟩
        t.mgmt.events[n] = if b.getLsbD i.val then satAdd s.mgmt.events[n] 1 else s.mgmt.events[n])
    ∧ (∀ off data, s.barOn = true → 0 < data.length → off + data.length ≤ 0x80000 → ∃ t, exec (.submissionQueueEntryWrite off data) s = .next t
      ∧ (∀ a, t.host.sqMem.read a = if off ≤ a ∧ a < off + data.length then data.getD (a - off) 0 else s.host.sqMem.read a)
      ∧ t.mem = s.mem ∧ t.slots = s.slots ∧ t.host.pairs = s.host.pairs)
    ∧ (∀ data : List Byte, s.barOn = true → data.length = 64 → s.mgmt.mailbox.queue.length < 16 →
      ∃ t, exec (.mailboxRequest 0 data) s = .next t ∧ t.host.mbReq.toList = data ∧ s.sameBytes t
        ∧ t.mgmt.mailbox.queue = s.mgmt.mailbox.queue ++ [⟨data, s.mgmt.stamp, none⟩] ∧ t.mgmt.mbTaken = satAdd s.mgmt.mbTaken 1)
    ∧ (∀ data : List Byte, s.barOn = true → data.length = 64 → 16 ≤ s.mgmt.mailbox.queue.length →
      ∃ t, exec (.mailboxRequest 0 data) s = .next t ∧ t.mgmt.mailbox = s.mgmt.mailbox ∧ t.mgmt.mbDropped = satAdd s.mgmt.mbDropped 1)
    ∧ (s.barOn = false → (∀ v, exec (.msixVectorUnmask v) s = .next s) ∧ (∀ b, exec (.hostEventRaise b) s = .next s)
      ∧ (∀ off data, 0 < data.length → off + data.length ≤ 0x80000 → exec (.submissionQueueEntryWrite off data) s = .next s)
      ∧ ∀ data : List Byte, data.length = 64 → exec (.mailboxRequest 0 data) s = .next s)
    ∧ (s.host.linkUp = true →
      (∀ d, exec (.configSpaceWrite (.powerState d)) s = .next { s with host := { s.host with d3hot := d } })
      ∧ (∀ b, exec (.configSpaceWrite (.aer b)) s = .next { s with host := { s.host with aer := b } })
      ∧ (∀ g c, exec (.configSpaceWrite (.ecrc g c)) s = .next { s with host := { s.host with ecrcGen := g, ecrcCheck := c } })
      ∧ exec (.configSpaceWrite (.functionMask true)) s = .next { s with host := { s.host with fnMask := true } }
      ∧ ∃ t, exec (.configSpaceWrite (.functionMask false)) s = .next t ∧ t.host.fnMask = false
        ∧ ∀ v : Fin 2048, s.host.msix[v].masked = false → t.host.pba.getLsbD v.val = false
          ∧ t.host.asked.getLsbD v.val = (s.host.asked.getLsbD v.val || s.host.pba.getLsbD v.val))

/-! ### Memory, desks and failures -/

/-- Scrub, refresh and retries: a corrected block is written back and counted, of the interleave as of a bank spare; the write-back that a corrected read
has scheduled is made without another read; a failed retry chain leaves a
read to fail once at its reader, a write poison; each retry beyond the first extends its booking by 1,100 clk within the reserve. A recess slice
counts its outcome and a failing unit is retired at the next boundary; no unit is worked on for more than 80,000 clk in a recess, all stays added; a field
trip moves one block, of whose staged copy the staging area keeps the bytes, and raises event 422 at its end; a dead device or a port whose training fails is lost at the next boundary (05 R152, R154, R155; 06 R202;
10 R292, R295, R298, R299, R304, R310; 13 R385). These are the model's choices: a draw past the reserve draws nothing (log 72), errors come as an
operand of REFRESH (log 139), the failure list (log 15), what reconstruction mode counts (log 132), which counter a cured retry counts in (log 87),
the units of a pass (log 157), which slot makes a write-back (log 170). -/
def Obligations.MemoryWorkAndFailuresAreNoted : Prop :=
  (∀ (s : State), s.power.phase = .run →
    (∀ m b, (m = .mapped b ∧ b < 983040 * s.portCount * 127
        ∨ ∃ (p : PortId) (row : Nat), m = .spare p row ∧ row < 983040 ∧ p ∈ s.repair.portMap ∧ s.ports[p].spareBank ≠ 0xFF ∧ b = spareBlock p row) →
      let unread := ∀ w ∈ s.mem.writeBacks, w.1 ≠ b
      (s.memWf = true → unread → s.blockBad b = false → s.mem.soft.Nodup →
        ∃ t, exec (.scrub m false) s = .next t ∧ b ∉ t.mem.soft ∧ s.sameBytes t ∧ t.mem.bad = s.mem.bad ∧ t.slots = s.slots
          ∧ (b ∈ s.mem.soft → t.ports[(s.homeOf b).1].corr = s.ports[(s.homeOf b).1].corr.add (if s.reconstructing b then 2 else 1)))
      ∧ (∀ w, s.memWf = true → s.mem.writeBacks.find? (fun w => w.1 == b) = some w → s.ports[(s.homeOf b).1].gone = false → s.mem.soft.Nodup →
        ∃ t, exec (.scrub m false) s = .next t ∧ b ∉ t.mem.soft ∧ t.ports = s.ports ∧ (∀ w ∈ t.mem.writeBacks, w.1 ≠ b)
          ∧ (∀ j (h : j < w.2.length), t.mem.mem.read (64 * b + j) = w.2[j])
          ∧ ∀ a, (a < 64 * b ∨ 64 * b + w.2.length ≤ a) → t.mem.mem.read a = s.mem.mem.read a)
      ∧ (unread → s.blockLost b = true → (∀ f ∈ s.mem.failed, f.1 ≠ b) →
        ∃ t, exec (.scrub m false) s = .next t ∧ t.mem = s.mem
          ∧ t.ports[(s.homeOf b).1].uncorr = s.ports[(s.homeOf b).1].uncorr.add 1)
      ∧ (unread → (∃ f ∈ s.mem.failed, f.1 = b) →
        exec (.scrub m false) s = .next { s with mem := { s.mem with failed := s.mem.failed.filter fun f => f.1 != b } }))
    ∧ (∀ p b, exec (.refresh p ⟨b, []⟩) s = .next s)
    ∧ (∀ (c : Client) (b n : Nat) (w : Bool), 2 < n → n ≤ 4 → ∃ t, exec (.blockRetry ⟨some c, b, w, .link, n, true, false⟩) s = .next t
      ∧ t.mem = s.mem ∧ s.sameBytes t ∧ t.avail.retries = satAdd s.avail.retries 1
      ∧ ∀ r, (s.client c).run = some r → (s.client c).exhausted = false →
        ((s.client c).drawn + 1100 ≤ s.tt.params.tFr →
          (t.client c).run.map Run.ext = some (r.ext + 1100) ∧ (t.client c).drawn = (s.client c).drawn + 1100)
        ∧ (s.tt.params.tFr < (s.client c).drawn + 1100 →
          (t.client c).run.map Run.ext = some r.ext ∧ (t.client c).exhausted = true ∧ (t.client c).run.map Run.extCap = some true))
    ∧ ∀ (b : Nat) (w : Bool), ∃ t, exec (.blockRetry ⟨none, b, w, .link, 4, false, false⟩) s = .next t ∧ t.mem.mem = s.mem.mem
      ∧ (w = true → b ∈ t.mem.bad) ∧ (w = false → t.blockBad b = true) ∧ t.ports[(s.homeOf b).1].uncorr = s.ports[(s.homeOf b).1].uncorr.add 1)
  ∧ ∀ (s : State),
    (∀ u : SliceUnit, s.mgmt.rwp.slices = true → s.sec.life ≠ .void → s.tt.open_ = true →
      let inTime := (s.bist.unit = some u → s.clk ≤ s.bist.since + 80000)
        ∧ (s.bist.unit ≠ some u → ∀ e ∈ s.bist.spent, e.1 = u → e.2 < 80000)
      let retires : List (UnitRef × Byte × Bool) := match u with
        | .unit v => [(v, 4, false)]
        | .deskBank k _ => [(.slot k, 4, false)]
        | _ => []
      (s.tt.inRecess = true → u ∉ s.bist.barred → inTime →
        (∃ t, exec (.recessSliceStep u .failed) s = .next t ∧ t.bist.slicesFailed = satAdd s.bist.slicesFailed 1 ∧ t.bist.unit = none
          ∧ t.repair = { s.repair with failed := s.repair.failed ++ retires } ∧ s.sameBytes t)
        ∧ (∃ t, exec (.recessSliceStep u .completed) s = .next t ∧ t.bist.slicesDone = satAdd s.bist.slicesDone 1 ∧ t.bist.unit = none
          ∧ t.repair = s.repair ∧ s.sameBytes t)
        ∧ (s.bist.unit = some u → exec (.recessSliceStep u .stepped) s = .next s)
        ∧ (s.bist.unit ≠ some u → ∃ t, exec (.recessSliceStep u .stepped) s = .next t ∧ t.bist.unit = some u
          ∧ t.bist.since = s.clk - ((s.bist.spent.find? fun e => e.1 == u).map Prod.snd).getD 0
          ∧ t.repair = s.repair ∧ s.sameBytes t))
      ∧ (∀ o, o ≠ .abandoned → s.bist.unit = some u → s.bist.since + 80000 < s.clk → ∃ t, exec (.recessSliceStep u o) s = .next t
        ∧ t.bist.unit = none ∧ t.bist.barred = s.bist.barred ++ [u] ∧ t.bist.slicesDone = s.bist.slicesDone ∧ t.repair = s.repair ∧ s.sameBytes t)
      ∧ (∀ o, o ≠ .abandoned → s.bist.unit ≠ some u → u ∈ s.bist.barred → exec (.recessSliceStep u o) s = .next s)
      ∧ (s.bist.unit ≠ some u → exec (.recessSliceStep u .abandoned) s = .next s)
      ∧ (s.bist.unit = some u → ∃ t, exec (.recessSliceStep u .abandoned) s = .next t ∧ t.bist.stepsAbandoned = satAdd s.bist.stepsAbandoned 1 ∧ t.bist.unit = none
        ∧ t.bist.slicesDone = s.bist.slicesDone ∧ t.repair = s.repair ∧ s.sameBytes t))
    ∧ (∀ x ts, s.repair.trips = x :: ts → s.tt.inRecess = true → x.began ≠ none → x.moved < x.total → s.tripBlock x < spareBase →
      let b := s.tripBlock x
      let keeps := x.kind = 3 ∨ x.srcPort ∈ s.repair.portMap
      let places := x.kind = 3 ∧ rebuildBlocks ≤ x.moved
      ∃ t y, exec (.fieldTripCopy true) s = .next t ∧ t.repair.trips = y :: ts ∧ y.moved = x.moved + 1
        ∧ (¬places → s.sameBytes t)
        ∧ (places → s.memWf = true → ∀ a, t.mem.mem.read a =
          if 64 * (3870000134 + b) ≤ a ∧ a < 64 * (3870000134 + b) + 64 then s.mem.mem.read (64 * b + (a - 64 * (3870000134 + b)))
          else s.mem.mem.read a)
        ∧ (¬keeps → t.mem = s.mem ∧ y.poisoned = x.poisoned)
        ∧ (keeps → s.blockBad b = true → y.poisoned = x.poisoned + 1 ∧ b ∈ t.mem.bad)
        ∧ (keeps → s.blockBad b = false → y.poisoned = x.poisoned
          ∧ (¬places → t.mem.bad = if x.kind = 1 then s.mem.bad.erase (spareBlock x.srcPort x.moved) else s.mem.bad))
        ∧ t.mgmt.events[(422 : Fin 512)]
          = (if x.moved + 1 = x.total then satAdd s.mgmt.events[(422 : Fin 512)] 1 else s.mgmt.events[(422 : Fin 512)]))
    ∧ ∀ p : PortId, s.power.phase = .run →
      let gone (x : Port) : State := { s with
        ports := s.ports.set p x
        repair := { s.repair with failed := s.repair.failed ++ [(.port p, 0, true)] } }
      (s.ports[p].dead = false → exec (.deviceFailure p) s = .next (gone { s.ports[p] with dead := true }))
      ∧ (s.ports[p].train = .trained → exec (.portTrainingFailure p) s = .next (gone { s.ports[p] with train := .failed }))

/-- The desk DMA port: a line alone is written with its enabled bytes; a read and a write of the engine preempt it; a collision with different
data sets COLL, keeps the first COLLOFF and leaves the engine's bytes; a desk in retention holds it and wakes, and wakes for the timetable too
(05 R162, R163, R165-R167). These are the model's choices: one clk of the port is one command (log 123), what waits is served piece by piece (log 33),
and of a word in which the common bytes are equal the other bytes of the DMA write are written (log 140). -/
def Obligations.DeskPortsPreemptCollideAndWake : Prop :=
  (∀ (s : State) (k : SlotId) (off : Nat) (mine theirs : List (Option Byte)),
    let d := (s.slot k).desk
    let line : DmaLine := ⟨off, some mine⟩
    line.ok = true → (EngineAccess.write theirs).ok = true → d.dma = [] → s.bist.unit = none → s.memWf = true →
    (d.power = .on →
      (∃ t, exec (.deskDmaLineIssue k none (some line) .idle) s = .next t ∧ (t.slot k).desk.dma = []
        ∧ (∀ j < 64, (t.slot k).desk.mem.read (off + j) = ((mine.getD j none).getD (d.mem.read (off + j))))
        ∧ (∀ b, (b < off ∨ off + 64 ≤ b) → (t.slot k).desk.mem.read b = d.mem.read b)
        ∧ (∀ k', k' ≠ k → t.slot k' = s.slot k') ∧ t.mem = s.mem)
      ∧ (∃ t, exec (.deskDmaLineIssue k none (some line) .read) s = .next t
        ∧ (t.slot k).desk.dma = [⟨off, some mine, none, none, s.clk⟩] ∧ s.sameBytes t)
      ∧ ∃ t rest, exec (.deskDmaLineIssue k none (some line) (.write theirs)) s = .next t
        ∧ (t.slot k).desk.dma = [⟨off, some rest, none, none, s.clk⟩] ∧ s.sameBytes t
        ∧ (∀ j < 64, theirs.getD j none ≠ none → rest.getD j none = none)
        ∧ ((∃ j a b, j < 64 ∧ mine.getD j none = some a ∧ theirs.getD j none = some b ∧ a ≠ b) → (t.slot k).desk.coll = true
          ∧ (d.coll = true → (t.slot k).desk.collOff = d.collOff))
        ∧ ((∀ j < 64, ∀ a b, mine.getD j none = some a → theirs.getD j none = some b → a = b) → (t.slot k).desk.coll = d.coll
          ∧ ∀ j < 64, theirs.getD j none = none → rest.getD j none = mine.getD j none))
    ∧ (d.power = .retention →
      ∃ t, exec (.deskDmaLineIssue k none (some line) .idle) s = .next t ∧ (t.slot k).desk.dma = [⟨off, some mine, none, none, s.clk⟩]
        ∧ (t.slot k).desk.power = .waking ∧ s.sameBytes t)
    ∧ (d.power = .waking →
      exec (.deskWakeComplete k) s = .next (s.modSlot k fun x => { x with desk := { x.desk with power := .on, scrubLine := 0 } }))
    ∧ ∀ w < 524288, ∃ t, exec (.deskEccWriteBack k w) s = .next t ∧ (t.slot k).desk.soft = d.soft.erase w ∧ s.sameBytes t
      ∧ t.regs k = s.regs k)
  ∧ ∀ (s : State) (k : SlotId) (dt : Nat),
    let u := s.elapse dt
    let d := (u.slot k).desk
    let soon := u.tt.open_ = true ∧ u.tt.params.period ≤ u.now + 4000
      ∧ ∃ i, u.streamOf k = some i ∧ u.deskBooked i (u.tt.bellNum.toNat + 1) = true
    (d.power = .retention ∨ d.power = .entering) →
    (soon ∨ d.dma ≠ [] → exec (.deskWakeStart ⟨k, dt⟩) s = .next (u.modSlot k fun x => { x with desk := { x.desk with power := .waking } }))
    ∧ (¬soon → d.dma = [] → exec (.deskWakeStart ⟨k, dt⟩) s = .next u)

/-- Excursions start, take their far blocks, end with the first status that applies, and follow the expansion link (05 R168-R172; 06 R199). -/
def Obligations.ExcursionsMoveTheirBlocks : Prop :=
  ∀ (s : State) (e : Fin 2) (dt : Nat), s.memWf = true → let c := Client.engine e
    (let u := s.elapse dt
      let x := u.client c
      (∀ a, u.tt.open_ = true → u.tt.inRecess = false → x.run = none → x.nextStart ≤ u.now → u.nextBooking c = some a → u.repair.ladder ≠ .ended →
        ∃ t r, exec (.excursionStart e dt) s = .next t ∧ (t.client c).run = some r ∧ r.adm = a ∧ r.start = u.now ∧ r.blocks = 0
          ∧ r.linkDown = decide (u.xp.link ≠ 2) ∧ t.tt.admitted = u.tt.admitted.erase a ∧ u.sameBytes t)
      ∧ ∀ r, x.run = some r → u.linesOut e = false → (r.linkDown = true ∨ r.blocks = r.adm.b.len) → r.excused = false →
        ∃ t rec, exec (.excursionComplete e dt) s = .next t ∧ (t.client c).run = none ∧ t.tt.due = u.tt.due ++ [rec] ∧ rec.blocks = r.blocks
          ∧ rec.tag = r.adm.b.tag ∧ u.sameBytes t
          ∧ rec.status = (if r.linkDown then 0x12 else if r.poison then 0x11 else if r.collision then 0x13
              else if r.farSlow ∧ r.start + r.adm.b.budget + r.ext < u.now then 0x14 else 0x10))
    ∧ (∀ r (f : FarResponse), (s.client c).run = some r → r.linkDown = false → r.poison = false → r.adm.b.nearToFar = false →
      s.blocksOut e = 0 → r.blocks < r.adm.b.len → f.data.length = 64 → r.adm.b.near + 64 * r.blocks + 64 ≤ deskBase →
      (f.poison = false → ∃ t, exec (.farResponse e f) s = .next t ∧ (t.client c).run.map Run.blocks = some (r.blocks + 1)
        ∧ (∀ a, t.mem.mem.read a = if r.adm.b.near + 64 * r.blocks ≤ a ∧ a < r.adm.b.near + 64 * r.blocks + 64
            then f.data.getD (a - (r.adm.b.near + 64 * r.blocks)) 0 else s.mem.mem.read a))
      ∧ (f.poison = true → ∃ t, exec (.farResponse e f) s = .next t ∧ (t.client c).run.map Run.poison = some true
        ∧ (t.client c).run.map Run.blocks = some r.blocks ∧ t.mem = s.mem))
    ∧ (∀ d : FarDevice, s.xp.link = 1 → ∃ t, exec (.expansionLinkUp d) s = .next t ∧ s.sameBytes t
      ∧ (d.present = false → t.xp.link = 0)
      ∧ (d.present = true → d.supported = false → t.xp.link = 4)
      ∧ (d.present = true → d.supported = true → d.lanes ∈ [4, 8, 16] → d.rate ∈ [32, 64] →
        t.xp.link = 2 ∧ t.xp.mapped.toNat = Min.min (d.capacity / 2 ^ 28 * 2 ^ 28) 0x3C000000000))
    ∧ (s.xp.link = 2 → ∃ t, exec .expansionLinkDown s = .next t ∧ t.xp.link = 3 ∧ t.xp.mapped = 0 ∧ s.sameBytes t
      ∧ ∀ e r, (s.client (.engine e)).run = some r → (t.client (.engine e)).run = some { r with linkDown := true })

/-! ### The service matrix and the registers -/

/-- Writes act by the access codes of the register, and a read clears the fields with code RC: a write of a read-only register changes nothing,
W1C fields clear where a 1 is written unless hardware has set them in this clk, RC counters return the value from before this clk and keep what it
has added, and a read in the clk of a bell gives what stood before it (00 R5-R7; 05 R146; 06 R184; 08 R270; 11 R333). That the events of a clk are
those of the commands between two passages of time is the model's choice (log 156). -/
def Obligations.RegistersKeepTheirAccessCodes : Prop :=
  ∀ (s : State) (k : SlotId) (v : Word64), s.power.phase = .run → s.sm.txns = [] → s.barOn = true → s.power.ready = true →
    let base := mmioBase + k.val / 17 * 0x1000000 + k.val % 17 * 0x10000
    let d := (s.slot k).desk
    s.answers (.registerWrite .hdma base false v) s []
    ∧ s.answers (.registerWrite .hdma (base + 0x1100) false v)
        (s.modSlot k fun x => { x with evpend := x.evpend &&& ~~~(BitVec.ofNat 32 v.toNat &&& ~~~x.setNow.evpend) }) []
    ∧ (∀ l : Fin 32, s.answers (.registerWrite .hdma (base + 0x1000 + 8 * l.val) false v)
        (s.modSlot k fun x => { x with lines32 := x.lines32.set l ⟨v.getLsbD 31, BitVec.ofNat 4 (v.toNat / 2 ^ 24), BitVec.ofNat 9 v.toNat⟩ }) [])
    ∧ s.answers (.registerReadClear .hdma (base + 0x208) false)
        (s.modSlot k fun x => { x with desk := { x.desk with ce := ⟨0, d.ce.new⟩, ue := ⟨0, d.ue.new⟩ } })
        (leBytes 4 (d.ce.before.toNat * 2 ^ 16 + d.ue.before.toNat))
    ∧ ((∀ b, s.tt.before = some b → b.clk ≠ s.clk) → s.answers (.registerReadClear .hdma ttBase true) s (leBytes 8 s.tt.bellNum.toNat))
    ∧ (∀ b, s.tt.before = some b → b.clk = s.clk → s.answers (.registerReadClear .hdma ttBase true) s (leBytes 8 b.bellNum.toNat))
    ∧ s.answers (.registerWrite .hdma ttBase true v) s []
    ∧ ((s.slot k).dbg.monen = false → s.levelOk .dam (.reg (.dbgctl k) 0) true 0 = true →
      (∃ t, exec (.haltRequest .dam k) s = .next t ∧ (t.slot k).dbg.halt = (s.slot k).dbg.halt ∧ s.sameBytes t)
      ∧ ∃ t, exec (.haltCancel .dam k) s = .next t ∧ (t.slot k).dbg.halt = false ∧ s.sameBytes t)
    ∧ (∀ i, s.streamOf k = some i → s.level i = 2 → (s.slot k).dbg.monen = true → (s.slot k).status = .running →
      ∃ t, exec (.haltRequest .hdma k) s = .next t ∧ (t.slot k).dbg.halt = true ∧ s.sameBytes t)

/-- Host reads and writes of a desk, the debug access master's writes and the level that they need, the grants of the matrix and of the GDDR7
service port, a parity error of a granted piece, and the trace port: K28.5 and 8 bytes of the packet on each lane, and K28.5 while no packet goes
out. A desk answers once its DMA port has served the lines (05 R163; 10 R308; 11 R319, R331-R337; 14 R406, R419; 15 R434). The model's choices: the
turns after reset are log 23, that what waits is served piece by piece is log 33, and the code groups of 8b/10b are log 167. -/
def Obligations.MatrixAccessesReachTheirTargets : Prop :=
  ∀ (s : State), s.power.phase = .run → s.sm.txns = [] → s.memWf = true →
    (∀ (i : StreamId) (k : SlotId) (o n : Nat) (bs : List Byte), s.slotOf i = some k → (s.slot k).desk.power = .on → s.bist.unit = none →
      o % 256 + n ≤ 256 → o + n ≤ 0x400000 → bs.length = n → 0 < n → (s.slot k).desk.bad = [] → (s.slot k).desk.soft = [] →
      (s.slot k).desk.dma = [] →
      let a := deskArray + 0x400000 * i.val + o
      let lines := (o % 64 + n + 63) / 64
      let writes (t : State) : Prop := (∀ b, (t.slot k).desk.mem.read b = if o ≤ b ∧ b < o + n then bs.getD (b - o) 0 else (s.slot k).desk.mem.read b)
        ∧ t.mem = s.mem ∧ ∀ k', k' ≠ k → t.slot k' = s.slot k'
      (s.barOn = true → s.power.ready = true →
        s.throughPort k lines (.hostWriteRequest .bar2 a bs .sound) (fun t => writes t ∧ t.out = s.out)
        ∧ s.throughPort k lines (.hostReadRequest .bar2 a ⟨n, false⟩) (fun t => s.sameBytes t
          ∧ t.out = s.out ++ [.completion .ok ((List.range n).map fun j => (s.slot k).desk.mem.read (o + j)) s.host.ecrcGen]))
      ∧ (s.level i = 2 → s.throughPort k lines (.debugAccess ⟨a, n, some bs⟩) (fun t => writes t ∧ t.out = s.out ++ [.response .ok []]))
      ∧ (s.level i = 2 → s.throughPort k lines (.dbgacc ⟨a, n, some bs⟩)
        (fun t => writes t ∧ t.out = s.out ++ [.response .ok []] ∧ t.tap.ir = .dbgacc))
      ∧ (s.level i < 2 → ∃ t, exec (.debugAccess ⟨a, n, some bs⟩) s = .next t ∧ s.sameBytes t ∧ t.out = s.out ++ [.response .targetError []])
      ∧ ∀ id : BitVec 6, s.power.ready = true → let tile : Fin 4 := ⟨i.val / 16, by omega⟩
        let piece : Piece := ⟨.hdma, id, a, n, some bs, true, a, n⟩
        s.throughPort k lines (.smPieceGrant (.tp tile) ⟨[piece], false⟩) (fun t => writes t ∧ t.out = s.out ++ [.response .ok []]
          ∧ t.sm.last[(⟨tile.val, by omega⟩ : Fin 11)] = 4)
        ∧ ∃ t, exec (.smPieceGrant (.tp tile) ⟨[piece], true⟩) s = .next t ∧ s.sameBytes t ∧ t.out = s.out ++ [.response .parityError []]
          ∧ t.mgmt.events[(431 : Fin 512)] = satAdd s.mgmt.events[(431 : Fin 512)] 1)
    ∧ (∀ (t : Fin 4) (k : SlotId) age b pf, k.val / 17 = t.val →
      ∃ u, exec (.gspBlockService [.hub t k age b pf]) s = .next u ∧ u.sm.hubTurn = t ∧ u.sm.hubCore[t] = some k ∧ s.sameBytes u)
    ∧ let coded (l : Fin 4) (ys : List TraceSymbol) : List (BitVec 10) × Bool := codeLane s.dbg.portRd[l] ys
      let carried (p : Packet) (l : Fin 4) : List TraceSymbol := .k28_5 :: (List.range 8).map fun j => .data (p.bytes.getD (8 * l.val + j) 0)
      (∀ p ps, s.dbg.portStarted = true → s.dbg.portq = p :: ps → ∃ t, exec .tracePortSend s = .next t ∧ t.dbg.portq = ps ∧ s.sameBytes t
        ∧ (∀ l : Fin 4, t.dbg.portRd[l] = (coded l (carried p l)).2)
        ∧ ∃ ls, t.out = s.out ++ [.traceSymbols ls] ∧ ∀ l : Fin 4, ls[l] = (coded l (carried p l)).1)
      ∧ (s.dbg.portStarted = false ∨ s.dbg.portq = [] → ∃ t, exec .tracePortSend s = .next t ∧ t.dbg.portq = s.dbg.portq ∧ s.sameBytes t
        ∧ ∃ ls, t.out = s.out ++ [.traceSymbols ls] ∧ ∀ l : Fin 4, ls[l] = (coded l [.k28_5]).1)

/-- A Stream reset puts a slot at rest with its registers at their reset values, discards its vector queue and its uncommitted stores, of the oldest of which
the lower half may be written, and keeps its desk; the running lesson is reported, as FAULT-MISSED with cause 06h by the host and as EXCUSED by a debug
reset. That resets the debug access master too: pieces of it that wait are never issued, and a granted one keeps its ID, writes nothing, and its
response is discarded (11 R339; 13 R389; 14 R421; when the reset is complete is log 161). -/
def Obligations.StreamResetsReportTheirLessons : Prop :=
  ∀ (s : State) (t : Fin 4) (j : Fin 17) (i : StreamId), s.power.phase = .run →
    let k : SlotId := ⟨17 * t.val + j.val, by omega⟩
    s.slotOf i = some k → s.streamOf k = some i →
    let x := s.slot k
    let lower (e : StoreEntry) : Nat := 64 - e.addr % 64
    let resets (u : State) (status cause : Byte) : Prop := u.regs k = Regs.reset ∧ (u.slot k).status = .quiet
      ∧ (u.slot k).eng.queue = [] ∧ (u.slot k).sbuf = [] ∧ (u.slot k).wd.load = x.wd.load ∧ (u.client (.stream i)).run = none
      ∧ (x.eng.queue = [] → (∀ e ∈ x.sbuf.head?, e.bytes.length ≤ lower e) →
        u.mem = s.mem ∧ (u.slot k).desk = { x.desk with dma := (u.slot k).desk.dma })
      ∧ (s.memWf = true → x.eng.queue = [] → ∀ e ∈ x.sbuf.head?, ∀ b, (b < e.addr ∨ e.addr + lower e ≤ b) → u.byteAt k b = s.byteAt k b)
      ∧ ∀ r, (s.client (.stream i)).run = some r → ∃ rec, u.tt.due = s.tt.due ++ [rec] ∧ rec.tag = r.adm.b.tag
        ∧ rec.status = (if r.excused then 3 else status) ∧ rec.cause = (if r.excused then 0 else cause)
    (∃ u, exec (.streamReset t (1#17 <<< j.val)) s = .next u ∧ resets u 4 6 ∧ (u.slot k).desk.dma = x.desk.dma ∧ u.sm = s.sm)
    ∧ (let mine := s.sm.txns.filter fun y => y.master == .dam
      s.level i = 2 → mine.length < 32 → (∀ y ∈ mine, ∃ n, s.txnTarget y = .tp n) →
      ∃ u, exec (.debugReset .dam true i) s = .next u ∧ resets u 3 0
        ∧ (∀ y ∈ u.sm.txns, y.master = .dam → y.granted = true ∧ y.dropped = true ∧ ∀ p ∈ y.rest, p.enables = false)
        ∧ (∀ y ∈ s.sm.txns, y.master ≠ .dam → y ∈ u.sm.txns)
        ∧ (∀ y ∈ mine, y.granted = true → ∃ z ∈ u.sm.txns, z.master = .dam ∧ z.id = y.id ∧ z.tag = y.tag)
        ∧ ∀ k' : SlotId, (u.slot k').desk.dma.length = (s.slot k').desk.dma.length
          ∧ ∀ l ∈ (u.slot k').desk.dma, ∀ g w, l.txn = some g → g.master = .dam → l.write = some w → ∀ b ∈ w, b = none)

/-! ### Management -/

/-- Every request that is its transport's turn is answered there with its SEQ, INDEX and SUB: reads with the published value, writes of RWP objects
with their persist number, segments of a snapshot, segments of a write, aborts and unknown requests; a request that is not its transport's turn
waits; a transfer without a segment for 2,000 frames is closed. Requests of both transports are checked in their order of receipt, so that a write
received earlier has the earlier persist number whichever transport is answered first (12 R345-R353, R359; the first turn is log 90, the model's
choice). -/
def Obligations.RequestsAreAnswered : Prop :=
  ∀ (s : State) (tr : Transport) (rest : List Request) (seq sub : Byte) (index : Word16) (stamp : Nat), s.power.phase ≠ .off →
    let key : ObjKey := (index.toNat, sub.toNat)
    let asks (cmd : Byte) (data : List Byte) : Prop :=
      (s.trans tr).queue = ⟨requestFrame cmd seq sub index data, stamp, none⟩ :: rest
        ∧ ((s.trans (otherTransport tr)).queue = [] ∨ s.mgmt.turn = tr)
        ∧ ∀ q ∈ rest ++ (s.trans (otherTransport tr)).queue, q.reply = none → stamp ≤ q.stamp
    let answers (c : Instr) (t : State) (cmd status : Byte) (data : List Byte) : Prop :=
      exec c s = .next t ∧ s.replied t tr rest (responseFrame cmd seq sub index status data)
    (asks 1 [] → (findObj key = none → ∃ t, answers (.read tr) t 0x81 1 [])
      ∧ ∀ o, findObj key = some o → o.acc ≠ .wo → (s.published o).length ≤ 56 → s.unavailable index.toNat = false →
        ∃ t, answers (.read tr) t 0x81 0 (s.published o) ∧ t.mgmt.rwp = s.mgmt.rwp ∧ t.mgmt.accepted = s.mgmt.accepted)
    ∧ (∀ v o, asks 2 v → v.length ≤ 56 → findObj key = some o → o.acc = .rwp → s.writeStatus o v false false = 0 →
      ∃ t, answers (.write tr) t 0x82 0 (leBytes 4 (s.mgmt.persistLast + 1).toNat) ∧ t.mgmt.persistLast = s.mgmt.persistLast + 1
        ∧ t.mgmt.accepted = s.mgmt.accepted ++ [⟨stamp, o.key, v, some (s.mgmt.persistLast + 1)⟩] ∧ t.mgmt.rwp = s.mgmt.rwp)
    ∧ (∀ v o v' o' seq' sub' (index' : Word16) stamp', (s.trans tr).queue = [⟨requestFrame 2 seq sub index v, stamp, none⟩] → rest = [] →
      (s.trans (otherTransport tr)).queue = [⟨requestFrame 2 seq' sub' index' v', stamp', none⟩] → s.mgmt.turn = tr → stamp' < stamp →
      v.length ≤ 56 → findObj key = some o → o.acc = .rwp → s.writeStatus o v false false = 0 →
      v'.length ≤ 56 → findObj (index'.toNat, sub'.toNat) = some o' → o'.acc = .rwp → s.writeStatus o' v' false false = 0 →
      ∃ t, answers (.write tr) t 0x82 0 (leBytes 4 (s.mgmt.persistLast + 2).toNat) ∧ t.mgmt.persistLast = s.mgmt.persistLast + 2
        ∧ t.mgmt.accepted = s.mgmt.accepted
          ++ [⟨stamp', o'.key, v', some (s.mgmt.persistLast + 1)⟩, ⟨stamp, o.key, v, some (s.mgmt.persistLast + 2)⟩])
    ∧ (∀ o, asks 3 [] → findObj key = some o → o.acc ≠ .wo → s.unavailable index.toNat = false →
      ∃ t, answers (.sreadInit tr) t 0x83 0 (leBytes 4 (s.published o).length) ∧ (t.trans tr).rd = some ⟨key, s.published o, 0⟩)
    ∧ (asks 4 [] → sub = 0 → ((s.trans tr).rd = none → ∃ t, answers (.sreadSeg tr) t 0x84 8 [])
      ∧ ∀ x, (s.trans tr).rd = some x → 56 * index.toNat < x.data.length →
        ∃ t, answers (.sreadSeg tr) t 0x84 0 ((x.data.drop (56 * index.toNat)).take 56) ∧ (t.trans tr).rd = some { x with idle := 0 })
    ∧ (∀ n o, asks 5 (leBytes 4 n) → findObj key = some o → o.acc = .rwp → 0 < n → n ≤ 1048576 → o.lengthBad n = false →
      s.unavailable index.toNat = false → ∃ t, answers (.swriteInit tr) t 0x85 0 [] ∧ (t.trans tr).wr = some ⟨key, n, [], 0, 0⟩)
    ∧ (∀ v x, asks 6 v → sub = 0 → (s.trans tr).wr = some x → v.length ≤ 56 → let last := (x.total - 1) / 56
      let fits := index.toNat ≤ last → v.length = if index.toNat < last then 56 else x.total - 56 * last
      (fits → index.toNat = x.expected → index.toNat < last → ∃ t, answers (.swriteSeg tr) t 0x86 0 []
        ∧ (t.trans tr).wr = some { x with got := x.got ++ v, expected := x.expected + 1, idle := 0 })
      ∧ (fits → index.toNat ≠ x.expected → ∃ t, answers (.swriteSeg tr) t 0x86 7 (leBytes 2 x.expected)
        ∧ (t.trans tr).wr = some { x with idle := 0 })
      ∧ (¬fits → ∃ t, answers (.swriteSeg tr) t 0x86 4 [] ∧ (t.trans tr).wr = some { x with idle := 0 }))
    ∧ (asks 7 [] → index = 0 → sub = 0 → ((s.trans tr).rd ≠ none ∨ (s.trans tr).wr ≠ none) →
      ∃ t, answers (.abort tr) t 0x87 0 [] ∧ (t.trans tr).rd = none ∧ (t.trans tr).wr = none)
    ∧ (∀ cmd v, asks cmd v → v.length ≤ 56 → (cmd = 0 ∨ 7 < cmd.toNat) → ∃ t, answers (.unknownRequest tr) t 0x80 10 [])
    ∧ ((s.trans (otherTransport tr)).queue ≠ [] → s.mgmt.turn ≠ tr →
      ∀ c ∈ [Instr.read tr, .write tr, .sreadInit tr, .sreadSeg tr, .swriteInit tr, .swriteSeg tr, .abort tr, .unknownRequest tr],
        exec c s = .next s)
    ∧ ∃ t, exec (.segmentTransferTimeout tr) s = .next t ∧ (t.trans tr).queue = (s.trans tr).queue
      ∧ (∀ x, (s.trans tr).rd = some x → (t.trans tr).rd = if 2000 ≤ x.idle then none else some x)
      ∧ (∀ x, (s.trans tr).wr = some x → (t.trans tr).wr = if 2000 ≤ x.idle then none else some x)

/-- CAN FD: a request frame to the module's identifier joins a queue of 16, in its order of receipt, or is dropped and counted; other frames are
counted, and one with an error raises the receive error count; a frame is sent, waits after lost arbitration, and is retransmitted after an error
until bus-off, which ends in error-active (12 R342, R346). The model's choices: the error counters are log 36, and that 1001h/03h also counts a frame
that a full queue drops is log 121. -/
def Obligations.CanFramesAreCountedAndSent : Prop :=
  ∀ (s : State), s.power.phase ≠ .off → s.mgmt.canState = .errorActive ∨ s.mgmt.canState = .errorPassive →
    let m := s.mgmt.heard
    (∀ (id : BitVec 11) data, data.length = 64 → id.toNat = 0x400 + m.node.toNat →
      (m.can.queue.length < 16 → exec (.canFrameReceive (.fd id data)) s = .next { s with mgmt := { m with
        can := { m.can with queue := m.can.queue ++ [⟨data, m.stamp, none⟩] }, stamp := m.stamp + 1, canRx := satAdd m.canRx 1 } })
      ∧ (16 ≤ m.can.queue.length → exec (.canFrameReceive (.fd id data)) s = .next { s with mgmt := { m with
        stamp := m.stamp + 1, canRx := satAdd m.canRx 1, canDropped := satAdd m.canDropped 1 } })
      ∧ exec (.canFrameReceive (.fdShort id)) s = .next { s with mgmt := { m with canOtherDlc := satAdd m.canOtherDlc 1 } })
    ∧ exec (.canFrameReceive .classical) s = .next { s with mgmt := { m with canIgnored := satAdd m.canIgnored 1 } }
    ∧ (exec (.canFrameReceive .error) s = .next { s with mgmt := { s.mgmt with
        rxErrors := s.mgmt.rxErrors + 1, canState := canStateOf s.mgmt.txErrors (s.mgmt.rxErrors + 1) } })
    ∧ (∀ id data rest, m.txq = (id, data) :: rest →
      (∃ t, exec (.canFrameTransmit .sent) s = .next t ∧ t.out = s.out ++ [.can id data] ∧ t.mgmt.txq = rest)
      ∧ exec (.canFrameTransmit .lostArbitration) s = .next s
      ∧ ∃ t, exec (.canFrameTransmit .error) s = .next t ∧ t.mgmt.txq = m.txq ∧ t.out = s.out
        ∧ (t.mgmt.canState = .busOff ↔ 248 ≤ m.txErrors))
    ∧ ∀ u : State, u.mgmt.canState = .busOff → exec .canBusOffRecovery u
      = .next { u with mgmt := { u.mgmt with canState := .errorActive, txErrors := 0, rxErrors := 0 } }

/-- A frame boundary counts the frame, applies every accepted write and publishes: a bell period that was written is in effect and reads back. A
record is safe when both flash devices hold it, and the number reported safe stays below every number that is not; compaction keeps the latest
record of each object, one device after the other; a stored image takes its persist number (12 R340, R341, R359, R360; 09 R282; the order of the
devices is log 110). -/
def Obligations.BoundariesApplyAndJournal : Prop :=
  ∀ (s : State), s.controllerOn = true →
    (∀ dt x, ∃ t, exec (.mgmtFrameBoundary dt x) s = .next t ∧ t.mgmt.frames = satAdd s.mgmt.frames 1 ∧ t.mgmt.accepted = []
      ∧ ∀ (n p : Word32) (stamp : Nat), s.power.phase = .run → s.mgmt.accepted = [⟨stamp, (0x2000, 1), leBytes 4 n.toNat, some p⟩] →
        s.mgmt.can.queue = [] → s.mgmt.mailbox.queue = [] → t.mgmt.rwp = { s.mgmt.rwp with periodUs := n }
          ∧ (t.mgmt.pub.find? fun e => e.1 == (0x2000, 1)).map Prod.snd = some (leBytes 4 n.toNat)
          ∧ t.mgmt.toPersist = s.mgmt.toPersist ++ [⟨(0x2000, 1), leBytes 4 n.toNat, p⟩])
    ∧ (∀ r rs, s.mgmt.toPersist = r :: rs →
      (∃ t, exec (.journalPersist true true) s = .next t ∧ t.mgmt.toPersist = rs
        ∧ (let waiting := rs.map JournalRec.persist ++ s.mgmt.accepted.filterMap AcceptedWrite.persist
          (0 : Word32) ∉ waiting → ∀ p ∈ waiting, t.mgmt.persistSafe.toNat < p.toNat)
        ∧ (rs = [] → s.mgmt.accepted = [] → t.mgmt.persistSafe = s.mgmt.persistLast)
        ∧ r ∈ t.flash.journalA ∧ r ∈ t.flash.journalB ∧ t.mgmt.rwp = s.mgmt.rwp)
      ∧ ∀ a b, (a && b) = false → ∃ t, exec (.journalPersist a b) s = .next t ∧ t.mgmt.toPersist = r :: rs
        ∧ t.mgmt.persistSafe = s.mgmt.persistSafe ∧ t.mgmt.failA = !a ∧ t.mgmt.failB = !b)
    ∧ (let kept (l : List JournalRec) (r : JournalRec) : Prop := r ∈ l ∧ ∀ q ∈ l, q.key = r.key → q.persist.toNat ≤ r.persist.toNat
      (s.mgmt.compacting = false → ∃ t, exec (.journalCompaction true) s = .next t ∧ t.mgmt.compacting = true
        ∧ (∀ r, r ∈ t.flash.journalA ↔ kept s.flash.journalA r) ∧ t.flash.journalB = s.flash.journalB)
      ∧ (s.mgmt.compacting = true → ∃ t, exec (.journalCompaction true) s = .next t ∧ t.mgmt.compacting = false
        ∧ (∀ r, r ∈ t.flash.journalB ↔ kept s.flash.journalB r) ∧ t.flash.journalA = s.flash.journalA))
    ∧ ∀ (i : Fin 64) image, s.power.phase = .run → s.sec.life ≠ .void → (16 ≤ image.length ∧ image.length ≤ 264 ∧ image.length % 8 = 0) →
      ∃ t, exec (.decodeImageWrite i image) s = .next t ∧ t.mgmt.rwp = { s.mgmt.rwp with images := s.mgmt.rwp.images.set i image }
        ∧ t.mgmt.persistLast = s.mgmt.persistLast + 1 ∧ t.table = s.table
        ∧ t.mgmt.toPersist = s.mgmt.toPersist ++ [⟨(0x9100 + i.val, 1), image, s.mgmt.persistLast + 1⟩]

/-- The commands of CMD objects: power, admission hold, retirement, which the next evaluation decides, field records, defaults and coverage runs, and
the rail warning (01 R17; 06 R178; 10 R296; 12 R361, R365, R367; 13 R370, R382-R384, R390; 14 R405). The model's choices: the fixed plan is log 109,
and that a report in signature mode gives its result alone is log 150. -/
def Obligations.CommandsTakeTheirEffect : Prop :=
  ∀ (s : State), s.power.phase = .run →
    (∃ t, exec .moduleWarmReset s = .next t ∧ t.power.warmPending = true ∧ t.admissionHeld = true ∧ t.mgmt.cmds.power = .pending ∧ s.sameBytes t)
    ∧ (∃ t, exec .enterModuleStandby s = .next t ∧ t.power.standbyPending = true ∧ t.admissionHeld = true ∧ t.mgmt.cmds.power = .pending)
    ∧ (∃ t, exec .leaveModuleStandby s = .next t ∧ t.mgmt.cmds.power = .refused ∧ t.power = s.power)
    ∧ (∀ u : State, u.power.phase = .standby → u.power.main48 = true → u.sec.life ≠ .void →
      (u.power.sinceTrip = none ∨ ∃ n, u.power.sinceTrip = some n ∧ 20000 ≤ n) →
      ∃ t, exec .leaveModuleStandby u = .next t ∧ t.power.phase = .enabling ∧ t.mgmt.cmds.power = .done)
    ∧ (let ends (v : Bool) : State := { s with
        tt := { s.tt with held := v }
        mgmt := { s.mgmt with cmds := { s.mgmt.cmds with hold := .done } } }
      exec .timetableHold s = .next (ends true) ∧ exec .timetableResume s = .next (ends false))
    ∧ (∀ v u, retireTarget v = some u → s.unitRetired u = false → ∃ t, exec (.retireUnit v) s = .next t ∧ t.mgmt.cmds.retire = .done
      ∧ t.repair = { s.repair with failed := s.repair.failed ++ [(u, 2, false)] })
    ∧ (∀ v u, retireTarget v = some u → s.unitRetired u = true → ∃ t, exec (.retireUnit v) s = .next t ∧ t.mgmt.cmds.retire = .refused
      ∧ t.repair = s.repair)
    ∧ (∀ n r, s.repair.field[n]? = some r → s.sec.life.open_ = true →
      (∃ t, exec (.deleteFieldRecord n) s = .next t ∧ r ∉ t.repair.field ∧ r ∉ t.flash.field ∧ r ∉ t.repair.toSave
        ∧ t.mgmt.cmds.delete = .done ∧ t.slots = s.slots)
      ∧ ∃ t, exec .deleteAllFieldRecords s = .next t ∧ t.repair.field = [] ∧ t.flash.field = [] ∧ t.repair.toSave = []
        ∧ t.mgmt.cmds.delete = .done ∧ t.slots = s.slots)
    ∧ (∃ t, exec .restoreDefaults s = .next t ∧ t.mgmt.rwp = Rwp.defaults ∧ t.mgmt.cmds.defaults = .done
      ∧ t.mgmt.toPersist.length = s.mgmt.toPersist.length + rwpKeys.length)
    ∧ (s.sec.life.open_ = true → s.holdState = 2 → bistImageOk s.mgmt.rwp.bistProgram = true → s.bist.running = false →
      ∃ t, exec .coverageRunStart s = .next t ∧ t.bist.running = true ∧ t.mgmt.cmds.bist = .pending ∧ t.admissionHeld = true)
    ∧ (s.bist.running = true → ∀ n us, let planned := programPlanned s.mgmt.rwp.bistProgram
      let shown : BitVec 32 := if s.mgmt.rwp.bistMode = 1 then BitVec.ofNat 32 n else 0
      (n ≤ planned → ∃ t, exec (.coverageRunEnd n us) s = .next t ∧ t.bist.running = false ∧ t.mgmt.cmds.bist = .done
        ∧ t.bist.lastN = shown ∧ t.bist.lastKind = 3 ∧ s.sameBytes t)
      ∧ (n < planned → ∃ t, exec (.bistAbort n us) s = .next t ∧ t.bist.running = false ∧ t.mgmt.cmds.bist = .done
        ∧ t.bist.lastN = shown ∧ s.sameBytes t))
    ∧ ∃ t, exec .powerStageRailWarning s = .next t ∧ t.mgmt.health[6] = satAdd s.mgmt.health[6] 1 ∧ t.mgmt.sawHealth = true ∧ s.sameBytes t

/-! ### Security -/

/-- Attestation signs the nonce with the next index, reserving 256 indices in both devices first, and refuses once the indices are used up or the
reservation fails; an image that does not verify is not stored, and a verified one goes to the area that is not in use; the fuses take one
transition at a time, to RETURNED only with a pass of Brirel's in force, and the state in effect does not change until the next start-up; hall
passes are checked in the order of the result codes, an accepted one takes effect at the next boundary, and passes end at their bell or together
(14 R395-R408). The model's choices: what a failed program or reservation leaves is logs 111, 112, the order of the upload's reasons log 37, and that
a transition starts from the fuses already blown is log 95. -/
def Obligations.SecurityRowsKeepTheirRules : Prop :=
  ∀ (s : State), s.controllerOn = true →
    (∀ (c : Fin 4) (nonce : List Byte), nonce.length = 32 →
      (s.fuses.identity = false → ∀ ok, ∃ t, exec (.attestationRequest c nonce ok) s = .next t ∧ t.sec.channels[c].reason = 3
        ∧ t.mgmt.cmds.attest[c] = .refused ∧ t.sec.index = s.sec.index ∧ t.flash = s.flash)
      ∧ (s.fuses.identity = true → 1048576 ≤ s.sec.index → ∀ ok, ∃ t, exec (.attestationRequest c nonce ok) s = .next t
        ∧ t.sec.channels[c].reason = 1 ∧ t.mgmt.cmds.attest[c] = .refused ∧ t.sec.index = s.sec.index ∧ t.flash = s.flash)
      ∧ (s.fuses.identity = true → s.sec.index < 1048576 → ∀ ok, let reserved := Min.min s.flash.rtA s.flash.rtB
        (s.sec.index < reserved ∨ ok = true → ∃ t body sig, exec (.attestationRequest c nonce ok) s = .next t ∧ t.sec.index = s.sec.index + 1
          ∧ t.mgmt.cmds.attest[c] = .done ∧ t.sec.channels[c].reason = 0 ∧ t.sec.channels[c].report = body ++ sig
          ∧ sig = fitBytes 2820 (Config.xmssSign s.sec.index body) ∧ (body.drop 24).take 32 = nonce
          ∧ (body.drop 56).take 32 = digest (Config.shake256 Config.identityKey)
          ∧ (s.sec.index < reserved → t.flash = s.flash ∧ t.sec.flashFault = s.sec.flashFault)
          ∧ (reserved ≤ s.sec.index → let n := Min.min (s.sec.index + 256) 1048576
            t.flash = { s.flash with rtA := n, rtB := n } ∧ t.sec.flashFault = false))
        ∧ (reserved ≤ s.sec.index → ok = false → ∃ t, exec (.attestationRequest c nonce ok) s = .next t ∧ t.sec.channels[c].reason = 2
          ∧ t.sec.channels[c].report = s.sec.channels[c].report ∧ t.mgmt.cmds.attest[c] = .refused ∧ t.sec.index = s.sec.index
          ∧ t.sec.flashFault = true ∧ t.flash.rtB = s.flash.rtB)))
    ∧ (∀ v, s.uploads 1 v (.firmwareImageUpload v) (fun t => if s.sec.fwInB then t.flash.fwA else t.flash.fwB)
        (fun t => if s.sec.fwInB then t.flash.fwB else t.flash.fwA)
      ∧ s.uploads 2 v (.bootImageUpload v) (fun t => if s.power.bank = 1 then t.flash.bootA else t.flash.bootB)
        (fun t => if s.power.bank = 1 then t.flash.bootB else t.flash.bootA))
    ∧ (let ends (code : Byte) (life : Life) (r : CmdStatus) : Prop := exec (.lifeCycleTransition code) s
        = .next { s with fuses := { s.fuses with life := life }, mgmt := { s.mgmt with cmds := { s.mgmt.cmds with lifeCycle := r } } }
      let vendor := ∃ (i : StreamId) (g : Grant), s.sec.grants[i] = some g ∧ g.signer = 0
      ∀ code, if code = 4 then ends code .void .done
        else if s.fuses.life = .provisioned ∧ code = 2 then ends code .deployed .done
        else if s.fuses.life = .deployed ∧ code = 3 then (vendor → ends code .returned .done) ∧ (¬vendor → ends code .deployed .refused)
        else ends code s.fuses.life .refused)
    ∧ (∀ v, s.sec.life = .deployed → exec (.hallPassSubmit v) s = .next { s with sec := { s.sec with pass := some v } })
    ∧ (∀ v, s.sec.life ≠ .deployed → exec (.hallPassSubmit v) s = .next s)
    ∧ (s.sec.pass = none → exec .hallPassDecision s = .next s)
    ∧ (∀ v code, s.sec.pass = some v → s.passVerdict v code → exec .hallPassDecision s = .next { s with sec := { s.sec with
        pass := none, lastPass := code, accepted := if code = 1 then some v else s.sec.accepted } })
    ∧ (∀ v dt x, s.sec.accepted = some v → s.mgmt.accepted = [] → s.mgmt.can.queue = [] → s.mgmt.mailbox.queue = [] →
      let field (a n : Nat) : Nat := leNat ((v.drop a).take n)
      ∃ t, exec (.mgmtFrameBoundary dt x) s = .next t ∧ t.sec.accepted = none
        ∧ t.sec.meas[7] = Config.shake256 (digest s.sec.meas[7] ++ v)
        ∧ ∀ i : StreamId, if (field 16 8).testBit i.val = false then t.sec.grants[i] = s.sec.grants[i]
          else if field 8 8 % 2 ^ 48 ≤ s.tt.bellNum.toNat then t.sec.grants[i] = none
          else ∃ g, t.sec.grants[i] = some g ∧ g.level.toNat = field 1 1 % 4 ∧ g.expiry.toNat = field 8 8 % 2 ^ 48 ∧ g.signer.toNat = field 2 1 % 2)
    ∧ (∀ dt, (s.elapse dt).power.phase = .run → (s.elapse dt).power.ready = true → (s.elapse dt).tt.timer = 0 →
      ∃ t, exec (.bellTimerExpiry dt) s = .next t ∧ ∀ i : StreamId,
        (∀ g, s.sec.grants[i] = some g → t.sec.grants[i] = if g.expiry.toNat ≤ t.tt.bellNum.toNat then none else some g)
        ∧ (s.sec.grants[i] = none → t.sec.grants[i] = none))
    ∧ ∃ t, exec .endAllPasses s = .next t ∧ (∀ i : StreamId, t.sec.grants[i] = none) ∧ t.mgmt.cmds.endPasses = .done ∧ s.sameBytes t

/-! ### Supplies, start-up and the TAP -/

/-- Supplies, rails, start-up and resets: each leaves the state that the chapter names, a clean start-up releases the module with the identity
maps, and a warm reset keeps the memories (13 R368-R379, R390-R393; 11 R318, R339; 14 R405; 15 R435). The model's choices: the state after release
is also logs 116, 117, 120, the corrected write-backs that wait at a warm reset are dropped (log 170), a host reset clears what a decision sees (log
178), a loss of the main input while the rails rise is log 119, the life that AUX shows is log 89, and memories of zeros after a loss of AUX or in
standby are log 14. -/
def Obligations.PowerEventsMoveThePhases : Prop :=
  ∀ (s : State),
    (∀ sb badA badB rtA rtB, s.power.phase = .off → ((s.flash.fwA.verified = true ∧ badA = false) ∨ (s.flash.fwB.verified = true ∧ badB = false)) →
      ∃ t, exec (.auxOn ⟨sb, badA, badB, rtA, rtB⟩) s = .next t ∧ t.mgmt.node = sb ∧ t.sec.life = s.sec.life ∧ t.mgmt.frames = 0
        ∧ t.sec.flashFault = s.sec.flashFault ∧ (rtA = false → rtB = false → t.sec.index = Max.max s.flash.rtA s.flash.rtB)
        ∧ (rtA = true → rtB = false → t.sec.index = s.flash.rtB) ∧ (rtA = false → rtB = true → t.sec.index = s.flash.rtA)
        ∧ t.power.phase = (if s.power.main48 && t.mgmt.rwp.autoLeave then .enabling else .standby))
    ∧ (∀ sb badA badB rtA rtB, s.power.phase = .off → (s.flash.fwA.verified = false ∨ badA = true) → (s.flash.fwB.verified = false ∨ badB = true) →
      ∃ t, exec (.auxOn ⟨sb, badA, badB, rtA, rtB⟩) s = .next t ∧ t.power.phase = .recovery ∧ t.power.result = 0x10)
    ∧ (∃ t, exec .auxLoss s = .next t ∧ t.power.phase = .off ∧ t.sec.life = s.sec.life ∧ t.fuses = s.fuses ∧ t.flash = s.flash ∧ t.mem = State.reset.mem
      ∧ t.pending = s.pending ∧ ∀ k : SlotId, (t.slot k).desk.mem = Mem.zero)
    ∧ (∃ t, exec .mainInputReturn s = .next t ∧ t.power.main48 = true
      ∧ (s.power.phase = .standby → (s.mgmt.rwp.autoLeave || s.power.leaveAsked) = true → t.power.phase = .enabling)
      ∧ (s.power.phase ≠ .standby → t.power.phase = s.power.phase))
    ∧ (∃ t, exec .mainInputLoss s = .next t ∧ t.power.main48 = false
      ∧ (s.power.phase = .run → t.power.phase = .standby ∧ t.power.cause = 3)
      ∧ (s.power.phase = .enabling → t.power.phase = .standby ∧ t.power.result = 0x12 ∧ t.power.cause = 3))
    ∧ (s.power.phase = .enabling → ∃ t, exec .pwrgdTimeout s = .next t ∧ t.power.phase = .standby ∧ t.power.result = 0x12)
    ∧ (s.power.phase = .run → ∃ t, exec .thermalTrip s = .next t ∧ t.power.phase = .standby ∧ t.power.cause = 4 ∧ t.power.thermtripN = false
      ∧ t.power.trips = satAdd s.power.trips 1 ∧ t.power.sinceTrip = some 0)
    ∧ (∀ o, s.power.phase = .enabling →
      (o.thermal ≠ some .fuses → o.fuseOk = false → ∃ t, exec (.mainPowerGood o) s = .next t ∧ t.power.phase = .standby ∧ t.power.result = 0x20)
      ∧ (s.startsClean o → ∃ t, exec (.mainPowerGood o) s = .next t ∧ t.power.phase = .run ∧ t.power.ready = false ∧ t.table.sealed = true
        ∧ t.flash.releases = satAdd s.flash.releases 1 ∧ t.tt.open_ = false ∧ t.sec.life = s.fuses.life
        ∧ (∀ i : StreamId, t.slotOf i = some ⟨17 * (i.val / 16) + i.val % 16, by omega⟩) ∧ t.portCount = 31))
    ∧ (∀ o, s.bellDone = true → s.power.warmPending = true → s.startsClean o →
      ∃ t, exec (.warmResetExecute o) s = .next t ∧ t.power.phase = .run ∧ t.power.cause = 5 ∧ t.mem = { s.mem with writeBacks := [] }
        ∧ ∀ k : SlotId, (t.slot k).desk.mem = (s.slot k).desk.mem ∧ t.regs k = Regs.reset)
    ∧ (s.bellDone = true → s.power.standbyPending = true → s.power.warmPending = false →
      ∃ t, exec .standbyEntryExecute s = .next t ∧ t.power.phase = .standby ∧ t.power.cause = 2 ∧ t.flash = s.flash ∧ t.mem.mem = Mem.zero)
    ∧ (∀ why, ∃ t, exec (.hostReset why) s = .next t ∧ t.host.linkUp = false ∧ t.mgmt.mailbox = TransportState.reset
      ∧ ((∀ k : SlotId, ∀ l ∈ (s.slot k).desk.dma, l.txn = none) → t.slots = s.slots)
      ∧ t.mem = s.mem ∧ t.tt = { s.tt with view := t.tt.view } ∧ ∀ q : QueueId, t.host.pairs[q].state = .disabled)
    ∧ (s.power.phase = .run → exec (.hostLinkTraining 16 640) s
      = .next { s with host := { s.host with perstN := true, linkUp := true, lanes := 16, rate := 640 } })

/-- The TAP: each instruction takes the instruction register, IDCODE shifts out its code, and EXTEST, CLAMP and HIGHZ drive pins in BLANK and
RETURNED only (14 R422; what the reset selects is log 27). -/
def Obligations.TapInstructionsDriveOnlyWhereAllowed : Prop :=
  ∀ (s : State), s.power.phase ≠ .off →
    let may := s.sec.life = .blank ∨ s.sec.life = .returned
    let loads (c : Instr) (ir : TapInstr) (driven highz : Bool) : Prop :=
      exec c s = .next { s with tap := { s.tap with ir := ir, driven := driven, highz := highz } }
    loads .tapReset .idcode false false ∧ loads .bypass .bypass false false
    ∧ exec .idcode s = .next { s with
        tap := { s.tap with ir := .idcode, driven := false, highz := false }, out := s.out ++ [.tdo 0x1C06496B] }
    ∧ (∀ a b, exec (.samplePreload a b) s = .next { s with
        tap := { s.tap with ir := .samplePreload, driven := false, highz := false, preload := b
                            sampled := ⟨s.host.perstN, s.power.pwrgd, s.faultN, s.power.thermtripN, a⟩ } })
    ∧ (may → loads .extest .extest true false ∧ loads .clamp .clamp true false ∧ loads .highz .highz false true)
    ∧ (¬may → loads .extest .extest false false ∧ loads .clamp .clamp false false ∧ loads .highz .highz false false)

/-! ### The whole module -/

/-- A step takes the command at the front of the queue and runs it on the state with the rest of the queue; with an empty queue one clk passes
(the second is the model's choice, log 2). -/
def Obligations.StepRunsTheFrontCommand : Prop :=
  ∀ (s : State),
    (∀ c rest, s.pending = c :: rest → step s = exec c { s with pending := rest })
    ∧ (s.pending = [] → ∃ t, step s = .next t ∧ t.pending = [] ∧ s.sameBytes t ∧ (∀ k, t.regs k = s.regs k)
      ∧ (s.power.phase = .run → t.clk = s.clk + 1))

/-- Reset: the state of a module without AUX: nothing queued, no core runs, every memory in canonical form, and the fuses of a module as
shipped: PROVISIONED, with its identity key and no factory retirement (13 R368, R393). The fuses, and every value that the spec does not give, are
the model's choice (logs 1, 19, 21). -/
def Obligations.ResetIsAModuleWithoutPower : Prop :=
  State.reset.pending = [] ∧ State.reset.power.phase = .off ∧ State.reset.memWf = true
  ∧ (∀ k : SlotId, (State.reset.slot k).status = .quiet ∧ (State.reset.slot k).sbuf = [] ∧ (State.reset.slot k).eng.queue = [])
  ∧ State.reset.fuses.life = .provisioned ∧ State.reset.fuses.returnedOnce = false ∧ State.reset.fuses.identity = true
  ∧ State.reset.fuses.factory = [] ∧ State.reset.sec.life = .provisioned
  ∧ State.reset.tt.open_ = false ∧ ∀ q : QueueId, State.reset.host.pairs[q].state = .disabled

/-- No command puts a command into the queue or takes one out: whatever runs, the commands that wait stay as they are (the sender fills the
queue). -/
def Obligations.NoCommandTouchesTheQueue : Prop :=
  ∀ (c : Instr) (s t : State), exec c s = .next t → t.pending = s.pending

/-- Every step keeps every byte memory of the module in canonical form: addresses strictly rising, and nothing listed that an unlisted address
reads as (the form is the model's, log 14). -/
def Obligations.EveryStepKeepsTheMemoriesInForm : Prop :=
  ∀ (s t : State), s.memWf = true → step s = .next t → t.memWf = true
end

