-- ==== Sys2Proof/Laws/State.lean ====
section
/-!
SUPPORT. What the named updates of the state leave alone: one equation for each field and update, so that no proof unfolds an update.
-/

namespace Sys2Proof.Machine

/-! ### State.setSlot -/

@[simp] theorem State.setSlot_pending (s : State) (k : SlotId) (x : Slot) : (s.setSlot k x).pending = s.pending := rfl
@[simp] theorem State.setSlot_free (s : State) (k : SlotId) (x : Slot) : (s.setSlot k x).free = s.free := rfl
@[simp] theorem State.setSlot_clk (s : State) (k : SlotId) (x : Slot) : (s.setSlot k x).clk = s.clk := rfl
@[simp] theorem State.setSlot_out (s : State) (k : SlotId) (x : Slot) : (s.setSlot k x).out = s.out := rfl
@[simp] theorem State.setSlot_power (s : State) (k : SlotId) (x : Slot) : (s.setSlot k x).power = s.power := rfl
@[simp] theorem State.setSlot_fuses (s : State) (k : SlotId) (x : Slot) : (s.setSlot k x).fuses = s.fuses := rfl
@[simp] theorem State.setSlot_flash (s : State) (k : SlotId) (x : Slot) : (s.setSlot k x).flash = s.flash := rfl
@[simp] theorem State.setSlot_sec (s : State) (k : SlotId) (x : Slot) : (s.setSlot k x).sec = s.sec := rfl
@[simp] theorem State.setSlot_mgmt (s : State) (k : SlotId) (x : Slot) : (s.setSlot k x).mgmt = s.mgmt := rfl
@[simp] theorem State.setSlot_ports (s : State) (k : SlotId) (x : Slot) : (s.setSlot k x).ports = s.ports := rfl
@[simp] theorem State.setSlot_mem (s : State) (k : SlotId) (x : Slot) : (s.setSlot k x).mem = s.mem := rfl
@[simp] theorem State.setSlot_work (s : State) (k : SlotId) (x : Slot) : (s.setSlot k x).work = s.work := rfl
@[simp] theorem State.setSlot_repair (s : State) (k : SlotId) (x : Slot) : (s.setSlot k x).repair = s.repair := rfl
@[simp] theorem State.setSlot_tt (s : State) (k : SlotId) (x : Slot) : (s.setSlot k x).tt = s.tt := rfl
@[simp] theorem State.setSlot_avail (s : State) (k : SlotId) (x : Slot) : (s.setSlot k x).avail = s.avail := rfl
@[simp] theorem State.setSlot_host (s : State) (k : SlotId) (x : Slot) : (s.setSlot k x).host = s.host := rfl
@[simp] theorem State.setSlot_sm (s : State) (k : SlotId) (x : Slot) : (s.setSlot k x).sm = s.sm := rfl
@[simp] theorem State.setSlot_xp (s : State) (k : SlotId) (x : Slot) : (s.setSlot k x).xp = s.xp := rfl
@[simp] theorem State.setSlot_table (s : State) (k : SlotId) (x : Slot) : (s.setSlot k x).table = s.table := rfl
@[simp] theorem State.setSlot_dbg (s : State) (k : SlotId) (x : Slot) : (s.setSlot k x).dbg = s.dbg := rfl
@[simp] theorem State.setSlot_bist (s : State) (k : SlotId) (x : Slot) : (s.setSlot k x).bist = s.bist := rfl
@[simp] theorem State.setSlot_tap (s : State) (k : SlotId) (x : Slot) : (s.setSlot k x).tap = s.tap := rfl

/-! ### State.modSlot -/

@[simp] theorem State.modSlot_pending (s : State) (k : SlotId) (f : Slot → Slot) : (s.modSlot k f).pending = s.pending := rfl
@[simp] theorem State.modSlot_free (s : State) (k : SlotId) (f : Slot → Slot) : (s.modSlot k f).free = s.free := rfl
@[simp] theorem State.modSlot_clk (s : State) (k : SlotId) (f : Slot → Slot) : (s.modSlot k f).clk = s.clk := rfl
@[simp] theorem State.modSlot_out (s : State) (k : SlotId) (f : Slot → Slot) : (s.modSlot k f).out = s.out := rfl
@[simp] theorem State.modSlot_power (s : State) (k : SlotId) (f : Slot → Slot) : (s.modSlot k f).power = s.power := rfl
@[simp] theorem State.modSlot_fuses (s : State) (k : SlotId) (f : Slot → Slot) : (s.modSlot k f).fuses = s.fuses := rfl
@[simp] theorem State.modSlot_flash (s : State) (k : SlotId) (f : Slot → Slot) : (s.modSlot k f).flash = s.flash := rfl
@[simp] theorem State.modSlot_sec (s : State) (k : SlotId) (f : Slot → Slot) : (s.modSlot k f).sec = s.sec := rfl
@[simp] theorem State.modSlot_mgmt (s : State) (k : SlotId) (f : Slot → Slot) : (s.modSlot k f).mgmt = s.mgmt := rfl
@[simp] theorem State.modSlot_ports (s : State) (k : SlotId) (f : Slot → Slot) : (s.modSlot k f).ports = s.ports := rfl
@[simp] theorem State.modSlot_mem (s : State) (k : SlotId) (f : Slot → Slot) : (s.modSlot k f).mem = s.mem := rfl
@[simp] theorem State.modSlot_work (s : State) (k : SlotId) (f : Slot → Slot) : (s.modSlot k f).work = s.work := rfl
@[simp] theorem State.modSlot_repair (s : State) (k : SlotId) (f : Slot → Slot) : (s.modSlot k f).repair = s.repair := rfl
@[simp] theorem State.modSlot_tt (s : State) (k : SlotId) (f : Slot → Slot) : (s.modSlot k f).tt = s.tt := rfl
@[simp] theorem State.modSlot_avail (s : State) (k : SlotId) (f : Slot → Slot) : (s.modSlot k f).avail = s.avail := rfl
@[simp] theorem State.modSlot_host (s : State) (k : SlotId) (f : Slot → Slot) : (s.modSlot k f).host = s.host := rfl
@[simp] theorem State.modSlot_sm (s : State) (k : SlotId) (f : Slot → Slot) : (s.modSlot k f).sm = s.sm := rfl
@[simp] theorem State.modSlot_xp (s : State) (k : SlotId) (f : Slot → Slot) : (s.modSlot k f).xp = s.xp := rfl
@[simp] theorem State.modSlot_table (s : State) (k : SlotId) (f : Slot → Slot) : (s.modSlot k f).table = s.table := rfl
@[simp] theorem State.modSlot_dbg (s : State) (k : SlotId) (f : Slot → Slot) : (s.modSlot k f).dbg = s.dbg := rfl
@[simp] theorem State.modSlot_bist (s : State) (k : SlotId) (f : Slot → Slot) : (s.modSlot k f).bist = s.bist := rfl
@[simp] theorem State.modSlot_tap (s : State) (k : SlotId) (f : Slot → Slot) : (s.modSlot k f).tap = s.tap := rfl

/-! ### State.setRegs -/

@[simp] theorem State.setRegs_pending (s : State) (k : SlotId) (r : Regs) : (s.setRegs k r).pending = s.pending := rfl
@[simp] theorem State.setRegs_free (s : State) (k : SlotId) (r : Regs) : (s.setRegs k r).free = s.free := rfl
@[simp] theorem State.setRegs_clk (s : State) (k : SlotId) (r : Regs) : (s.setRegs k r).clk = s.clk := rfl
@[simp] theorem State.setRegs_out (s : State) (k : SlotId) (r : Regs) : (s.setRegs k r).out = s.out := rfl
@[simp] theorem State.setRegs_power (s : State) (k : SlotId) (r : Regs) : (s.setRegs k r).power = s.power := rfl
@[simp] theorem State.setRegs_fuses (s : State) (k : SlotId) (r : Regs) : (s.setRegs k r).fuses = s.fuses := rfl
@[simp] theorem State.setRegs_flash (s : State) (k : SlotId) (r : Regs) : (s.setRegs k r).flash = s.flash := rfl
@[simp] theorem State.setRegs_sec (s : State) (k : SlotId) (r : Regs) : (s.setRegs k r).sec = s.sec := rfl
@[simp] theorem State.setRegs_mgmt (s : State) (k : SlotId) (r : Regs) : (s.setRegs k r).mgmt = s.mgmt := rfl
@[simp] theorem State.setRegs_ports (s : State) (k : SlotId) (r : Regs) : (s.setRegs k r).ports = s.ports := rfl
@[simp] theorem State.setRegs_mem (s : State) (k : SlotId) (r : Regs) : (s.setRegs k r).mem = s.mem := rfl
@[simp] theorem State.setRegs_work (s : State) (k : SlotId) (r : Regs) : (s.setRegs k r).work = s.work := rfl
@[simp] theorem State.setRegs_repair (s : State) (k : SlotId) (r : Regs) : (s.setRegs k r).repair = s.repair := rfl
@[simp] theorem State.setRegs_tt (s : State) (k : SlotId) (r : Regs) : (s.setRegs k r).tt = s.tt := rfl
@[simp] theorem State.setRegs_avail (s : State) (k : SlotId) (r : Regs) : (s.setRegs k r).avail = s.avail := rfl
@[simp] theorem State.setRegs_host (s : State) (k : SlotId) (r : Regs) : (s.setRegs k r).host = s.host := rfl
@[simp] theorem State.setRegs_sm (s : State) (k : SlotId) (r : Regs) : (s.setRegs k r).sm = s.sm := rfl
@[simp] theorem State.setRegs_xp (s : State) (k : SlotId) (r : Regs) : (s.setRegs k r).xp = s.xp := rfl
@[simp] theorem State.setRegs_table (s : State) (k : SlotId) (r : Regs) : (s.setRegs k r).table = s.table := rfl
@[simp] theorem State.setRegs_dbg (s : State) (k : SlotId) (r : Regs) : (s.setRegs k r).dbg = s.dbg := rfl
@[simp] theorem State.setRegs_bist (s : State) (k : SlotId) (r : Regs) : (s.setRegs k r).bist = s.bist := rfl
@[simp] theorem State.setRegs_tap (s : State) (k : SlotId) (r : Regs) : (s.setRegs k r).tap = s.tap := rfl

/-! ### State.setPort -/

@[simp] theorem State.setPort_pending (s : State) (p : PortId) (x : Port) : (s.setPort p x).pending = s.pending := rfl
@[simp] theorem State.setPort_free (s : State) (p : PortId) (x : Port) : (s.setPort p x).free = s.free := rfl
@[simp] theorem State.setPort_clk (s : State) (p : PortId) (x : Port) : (s.setPort p x).clk = s.clk := rfl
@[simp] theorem State.setPort_out (s : State) (p : PortId) (x : Port) : (s.setPort p x).out = s.out := rfl
@[simp] theorem State.setPort_power (s : State) (p : PortId) (x : Port) : (s.setPort p x).power = s.power := rfl
@[simp] theorem State.setPort_fuses (s : State) (p : PortId) (x : Port) : (s.setPort p x).fuses = s.fuses := rfl
@[simp] theorem State.setPort_flash (s : State) (p : PortId) (x : Port) : (s.setPort p x).flash = s.flash := rfl
@[simp] theorem State.setPort_sec (s : State) (p : PortId) (x : Port) : (s.setPort p x).sec = s.sec := rfl
@[simp] theorem State.setPort_mgmt (s : State) (p : PortId) (x : Port) : (s.setPort p x).mgmt = s.mgmt := rfl
@[simp] theorem State.setPort_slots (s : State) (p : PortId) (x : Port) : (s.setPort p x).slots = s.slots := rfl
@[simp] theorem State.setPort_mem (s : State) (p : PortId) (x : Port) : (s.setPort p x).mem = s.mem := rfl
@[simp] theorem State.setPort_work (s : State) (p : PortId) (x : Port) : (s.setPort p x).work = s.work := rfl
@[simp] theorem State.setPort_repair (s : State) (p : PortId) (x : Port) : (s.setPort p x).repair = s.repair := rfl
@[simp] theorem State.setPort_tt (s : State) (p : PortId) (x : Port) : (s.setPort p x).tt = s.tt := rfl
@[simp] theorem State.setPort_avail (s : State) (p : PortId) (x : Port) : (s.setPort p x).avail = s.avail := rfl
@[simp] theorem State.setPort_host (s : State) (p : PortId) (x : Port) : (s.setPort p x).host = s.host := rfl
@[simp] theorem State.setPort_sm (s : State) (p : PortId) (x : Port) : (s.setPort p x).sm = s.sm := rfl
@[simp] theorem State.setPort_xp (s : State) (p : PortId) (x : Port) : (s.setPort p x).xp = s.xp := rfl
@[simp] theorem State.setPort_table (s : State) (p : PortId) (x : Port) : (s.setPort p x).table = s.table := rfl
@[simp] theorem State.setPort_dbg (s : State) (p : PortId) (x : Port) : (s.setPort p x).dbg = s.dbg := rfl
@[simp] theorem State.setPort_bist (s : State) (p : PortId) (x : Port) : (s.setPort p x).bist = s.bist := rfl
@[simp] theorem State.setPort_tap (s : State) (p : PortId) (x : Port) : (s.setPort p x).tap = s.tap := rfl

/-! ### State.modPort -/

@[simp] theorem State.modPort_pending (s : State) (p : PortId) (f : Port → Port) : (s.modPort p f).pending = s.pending := rfl
@[simp] theorem State.modPort_free (s : State) (p : PortId) (f : Port → Port) : (s.modPort p f).free = s.free := rfl
@[simp] theorem State.modPort_clk (s : State) (p : PortId) (f : Port → Port) : (s.modPort p f).clk = s.clk := rfl
@[simp] theorem State.modPort_out (s : State) (p : PortId) (f : Port → Port) : (s.modPort p f).out = s.out := rfl
@[simp] theorem State.modPort_power (s : State) (p : PortId) (f : Port → Port) : (s.modPort p f).power = s.power := rfl
@[simp] theorem State.modPort_fuses (s : State) (p : PortId) (f : Port → Port) : (s.modPort p f).fuses = s.fuses := rfl
@[simp] theorem State.modPort_flash (s : State) (p : PortId) (f : Port → Port) : (s.modPort p f).flash = s.flash := rfl
@[simp] theorem State.modPort_sec (s : State) (p : PortId) (f : Port → Port) : (s.modPort p f).sec = s.sec := rfl
@[simp] theorem State.modPort_mgmt (s : State) (p : PortId) (f : Port → Port) : (s.modPort p f).mgmt = s.mgmt := rfl
@[simp] theorem State.modPort_slots (s : State) (p : PortId) (f : Port → Port) : (s.modPort p f).slots = s.slots := rfl
@[simp] theorem State.modPort_mem (s : State) (p : PortId) (f : Port → Port) : (s.modPort p f).mem = s.mem := rfl
@[simp] theorem State.modPort_work (s : State) (p : PortId) (f : Port → Port) : (s.modPort p f).work = s.work := rfl
@[simp] theorem State.modPort_repair (s : State) (p : PortId) (f : Port → Port) : (s.modPort p f).repair = s.repair := rfl
@[simp] theorem State.modPort_tt (s : State) (p : PortId) (f : Port → Port) : (s.modPort p f).tt = s.tt := rfl
@[simp] theorem State.modPort_avail (s : State) (p : PortId) (f : Port → Port) : (s.modPort p f).avail = s.avail := rfl
@[simp] theorem State.modPort_host (s : State) (p : PortId) (f : Port → Port) : (s.modPort p f).host = s.host := rfl
@[simp] theorem State.modPort_sm (s : State) (p : PortId) (f : Port → Port) : (s.modPort p f).sm = s.sm := rfl
@[simp] theorem State.modPort_xp (s : State) (p : PortId) (f : Port → Port) : (s.modPort p f).xp = s.xp := rfl
@[simp] theorem State.modPort_table (s : State) (p : PortId) (f : Port → Port) : (s.modPort p f).table = s.table := rfl
@[simp] theorem State.modPort_dbg (s : State) (p : PortId) (f : Port → Port) : (s.modPort p f).dbg = s.dbg := rfl
@[simp] theorem State.modPort_bist (s : State) (p : PortId) (f : Port → Port) : (s.modPort p f).bist = s.bist := rfl
@[simp] theorem State.modPort_tap (s : State) (p : PortId) (f : Port → Port) : (s.modPort p f).tap = s.tap := rfl

/-! ### State.writeDesk -/

@[simp] theorem State.writeDesk_pending (s : State) (k : SlotId) (o : Nat) (b : List Byte) : (s.writeDesk k o b).pending = s.pending := rfl
@[simp] theorem State.writeDesk_free (s : State) (k : SlotId) (o : Nat) (b : List Byte) : (s.writeDesk k o b).free = s.free := rfl
@[simp] theorem State.writeDesk_clk (s : State) (k : SlotId) (o : Nat) (b : List Byte) : (s.writeDesk k o b).clk = s.clk := rfl
@[simp] theorem State.writeDesk_out (s : State) (k : SlotId) (o : Nat) (b : List Byte) : (s.writeDesk k o b).out = s.out := rfl
@[simp] theorem State.writeDesk_power (s : State) (k : SlotId) (o : Nat) (b : List Byte) : (s.writeDesk k o b).power = s.power := rfl
@[simp] theorem State.writeDesk_fuses (s : State) (k : SlotId) (o : Nat) (b : List Byte) : (s.writeDesk k o b).fuses = s.fuses := rfl
@[simp] theorem State.writeDesk_flash (s : State) (k : SlotId) (o : Nat) (b : List Byte) : (s.writeDesk k o b).flash = s.flash := rfl
@[simp] theorem State.writeDesk_sec (s : State) (k : SlotId) (o : Nat) (b : List Byte) : (s.writeDesk k o b).sec = s.sec := rfl
@[simp] theorem State.writeDesk_mgmt (s : State) (k : SlotId) (o : Nat) (b : List Byte) : (s.writeDesk k o b).mgmt = s.mgmt := rfl
@[simp] theorem State.writeDesk_ports (s : State) (k : SlotId) (o : Nat) (b : List Byte) : (s.writeDesk k o b).ports = s.ports := rfl
@[simp] theorem State.writeDesk_mem (s : State) (k : SlotId) (o : Nat) (b : List Byte) : (s.writeDesk k o b).mem = s.mem := rfl
@[simp] theorem State.writeDesk_work (s : State) (k : SlotId) (o : Nat) (b : List Byte) : (s.writeDesk k o b).work = s.work := rfl
@[simp] theorem State.writeDesk_repair (s : State) (k : SlotId) (o : Nat) (b : List Byte) : (s.writeDesk k o b).repair = s.repair := rfl
@[simp] theorem State.writeDesk_tt (s : State) (k : SlotId) (o : Nat) (b : List Byte) : (s.writeDesk k o b).tt = s.tt := rfl
@[simp] theorem State.writeDesk_avail (s : State) (k : SlotId) (o : Nat) (b : List Byte) : (s.writeDesk k o b).avail = s.avail := rfl
@[simp] theorem State.writeDesk_host (s : State) (k : SlotId) (o : Nat) (b : List Byte) : (s.writeDesk k o b).host = s.host := rfl
@[simp] theorem State.writeDesk_sm (s : State) (k : SlotId) (o : Nat) (b : List Byte) : (s.writeDesk k o b).sm = s.sm := rfl
@[simp] theorem State.writeDesk_xp (s : State) (k : SlotId) (o : Nat) (b : List Byte) : (s.writeDesk k o b).xp = s.xp := rfl
@[simp] theorem State.writeDesk_table (s : State) (k : SlotId) (o : Nat) (b : List Byte) : (s.writeDesk k o b).table = s.table := rfl
@[simp] theorem State.writeDesk_dbg (s : State) (k : SlotId) (o : Nat) (b : List Byte) : (s.writeDesk k o b).dbg = s.dbg := rfl
@[simp] theorem State.writeDesk_bist (s : State) (k : SlotId) (o : Nat) (b : List Byte) : (s.writeDesk k o b).bist = s.bist := rfl
@[simp] theorem State.writeDesk_tap (s : State) (k : SlotId) (o : Nat) (b : List Byte) : (s.writeDesk k o b).tap = s.tap := rfl

/-! ### State.draw -/

@[simp] theorem State.draw_pending (s : State)  : (s.draw.2).pending = s.pending := rfl
@[simp] theorem State.draw_clk (s : State)  : (s.draw.2).clk = s.clk := rfl
@[simp] theorem State.draw_out (s : State)  : (s.draw.2).out = s.out := rfl
@[simp] theorem State.draw_power (s : State)  : (s.draw.2).power = s.power := rfl
@[simp] theorem State.draw_fuses (s : State)  : (s.draw.2).fuses = s.fuses := rfl
@[simp] theorem State.draw_flash (s : State)  : (s.draw.2).flash = s.flash := rfl
@[simp] theorem State.draw_sec (s : State)  : (s.draw.2).sec = s.sec := rfl
@[simp] theorem State.draw_mgmt (s : State)  : (s.draw.2).mgmt = s.mgmt := rfl
@[simp] theorem State.draw_slots (s : State)  : (s.draw.2).slots = s.slots := rfl
@[simp] theorem State.draw_ports (s : State)  : (s.draw.2).ports = s.ports := rfl
@[simp] theorem State.draw_mem (s : State)  : (s.draw.2).mem = s.mem := rfl
@[simp] theorem State.draw_work (s : State)  : (s.draw.2).work = s.work := rfl
@[simp] theorem State.draw_repair (s : State)  : (s.draw.2).repair = s.repair := rfl
@[simp] theorem State.draw_tt (s : State)  : (s.draw.2).tt = s.tt := rfl
@[simp] theorem State.draw_avail (s : State)  : (s.draw.2).avail = s.avail := rfl
@[simp] theorem State.draw_host (s : State)  : (s.draw.2).host = s.host := rfl
@[simp] theorem State.draw_sm (s : State)  : (s.draw.2).sm = s.sm := rfl
@[simp] theorem State.draw_xp (s : State)  : (s.draw.2).xp = s.xp := rfl
@[simp] theorem State.draw_table (s : State)  : (s.draw.2).table = s.table := rfl
@[simp] theorem State.draw_dbg (s : State)  : (s.draw.2).dbg = s.dbg := rfl
@[simp] theorem State.draw_bist (s : State)  : (s.draw.2).bist = s.bist := rfl
@[simp] theorem State.draw_tap (s : State)  : (s.draw.2).tap = s.tap := rfl

/-! ### State.output -/

@[simp] theorem State.output_pending (s : State) (x : Output) : (s.output x).pending = s.pending := rfl
@[simp] theorem State.output_free (s : State) (x : Output) : (s.output x).free = s.free := rfl
@[simp] theorem State.output_clk (s : State) (x : Output) : (s.output x).clk = s.clk := rfl
@[simp] theorem State.output_power (s : State) (x : Output) : (s.output x).power = s.power := rfl
@[simp] theorem State.output_fuses (s : State) (x : Output) : (s.output x).fuses = s.fuses := rfl
@[simp] theorem State.output_flash (s : State) (x : Output) : (s.output x).flash = s.flash := rfl
@[simp] theorem State.output_sec (s : State) (x : Output) : (s.output x).sec = s.sec := rfl
@[simp] theorem State.output_mgmt (s : State) (x : Output) : (s.output x).mgmt = s.mgmt := rfl
@[simp] theorem State.output_slots (s : State) (x : Output) : (s.output x).slots = s.slots := rfl
@[simp] theorem State.output_ports (s : State) (x : Output) : (s.output x).ports = s.ports := rfl
@[simp] theorem State.output_mem (s : State) (x : Output) : (s.output x).mem = s.mem := rfl
@[simp] theorem State.output_work (s : State) (x : Output) : (s.output x).work = s.work := rfl
@[simp] theorem State.output_repair (s : State) (x : Output) : (s.output x).repair = s.repair := rfl
@[simp] theorem State.output_tt (s : State) (x : Output) : (s.output x).tt = s.tt := rfl
@[simp] theorem State.output_avail (s : State) (x : Output) : (s.output x).avail = s.avail := rfl
@[simp] theorem State.output_host (s : State) (x : Output) : (s.output x).host = s.host := rfl
@[simp] theorem State.output_sm (s : State) (x : Output) : (s.output x).sm = s.sm := rfl
@[simp] theorem State.output_xp (s : State) (x : Output) : (s.output x).xp = s.xp := rfl
@[simp] theorem State.output_table (s : State) (x : Output) : (s.output x).table = s.table := rfl
@[simp] theorem State.output_dbg (s : State) (x : Output) : (s.output x).dbg = s.dbg := rfl
@[simp] theorem State.output_bist (s : State) (x : Output) : (s.output x).bist = s.bist := rfl
@[simp] theorem State.output_tap (s : State) (x : Output) : (s.output x).tap = s.tap := rfl

/-! ### State.setPair -/

@[simp] theorem State.setPair_pending (s : State) (q : QueueId) (x : QueuePair) : (s.setPair q x).pending = s.pending := rfl
@[simp] theorem State.setPair_free (s : State) (q : QueueId) (x : QueuePair) : (s.setPair q x).free = s.free := rfl
@[simp] theorem State.setPair_clk (s : State) (q : QueueId) (x : QueuePair) : (s.setPair q x).clk = s.clk := rfl
@[simp] theorem State.setPair_out (s : State) (q : QueueId) (x : QueuePair) : (s.setPair q x).out = s.out := rfl
@[simp] theorem State.setPair_power (s : State) (q : QueueId) (x : QueuePair) : (s.setPair q x).power = s.power := rfl
@[simp] theorem State.setPair_fuses (s : State) (q : QueueId) (x : QueuePair) : (s.setPair q x).fuses = s.fuses := rfl
@[simp] theorem State.setPair_flash (s : State) (q : QueueId) (x : QueuePair) : (s.setPair q x).flash = s.flash := rfl
@[simp] theorem State.setPair_sec (s : State) (q : QueueId) (x : QueuePair) : (s.setPair q x).sec = s.sec := rfl
@[simp] theorem State.setPair_mgmt (s : State) (q : QueueId) (x : QueuePair) : (s.setPair q x).mgmt = s.mgmt := rfl
@[simp] theorem State.setPair_slots (s : State) (q : QueueId) (x : QueuePair) : (s.setPair q x).slots = s.slots := rfl
@[simp] theorem State.setPair_ports (s : State) (q : QueueId) (x : QueuePair) : (s.setPair q x).ports = s.ports := rfl
@[simp] theorem State.setPair_mem (s : State) (q : QueueId) (x : QueuePair) : (s.setPair q x).mem = s.mem := rfl
@[simp] theorem State.setPair_work (s : State) (q : QueueId) (x : QueuePair) : (s.setPair q x).work = s.work := rfl
@[simp] theorem State.setPair_repair (s : State) (q : QueueId) (x : QueuePair) : (s.setPair q x).repair = s.repair := rfl
@[simp] theorem State.setPair_tt (s : State) (q : QueueId) (x : QueuePair) : (s.setPair q x).tt = s.tt := rfl
@[simp] theorem State.setPair_avail (s : State) (q : QueueId) (x : QueuePair) : (s.setPair q x).avail = s.avail := rfl
@[simp] theorem State.setPair_sm (s : State) (q : QueueId) (x : QueuePair) : (s.setPair q x).sm = s.sm := rfl
@[simp] theorem State.setPair_xp (s : State) (q : QueueId) (x : QueuePair) : (s.setPair q x).xp = s.xp := rfl
@[simp] theorem State.setPair_table (s : State) (q : QueueId) (x : QueuePair) : (s.setPair q x).table = s.table := rfl
@[simp] theorem State.setPair_dbg (s : State) (q : QueueId) (x : QueuePair) : (s.setPair q x).dbg = s.dbg := rfl
@[simp] theorem State.setPair_bist (s : State) (q : QueueId) (x : QueuePair) : (s.setPair q x).bist = s.bist := rfl
@[simp] theorem State.setPair_tap (s : State) (q : QueueId) (x : QueuePair) : (s.setPair q x).tap = s.tap := rfl

/-! ### State.modPair -/

@[simp] theorem State.modPair_pending (s : State) (q : QueueId) (f : QueuePair → QueuePair) : (s.modPair q f).pending = s.pending := rfl
@[simp] theorem State.modPair_free (s : State) (q : QueueId) (f : QueuePair → QueuePair) : (s.modPair q f).free = s.free := rfl
@[simp] theorem State.modPair_clk (s : State) (q : QueueId) (f : QueuePair → QueuePair) : (s.modPair q f).clk = s.clk := rfl
@[simp] theorem State.modPair_out (s : State) (q : QueueId) (f : QueuePair → QueuePair) : (s.modPair q f).out = s.out := rfl
@[simp] theorem State.modPair_power (s : State) (q : QueueId) (f : QueuePair → QueuePair) : (s.modPair q f).power = s.power := rfl
@[simp] theorem State.modPair_fuses (s : State) (q : QueueId) (f : QueuePair → QueuePair) : (s.modPair q f).fuses = s.fuses := rfl
@[simp] theorem State.modPair_flash (s : State) (q : QueueId) (f : QueuePair → QueuePair) : (s.modPair q f).flash = s.flash := rfl
@[simp] theorem State.modPair_sec (s : State) (q : QueueId) (f : QueuePair → QueuePair) : (s.modPair q f).sec = s.sec := rfl
@[simp] theorem State.modPair_mgmt (s : State) (q : QueueId) (f : QueuePair → QueuePair) : (s.modPair q f).mgmt = s.mgmt := rfl
@[simp] theorem State.modPair_slots (s : State) (q : QueueId) (f : QueuePair → QueuePair) : (s.modPair q f).slots = s.slots := rfl
@[simp] theorem State.modPair_ports (s : State) (q : QueueId) (f : QueuePair → QueuePair) : (s.modPair q f).ports = s.ports := rfl
@[simp] theorem State.modPair_mem (s : State) (q : QueueId) (f : QueuePair → QueuePair) : (s.modPair q f).mem = s.mem := rfl
@[simp] theorem State.modPair_work (s : State) (q : QueueId) (f : QueuePair → QueuePair) : (s.modPair q f).work = s.work := rfl
@[simp] theorem State.modPair_repair (s : State) (q : QueueId) (f : QueuePair → QueuePair) : (s.modPair q f).repair = s.repair := rfl
@[simp] theorem State.modPair_tt (s : State) (q : QueueId) (f : QueuePair → QueuePair) : (s.modPair q f).tt = s.tt := rfl
@[simp] theorem State.modPair_avail (s : State) (q : QueueId) (f : QueuePair → QueuePair) : (s.modPair q f).avail = s.avail := rfl
@[simp] theorem State.modPair_sm (s : State) (q : QueueId) (f : QueuePair → QueuePair) : (s.modPair q f).sm = s.sm := rfl
@[simp] theorem State.modPair_xp (s : State) (q : QueueId) (f : QueuePair → QueuePair) : (s.modPair q f).xp = s.xp := rfl
@[simp] theorem State.modPair_table (s : State) (q : QueueId) (f : QueuePair → QueuePair) : (s.modPair q f).table = s.table := rfl
@[simp] theorem State.modPair_dbg (s : State) (q : QueueId) (f : QueuePair → QueuePair) : (s.modPair q f).dbg = s.dbg := rfl
@[simp] theorem State.modPair_bist (s : State) (q : QueueId) (f : QueuePair → QueuePair) : (s.modPair q f).bist = s.bist := rfl
@[simp] theorem State.modPair_tap (s : State) (q : QueueId) (f : QueuePair → QueuePair) : (s.modPair q f).tap = s.tap := rfl

/-! ### State.pushRecord -/

@[simp] theorem State.pushRecord_pending (s : State) (r : Record) : (s.pushRecord r).pending = s.pending := rfl
@[simp] theorem State.pushRecord_free (s : State) (r : Record) : (s.pushRecord r).free = s.free := rfl
@[simp] theorem State.pushRecord_clk (s : State) (r : Record) : (s.pushRecord r).clk = s.clk := rfl
@[simp] theorem State.pushRecord_out (s : State) (r : Record) : (s.pushRecord r).out = s.out := rfl
@[simp] theorem State.pushRecord_power (s : State) (r : Record) : (s.pushRecord r).power = s.power := rfl
@[simp] theorem State.pushRecord_fuses (s : State) (r : Record) : (s.pushRecord r).fuses = s.fuses := rfl
@[simp] theorem State.pushRecord_flash (s : State) (r : Record) : (s.pushRecord r).flash = s.flash := rfl
@[simp] theorem State.pushRecord_sec (s : State) (r : Record) : (s.pushRecord r).sec = s.sec := rfl
@[simp] theorem State.pushRecord_mgmt (s : State) (r : Record) : (s.pushRecord r).mgmt = s.mgmt := rfl
@[simp] theorem State.pushRecord_slots (s : State) (r : Record) : (s.pushRecord r).slots = s.slots := rfl
@[simp] theorem State.pushRecord_ports (s : State) (r : Record) : (s.pushRecord r).ports = s.ports := rfl
@[simp] theorem State.pushRecord_mem (s : State) (r : Record) : (s.pushRecord r).mem = s.mem := rfl
@[simp] theorem State.pushRecord_work (s : State) (r : Record) : (s.pushRecord r).work = s.work := rfl
@[simp] theorem State.pushRecord_repair (s : State) (r : Record) : (s.pushRecord r).repair = s.repair := rfl
@[simp] theorem State.pushRecord_avail (s : State) (r : Record) : (s.pushRecord r).avail = s.avail := rfl
@[simp] theorem State.pushRecord_host (s : State) (r : Record) : (s.pushRecord r).host = s.host := rfl
@[simp] theorem State.pushRecord_sm (s : State) (r : Record) : (s.pushRecord r).sm = s.sm := rfl
@[simp] theorem State.pushRecord_xp (s : State) (r : Record) : (s.pushRecord r).xp = s.xp := rfl
@[simp] theorem State.pushRecord_table (s : State) (r : Record) : (s.pushRecord r).table = s.table := rfl
@[simp] theorem State.pushRecord_dbg (s : State) (r : Record) : (s.pushRecord r).dbg = s.dbg := rfl
@[simp] theorem State.pushRecord_bist (s : State) (r : Record) : (s.pushRecord r).bist = s.bist := rfl
@[simp] theorem State.pushRecord_tap (s : State) (r : Record) : (s.pushRecord r).tap = s.tap := rfl

/-! ### State.setCmd -/

@[simp] theorem State.setCmd_pending (s : State) (k : ObjKey) (v : CmdStatus) : (s.setCmd k v).pending = s.pending := rfl
@[simp] theorem State.setCmd_free (s : State) (k : ObjKey) (v : CmdStatus) : (s.setCmd k v).free = s.free := rfl
@[simp] theorem State.setCmd_clk (s : State) (k : ObjKey) (v : CmdStatus) : (s.setCmd k v).clk = s.clk := rfl
@[simp] theorem State.setCmd_out (s : State) (k : ObjKey) (v : CmdStatus) : (s.setCmd k v).out = s.out := rfl
@[simp] theorem State.setCmd_power (s : State) (k : ObjKey) (v : CmdStatus) : (s.setCmd k v).power = s.power := rfl
@[simp] theorem State.setCmd_fuses (s : State) (k : ObjKey) (v : CmdStatus) : (s.setCmd k v).fuses = s.fuses := rfl
@[simp] theorem State.setCmd_flash (s : State) (k : ObjKey) (v : CmdStatus) : (s.setCmd k v).flash = s.flash := rfl
@[simp] theorem State.setCmd_sec (s : State) (k : ObjKey) (v : CmdStatus) : (s.setCmd k v).sec = s.sec := rfl
@[simp] theorem State.setCmd_slots (s : State) (k : ObjKey) (v : CmdStatus) : (s.setCmd k v).slots = s.slots := rfl
@[simp] theorem State.setCmd_ports (s : State) (k : ObjKey) (v : CmdStatus) : (s.setCmd k v).ports = s.ports := rfl
@[simp] theorem State.setCmd_mem (s : State) (k : ObjKey) (v : CmdStatus) : (s.setCmd k v).mem = s.mem := rfl
@[simp] theorem State.setCmd_work (s : State) (k : ObjKey) (v : CmdStatus) : (s.setCmd k v).work = s.work := rfl
@[simp] theorem State.setCmd_repair (s : State) (k : ObjKey) (v : CmdStatus) : (s.setCmd k v).repair = s.repair := rfl
@[simp] theorem State.setCmd_tt (s : State) (k : ObjKey) (v : CmdStatus) : (s.setCmd k v).tt = s.tt := rfl
@[simp] theorem State.setCmd_avail (s : State) (k : ObjKey) (v : CmdStatus) : (s.setCmd k v).avail = s.avail := rfl
@[simp] theorem State.setCmd_host (s : State) (k : ObjKey) (v : CmdStatus) : (s.setCmd k v).host = s.host := rfl
@[simp] theorem State.setCmd_sm (s : State) (k : ObjKey) (v : CmdStatus) : (s.setCmd k v).sm = s.sm := rfl
@[simp] theorem State.setCmd_xp (s : State) (k : ObjKey) (v : CmdStatus) : (s.setCmd k v).xp = s.xp := rfl
@[simp] theorem State.setCmd_table (s : State) (k : ObjKey) (v : CmdStatus) : (s.setCmd k v).table = s.table := rfl
@[simp] theorem State.setCmd_dbg (s : State) (k : ObjKey) (v : CmdStatus) : (s.setCmd k v).dbg = s.dbg := rfl
@[simp] theorem State.setCmd_bist (s : State) (k : ObjKey) (v : CmdStatus) : (s.setCmd k v).bist = s.bist := rfl
@[simp] theorem State.setCmd_tap (s : State) (k : ObjKey) (v : CmdStatus) : (s.setCmd k v).tap = s.tap := rfl

/-! ### State.setClient -/

@[simp] theorem State.setClient_pending (s : State) (c : Client) (x : ClientState) : (s.setClient c x).pending = s.pending := by cases c <;> rfl
@[simp] theorem State.setClient_free (s : State) (c : Client) (x : ClientState) : (s.setClient c x).free = s.free := by cases c <;> rfl
@[simp] theorem State.setClient_clk (s : State) (c : Client) (x : ClientState) : (s.setClient c x).clk = s.clk := by cases c <;> rfl
@[simp] theorem State.setClient_out (s : State) (c : Client) (x : ClientState) : (s.setClient c x).out = s.out := by cases c <;> rfl
@[simp] theorem State.setClient_power (s : State) (c : Client) (x : ClientState) : (s.setClient c x).power = s.power := by cases c <;> rfl
@[simp] theorem State.setClient_fuses (s : State) (c : Client) (x : ClientState) : (s.setClient c x).fuses = s.fuses := by cases c <;> rfl
@[simp] theorem State.setClient_flash (s : State) (c : Client) (x : ClientState) : (s.setClient c x).flash = s.flash := by cases c <;> rfl
@[simp] theorem State.setClient_sec (s : State) (c : Client) (x : ClientState) : (s.setClient c x).sec = s.sec := by cases c <;> rfl
@[simp] theorem State.setClient_mgmt (s : State) (c : Client) (x : ClientState) : (s.setClient c x).mgmt = s.mgmt := by cases c <;> rfl
@[simp] theorem State.setClient_slots (s : State) (c : Client) (x : ClientState) : (s.setClient c x).slots = s.slots := by cases c <;> rfl
@[simp] theorem State.setClient_ports (s : State) (c : Client) (x : ClientState) : (s.setClient c x).ports = s.ports := by cases c <;> rfl
@[simp] theorem State.setClient_mem (s : State) (c : Client) (x : ClientState) : (s.setClient c x).mem = s.mem := by cases c <;> rfl
@[simp] theorem State.setClient_work (s : State) (c : Client) (x : ClientState) : (s.setClient c x).work = s.work := by cases c <;> rfl
@[simp] theorem State.setClient_repair (s : State) (c : Client) (x : ClientState) : (s.setClient c x).repair = s.repair := by cases c <;> rfl
@[simp] theorem State.setClient_avail (s : State) (c : Client) (x : ClientState) : (s.setClient c x).avail = s.avail := by cases c <;> rfl
@[simp] theorem State.setClient_host (s : State) (c : Client) (x : ClientState) : (s.setClient c x).host = s.host := by cases c <;> rfl
@[simp] theorem State.setClient_sm (s : State) (c : Client) (x : ClientState) : (s.setClient c x).sm = s.sm := by cases c <;> rfl
@[simp] theorem State.setClient_xp (s : State) (c : Client) (x : ClientState) : (s.setClient c x).xp = s.xp := by cases c <;> rfl
@[simp] theorem State.setClient_table (s : State) (c : Client) (x : ClientState) : (s.setClient c x).table = s.table := by cases c <;> rfl
@[simp] theorem State.setClient_dbg (s : State) (c : Client) (x : ClientState) : (s.setClient c x).dbg = s.dbg := by cases c <;> rfl
@[simp] theorem State.setClient_bist (s : State) (c : Client) (x : ClientState) : (s.setClient c x).bist = s.bist := by cases c <;> rfl
@[simp] theorem State.setClient_tap (s : State) (c : Client) (x : ClientState) : (s.setClient c x).tap = s.tap := by cases c <;> rfl

/-! ### State.modClient -/

@[simp] theorem State.modClient_pending (s : State) (c : Client) (f : ClientState → ClientState) : (s.modClient c f).pending = s.pending := by cases c <;> rfl
@[simp] theorem State.modClient_free (s : State) (c : Client) (f : ClientState → ClientState) : (s.modClient c f).free = s.free := by cases c <;> rfl
@[simp] theorem State.modClient_clk (s : State) (c : Client) (f : ClientState → ClientState) : (s.modClient c f).clk = s.clk := by cases c <;> rfl
@[simp] theorem State.modClient_out (s : State) (c : Client) (f : ClientState → ClientState) : (s.modClient c f).out = s.out := by cases c <;> rfl
@[simp] theorem State.modClient_power (s : State) (c : Client) (f : ClientState → ClientState) : (s.modClient c f).power = s.power := by cases c <;> rfl
@[simp] theorem State.modClient_fuses (s : State) (c : Client) (f : ClientState → ClientState) : (s.modClient c f).fuses = s.fuses := by cases c <;> rfl
@[simp] theorem State.modClient_flash (s : State) (c : Client) (f : ClientState → ClientState) : (s.modClient c f).flash = s.flash := by cases c <;> rfl
@[simp] theorem State.modClient_sec (s : State) (c : Client) (f : ClientState → ClientState) : (s.modClient c f).sec = s.sec := by cases c <;> rfl
@[simp] theorem State.modClient_mgmt (s : State) (c : Client) (f : ClientState → ClientState) : (s.modClient c f).mgmt = s.mgmt := by cases c <;> rfl
@[simp] theorem State.modClient_slots (s : State) (c : Client) (f : ClientState → ClientState) : (s.modClient c f).slots = s.slots := by cases c <;> rfl
@[simp] theorem State.modClient_ports (s : State) (c : Client) (f : ClientState → ClientState) : (s.modClient c f).ports = s.ports := by cases c <;> rfl
@[simp] theorem State.modClient_mem (s : State) (c : Client) (f : ClientState → ClientState) : (s.modClient c f).mem = s.mem := by cases c <;> rfl
@[simp] theorem State.modClient_work (s : State) (c : Client) (f : ClientState → ClientState) : (s.modClient c f).work = s.work := by cases c <;> rfl
@[simp] theorem State.modClient_repair (s : State) (c : Client) (f : ClientState → ClientState) : (s.modClient c f).repair = s.repair := by cases c <;> rfl
@[simp] theorem State.modClient_avail (s : State) (c : Client) (f : ClientState → ClientState) : (s.modClient c f).avail = s.avail := by cases c <;> rfl
@[simp] theorem State.modClient_host (s : State) (c : Client) (f : ClientState → ClientState) : (s.modClient c f).host = s.host := by cases c <;> rfl
@[simp] theorem State.modClient_sm (s : State) (c : Client) (f : ClientState → ClientState) : (s.modClient c f).sm = s.sm := by cases c <;> rfl
@[simp] theorem State.modClient_xp (s : State) (c : Client) (f : ClientState → ClientState) : (s.modClient c f).xp = s.xp := by cases c <;> rfl
@[simp] theorem State.modClient_table (s : State) (c : Client) (f : ClientState → ClientState) : (s.modClient c f).table = s.table := by cases c <;> rfl
@[simp] theorem State.modClient_dbg (s : State) (c : Client) (f : ClientState → ClientState) : (s.modClient c f).dbg = s.dbg := by cases c <;> rfl
@[simp] theorem State.modClient_bist (s : State) (c : Client) (f : ClientState → ClientState) : (s.modClient c f).bist = s.bist := by cases c <;> rfl
@[simp] theorem State.modClient_tap (s : State) (c : Client) (f : ClientState → ClientState) : (s.modClient c f).tap = s.tap := by cases c <;> rfl

/-! ### State.requestVector -/

@[simp] theorem State.requestVector_pending (s : State) (v : BitVec 11) : (s.requestVector v).pending = s.pending := by unfold State.requestVector; dsimp only; split <;> rfl
@[simp] theorem State.requestVector_free (s : State) (v : BitVec 11) : (s.requestVector v).free = s.free := by unfold State.requestVector; dsimp only; split <;> rfl
@[simp] theorem State.requestVector_clk (s : State) (v : BitVec 11) : (s.requestVector v).clk = s.clk := by unfold State.requestVector; dsimp only; split <;> rfl
@[simp] theorem State.requestVector_out (s : State) (v : BitVec 11) : (s.requestVector v).out = s.out := by unfold State.requestVector; dsimp only; split <;> rfl
@[simp] theorem State.requestVector_power (s : State) (v : BitVec 11) : (s.requestVector v).power = s.power := by unfold State.requestVector; dsimp only; split <;> rfl
@[simp] theorem State.requestVector_fuses (s : State) (v : BitVec 11) : (s.requestVector v).fuses = s.fuses := by unfold State.requestVector; dsimp only; split <;> rfl
@[simp] theorem State.requestVector_flash (s : State) (v : BitVec 11) : (s.requestVector v).flash = s.flash := by unfold State.requestVector; dsimp only; split <;> rfl
@[simp] theorem State.requestVector_sec (s : State) (v : BitVec 11) : (s.requestVector v).sec = s.sec := by unfold State.requestVector; dsimp only; split <;> rfl
@[simp] theorem State.requestVector_mgmt (s : State) (v : BitVec 11) : (s.requestVector v).mgmt = s.mgmt := by unfold State.requestVector; dsimp only; split <;> rfl
@[simp] theorem State.requestVector_slots (s : State) (v : BitVec 11) : (s.requestVector v).slots = s.slots := by unfold State.requestVector; dsimp only; split <;> rfl
@[simp] theorem State.requestVector_ports (s : State) (v : BitVec 11) : (s.requestVector v).ports = s.ports := by unfold State.requestVector; dsimp only; split <;> rfl
@[simp] theorem State.requestVector_mem (s : State) (v : BitVec 11) : (s.requestVector v).mem = s.mem := by unfold State.requestVector; dsimp only; split <;> rfl
@[simp] theorem State.requestVector_work (s : State) (v : BitVec 11) : (s.requestVector v).work = s.work := by unfold State.requestVector; dsimp only; split <;> rfl
@[simp] theorem State.requestVector_repair (s : State) (v : BitVec 11) : (s.requestVector v).repair = s.repair := by unfold State.requestVector; dsimp only; split <;> rfl
@[simp] theorem State.requestVector_tt (s : State) (v : BitVec 11) : (s.requestVector v).tt = s.tt := by unfold State.requestVector; dsimp only; split <;> rfl
@[simp] theorem State.requestVector_avail (s : State) (v : BitVec 11) : (s.requestVector v).avail = s.avail := by unfold State.requestVector; dsimp only; split <;> rfl
@[simp] theorem State.requestVector_sm (s : State) (v : BitVec 11) : (s.requestVector v).sm = s.sm := by unfold State.requestVector; dsimp only; split <;> rfl
@[simp] theorem State.requestVector_xp (s : State) (v : BitVec 11) : (s.requestVector v).xp = s.xp := by unfold State.requestVector; dsimp only; split <;> rfl
@[simp] theorem State.requestVector_table (s : State) (v : BitVec 11) : (s.requestVector v).table = s.table := by unfold State.requestVector; dsimp only; split <;> rfl
@[simp] theorem State.requestVector_dbg (s : State) (v : BitVec 11) : (s.requestVector v).dbg = s.dbg := by unfold State.requestVector; dsimp only; split <;> rfl
@[simp] theorem State.requestVector_bist (s : State) (v : BitVec 11) : (s.requestVector v).bist = s.bist := by unfold State.requestVector; dsimp only; split <;> rfl
@[simp] theorem State.requestVector_tap (s : State) (v : BitVec 11) : (s.requestVector v).tap = s.tap := by unfold State.requestVector; dsimp only; split <;> rfl

/-! ### State.raise -/

@[simp] theorem State.raise_pending (s : State) (n : Nat) : (s.raise n).pending = s.pending := by unfold State.raise; split <;> [(dsimp only; split <;> simp); rfl]
@[simp] theorem State.raise_free (s : State) (n : Nat) : (s.raise n).free = s.free := by unfold State.raise; split <;> [(dsimp only; split <;> simp); rfl]
@[simp] theorem State.raise_clk (s : State) (n : Nat) : (s.raise n).clk = s.clk := by unfold State.raise; split <;> [(dsimp only; split <;> simp); rfl]
@[simp] theorem State.raise_out (s : State) (n : Nat) : (s.raise n).out = s.out := by unfold State.raise; split <;> [(dsimp only; split <;> simp); rfl]
@[simp] theorem State.raise_power (s : State) (n : Nat) : (s.raise n).power = s.power := by unfold State.raise; split <;> [(dsimp only; split <;> simp); rfl]
@[simp] theorem State.raise_fuses (s : State) (n : Nat) : (s.raise n).fuses = s.fuses := by unfold State.raise; split <;> [(dsimp only; split <;> simp); rfl]
@[simp] theorem State.raise_flash (s : State) (n : Nat) : (s.raise n).flash = s.flash := by unfold State.raise; split <;> [(dsimp only; split <;> simp); rfl]
@[simp] theorem State.raise_sec (s : State) (n : Nat) : (s.raise n).sec = s.sec := by unfold State.raise; split <;> [(dsimp only; split <;> simp); rfl]
@[simp] theorem State.raise_ports (s : State) (n : Nat) : (s.raise n).ports = s.ports := by unfold State.raise; split <;> [(dsimp only; split <;> simp); rfl]
@[simp] theorem State.raise_mem (s : State) (n : Nat) : (s.raise n).mem = s.mem := by unfold State.raise; split <;> [(dsimp only; split <;> simp); rfl]
@[simp] theorem State.raise_work (s : State) (n : Nat) : (s.raise n).work = s.work := by unfold State.raise; split <;> [(dsimp only; split <;> simp); rfl]
@[simp] theorem State.raise_repair (s : State) (n : Nat) : (s.raise n).repair = s.repair := by unfold State.raise; split <;> [(dsimp only; split <;> simp); rfl]
@[simp] theorem State.raise_tt (s : State) (n : Nat) : (s.raise n).tt = s.tt := by unfold State.raise; split <;> [(dsimp only; split <;> simp); rfl]
@[simp] theorem State.raise_avail (s : State) (n : Nat) : (s.raise n).avail = s.avail := by unfold State.raise; split <;> [(dsimp only; split <;> simp); rfl]
@[simp] theorem State.raise_sm (s : State) (n : Nat) : (s.raise n).sm = s.sm := by unfold State.raise; split <;> [(dsimp only; split <;> simp); rfl]
@[simp] theorem State.raise_xp (s : State) (n : Nat) : (s.raise n).xp = s.xp := by unfold State.raise; split <;> [(dsimp only; split <;> simp); rfl]
@[simp] theorem State.raise_table (s : State) (n : Nat) : (s.raise n).table = s.table := by unfold State.raise; split <;> [(dsimp only; split <;> simp); rfl]
@[simp] theorem State.raise_dbg (s : State) (n : Nat) : (s.raise n).dbg = s.dbg := by unfold State.raise; split <;> [(dsimp only; split <;> simp); rfl]
@[simp] theorem State.raise_bist (s : State) (n : Nat) : (s.raise n).bist = s.bist := by unfold State.raise; split <;> [(dsimp only; split <;> simp); rfl]
@[simp] theorem State.raise_tap (s : State) (n : Nat) : (s.raise n).tap = s.tap := by unfold State.raise; split <;> [(dsimp only; split <;> simp); rfl]

/-! ### State.raiseStream -/

@[simp] theorem State.raiseStream_pending (s : State) (x : SlotId) (n : Nat) : (s.raiseStream x n).pending = s.pending := by unfold State.raiseStream; split <;> simp
@[simp] theorem State.raiseStream_free (s : State) (x : SlotId) (n : Nat) : (s.raiseStream x n).free = s.free := by unfold State.raiseStream; split <;> simp
@[simp] theorem State.raiseStream_clk (s : State) (x : SlotId) (n : Nat) : (s.raiseStream x n).clk = s.clk := by unfold State.raiseStream; split <;> simp
@[simp] theorem State.raiseStream_out (s : State) (x : SlotId) (n : Nat) : (s.raiseStream x n).out = s.out := by unfold State.raiseStream; split <;> simp
@[simp] theorem State.raiseStream_power (s : State) (x : SlotId) (n : Nat) : (s.raiseStream x n).power = s.power := by unfold State.raiseStream; split <;> simp
@[simp] theorem State.raiseStream_fuses (s : State) (x : SlotId) (n : Nat) : (s.raiseStream x n).fuses = s.fuses := by unfold State.raiseStream; split <;> simp
@[simp] theorem State.raiseStream_flash (s : State) (x : SlotId) (n : Nat) : (s.raiseStream x n).flash = s.flash := by unfold State.raiseStream; split <;> simp
@[simp] theorem State.raiseStream_sec (s : State) (x : SlotId) (n : Nat) : (s.raiseStream x n).sec = s.sec := by unfold State.raiseStream; split <;> simp
@[simp] theorem State.raiseStream_ports (s : State) (x : SlotId) (n : Nat) : (s.raiseStream x n).ports = s.ports := by unfold State.raiseStream; split <;> simp
@[simp] theorem State.raiseStream_mem (s : State) (x : SlotId) (n : Nat) : (s.raiseStream x n).mem = s.mem := by unfold State.raiseStream; split <;> simp
@[simp] theorem State.raiseStream_work (s : State) (x : SlotId) (n : Nat) : (s.raiseStream x n).work = s.work := by unfold State.raiseStream; split <;> simp
@[simp] theorem State.raiseStream_repair (s : State) (x : SlotId) (n : Nat) : (s.raiseStream x n).repair = s.repair := by unfold State.raiseStream; split <;> simp
@[simp] theorem State.raiseStream_tt (s : State) (x : SlotId) (n : Nat) : (s.raiseStream x n).tt = s.tt := by unfold State.raiseStream; split <;> simp
@[simp] theorem State.raiseStream_avail (s : State) (x : SlotId) (n : Nat) : (s.raiseStream x n).avail = s.avail := by unfold State.raiseStream; split <;> simp
@[simp] theorem State.raiseStream_sm (s : State) (x : SlotId) (n : Nat) : (s.raiseStream x n).sm = s.sm := by unfold State.raiseStream; split <;> simp
@[simp] theorem State.raiseStream_xp (s : State) (x : SlotId) (n : Nat) : (s.raiseStream x n).xp = s.xp := by unfold State.raiseStream; split <;> simp
@[simp] theorem State.raiseStream_table (s : State) (x : SlotId) (n : Nat) : (s.raiseStream x n).table = s.table := by unfold State.raiseStream; split <;> simp
@[simp] theorem State.raiseStream_dbg (s : State) (x : SlotId) (n : Nat) : (s.raiseStream x n).dbg = s.dbg := by unfold State.raiseStream; split <;> simp
@[simp] theorem State.raiseStream_bist (s : State) (x : SlotId) (n : Nat) : (s.raiseStream x n).bist = s.bist := by unfold State.raiseStream; split <;> simp
@[simp] theorem State.raiseStream_tap (s : State) (x : SlotId) (n : Nat) : (s.raiseStream x n).tap = s.tap := by unfold State.raiseStream; split <;> simp

/-! ### State.meterStream -/

@[simp] theorem State.meterStream_pending (s : State) (k : SlotId) (n : Nat) : (s.meterStream k n).pending = s.pending := by unfold State.meterStream; split <;> rfl
@[simp] theorem State.meterStream_free (s : State) (k : SlotId) (n : Nat) : (s.meterStream k n).free = s.free := by unfold State.meterStream; split <;> rfl
@[simp] theorem State.meterStream_clk (s : State) (k : SlotId) (n : Nat) : (s.meterStream k n).clk = s.clk := by unfold State.meterStream; split <;> rfl
@[simp] theorem State.meterStream_out (s : State) (k : SlotId) (n : Nat) : (s.meterStream k n).out = s.out := by unfold State.meterStream; split <;> rfl
@[simp] theorem State.meterStream_power (s : State) (k : SlotId) (n : Nat) : (s.meterStream k n).power = s.power := by unfold State.meterStream; split <;> rfl
@[simp] theorem State.meterStream_fuses (s : State) (k : SlotId) (n : Nat) : (s.meterStream k n).fuses = s.fuses := by unfold State.meterStream; split <;> rfl
@[simp] theorem State.meterStream_flash (s : State) (k : SlotId) (n : Nat) : (s.meterStream k n).flash = s.flash := by unfold State.meterStream; split <;> rfl
@[simp] theorem State.meterStream_sec (s : State) (k : SlotId) (n : Nat) : (s.meterStream k n).sec = s.sec := by unfold State.meterStream; split <;> rfl
@[simp] theorem State.meterStream_mgmt (s : State) (k : SlotId) (n : Nat) : (s.meterStream k n).mgmt = s.mgmt := by unfold State.meterStream; split <;> rfl
@[simp] theorem State.meterStream_slots (s : State) (k : SlotId) (n : Nat) : (s.meterStream k n).slots = s.slots := by unfold State.meterStream; split <;> rfl
@[simp] theorem State.meterStream_ports (s : State) (k : SlotId) (n : Nat) : (s.meterStream k n).ports = s.ports := by unfold State.meterStream; split <;> rfl
@[simp] theorem State.meterStream_mem (s : State) (k : SlotId) (n : Nat) : (s.meterStream k n).mem = s.mem := by unfold State.meterStream; split <;> rfl
@[simp] theorem State.meterStream_work (s : State) (k : SlotId) (n : Nat) : (s.meterStream k n).work = s.work := by unfold State.meterStream; split <;> rfl
@[simp] theorem State.meterStream_repair (s : State) (k : SlotId) (n : Nat) : (s.meterStream k n).repair = s.repair := by unfold State.meterStream; split <;> rfl
@[simp] theorem State.meterStream_avail (s : State) (k : SlotId) (n : Nat) : (s.meterStream k n).avail = s.avail := by unfold State.meterStream; split <;> rfl
@[simp] theorem State.meterStream_host (s : State) (k : SlotId) (n : Nat) : (s.meterStream k n).host = s.host := by unfold State.meterStream; split <;> rfl
@[simp] theorem State.meterStream_sm (s : State) (k : SlotId) (n : Nat) : (s.meterStream k n).sm = s.sm := by unfold State.meterStream; split <;> rfl
@[simp] theorem State.meterStream_xp (s : State) (k : SlotId) (n : Nat) : (s.meterStream k n).xp = s.xp := by unfold State.meterStream; split <;> rfl
@[simp] theorem State.meterStream_table (s : State) (k : SlotId) (n : Nat) : (s.meterStream k n).table = s.table := by unfold State.meterStream; split <;> rfl
@[simp] theorem State.meterStream_dbg (s : State) (k : SlotId) (n : Nat) : (s.meterStream k n).dbg = s.dbg := by unfold State.meterStream; split <;> rfl
@[simp] theorem State.meterStream_bist (s : State) (k : SlotId) (n : Nat) : (s.meterStream k n).bist = s.bist := by unfold State.meterStream; split <;> rfl
@[simp] theorem State.meterStream_tap (s : State) (k : SlotId) (n : Nat) : (s.meterStream k n).tap = s.tap := by unfold State.meterStream; split <;> rfl

/-! ### State.meterOnlyStream -/

@[simp] theorem State.meterOnlyStream_pending (s : State) (k : SlotId) (n : Nat) : (s.meterOnlyStream k n).pending = s.pending := by unfold State.meterOnlyStream; split <;> rfl
@[simp] theorem State.meterOnlyStream_free (s : State) (k : SlotId) (n : Nat) : (s.meterOnlyStream k n).free = s.free := by unfold State.meterOnlyStream; split <;> rfl
@[simp] theorem State.meterOnlyStream_clk (s : State) (k : SlotId) (n : Nat) : (s.meterOnlyStream k n).clk = s.clk := by unfold State.meterOnlyStream; split <;> rfl
@[simp] theorem State.meterOnlyStream_out (s : State) (k : SlotId) (n : Nat) : (s.meterOnlyStream k n).out = s.out := by unfold State.meterOnlyStream; split <;> rfl
@[simp] theorem State.meterOnlyStream_power (s : State) (k : SlotId) (n : Nat) : (s.meterOnlyStream k n).power = s.power := by unfold State.meterOnlyStream; split <;> rfl
@[simp] theorem State.meterOnlyStream_fuses (s : State) (k : SlotId) (n : Nat) : (s.meterOnlyStream k n).fuses = s.fuses := by unfold State.meterOnlyStream; split <;> rfl
@[simp] theorem State.meterOnlyStream_flash (s : State) (k : SlotId) (n : Nat) : (s.meterOnlyStream k n).flash = s.flash := by unfold State.meterOnlyStream; split <;> rfl
@[simp] theorem State.meterOnlyStream_sec (s : State) (k : SlotId) (n : Nat) : (s.meterOnlyStream k n).sec = s.sec := by unfold State.meterOnlyStream; split <;> rfl
@[simp] theorem State.meterOnlyStream_mgmt (s : State) (k : SlotId) (n : Nat) : (s.meterOnlyStream k n).mgmt = s.mgmt := by unfold State.meterOnlyStream; split <;> rfl
@[simp] theorem State.meterOnlyStream_slots (s : State) (k : SlotId) (n : Nat) : (s.meterOnlyStream k n).slots = s.slots := by unfold State.meterOnlyStream; split <;> rfl
@[simp] theorem State.meterOnlyStream_ports (s : State) (k : SlotId) (n : Nat) : (s.meterOnlyStream k n).ports = s.ports := by unfold State.meterOnlyStream; split <;> rfl
@[simp] theorem State.meterOnlyStream_mem (s : State) (k : SlotId) (n : Nat) : (s.meterOnlyStream k n).mem = s.mem := by unfold State.meterOnlyStream; split <;> rfl
@[simp] theorem State.meterOnlyStream_work (s : State) (k : SlotId) (n : Nat) : (s.meterOnlyStream k n).work = s.work := by unfold State.meterOnlyStream; split <;> rfl
@[simp] theorem State.meterOnlyStream_repair (s : State) (k : SlotId) (n : Nat) : (s.meterOnlyStream k n).repair = s.repair := by unfold State.meterOnlyStream; split <;> rfl
@[simp] theorem State.meterOnlyStream_avail (s : State) (k : SlotId) (n : Nat) : (s.meterOnlyStream k n).avail = s.avail := by unfold State.meterOnlyStream; split <;> rfl
@[simp] theorem State.meterOnlyStream_host (s : State) (k : SlotId) (n : Nat) : (s.meterOnlyStream k n).host = s.host := by unfold State.meterOnlyStream; split <;> rfl
@[simp] theorem State.meterOnlyStream_sm (s : State) (k : SlotId) (n : Nat) : (s.meterOnlyStream k n).sm = s.sm := by unfold State.meterOnlyStream; split <;> rfl
@[simp] theorem State.meterOnlyStream_xp (s : State) (k : SlotId) (n : Nat) : (s.meterOnlyStream k n).xp = s.xp := by unfold State.meterOnlyStream; split <;> rfl
@[simp] theorem State.meterOnlyStream_table (s : State) (k : SlotId) (n : Nat) : (s.meterOnlyStream k n).table = s.table := by unfold State.meterOnlyStream; split <;> rfl
@[simp] theorem State.meterOnlyStream_dbg (s : State) (k : SlotId) (n : Nat) : (s.meterOnlyStream k n).dbg = s.dbg := by unfold State.meterOnlyStream; split <;> rfl
@[simp] theorem State.meterOnlyStream_bist (s : State) (k : SlotId) (n : Nat) : (s.meterOnlyStream k n).bist = s.bist := by unfold State.meterOnlyStream; split <;> rfl
@[simp] theorem State.meterOnlyStream_tap (s : State) (k : SlotId) (n : Nat) : (s.meterOnlyStream k n).tap = s.tap := by unfold State.meterOnlyStream; split <;> rfl

/-! ### State.meterCore -/

@[simp] theorem State.meterCore_pending (s : State) (k : SlotId) (a n : Nat) : (s.meterCore k a n).pending = s.pending := by simp only [State.meterCore]; split <;> simp
@[simp] theorem State.meterCore_free (s : State) (k : SlotId) (a n : Nat) : (s.meterCore k a n).free = s.free := by simp only [State.meterCore]; split <;> simp
@[simp] theorem State.meterCore_clk (s : State) (k : SlotId) (a n : Nat) : (s.meterCore k a n).clk = s.clk := by simp only [State.meterCore]; split <;> simp
@[simp] theorem State.meterCore_out (s : State) (k : SlotId) (a n : Nat) : (s.meterCore k a n).out = s.out := by simp only [State.meterCore]; split <;> simp
@[simp] theorem State.meterCore_power (s : State) (k : SlotId) (a n : Nat) : (s.meterCore k a n).power = s.power := by simp only [State.meterCore]; split <;> simp
@[simp] theorem State.meterCore_fuses (s : State) (k : SlotId) (a n : Nat) : (s.meterCore k a n).fuses = s.fuses := by simp only [State.meterCore]; split <;> simp
@[simp] theorem State.meterCore_flash (s : State) (k : SlotId) (a n : Nat) : (s.meterCore k a n).flash = s.flash := by simp only [State.meterCore]; split <;> simp
@[simp] theorem State.meterCore_sec (s : State) (k : SlotId) (a n : Nat) : (s.meterCore k a n).sec = s.sec := by simp only [State.meterCore]; split <;> simp
@[simp] theorem State.meterCore_mgmt (s : State) (k : SlotId) (a n : Nat) : (s.meterCore k a n).mgmt = s.mgmt := by simp only [State.meterCore]; split <;> simp
@[simp] theorem State.meterCore_slots (s : State) (k : SlotId) (a n : Nat) : (s.meterCore k a n).slots = s.slots := by simp only [State.meterCore]; split <;> simp
@[simp] theorem State.meterCore_ports (s : State) (k : SlotId) (a n : Nat) : (s.meterCore k a n).ports = s.ports := by simp only [State.meterCore]; split <;> simp
@[simp] theorem State.meterCore_mem (s : State) (k : SlotId) (a n : Nat) : (s.meterCore k a n).mem = s.mem := by simp only [State.meterCore]; split <;> simp
@[simp] theorem State.meterCore_work (s : State) (k : SlotId) (a n : Nat) : (s.meterCore k a n).work = s.work := by simp only [State.meterCore]; split <;> simp
@[simp] theorem State.meterCore_repair (s : State) (k : SlotId) (a n : Nat) : (s.meterCore k a n).repair = s.repair := by simp only [State.meterCore]; split <;> simp
@[simp] theorem State.meterCore_avail (s : State) (k : SlotId) (a n : Nat) : (s.meterCore k a n).avail = s.avail := by simp only [State.meterCore]; split <;> simp
@[simp] theorem State.meterCore_host (s : State) (k : SlotId) (a n : Nat) : (s.meterCore k a n).host = s.host := by simp only [State.meterCore]; split <;> simp
@[simp] theorem State.meterCore_sm (s : State) (k : SlotId) (a n : Nat) : (s.meterCore k a n).sm = s.sm := by simp only [State.meterCore]; split <;> simp
@[simp] theorem State.meterCore_xp (s : State) (k : SlotId) (a n : Nat) : (s.meterCore k a n).xp = s.xp := by simp only [State.meterCore]; split <;> simp
@[simp] theorem State.meterCore_table (s : State) (k : SlotId) (a n : Nat) : (s.meterCore k a n).table = s.table := by simp only [State.meterCore]; split <;> simp
@[simp] theorem State.meterCore_dbg (s : State) (k : SlotId) (a n : Nat) : (s.meterCore k a n).dbg = s.dbg := by simp only [State.meterCore]; split <;> simp
@[simp] theorem State.meterCore_bist (s : State) (k : SlotId) (a n : Nat) : (s.meterCore k a n).bist = s.bist := by simp only [State.meterCore]; split <;> simp
@[simp] theorem State.meterCore_tap (s : State) (k : SlotId) (a n : Nat) : (s.meterCore k a n).tap = s.tap := by simp only [State.meterCore]; split <;> simp

/-! ### State.noteGrant -/

@[simp] theorem State.noteGrant_pending (s : State) (t w : Fin 11) (ms : List (Fin 11)) : (s.noteGrant t w ms).pending = s.pending := rfl
@[simp] theorem State.noteGrant_free (s : State) (t w : Fin 11) (ms : List (Fin 11)) : (s.noteGrant t w ms).free = s.free := rfl
@[simp] theorem State.noteGrant_clk (s : State) (t w : Fin 11) (ms : List (Fin 11)) : (s.noteGrant t w ms).clk = s.clk := rfl
@[simp] theorem State.noteGrant_out (s : State) (t w : Fin 11) (ms : List (Fin 11)) : (s.noteGrant t w ms).out = s.out := rfl
@[simp] theorem State.noteGrant_power (s : State) (t w : Fin 11) (ms : List (Fin 11)) : (s.noteGrant t w ms).power = s.power := rfl
@[simp] theorem State.noteGrant_fuses (s : State) (t w : Fin 11) (ms : List (Fin 11)) : (s.noteGrant t w ms).fuses = s.fuses := rfl
@[simp] theorem State.noteGrant_flash (s : State) (t w : Fin 11) (ms : List (Fin 11)) : (s.noteGrant t w ms).flash = s.flash := rfl
@[simp] theorem State.noteGrant_sec (s : State) (t w : Fin 11) (ms : List (Fin 11)) : (s.noteGrant t w ms).sec = s.sec := rfl
@[simp] theorem State.noteGrant_mgmt (s : State) (t w : Fin 11) (ms : List (Fin 11)) : (s.noteGrant t w ms).mgmt = s.mgmt := rfl
@[simp] theorem State.noteGrant_slots (s : State) (t w : Fin 11) (ms : List (Fin 11)) : (s.noteGrant t w ms).slots = s.slots := rfl
@[simp] theorem State.noteGrant_ports (s : State) (t w : Fin 11) (ms : List (Fin 11)) : (s.noteGrant t w ms).ports = s.ports := rfl
@[simp] theorem State.noteGrant_mem (s : State) (t w : Fin 11) (ms : List (Fin 11)) : (s.noteGrant t w ms).mem = s.mem := rfl
@[simp] theorem State.noteGrant_work (s : State) (t w : Fin 11) (ms : List (Fin 11)) : (s.noteGrant t w ms).work = s.work := rfl
@[simp] theorem State.noteGrant_repair (s : State) (t w : Fin 11) (ms : List (Fin 11)) : (s.noteGrant t w ms).repair = s.repair := rfl
@[simp] theorem State.noteGrant_tt (s : State) (t w : Fin 11) (ms : List (Fin 11)) : (s.noteGrant t w ms).tt = s.tt := rfl
@[simp] theorem State.noteGrant_avail (s : State) (t w : Fin 11) (ms : List (Fin 11)) : (s.noteGrant t w ms).avail = s.avail := rfl
@[simp] theorem State.noteGrant_host (s : State) (t w : Fin 11) (ms : List (Fin 11)) : (s.noteGrant t w ms).host = s.host := rfl
@[simp] theorem State.noteGrant_xp (s : State) (t w : Fin 11) (ms : List (Fin 11)) : (s.noteGrant t w ms).xp = s.xp := rfl
@[simp] theorem State.noteGrant_table (s : State) (t w : Fin 11) (ms : List (Fin 11)) : (s.noteGrant t w ms).table = s.table := rfl
@[simp] theorem State.noteGrant_dbg (s : State) (t w : Fin 11) (ms : List (Fin 11)) : (s.noteGrant t w ms).dbg = s.dbg := rfl
@[simp] theorem State.noteGrant_bist (s : State) (t w : Fin 11) (ms : List (Fin 11)) : (s.noteGrant t w ms).bist = s.bist := rfl
@[simp] theorem State.noteGrant_tap (s : State) (t w : Fin 11) (ms : List (Fin 11)) : (s.noteGrant t w ms).tap = s.tap := rfl

/-! ### State.grantAlone -/

@[simp] theorem State.grantAlone_pending (s : State) (p : Piece) : (s.grantAlone p).pending = s.pending := rfl
@[simp] theorem State.grantAlone_free (s : State) (p : Piece) : (s.grantAlone p).free = s.free := rfl
@[simp] theorem State.grantAlone_clk (s : State) (p : Piece) : (s.grantAlone p).clk = s.clk := rfl
@[simp] theorem State.grantAlone_out (s : State) (p : Piece) : (s.grantAlone p).out = s.out := rfl
@[simp] theorem State.grantAlone_power (s : State) (p : Piece) : (s.grantAlone p).power = s.power := rfl
@[simp] theorem State.grantAlone_fuses (s : State) (p : Piece) : (s.grantAlone p).fuses = s.fuses := rfl
@[simp] theorem State.grantAlone_flash (s : State) (p : Piece) : (s.grantAlone p).flash = s.flash := rfl
@[simp] theorem State.grantAlone_sec (s : State) (p : Piece) : (s.grantAlone p).sec = s.sec := rfl
@[simp] theorem State.grantAlone_mgmt (s : State) (p : Piece) : (s.grantAlone p).mgmt = s.mgmt := rfl
@[simp] theorem State.grantAlone_slots (s : State) (p : Piece) : (s.grantAlone p).slots = s.slots := rfl
@[simp] theorem State.grantAlone_ports (s : State) (p : Piece) : (s.grantAlone p).ports = s.ports := rfl
@[simp] theorem State.grantAlone_mem (s : State) (p : Piece) : (s.grantAlone p).mem = s.mem := rfl
@[simp] theorem State.grantAlone_work (s : State) (p : Piece) : (s.grantAlone p).work = s.work := rfl
@[simp] theorem State.grantAlone_repair (s : State) (p : Piece) : (s.grantAlone p).repair = s.repair := rfl
@[simp] theorem State.grantAlone_tt (s : State) (p : Piece) : (s.grantAlone p).tt = s.tt := rfl
@[simp] theorem State.grantAlone_avail (s : State) (p : Piece) : (s.grantAlone p).avail = s.avail := rfl
@[simp] theorem State.grantAlone_host (s : State) (p : Piece) : (s.grantAlone p).host = s.host := rfl
@[simp] theorem State.grantAlone_xp (s : State) (p : Piece) : (s.grantAlone p).xp = s.xp := rfl
@[simp] theorem State.grantAlone_table (s : State) (p : Piece) : (s.grantAlone p).table = s.table := rfl
@[simp] theorem State.grantAlone_dbg (s : State) (p : Piece) : (s.grantAlone p).dbg = s.dbg := rfl
@[simp] theorem State.grantAlone_bist (s : State) (p : Piece) : (s.grantAlone p).bist = s.bist := rfl
@[simp] theorem State.grantAlone_tap (s : State) (p : Piece) : (s.grantAlone p).tap = s.tap := rfl

/-! ### State.queueLines -/

@[simp] theorem State.queueLines_pending (s : State) (k : SlotId) (o : Nat) (p : Piece) : (s.queueLines k o p).pending = s.pending := rfl
@[simp] theorem State.queueLines_free (s : State) (k : SlotId) (o : Nat) (p : Piece) : (s.queueLines k o p).free = s.free := rfl
@[simp] theorem State.queueLines_clk (s : State) (k : SlotId) (o : Nat) (p : Piece) : (s.queueLines k o p).clk = s.clk := rfl
@[simp] theorem State.queueLines_out (s : State) (k : SlotId) (o : Nat) (p : Piece) : (s.queueLines k o p).out = s.out := rfl
@[simp] theorem State.queueLines_power (s : State) (k : SlotId) (o : Nat) (p : Piece) : (s.queueLines k o p).power = s.power := rfl
@[simp] theorem State.queueLines_fuses (s : State) (k : SlotId) (o : Nat) (p : Piece) : (s.queueLines k o p).fuses = s.fuses := rfl
@[simp] theorem State.queueLines_flash (s : State) (k : SlotId) (o : Nat) (p : Piece) : (s.queueLines k o p).flash = s.flash := rfl
@[simp] theorem State.queueLines_sec (s : State) (k : SlotId) (o : Nat) (p : Piece) : (s.queueLines k o p).sec = s.sec := rfl
@[simp] theorem State.queueLines_mgmt (s : State) (k : SlotId) (o : Nat) (p : Piece) : (s.queueLines k o p).mgmt = s.mgmt := rfl
@[simp] theorem State.queueLines_ports (s : State) (k : SlotId) (o : Nat) (p : Piece) : (s.queueLines k o p).ports = s.ports := rfl
@[simp] theorem State.queueLines_mem (s : State) (k : SlotId) (o : Nat) (p : Piece) : (s.queueLines k o p).mem = s.mem := rfl
@[simp] theorem State.queueLines_work (s : State) (k : SlotId) (o : Nat) (p : Piece) : (s.queueLines k o p).work = s.work := rfl
@[simp] theorem State.queueLines_repair (s : State) (k : SlotId) (o : Nat) (p : Piece) : (s.queueLines k o p).repair = s.repair := rfl
@[simp] theorem State.queueLines_tt (s : State) (k : SlotId) (o : Nat) (p : Piece) : (s.queueLines k o p).tt = s.tt := rfl
@[simp] theorem State.queueLines_avail (s : State) (k : SlotId) (o : Nat) (p : Piece) : (s.queueLines k o p).avail = s.avail := rfl
@[simp] theorem State.queueLines_host (s : State) (k : SlotId) (o : Nat) (p : Piece) : (s.queueLines k o p).host = s.host := rfl
@[simp] theorem State.queueLines_sm (s : State) (k : SlotId) (o : Nat) (p : Piece) : (s.queueLines k o p).sm = s.sm := rfl
@[simp] theorem State.queueLines_xp (s : State) (k : SlotId) (o : Nat) (p : Piece) : (s.queueLines k o p).xp = s.xp := rfl
@[simp] theorem State.queueLines_table (s : State) (k : SlotId) (o : Nat) (p : Piece) : (s.queueLines k o p).table = s.table := rfl
@[simp] theorem State.queueLines_dbg (s : State) (k : SlotId) (o : Nat) (p : Piece) : (s.queueLines k o p).dbg = s.dbg := rfl
@[simp] theorem State.queueLines_bist (s : State) (k : SlotId) (o : Nat) (p : Piece) : (s.queueLines k o p).bist = s.bist := rfl
@[simp] theorem State.queueLines_tap (s : State) (k : SlotId) (o : Nat) (p : Piece) : (s.queueLines k o p).tap = s.tap := rfl

/-! ### State.sendLanes -/

@[simp] theorem State.sendLanes_pending (s : State) (l : Fin 4 → List TraceSymbol) : (s.sendLanes l).pending = s.pending := rfl
@[simp] theorem State.sendLanes_free (s : State) (l : Fin 4 → List TraceSymbol) : (s.sendLanes l).free = s.free := rfl
@[simp] theorem State.sendLanes_clk (s : State) (l : Fin 4 → List TraceSymbol) : (s.sendLanes l).clk = s.clk := rfl
@[simp] theorem State.sendLanes_power (s : State) (l : Fin 4 → List TraceSymbol) : (s.sendLanes l).power = s.power := rfl
@[simp] theorem State.sendLanes_fuses (s : State) (l : Fin 4 → List TraceSymbol) : (s.sendLanes l).fuses = s.fuses := rfl
@[simp] theorem State.sendLanes_flash (s : State) (l : Fin 4 → List TraceSymbol) : (s.sendLanes l).flash = s.flash := rfl
@[simp] theorem State.sendLanes_sec (s : State) (l : Fin 4 → List TraceSymbol) : (s.sendLanes l).sec = s.sec := rfl
@[simp] theorem State.sendLanes_mgmt (s : State) (l : Fin 4 → List TraceSymbol) : (s.sendLanes l).mgmt = s.mgmt := rfl
@[simp] theorem State.sendLanes_slots (s : State) (l : Fin 4 → List TraceSymbol) : (s.sendLanes l).slots = s.slots := rfl
@[simp] theorem State.sendLanes_ports (s : State) (l : Fin 4 → List TraceSymbol) : (s.sendLanes l).ports = s.ports := rfl
@[simp] theorem State.sendLanes_mem (s : State) (l : Fin 4 → List TraceSymbol) : (s.sendLanes l).mem = s.mem := rfl
@[simp] theorem State.sendLanes_work (s : State) (l : Fin 4 → List TraceSymbol) : (s.sendLanes l).work = s.work := rfl
@[simp] theorem State.sendLanes_repair (s : State) (l : Fin 4 → List TraceSymbol) : (s.sendLanes l).repair = s.repair := rfl
@[simp] theorem State.sendLanes_tt (s : State) (l : Fin 4 → List TraceSymbol) : (s.sendLanes l).tt = s.tt := rfl
@[simp] theorem State.sendLanes_avail (s : State) (l : Fin 4 → List TraceSymbol) : (s.sendLanes l).avail = s.avail := rfl
@[simp] theorem State.sendLanes_host (s : State) (l : Fin 4 → List TraceSymbol) : (s.sendLanes l).host = s.host := rfl
@[simp] theorem State.sendLanes_sm (s : State) (l : Fin 4 → List TraceSymbol) : (s.sendLanes l).sm = s.sm := rfl
@[simp] theorem State.sendLanes_xp (s : State) (l : Fin 4 → List TraceSymbol) : (s.sendLanes l).xp = s.xp := rfl
@[simp] theorem State.sendLanes_table (s : State) (l : Fin 4 → List TraceSymbol) : (s.sendLanes l).table = s.table := rfl
@[simp] theorem State.sendLanes_bist (s : State) (l : Fin 4 → List TraceSymbol) : (s.sendLanes l).bist = s.bist := rfl
@[simp] theorem State.sendLanes_tap (s : State) (l : Fin 4 → List TraceSymbol) : (s.sendLanes l).tap = s.tap := rfl

/-! ### State.endClk -/

@[simp] theorem State.endClk_pending (s : State)  : (s.endClk).pending = s.pending := rfl
@[simp] theorem State.endClk_free (s : State)  : (s.endClk).free = s.free := rfl
@[simp] theorem State.endClk_clk (s : State)  : (s.endClk).clk = s.clk := rfl
@[simp] theorem State.endClk_out (s : State)  : (s.endClk).out = s.out := rfl
@[simp] theorem State.endClk_power (s : State)  : (s.endClk).power = s.power := rfl
@[simp] theorem State.endClk_fuses (s : State)  : (s.endClk).fuses = s.fuses := rfl
@[simp] theorem State.endClk_flash (s : State)  : (s.endClk).flash = s.flash := rfl
@[simp] theorem State.endClk_sec (s : State)  : (s.endClk).sec = s.sec := rfl
@[simp] theorem State.endClk_mgmt (s : State)  : (s.endClk).mgmt = s.mgmt := rfl
@[simp] theorem State.endClk_mem (s : State)  : (s.endClk).mem = s.mem := rfl
@[simp] theorem State.endClk_work (s : State)  : (s.endClk).work = s.work := rfl
@[simp] theorem State.endClk_repair (s : State)  : (s.endClk).repair = s.repair := rfl
@[simp] theorem State.endClk_avail (s : State)  : (s.endClk).avail = s.avail := rfl
@[simp] theorem State.endClk_xp (s : State)  : (s.endClk).xp = s.xp := rfl
@[simp] theorem State.endClk_table (s : State)  : (s.endClk).table = s.table := rfl
@[simp] theorem State.endClk_dbg (s : State)  : (s.endClk).dbg = s.dbg := rfl
@[simp] theorem State.endClk_bist (s : State)  : (s.endClk).bist = s.bist := rfl
@[simp] theorem State.endClk_tap (s : State)  : (s.endClk).tap = s.tap := rfl

/-! ### State.scheduleWriteBack -/

@[simp] theorem State.scheduleWriteBack_pending (s : State) (b : Nat) : (s.scheduleWriteBack b).pending = s.pending := by unfold State.scheduleWriteBack; split <;> rfl
@[simp] theorem State.scheduleWriteBack_free (s : State) (b : Nat) : (s.scheduleWriteBack b).free = s.free := by unfold State.scheduleWriteBack; split <;> rfl
@[simp] theorem State.scheduleWriteBack_clk (s : State) (b : Nat) : (s.scheduleWriteBack b).clk = s.clk := by unfold State.scheduleWriteBack; split <;> rfl
@[simp] theorem State.scheduleWriteBack_out (s : State) (b : Nat) : (s.scheduleWriteBack b).out = s.out := by unfold State.scheduleWriteBack; split <;> rfl
@[simp] theorem State.scheduleWriteBack_power (s : State) (b : Nat) : (s.scheduleWriteBack b).power = s.power := by unfold State.scheduleWriteBack; split <;> rfl
@[simp] theorem State.scheduleWriteBack_fuses (s : State) (b : Nat) : (s.scheduleWriteBack b).fuses = s.fuses := by unfold State.scheduleWriteBack; split <;> rfl
@[simp] theorem State.scheduleWriteBack_flash (s : State) (b : Nat) : (s.scheduleWriteBack b).flash = s.flash := by unfold State.scheduleWriteBack; split <;> rfl
@[simp] theorem State.scheduleWriteBack_sec (s : State) (b : Nat) : (s.scheduleWriteBack b).sec = s.sec := by unfold State.scheduleWriteBack; split <;> rfl
@[simp] theorem State.scheduleWriteBack_mgmt (s : State) (b : Nat) : (s.scheduleWriteBack b).mgmt = s.mgmt := by unfold State.scheduleWriteBack; split <;> rfl
@[simp] theorem State.scheduleWriteBack_slots (s : State) (b : Nat) : (s.scheduleWriteBack b).slots = s.slots := by unfold State.scheduleWriteBack; split <;> rfl
@[simp] theorem State.scheduleWriteBack_ports (s : State) (b : Nat) : (s.scheduleWriteBack b).ports = s.ports := by unfold State.scheduleWriteBack; split <;> rfl
@[simp] theorem State.scheduleWriteBack_work (s : State) (b : Nat) : (s.scheduleWriteBack b).work = s.work := by unfold State.scheduleWriteBack; split <;> rfl
@[simp] theorem State.scheduleWriteBack_repair (s : State) (b : Nat) : (s.scheduleWriteBack b).repair = s.repair := by unfold State.scheduleWriteBack; split <;> rfl
@[simp] theorem State.scheduleWriteBack_tt (s : State) (b : Nat) : (s.scheduleWriteBack b).tt = s.tt := by unfold State.scheduleWriteBack; split <;> rfl
@[simp] theorem State.scheduleWriteBack_avail (s : State) (b : Nat) : (s.scheduleWriteBack b).avail = s.avail := by unfold State.scheduleWriteBack; split <;> rfl
@[simp] theorem State.scheduleWriteBack_host (s : State) (b : Nat) : (s.scheduleWriteBack b).host = s.host := by unfold State.scheduleWriteBack; split <;> rfl
@[simp] theorem State.scheduleWriteBack_sm (s : State) (b : Nat) : (s.scheduleWriteBack b).sm = s.sm := by unfold State.scheduleWriteBack; split <;> rfl
@[simp] theorem State.scheduleWriteBack_xp (s : State) (b : Nat) : (s.scheduleWriteBack b).xp = s.xp := by unfold State.scheduleWriteBack; split <;> rfl
@[simp] theorem State.scheduleWriteBack_table (s : State) (b : Nat) : (s.scheduleWriteBack b).table = s.table := by unfold State.scheduleWriteBack; split <;> rfl
@[simp] theorem State.scheduleWriteBack_dbg (s : State) (b : Nat) : (s.scheduleWriteBack b).dbg = s.dbg := by unfold State.scheduleWriteBack; split <;> rfl
@[simp] theorem State.scheduleWriteBack_bist (s : State) (b : Nat) : (s.scheduleWriteBack b).bist = s.bist := by unfold State.scheduleWriteBack; split <;> rfl
@[simp] theorem State.scheduleWriteBack_tap (s : State) (b : Nat) : (s.scheduleWriteBack b).tap = s.tap := by unfold State.scheduleWriteBack; split <;> rfl

/-! ### State.holdTxn -/

@[simp] theorem State.holdTxn_pending (s : State) (t : Txn) : ((s.holdTxn t).2).pending = s.pending := rfl
@[simp] theorem State.holdTxn_free (s : State) (t : Txn) : ((s.holdTxn t).2).free = s.free := rfl
@[simp] theorem State.holdTxn_clk (s : State) (t : Txn) : ((s.holdTxn t).2).clk = s.clk := rfl
@[simp] theorem State.holdTxn_out (s : State) (t : Txn) : ((s.holdTxn t).2).out = s.out := rfl
@[simp] theorem State.holdTxn_power (s : State) (t : Txn) : ((s.holdTxn t).2).power = s.power := rfl
@[simp] theorem State.holdTxn_fuses (s : State) (t : Txn) : ((s.holdTxn t).2).fuses = s.fuses := rfl
@[simp] theorem State.holdTxn_flash (s : State) (t : Txn) : ((s.holdTxn t).2).flash = s.flash := rfl
@[simp] theorem State.holdTxn_sec (s : State) (t : Txn) : ((s.holdTxn t).2).sec = s.sec := rfl
@[simp] theorem State.holdTxn_mgmt (s : State) (t : Txn) : ((s.holdTxn t).2).mgmt = s.mgmt := rfl
@[simp] theorem State.holdTxn_slots (s : State) (t : Txn) : ((s.holdTxn t).2).slots = s.slots := rfl
@[simp] theorem State.holdTxn_ports (s : State) (t : Txn) : ((s.holdTxn t).2).ports = s.ports := rfl
@[simp] theorem State.holdTxn_mem (s : State) (t : Txn) : ((s.holdTxn t).2).mem = s.mem := rfl
@[simp] theorem State.holdTxn_work (s : State) (t : Txn) : ((s.holdTxn t).2).work = s.work := rfl
@[simp] theorem State.holdTxn_repair (s : State) (t : Txn) : ((s.holdTxn t).2).repair = s.repair := rfl
@[simp] theorem State.holdTxn_tt (s : State) (t : Txn) : ((s.holdTxn t).2).tt = s.tt := rfl
@[simp] theorem State.holdTxn_avail (s : State) (t : Txn) : ((s.holdTxn t).2).avail = s.avail := rfl
@[simp] theorem State.holdTxn_host (s : State) (t : Txn) : ((s.holdTxn t).2).host = s.host := rfl
@[simp] theorem State.holdTxn_xp (s : State) (t : Txn) : ((s.holdTxn t).2).xp = s.xp := rfl
@[simp] theorem State.holdTxn_table (s : State) (t : Txn) : ((s.holdTxn t).2).table = s.table := rfl
@[simp] theorem State.holdTxn_dbg (s : State) (t : Txn) : ((s.holdTxn t).2).dbg = s.dbg := rfl
@[simp] theorem State.holdTxn_bist (s : State) (t : Txn) : ((s.holdTxn t).2).bist = s.bist := rfl
@[simp] theorem State.holdTxn_tap (s : State) (t : Txn) : ((s.holdTxn t).2).tap = s.tap := rfl

/-! ### State.drawBytes -/

@[simp] theorem State.drawBytes_pending (s : State) (n : Nat) : ((s.drawBytes n).2).pending = s.pending := rfl
@[simp] theorem State.drawBytes_clk (s : State) (n : Nat) : ((s.drawBytes n).2).clk = s.clk := rfl
@[simp] theorem State.drawBytes_out (s : State) (n : Nat) : ((s.drawBytes n).2).out = s.out := rfl
@[simp] theorem State.drawBytes_power (s : State) (n : Nat) : ((s.drawBytes n).2).power = s.power := rfl
@[simp] theorem State.drawBytes_fuses (s : State) (n : Nat) : ((s.drawBytes n).2).fuses = s.fuses := rfl
@[simp] theorem State.drawBytes_flash (s : State) (n : Nat) : ((s.drawBytes n).2).flash = s.flash := rfl
@[simp] theorem State.drawBytes_sec (s : State) (n : Nat) : ((s.drawBytes n).2).sec = s.sec := rfl
@[simp] theorem State.drawBytes_mgmt (s : State) (n : Nat) : ((s.drawBytes n).2).mgmt = s.mgmt := rfl
@[simp] theorem State.drawBytes_slots (s : State) (n : Nat) : ((s.drawBytes n).2).slots = s.slots := rfl
@[simp] theorem State.drawBytes_ports (s : State) (n : Nat) : ((s.drawBytes n).2).ports = s.ports := rfl
@[simp] theorem State.drawBytes_mem (s : State) (n : Nat) : ((s.drawBytes n).2).mem = s.mem := rfl
@[simp] theorem State.drawBytes_work (s : State) (n : Nat) : ((s.drawBytes n).2).work = s.work := rfl
@[simp] theorem State.drawBytes_repair (s : State) (n : Nat) : ((s.drawBytes n).2).repair = s.repair := rfl
@[simp] theorem State.drawBytes_tt (s : State) (n : Nat) : ((s.drawBytes n).2).tt = s.tt := rfl
@[simp] theorem State.drawBytes_avail (s : State) (n : Nat) : ((s.drawBytes n).2).avail = s.avail := rfl
@[simp] theorem State.drawBytes_host (s : State) (n : Nat) : ((s.drawBytes n).2).host = s.host := rfl
@[simp] theorem State.drawBytes_sm (s : State) (n : Nat) : ((s.drawBytes n).2).sm = s.sm := rfl
@[simp] theorem State.drawBytes_xp (s : State) (n : Nat) : ((s.drawBytes n).2).xp = s.xp := rfl
@[simp] theorem State.drawBytes_table (s : State) (n : Nat) : ((s.drawBytes n).2).table = s.table := rfl
@[simp] theorem State.drawBytes_dbg (s : State) (n : Nat) : ((s.drawBytes n).2).dbg = s.dbg := rfl
@[simp] theorem State.drawBytes_bist (s : State) (n : Nat) : ((s.drawBytes n).2).bist = s.bist := rfl
@[simp] theorem State.drawBytes_tap (s : State) (n : Nat) : ((s.drawBytes n).2).tap = s.tap := rfl

/-! ### RC fields (00 R5, R7) -/

@[simp] theorem Rc.add_before {w : Nat} (c : Rc w) (n : Nat) : (c.add n).before = c.before := rfl
@[simp] theorem Rc.clear_before {w : Nat} (c : Rc w) : c.clear.before = 0 := rfl
@[simp] theorem Rc.clear_new {w : Nat} (c : Rc w) : c.clear.new = c.new := rfl
@[simp] theorem Rc.tick_new {w : Nat} (c : Rc w) : c.tick.new = 0 := rfl

/-! ### The arbitration keeps what is outstanding -/

@[simp] theorem State.noteGrant_txns (s : State) (t w : Fin 11) (ms : List (Fin 11)) : (s.noteGrant t w ms).sm.txns = s.sm.txns := rfl
@[simp] theorem State.noteGrant_last (s : State) (t w : Fin 11) (ms : List (Fin 11)) : (s.noteGrant t w ms).sm.last[t] = w := by
  simp [State.noteGrant]

/-! ### Slots and registers -/

@[simp] theorem State.setSlot_slot_same (s : State) (k : SlotId) (x : Slot) : (s.setSlot k x).slot k = x := by
  simp [State.setSlot, State.slot]

theorem State.setSlot_slot_other (s : State) (k j : SlotId) (x : Slot) (h : j ≠ k) : (s.setSlot k x).slot j = s.slot j := by
  have : k.val ≠ j.val := fun e => h (Fin.ext e.symm)
  simp [State.setSlot, State.slot, this]

@[simp] theorem State.modSlot_slot_same (s : State) (k : SlotId) (f : Slot → Slot) : (s.modSlot k f).slot k = f (s.slot k) := by
  simp [State.modSlot]

theorem State.modSlot_slot_other (s : State) (k j : SlotId) (f : Slot → Slot) (h : j ≠ k) : (s.modSlot k f).slot j = s.slot j :=
  State.setSlot_slot_other s k j _ h

@[simp] theorem State.setSlot_setSlot (s : State) (k : SlotId) (x y : Slot) : (s.setSlot k x).setSlot k y = s.setSlot k y := by
  simp [State.setSlot]

@[simp] theorem State.setSlot_modSlot (s : State) (k : SlotId) (x : Slot) (f : Slot → Slot) : (s.setSlot k x).modSlot k f = s.setSlot k (f x) := by
  simp [State.modSlot]

@[simp] theorem State.modSlot_modSlot (s : State) (k : SlotId) (f g : Slot → Slot) :
    (s.modSlot k f).modSlot k g = s.modSlot k fun x => g (f x) := by
  simp [State.modSlot]

@[simp] theorem State.setRegs_slot_same (s : State) (k : SlotId) (r : Regs) : (s.setRegs k r).slot k = { s.slot k with regs := r } := by
  simp [State.setRegs]

@[simp] theorem State.setRegs_regs (s : State) (k : SlotId) (r : Regs) : (s.setRegs k r).regs k = r := by simp [State.regs]

theorem State.slotOf_congr {s t : State} (h : t.repair = s.repair) (i : StreamId) : t.slotOf i = s.slotOf i := by
  simp [State.slotOf, h]

theorem State.streamOf_congr {s t : State} (h : t.repair = s.repair) (k : SlotId) : t.streamOf k = s.streamOf k := by
  simp [State.streamOf, State.slotOf, h]

@[simp] theorem State.setSlot_slotOf (s : State) (k : SlotId) (x : Slot) (i : StreamId) : (s.setSlot k x).slotOf i = s.slotOf i := rfl
@[simp] theorem State.modSlot_slotOf (s : State) (k : SlotId) (f : Slot → Slot) (i : StreamId) : (s.modSlot k f).slotOf i = s.slotOf i := rfl
@[simp] theorem State.setSlot_streamOf (s : State) (k j : SlotId) (x : Slot) : (s.setSlot k x).streamOf j = s.streamOf j := rfl
@[simp] theorem State.modSlot_streamOf (s : State) (k j : SlotId) (f : Slot → Slot) : (s.modSlot k f).streamOf j = s.streamOf j := rfl

/-! ### Registers of a core (07 R212) -/

@[simp] theorem Regs.setD_getD (r : Regs) (n : BitVec 5) (v : Word64) : (r.setD n v).getD n = v := by
  simp [Regs.setD, Regs.getD]

theorem Regs.setD_getD_other (r : Regs) (n m : BitVec 5) (v : Word64) (h : m ≠ n) : (r.setD n v).getD m = r.getD m := by
  have : n.toNat ≠ m.toNat := fun e => h (BitVec.eq_of_toNat_eq e.symm)
  simp [Regs.setD, Regs.getD, this]

@[simp] theorem Regs.setA_getA (r : Regs) (n : BitVec 4) (v : Word64) : (r.setA n v).getA n = v := by
  simp [Regs.setA, Regs.getA]

theorem Regs.setA_getA_other (r : Regs) (n m : BitVec 4) (v : Word64) (h : m ≠ n) : (r.setA n v).getA m = r.getA m := by
  have : n.toNat ≠ m.toNat := fun e => h (BitVec.eq_of_toNat_eq e.symm)
  simp [Regs.setA, Regs.getA, this]

@[simp] theorem Regs.setD_a (r : Regs) (n : BitVec 5) (v : Word64) : (r.setD n v).a = r.a := rfl
@[simp] theorem Regs.setD_q (r : Regs) (n : BitVec 5) (v : Word64) : (r.setD n v).q = r.q := rfl
@[simp] theorem Regs.setD_pc (r : Regs) (n : BitVec 5) (v : Word64) : (r.setD n v).pc = r.pc := rfl
@[simp] theorem Regs.setD_cc (r : Regs) (n : BitVec 5) (v : Word64) : (r.setD n v).cc = r.cc := rfl
@[simp] theorem Regs.setD_vl (r : Regs) (n : BitVec 5) (v : Word64) : (r.setD n v).vl = r.vl := rfl
@[simp] theorem Regs.setD_vx (r : Regs) (n : BitVec 5) (v : Word64) : (r.setD n v).vx = r.vx := rfl
@[simp] theorem Regs.setD_lc (r : Regs) (n : BitVec 5) (v : Word64) : (r.setD n v).lc = r.lc := rfl
@[simp] theorem Regs.setD_ls (r : Regs) (n : BitVec 5) (v : Word64) : (r.setD n v).ls = r.ls := rfl
@[simp] theorem Regs.setD_le (r : Regs) (n : BitVec 5) (v : Word64) : (r.setD n v).le = r.le := rfl
@[simp] theorem Regs.setD_tsbp (r : Regs) (n : BitVec 5) (v : Word64) : (r.setD n v).tsbp = r.tsbp := rfl
@[simp] theorem Regs.setD_edb (r : Regs) (n : BitVec 5) (v : Word64) : (r.setD n v).edb = r.edb := rfl
@[simp] theorem Regs.setD_fpcsr (r : Regs) (n : BitVec 5) (v : Word64) : (r.setD n v).fpcsr = r.fpcsr := rfl
@[simp] theorem Regs.setD_qd (r : Regs) (n : BitVec 5) (v : Word64) : (r.setD n v).qd = r.qd := rfl
@[simp] theorem Regs.setD_iml (r : Regs) (n : BitVec 5) (v : Word64) : (r.setD n v).iml = r.iml := rfl
@[simp] theorem Regs.setD_ctsb (r : Regs) (n : BitVec 5) (v : Word64) : (r.setD n v).ctsb = r.ctsb := rfl
@[simp] theorem Regs.setD_qg (r : Regs) (n : BitVec 5) (v : Word64) : (r.setD n v).qg = r.qg := rfl
@[simp] theorem Regs.setA_d (r : Regs) (n : BitVec 4) (v : Word64) : (r.setA n v).d = r.d := rfl
@[simp] theorem Regs.setA_q (r : Regs) (n : BitVec 4) (v : Word64) : (r.setA n v).q = r.q := rfl
@[simp] theorem Regs.setA_pc (r : Regs) (n : BitVec 4) (v : Word64) : (r.setA n v).pc = r.pc := rfl
@[simp] theorem Regs.setA_cc (r : Regs) (n : BitVec 4) (v : Word64) : (r.setA n v).cc = r.cc := rfl
@[simp] theorem Regs.setA_vl (r : Regs) (n : BitVec 4) (v : Word64) : (r.setA n v).vl = r.vl := rfl
@[simp] theorem Regs.setA_vx (r : Regs) (n : BitVec 4) (v : Word64) : (r.setA n v).vx = r.vx := rfl
@[simp] theorem Regs.setA_lc (r : Regs) (n : BitVec 4) (v : Word64) : (r.setA n v).lc = r.lc := rfl
@[simp] theorem Regs.setA_ls (r : Regs) (n : BitVec 4) (v : Word64) : (r.setA n v).ls = r.ls := rfl
@[simp] theorem Regs.setA_le (r : Regs) (n : BitVec 4) (v : Word64) : (r.setA n v).le = r.le := rfl
@[simp] theorem Regs.setA_tsbp (r : Regs) (n : BitVec 4) (v : Word64) : (r.setA n v).tsbp = r.tsbp := rfl
@[simp] theorem Regs.setA_edb (r : Regs) (n : BitVec 4) (v : Word64) : (r.setA n v).edb = r.edb := rfl
@[simp] theorem Regs.setA_fpcsr (r : Regs) (n : BitVec 4) (v : Word64) : (r.setA n v).fpcsr = r.fpcsr := rfl
@[simp] theorem Regs.setA_qd (r : Regs) (n : BitVec 4) (v : Word64) : (r.setA n v).qd = r.qd := rfl
@[simp] theorem Regs.setA_iml (r : Regs) (n : BitVec 4) (v : Word64) : (r.setA n v).iml = r.iml := rfl
@[simp] theorem Regs.setA_ctsb (r : Regs) (n : BitVec 4) (v : Word64) : (r.setA n v).ctsb = r.ctsb := rfl
@[simp] theorem Regs.setA_qg (r : Regs) (n : BitVec 4) (v : Word64) : (r.setA n v).qg = r.qg := rfl

end Sys2Proof.Machine
end

