-- ==== Sys2Proof/Laws/Core.lean ====
section
/-!
SUPPORT. What an instruction does on an undisturbed core: the lemmas that replace unfolding `State.instruction`.
-/

namespace Sys2Proof.Machine

/-! ### Starting -/

theorem State.clear.debugOff {s : State} {i : StreamId} {k : SlotId} (h : s.clear i k) : s.debugOn k = false := by
  obtain ⟨_, _, _, _, _, _, _, _, hm, _⟩ := h
  simp [State.debugOn, hm]

theorem State.clear.canStart {s : State} {i : StreamId} {k : SlotId} (h : s.clear i k) (f : Info) : s.canStart k f = true := by
  have hd := h.debugOff
  obtain ⟨_, hs, he, hl, hse, hw, hc, _, _, _⟩ := h
  have : (s.slot k).status = .running ∨ (s.slot k).status = .monitor := hs
  simp only [State.canStart, State.boundaryBusy, he, hl, hse, hw, hc, hd]
  rcases this with e | e <;> simp [e]

theorem State.clear.breakpoint {s : State} {i : StreamId} {k : SlotId} (h : s.clear i k) (f : Info) : s.breakpoint k f = none := by
  simp [State.breakpoint, h.debugOff]

theorem State.clear.interlocked {s : State} {i : StreamId} {k : SlotId} (h : s.clear i k) (f : Info) : (s.slot k).interlocked f = false := by
  obtain ⟨_, _, _, _, _, _, _, _, _, hD, hQ⟩ := h
  simp [Slot.interlocked, hD, hQ]

/-- An instruction that breaks no decode rule and saves no accumulator runs its body at once, and what the body comes to happens. -/
theorem State.clear.instruction {s : State} {i : StreamId} {k : SlotId} (h : s.clear i k) (f : Info) (body : State → SlotId → Done)
    (he : f.early = none) (hd : (s.slot k).decodeFault f = none) (hs : f.saves = []) (hf : f.soft = 0 := by rfl) :
    s.instruction i f body =
      (let s2 := s.start k
       let inMon := (s.slot k).status == .monitor
       match body s2 k with
       | .wait => .next (s.noteWait k)
       | .hold w => .next (s.modSlot k fun x => { x with waitAt := some w })
       | .stay s' => .next s'
       | .trap v c a fl => .next ((s.enterLine k).raiseExc k ((s.slot k).excAt v c a fl))
       | .next s' => .next ((s'.modSlot k fun x => (x.afterShadow false (f.writes ++ f.accumulates)).sequence f.size).complete k f inMon)
       | .branch s' t =>
         .next ((s'.modSlot k fun x =>
           let x := x.afterShadow false (f.writes ++ f.accumulates)
           let pc := x.regs.pc
           let x := match t with | some t => x.branchTaken pc t | none => x
           { x with
             delay := some ⟨pc, t.getD (pc + 8)⟩
             regs := { x.regs with pc := pc + 4 } }).complete k f inMon)
       | .goto s' pc =>
         .next ((s'.modSlot k fun x =>
           let x := x.afterShadow false (f.writes ++ f.accumulates)
           { x with regs := { x.regs with pc := pc } }).complete k f inMon)) := by
  have hp : (s.slot k).parity = [] := h.2.2.2.2.2.2.2.1
  have hl : (s.slot k).loads = [] := h.2.2.2.1
  unfold State.instruction
  have hr : (s.slot k).parityOf ((s.slot k).readSet f) = none := by simp [Slot.parityOf, hp]
  have hn : s.noteCopies k f = s := by simp [State.noteCopies, hf]
  simp only [h.1, hn, h.canStart f, h.breakpoint f, he, hd, hs, hr, hl, h.interlocked f, State.saveQs, Option.map_none, Option.or_none,
     List.isEmpty_nil, Bool.not_true, Bool.false_eq_true, if_false]
  all_goals (cases body (s.start k) k <;> rfl)

/-- The decode rules hold for an instruction that may stand anywhere and whose fields are in order. -/
theorem Slot.decodeFault_none {x : Slot} {f : Info} (hc : x.chain = none) (hp : x.placed f.size) (h1 : f.slotOk = true) (h2 : f.endOk = true)
    (h3 : f.prefixOk = true) (h4 : f.fieldsOk = true) (h5 : f.wide = true → x.regs.pc.getLsbD 2 = false) : x.decodeFault f = none := by
  have hp : x.delay = none ∨ x.regs.lc = 0 ∨ x.regs.pc + BitVec.ofNat 64 f.size ≠ x.regs.le := hp
  have h5 : (f.wide && x.regs.pc.getLsbD 2) = false := by
    cases hw : f.wide with
    | false => rfl
    | true => simpa using h5 hw
  simp only [Slot.decodeFault, Slot.atLoopEnd, hc, h1, h2, h3, h4, h5]
  rcases hp with e | e | e <;> simp [e]

/-! ### Completing -/

theorem Slot.start_regs (x : Slot) (b : Bool) : (x.start b).regs = x.regs := by
  unfold Slot.start Slot.keepUndo Slot.enterLine Slot.enterLineAt
  repeat' (split <;> try rfl)

/-- Entering a line touches the line buffer alone. -/
theorem Slot.enterLine_eq (x : Slot) (b : Bool) :
    x.enterLine b = { x with lines := (x.enterLine b).lines, ahead := (x.enterLine b).ahead, line := (x.enterLine b).line
                             prefetch := (x.enterLine b).prefetch } := by
  unfold Slot.enterLine Slot.enterLineAt; split
  · split
    · rfl
    · split <;> rfl
  · rfl

theorem Slot.start_of_no_loads (x : Slot) (b : Bool) (h : x.loads = []) :
    x.start b = { x.enterLine b with dbg := { x.dbg with exempt := x.exemptAfter } } := by
  have h2 : (x.enterLine b).keepUndo = x.enterLine b := by
    have : (x.enterLine b).loads = [] := by rw [Slot.enterLine_eq]; exact h
    simp [Slot.keepUndo, this]
  unfold Slot.start
  simp only [h2]
  rw [Slot.enterLine_eq]

theorem Slot.sequence_delay (x : Slot) (n : Nat) : (x.sequence n).delay = none := by
  rfl

theorem Slot.sequence_eq (x : Slot) (n : Nat) : x.sequence n = { x with regs := (x.sequence n).regs, delay := none } := by
  rfl

theorem Slot.sequence_regs_congr (x y : Slot) (n : Nat) (h1 : x.regs = y.regs) (h2 : x.delay = y.delay) :
    (x.sequence n).regs = (y.sequence n).regs := by
  unfold Slot.sequence
  rw [h1, h2]

theorem Slot.progress_eq (x : Slot) : x.progress = { x with wd := x.progress.wd } := by
  unfold Slot.progress; split <;> rfl

theorem Slot.done_dbg (x : Slot) (f : Info) (m : Bool) : (x.done f m).dbg = x.dbg := by
  unfold Slot.done Slot.progress; dsimp only; repeat' split
  all_goals rfl

theorem State.complete_off {s : State} {k : SlotId} (f : Info) (m : Bool) (hm : (s.slot k).dbg.monen = false) :
    s.complete k f m = s.modSlot k fun x => x.done f m := by
  have : (s.modSlot k fun x => x.done f m).debugOn k = false := by simp [State.debugOn, Slot.done_dbg, hm]
  unfold State.complete
  simp only [State.raiseDebug, this]
  split <;> simp

theorem State.modSlot_eq (s : State) (k : SlotId) (g : Slot → Slot) : s.modSlot k g = s.setSlot k (g (s.slot k)) := rfl

theorem Slot.progress_wd_congr (x y : Slot) (h1 : x.wd = y.wd) (h2 : x.dbg.wdpause = y.dbg.wdpause) (h3 : x.status = y.status) :
    x.progress.wd = y.progress.wd := by
  unfold Slot.progress
  rw [h1, h2, h3]
  split <;> simp [h1]

/-- With every register sound, completing resets what the core waits for and counts as progress; it pauses in a monitor that pauses the watchdog. -/
theorem Slot.done_eq (x : Slot) (f : Info) (m : Bool) (hp : x.parity = []) (hl : x.loads = []) (hm : m = (x.status == .monitor)) :
    x.done f m = { x with partsDone := 0, waitAt := none, wd := x.progress.wd } := by
  have e : ∀ y : Slot, y.wd = x.wd → y.dbg = x.dbg → y.status = x.status → y.progress = { y with wd := x.progress.wd } :=
    fun y h1 h2 h3 => by rw [Slot.progress_eq y, Slot.progress_wd_congr y x h1 (by rw [h2]) h3]
  unfold Slot.done
  dsimp only
  split
  · rename_i h
    have h : x.status = .monitor ∧ x.dbg.wdpause = true := by simpa [hm] using h
    have : x.progress.wd = x.wd := by unfold Slot.progress; simp [h.1, h.2]
    simp [this, hp, hl]
  · simp only [hp, hl, List.filter_nil, List.map_nil]; exact e { x with parity := [], loads := [], partsDone := 0, waitAt := none } rfl rfl rfl

/-- A slot's effect that leaves the watchdog, the debug registers, the mode and the parity state alone. -/
structure Slot.Plain (g : Slot → Slot) : Prop where
  wd : ∀ x, (g x).wd = x.wd
  dbg : ∀ x, (g x).dbg = x.dbg
  status : ∀ x, (g x).status = x.status
  parity : ∀ x, (g x).parity = x.parity
  loads : ∀ x, (g x).loads = x.loads
  comm : ∀ (x : Slot) w d p, g { x with waitAt := w, wd := d, partsDone := p } = { g x with waitAt := w, wd := d, partsDone := p }

theorem Slot.Plain.regs (g : Regs → Regs) : Slot.Plain fun x => { x with regs := g x.regs } :=
  ⟨fun _ => rfl, fun _ => rfl, fun _ => rfl, fun _ => rfl, fun _ => rfl, fun _ _ _ _ => rfl⟩

/-- The slot after an instruction with effect `g`. -/
theorem Slot.finish_eq (x : Slot) (b : Bool) (f : Info) (g : Slot → Slot) (hg : Slot.Plain g) (hl : x.loads = []) (hp : x.parity = []) :
    ((g (x.start b)).sequence f.size).done f (x.status == .monitor) = (g (x.completed b)).sequence f.size := by
  have hs : x.start b = { x.enterLine b with dbg := { x.dbg with exempt := x.exemptAfter } } := Slot.start_of_no_loads x b hl
  have hc : x.completed b = { x.start b with waitAt := none, wd := x.progress.wd, partsDone := 0 } := by
    rw [hs, Slot.completed, Slot.enterLine_eq]
  have h1 : (x.start b).wd = x.wd := by rw [hs, Slot.enterLine_eq]
  have h2 : (x.start b).dbg.wdpause = x.dbg.wdpause := by rw [hs]
  have h3 : (x.start b).status = x.status := by rw [hs, Slot.enterLine_eq]
  have h4 : (x.start b).parity = [] := by rw [hs, Slot.enterLine_eq]; exact hp
  have hy : (g (x.start b)).parity = [] := by rw [hg.parity, h4]
  have hyl : (g (x.start b)).loads = [] := by rw [hg.loads, hs, Slot.enterLine_eq]; exact hl
  have hst : (g (x.start b)).status = x.status := by rw [hg.status, h3]
  have e : g (x.completed b) = { g (x.start b) with waitAt := none, wd := x.progress.wd, partsDone := 0 } := by
    rw [hc, hg.comm (x.start b) none x.progress.wd 0]
  have hwd : (g (x.start b)).progress.wd = x.progress.wd :=
    Slot.progress_wd_congr _ _ (by rw [hg.wd, h1]) (by rw [hg.dbg, h2]) hst
  rw [e]
  generalize g (x.start b) = y at *
  generalize hw : x.progress.wd = w at *
  have hq : (y.sequence f.size).progress.wd = w := by
    rw [← hwd]; exact Slot.progress_wd_congr _ _ rfl rfl rfl
  rw [Slot.done_eq (y.sequence f.size) f _ hy hyl (by rw [← hst]; rfl), hq]
  have hr := Slot.sequence_regs_congr { y with waitAt := none, wd := w, partsDone := 0 } y f.size rfl rfl
  rw [Slot.sequence_eq { y with waitAt := none, wd := w, partsDone := 0 }, hr, Slot.sequence_eq y]

/-- An instruction whose body has the effect `g` on its slot, from the state `s0` that its accesses leave, runs to completion. -/
theorem State.clear.after {s : State} {i : StreamId} {k : SlotId} (h : s.clear i k) (f : Info) (body : State → SlotId → Done) (s0 : State)
    (g : Slot → Slot) (hg : Slot.Plain g) (he : f.early = none) (hd : (s.slot k).decodeFault f = none) (hs : f.saves = [])
    (h0 : s0.slot k = (s.slot k).start (s.moreLines k))
    (hb : body (s.start k) k = .next (s0.modSlot k g)) (hsf : f.soft = 0 := by rfl) :
    s.instruction i f body = .next (s0.setSlot k ((g ((s.slot k).completed (s.moreLines k))).sequence f.size)) := by
  have hl : (s.slot k).loads = [] := h.2.2.2.1
  have hp : (s.slot k).parity = [] := h.2.2.2.2.2.2.2.1
  have hm : (s.slot k).dbg.monen = false := h.2.2.2.2.2.2.2.2.1
  rw [h.instruction f body he hd hs hsf]
  simp only [hb]
  have hseq : ∀ x : Slot, ((x.afterShadow false (f.writes ++ f.accumulates)).sequence f.size) = x.sequence f.size := fun x => by
    unfold Slot.afterShadow; split <;> simp
  simp only [hseq, State.modSlot_modSlot]
  rw [State.complete_off f _ (by
    rw [State.modSlot_slot_same, Slot.sequence_eq, h0]; simp only [hg.dbg]; rw [Slot.start_of_no_loads _ _ hl]; exact hm)]
  have hf := Slot.finish_eq (s.slot k) (s.moreLines k) f g hg hl hp
  simp only [State.modSlot_eq, h0, State.setSlot_slot_same, State.setSlot_setSlot]
  exact congrArg (fun y => Host.Outcome.next (s0.setSlot k y)) hf

theorem State.modSlot_setSlot (s : State) (k : SlotId) (g : Slot → Slot) (x : Slot) : (s.modSlot k g).setSlot k x = s.setSlot k x := by
  simp [State.modSlot_eq]

theorem State.clear.compute {s : State} {i : StreamId} {k : SlotId} (h : s.clear i k) (f : Info) (g : Regs → Regs)
    (he : f.early = none) (hd : (s.slot k).decodeFault f = none) (hs : f.saves = []) (hsf : f.soft = 0 := by rfl) :
    s.compute i f g = .next (s.afterRegs k f.size g) := by
  unfold State.compute
  rw [h.after f _ (s.start k) (fun x => { x with regs := g x.regs }) (Slot.Plain.regs g) he hd hs
    (State.modSlot_slot_same ..) (by simp [State.regs, State.setRegs, State.modSlot_eq]) hsf, State.start, State.modSlot_setSlot]
  rfl

theorem State.clear.checked {s : State} {i : StreamId} {k : SlotId} (h : s.clear i k) (f : Info) (g : Regs → FlagSet × Regs)
    (he : f.early = none) (hd : (s.slot k).decodeFault f = none) (hs : f.saves = [])
    (ht : arithTrap (s.regs k) (g (s.regs k)).1 = none) (hsf : f.soft = 0 := by rfl) :
    s.checked i f g = .next (s.afterRegs k f.size fun r => (g r).2.orFlags (g r).1) := by
  unfold State.checked
  have hr : (s.start k).regs k = s.regs k := by simp [State.start, State.regs, Slot.start_regs]
  rw [h.after f _ (s.start k) (fun x => { x with regs := (g x.regs).2.orFlags (g x.regs).1 })
    (Slot.Plain.regs fun r => (g r).2.orFlags (g r).1) he hd hs (State.modSlot_slot_same ..) (by
      simp only [hr, ht]
      simp [State.start, State.regs, State.setRegs, State.modSlot_eq, Slot.start_regs]) hsf, State.start, State.modSlot_setSlot]
  rfl

end Sys2Proof.Machine
end

