-- ==== Sys2Proof/Laws/Exec.lean ====
section
/-!
SUPPORT. Each arm of `exec` as an equation, so that no proof unfolds the dispatch.
-/

namespace Sys2Proof.Machine

theorem exec_add (st f s) : exec (.add st f) s = execAdd st f s := rfl
theorem exec_sub (st f s) : exec (.sub st f) s = execSub st f s := rfl
theorem exec_addv (st f s) : exec (.addv st f) s = execAddv st f s := rfl
theorem exec_subv (st f s) : exec (.subv st f) s = execSubv st f s := rfl
theorem exec_addc (st f s) : exec (.addc st f) s = execAddc st f s := rfl
theorem exec_subc (st f s) : exec (.subc st f) s = execSubc st f s := rfl
theorem exec_cmp (st f s) : exec (.cmp st f) s = execCmp st f s := rfl
theorem exec_mul (st f s) : exec (.mul st f) s = execMul st f s := rfl
theorem exec_mulv (st f s) : exec (.mulv st f) s = execMulv st f s := rfl
theorem exec_mulh (st f s) : exec (.mulh st f) s = execMulh st f s := rfl
theorem exec_mulhu (st f s) : exec (.mulhu st f) s = execMulhu st f s := rfl
theorem exec_mulw (st f s) : exec (.mulw st f) s = execMulw st f s := rfl
theorem exec_mulwu (st f s) : exec (.mulwu st f) s = execMulwu st f s := rfl
theorem exec_divs (st f s) : exec (.divs st f) s = execDivs st f s := rfl
theorem exec_divu (st f s) : exec (.divu st f) s = execDivu st f s := rfl
theorem exec_rems (st f s) : exec (.rems st f) s = execRems st f s := rfl
theorem exec_remu (st f s) : exec (.remu st f) s = execRemu st f s := rfl
theorem exec_and (st f s) : exec (.and st f) s = execAnd st f s := rfl
theorem exec_or (st f s) : exec (.or st f) s = execOr st f s := rfl
theorem exec_xor (st f s) : exec (.xor st f) s = execXor st f s := rfl
theorem exec_andn (st f s) : exec (.andn st f) s = execAndn st f s := rfl
theorem exec_shl (st f s) : exec (.shl st f) s = execShl st f s := rfl
theorem exec_shr (st f s) : exec (.shr st f) s = execShr st f s := rfl
theorem exec_sar (st f s) : exec (.sar st f) s = execSar st f s := rfl
theorem exec_ror (st f s) : exec (.ror st f) s = execRor st f s := rfl
theorem exec_min (st f s) : exec (.min st f) s = execMin st f s := rfl
theorem exec_max (st f s) : exec (.max st f) s = execMax st f s := rfl
theorem exec_minu (st f s) : exec (.minu st f) s = execMinu st f s := rfl
theorem exec_maxu (st f s) : exec (.maxu st f) s = execMaxu st f s := rfl
theorem exec_popc (st f s) : exec (.popc st f) s = execPopc st f s := rfl
theorem exec_clz (st f s) : exec (.clz st f) s = execClz st f s := rfl
theorem exec_ctz (st f s) : exec (.ctz st f) s = execCtz st f s := rfl
theorem exec_parity (st f s) : exec (.parity st f) s = execParity st f s := rfl
theorem exec_brev (st f s) : exec (.brev st f) s = execBrev st f s := rfl
theorem exec_sext (st f s) : exec (.sext st f) s = execSext st f s := rfl
theorem exec_zext (st f s) : exec (.zext st f) s = execZext st f s := rfl
theorem exec_crc32c (st f s) : exec (.crc32c st f) s = execCrc32c st f s := rfl
theorem exec_crc64 (st f s) : exec (.crc64 st f) s = execCrc64 st f s := rfl
theorem exec_addi (st f s) : exec (.addi st f) s = execAddi st f s := rfl
theorem exec_addvi (st f s) : exec (.addvi st f) s = execAddvi st f s := rfl
theorem exec_cmpi (st f s) : exec (.cmpi st f) s = execCmpi st f s := rfl
theorem exec_andi (st f s) : exec (.andi st f) s = execAndi st f s := rfl
theorem exec_ori (st f s) : exec (.ori st f) s = execOri st f s := rfl
theorem exec_xori (st f s) : exec (.xori st f) s = execXori st f s := rfl
theorem exec_shli (st f s) : exec (.shli st f) s = execShli st f s := rfl
theorem exec_shri (st f s) : exec (.shri st f) s = execShri st f s := rfl
theorem exec_sari (st f s) : exec (.sari st f) s = execSari st f s := rfl
theorem exec_rori (st f s) : exec (.rori st f) s = execRori st f s := rfl
theorem exec_adda (st f s) : exec (.adda st f) s = execAdda st f s := rfl
theorem exec_addar (st f s) : exec (.addar st f) s = execAddar st f s := rfl
theorem exec_subar (st f s) : exec (.subar st f) s = execSubar st f s := rfl
theorem exec_movad (st f s) : exec (.movad st f) s = execMovad st f s := rfl
theorem exec_movda (st f s) : exec (.movda st f) s = execMovda st f s := rfl
theorem exec_cmpa (st f s) : exec (.cmpa st f) s = execCmpa st f s := rfl
theorem exec_leapc (st f s) : exec (.leapc st f) s = execLeapc st f s := rfl
theorem exec_fadd (st f s) : exec (.fadd st f) s = execFadd st f s := rfl
theorem exec_fsub (st f s) : exec (.fsub st f) s = execFsub st f s := rfl
theorem exec_fmul (st f s) : exec (.fmul st f) s = execFmul st f s := rfl
theorem exec_fdiv (st f s) : exec (.fdiv st f) s = execFdiv st f s := rfl
theorem exec_fsqrt (st f s) : exec (.fsqrt st f) s = execFsqrt st f s := rfl
theorem exec_fma (st f s) : exec (.fma st f) s = execFma st f s := rfl
theorem exec_fms (st f s) : exec (.fms st f) s = execFms st f s := rfl
theorem exec_fnma (st f s) : exec (.fnma st f) s = execFnma st f s := rfl
theorem exec_fmin (st f s) : exec (.fmin st f) s = execFmin st f s := rfl
theorem exec_fmax (st f s) : exec (.fmax st f) s = execFmax st f s := rfl
theorem exec_fabs (st f s) : exec (.fabs st f) s = execFabs st f s := rfl
theorem exec_fneg (st f s) : exec (.fneg st f) s = execFneg st f s := rfl
theorem exec_fcmp (st f s) : exec (.fcmp st f) s = execFcmp st f s := rfl
theorem exec_fcmps (st f s) : exec (.fcmps st f) s = execFcmps st f s := rfl
theorem exec_fclass (st f s) : exec (.fclass st f) s = execFclass st f s := rfl
theorem exec_frint (st f s) : exec (.frint st f) s = execFrint st f s := rfl
theorem exec_fcvt (st f s) : exec (.fcvt st f) s = execFcvt st f s := rfl
theorem exec_ldb (st f s) : exec (.ldb st f) s = execLdb st f s := rfl
theorem exec_ldbu (st f s) : exec (.ldbu st f) s = execLdbu st f s := rfl
theorem exec_ldh (st f s) : exec (.ldh st f) s = execLdh st f s := rfl
theorem exec_ldhu (st f s) : exec (.ldhu st f) s = execLdhu st f s := rfl
theorem exec_ldw (st f s) : exec (.ldw st f) s = execLdw st f s := rfl
theorem exec_ldwu (st f s) : exec (.ldwu st f) s = execLdwu st f s := rfl
theorem exec_ldd (st f s) : exec (.ldd st f) s = execLdd st f s := rfl
theorem exec_stb (st f s) : exec (.stb st f) s = execStb st f s := rfl
theorem exec_sth (st f s) : exec (.sth st f) s = execSth st f s := rfl
theorem exec_stw (st f s) : exec (.stw st f) s = execStw st f s := rfl
theorem exec_std (st f s) : exec (.std st f) s = execStd st f s := rfl
theorem exec_lda (st f s) : exec (.lda st f) s = execLda st f s := rfl
theorem exec_sta (st f s) : exec (.sta st f) s = execSta st f s := rfl
theorem exec_ldv (st f s) : exec (.ldv st f) s = execLdv st f s := rfl
theorem exec_stv (st f s) : exec (.stv st f) s = execStv st f s := rfl
theorem exec_ldl (st f s) : exec (.ldl st f) s = execLdl st f s := rfl
theorem exec_stc (st f s) : exec (.stc st f) s = execStc st f s := rfl
theorem exec_qld (st f s) : exec (.qld st f) s = execQld st f s := rfl
theorem exec_qst (st f s) : exec (.qst st f) s = execQst st f s := rfl
theorem exec_bcc (st f s) : exec (.bcc st f) s = execBcc st f s := rfl
theorem exec_bz (st f s) : exec (.bz st f) s = execBz st f s := rfl
theorem exec_bnz (st f s) : exec (.bnz st f) s = execBnz st f s := rfl
theorem exec_jmp (st f s) : exec (.jmp st f) s = execJmp st f s := rfl
theorem exec_jal (st f s) : exec (.jal st f) s = execJal st f s := rfl
theorem exec_jr (st f s) : exec (.jr st f) s = execJr st f s := rfl
theorem exec_jalr (st f s) : exec (.jalr st f) s = execJalr st f s := rfl
theorem exec_loopi (st f s) : exec (.loopi st f) s = execLoopi st f s := rfl
theorem exec_loopr (st f s) : exec (.loopr st f) s = execLoopr st f s := rfl
theorem exec_movs (st f s) : exec (.movs st f) s = execMovs st f s := rfl
theorem exec_fills (st f s) : exec (.fills st f) s = execFills st f s := rfl
theorem exec_cmps (st f s) : exec (.cmps st f) s = execCmps st f s := rfl
theorem exec_scans (st f s) : exec (.scans st f) s = execScans st f s := rfl
theorem exec_crcs (st f s) : exec (.crcs st f) s = execCrcs st f s := rfl
theorem exec_rep (st f next iters s) : exec (.rep st f next iters) s = execRep st f next iters s := rfl
theorem exec_nop (st f s) : exec (.nop st f) s = execNop st f s := rfl
theorem exec_mfs (st f s) : exec (.mfs st f) s = execMfs st f s := rfl
theorem exec_mts (st f s) : exec (.mts st f) s = execMts st f s := rfl
theorem exec_setc (st f s) : exec (.setc st f) s = execSetc st f s := rfl
theorem exec_clrc (st f s) : exec (.clrc st f) s = execClrc st f s := rfl
theorem exec_fence (st f s) : exec (.fence st f) s = execFence st f s := rfl
theorem exec_iflush (st f s) : exec (.iflush st f) s = execIflush st f s := rfl
theorem exec_rte (st f s) : exec (.rte st f) s = execRte st f s := rfl
theorem exec_trap (st f s) : exec (.trap st f) s = execTrap st f s := rfl
theorem exec_bkpt (st f s) : exec (.bkpt st f) s = execBkpt st f s := rfl
theorem exec_endLesson (st f s) : exec (.endLesson st f) s = execEndLesson st f s := rfl
theorem exec_qclr (st f s) : exec (.qclr st f) s = execQclr st f s := rfl
theorem exec_qaddd (st f s) : exec (.qaddd st f) s = execQaddd st f s := rfl
theorem exec_qaddq (st f s) : exec (.qaddq st f) s = execQaddq st f s := rfl
theorem exec_qrnd (st f s) : exec (.qrnd st f) s = execQrnd st f s := rfl
theorem exec_imms (st f s) : exec (.imms st f) s = execImms st f s := rfl
theorem exec_immx (st f s) : exec (.immx st f) s = execImmx st f s := rfl
theorem exec_vcopy (st f s) : exec (.vcopy st f) s = execVcopy st f s := rfl
theorem exec_vcvt (st f s) : exec (.vcvt st f) s = execVcvt st f s := rfl
theorem exec_vfill (st f s) : exec (.vfill st f) s = execVfill st f s := rfl
theorem exec_viota (st f s) : exec (.viota st f) s = execViota st f s := rfl
theorem exec_vsel (st f s) : exec (.vsel st f) s = execVsel st f s := rfl
theorem exec_vperm (st f s) : exec (.vperm st f) s = execVperm st f s := rfl
theorem exec_vbrev (st f s) : exec (.vbrev st f) s = execVbrev st f s := rfl
theorem exec_chain (st f s) : exec (.chain st f) s = execChain st f s := rfl
theorem exec_vfence (st f s) : exec (.vfence st f) s = execVfence st f s := rfl
theorem exec_vsuspend (st f s) : exec (.vsuspend st f) s = execVsuspend st f s := rfl
theorem exec_vresume (st f s) : exec (.vresume st f) s = execVresume st f s := rfl
theorem exec_vdiscard (st f s) : exec (.vdiscard st f) s = execVdiscard st f s := rfl
theorem exec_vfadd (st f s) : exec (.vfadd st f) s = execVfadd st f s := rfl
theorem exec_vfsub (st f s) : exec (.vfsub st f) s = execVfsub st f s := rfl
theorem exec_vfmul (st f s) : exec (.vfmul st f) s = execVfmul st f s := rfl
theorem exec_vfdiv (st f s) : exec (.vfdiv st f) s = execVfdiv st f s := rfl
theorem exec_vfsqrt (st f s) : exec (.vfsqrt st f) s = execVfsqrt st f s := rfl
theorem exec_vfma (st f s) : exec (.vfma st f) s = execVfma st f s := rfl
theorem exec_vfms (st f s) : exec (.vfms st f) s = execVfms st f s := rfl
theorem exec_vfnma (st f s) : exec (.vfnma st f) s = execVfnma st f s := rfl
theorem exec_vfmin (st f s) : exec (.vfmin st f) s = execVfmin st f s := rfl
theorem exec_vfmax (st f s) : exec (.vfmax st f) s = execVfmax st f s := rfl
theorem exec_vfabs (st f s) : exec (.vfabs st f) s = execVfabs st f s := rfl
theorem exec_vfneg (st f s) : exec (.vfneg st f) s = execVfneg st f s := rfl
theorem exec_vfcmp (st f s) : exec (.vfcmp st f) s = execVfcmp st f s := rfl
theorem exec_vfclass (st f s) : exec (.vfclass st f) s = execVfclass st f s := rfl
theorem exec_vfrint (st f s) : exec (.vfrint st f) s = execVfrint st f s := rfl
theorem exec_vfmaw (st f s) : exec (.vfmaw st f) s = execVfmaw st f s := rfl
theorem exec_vadd (st f s) : exec (.vadd st f) s = execVadd st f s := rfl
theorem exec_vsub (st f s) : exec (.vsub st f) s = execVsub st f s := rfl
theorem exec_vmul (st f s) : exec (.vmul st f) s = execVmul st f s := rfl
theorem exec_vmulh (st f s) : exec (.vmulh st f) s = execVmulh st f s := rfl
theorem exec_vaddc (st f s) : exec (.vaddc st f) s = execVaddc st f s := rfl
theorem exec_vaddco (st f s) : exec (.vaddco st f) s = execVaddco st f s := rfl
theorem exec_vsubb (st f s) : exec (.vsubb st f) s = execVsubb st f s := rfl
theorem exec_vsubbo (st f s) : exec (.vsubbo st f) s = execVsubbo st f s := rfl
theorem exec_vand (st f s) : exec (.vand st f) s = execVand st f s := rfl
theorem exec_vor (st f s) : exec (.vor st f) s = execVor st f s := rfl
theorem exec_vxor (st f s) : exec (.vxor st f) s = execVxor st f s := rfl
theorem exec_vandn (st f s) : exec (.vandn st f) s = execVandn st f s := rfl
theorem exec_vshl (st f s) : exec (.vshl st f) s = execVshl st f s := rfl
theorem exec_vshr (st f s) : exec (.vshr st f) s = execVshr st f s := rfl
theorem exec_vsar (st f s) : exec (.vsar st f) s = execVsar st f s := rfl
theorem exec_vicmp (st f s) : exec (.vicmp st f) s = execVicmp st f s := rfl
theorem exec_vimin (st f s) : exec (.vimin st f) s = execVimin st f s := rfl
theorem exec_vimax (st f s) : exec (.vimax st f) s = execVimax st f s := rfl
theorem exec_vpopc (st f s) : exec (.vpopc st f) s = execVpopc st f s := rfl
theorem exec_vclz (st f s) : exec (.vclz st f) s = execVclz st f s := rfl
theorem exec_qdot (st f s) : exec (.qdot st f) s = execQdot st f s := rfl
theorem exec_qsum (st f s) : exec (.qsum st f) s = execQsum st f s := rfl
theorem exec_visum (st f s) : exec (.visum st f) s = execVisum st f s := rfl
theorem exec_vimaxr (st f s) : exec (.vimaxr st f) s = execVimaxr st f s := rfl
theorem exec_viminr (st f s) : exec (.viminr st f) s = execViminr st f s := rfl
theorem exec_vfmaxr (st f s) : exec (.vfmaxr st f) s = execVfmaxr st f s := rfl
theorem exec_vfminr (st f s) : exec (.vfminr st f) s = execVfminr st f s := rfl
theorem exec_vcrc (st f s) : exec (.vcrc st f) s = execVcrc st f s := rfl
theorem exec_vmcnt (st f s) : exec (.vmcnt st f) s = execVmcnt st f s := rfl
theorem exec_userInstruction (st u f s) : exec (.userInstruction st u f) s = execUserInstruction st u f s := rfl
theorem exec_vectorEntryExecute (st s) : exec (.vectorEntryExecute st) s = execVectorEntryExecute st s := rfl
theorem exec_runAheadRead (st blocks s) : exec (.runAheadRead st blocks) s = execRunAheadRead st blocks s := rfl
theorem exec_vectorSuspendStop (st group s) : exec (.vectorSuspendStop st group) s = execVectorSuspendStop st group s := rfl
theorem exec_loadDataReturn (st resp s) : exec (.loadDataReturn st resp) s = execLoadDataReturn st resp s := rfl
theorem exec_lineFill (st addr resp s) : exec (.lineFill st addr resp) s = execLineFill st addr resp s := rfl
theorem exec_storeCommit (st o s) : exec (.storeCommit st o) s = execStoreCommit st o s := rfl
theorem exec_exceptionEntry (st why s) : exec (.exceptionEntry st why) s = execExceptionEntry st why s := rfl
theorem exec_lazyQSave (st n s) : exec (.lazyQSave st n) s = execLazyQSave st n s := rfl
theorem exec_monitorEntry (st s) : exec (.monitorEntry st) s = execMonitorEntry st s := rfl
theorem exec_watchdogExpiry (st dt s) : exec (.watchdogExpiry st dt) s = execWatchdogExpiry st dt s := rfl
theorem exec_lessonStart (st dt s) : exec (.lessonStart st dt) s = execLessonStart st dt s := rfl
theorem exec_lessonEnd (st dt s) : exec (.lessonEnd st dt) s = execLessonEnd st dt s := rfl
theorem exec_budgetPointStop (cl dt s) : exec (.budgetPointStop cl dt) s = execBudgetPointStop cl dt s := rfl
theorem exec_energyLimitStop (cl dt s) : exec (.energyLimitStop cl dt) s = execEnergyLimitStop cl dt s := rfl
theorem exec_lessonRerun (st s) : exec (.lessonRerun st) s = execLessonRerun st s := rfl
theorem exec_streamDeskCopy (st s) : exec (.streamDeskCopy st) s = execStreamDeskCopy st s := rfl
theorem exec_completionRecordPost (cl s) : exec (.completionRecordPost cl) s = execCompletionRecordPost cl s := rfl
theorem exec_bookingDecision (q s) : exec (.bookingDecision q) s = execBookingDecision q s := rfl
theorem exec_cqEntryWrite (q refused s) : exec (.cqEntryWrite q refused) s = execCqEntryWrite q refused s := rfl
theorem exec_msixMessage (v s) : exec (.msixMessage v) s = execMsixMessage v s := rfl
theorem exec_tickEdge (dt s) : exec (.tickEdge dt) s = execTickEdge dt s := rfl
theorem exec_bellTimerExpiry (dt s) : exec (.bellTimerExpiry dt) s = execBellTimerExpiry dt s := rfl
theorem exec_recessEnd (dt s) : exec (.recessEnd dt) s = execRecessEnd dt s := rfl
theorem exec_recessSliceStep (u o s) : exec (.recessSliceStep u o) s = execRecessSliceStep u o s := rfl
theorem exec_fieldTripCopy (committed s) : exec (.fieldTripCopy committed) s = execFieldTripCopy committed s := rfl
theorem exec_scrub (block overtaken s) : exec (.scrub block overtaken) s = execScrub block overtaken s := rfl
theorem exec_refresh (p bank s) : exec (.refresh p bank) s = execRefresh p bank s := rfl
theorem exec_blockRetry (r s) : exec (.blockRetry r) s = execBlockRetry r s := rfl
theorem exec_deskEccWriteBack (k word s) : exec (.deskEccWriteBack k word) s = execDeskEccWriteBack k word s := rfl
theorem exec_deskDmaLineIssue (k excursion other eng s) : exec (.deskDmaLineIssue k excursion other eng) s = execDeskDmaLineIssue k excursion other eng s := rfl
theorem exec_deskWakeStart (k s) : exec (.deskWakeStart k) s = execDeskWakeStart k s := rfl
theorem exec_deskWakeComplete (k s) : exec (.deskWakeComplete k) s = execDeskWakeComplete k s := rfl
theorem exec_excursionStart (e dt s) : exec (.excursionStart e dt) s = execExcursionStart e dt s := rfl
theorem exec_excursionComplete (e dt s) : exec (.excursionComplete e dt) s = execExcursionComplete e dt s := rfl
theorem exec_farResponse (e r s) : exec (.farResponse e r) s = execFarResponse e r s := rfl
theorem exec_smPieceGrant (t waiting s) : exec (.smPieceGrant t waiting) s = execSmPieceGrant t waiting s := rfl
theorem exec_gspBlockService (waiting s) : exec (.gspBlockService waiting) s = execGspBlockService waiting s := rfl
theorem exec_hostReadRequest (bar off len s) : exec (.hostReadRequest bar off len) s = execHostReadRequest bar off len s := rfl
theorem exec_hostWriteRequest (bar off data poisoned s) : exec (.hostWriteRequest bar off data poisoned) s = execHostWriteRequest bar off data poisoned s := rfl
theorem exec_debugAccess (a s) : exec (.debugAccess a) s = execDebugAccess a s := rfl
theorem exec_submissionTailDoorbell (q v whole s) : exec (.submissionTailDoorbell q v whole) s = execSubmissionTailDoorbell q v whole s := rfl
theorem exec_completionHeadDoorbell (q v whole s) : exec (.completionHeadDoorbell q v whole) s = execCompletionHeadDoorbell q v whole s := rfl
theorem exec_queuePairEnable (q ien cqsz iv s) : exec (.queuePairEnable q ien cqsz iv) s = execQueuePairEnable q ien cqsz iv s := rfl
theorem exec_queuePairDisable (q ien iv s) : exec (.queuePairDisable q ien iv) s = execQueuePairDisable q ien iv s := rfl
theorem exec_hostEventRaise (raise s) : exec (.hostEventRaise raise) s = execHostEventRaise raise s := rfl
theorem exec_mailboxRequest (off data s) : exec (.mailboxRequest off data) s = execMailboxRequest off data s := rfl
theorem exec_streamReset (tile slots s) : exec (.streamReset tile slots) s = execStreamReset tile slots s := rfl
theorem exec_debugReset (m go st s) : exec (.debugReset m go st) s = execDebugReset m go st s := rfl
theorem exec_haltRequest (m k s) : exec (.haltRequest m k) s = execHaltRequest m k s := rfl
theorem exec_haltCancel (m k s) : exec (.haltCancel m k) s = execHaltCancel m k s := rfl
theorem exec_registerWrite (m addr wide v s) : exec (.registerWrite m addr wide v) s = execRegisterWrite m addr wide v s := rfl
theorem exec_registerReadClear (m addr wide s) : exec (.registerReadClear m addr wide) s = execRegisterReadClear m addr wide s := rfl
theorem exec_mgmtFrameBoundary (dt sensors s) : exec (.mgmtFrameBoundary dt sensors) s = execMgmtFrameBoundary dt sensors s := rfl
theorem exec_journalPersist (okA okB s) : exec (.journalPersist okA okB) s = execJournalPersist okA okB s := rfl
theorem exec_canFrameReceive (f s) : exec (.canFrameReceive f) s = execCanFrameReceive f s := rfl
theorem exec_canBusOffRecovery (s) : exec .canBusOffRecovery s = execCanBusOffRecovery s := rfl
theorem exec_read (t s) : exec (.read t) s = execRead t s := rfl
theorem exec_write (t s) : exec (.write t) s = execWrite t s := rfl
theorem exec_sreadInit (t s) : exec (.sreadInit t) s = execSreadInit t s := rfl
theorem exec_sreadSeg (t s) : exec (.sreadSeg t) s = execSreadSeg t s := rfl
theorem exec_swriteInit (t s) : exec (.swriteInit t) s = execSwriteInit t s := rfl
theorem exec_swriteSeg (t s) : exec (.swriteSeg t) s = execSwriteSeg t s := rfl
theorem exec_abort (t s) : exec (.abort t) s = execAbort t s := rfl
theorem exec_unknownRequest (t s) : exec (.unknownRequest t) s = execUnknownRequest t s := rfl
theorem exec_segmentTransferTimeout (t s) : exec (.segmentTransferTimeout t) s = execSegmentTransferTimeout t s := rfl
theorem exec_moduleWarmReset (s) : exec .moduleWarmReset s = execModuleWarmReset s := rfl
theorem exec_warmResetExecute (obs s) : exec (.warmResetExecute obs) s = execWarmResetExecute obs s := rfl
theorem exec_enterModuleStandby (s) : exec .enterModuleStandby s = execEnterModuleStandby s := rfl
theorem exec_standbyEntryExecute (s) : exec .standbyEntryExecute s = execStandbyEntryExecute s := rfl
theorem exec_leaveModuleStandby (s) : exec .leaveModuleStandby s = execLeaveModuleStandby s := rfl
theorem exec_timetableHold (s) : exec .timetableHold s = execTimetableHold s := rfl
theorem exec_timetableResume (s) : exec .timetableResume s = execTimetableResume s := rfl
theorem exec_retireUnit (v s) : exec (.retireUnit v) s = execRetireUnit v s := rfl
theorem exec_deleteFieldRecord (k s) : exec (.deleteFieldRecord k) s = execDeleteFieldRecord k s := rfl
theorem exec_deleteAllFieldRecords (s) : exec .deleteAllFieldRecords s = execDeleteAllFieldRecords s := rfl
theorem exec_restoreDefaults (s) : exec .restoreDefaults s = execRestoreDefaults s := rfl
theorem exec_decodeImageWrite (u image s) : exec (.decodeImageWrite u image) s = execDecodeImageWrite u image s := rfl
theorem exec_coverageRunStart (s) : exec .coverageRunStart s = execCoverageRunStart s := rfl
theorem exec_bistAbort (patterns us s) : exec (.bistAbort patterns us) s = execBistAbort patterns us s := rfl
theorem exec_attestationRequest (cl nonce flashOk s) : exec (.attestationRequest cl nonce flashOk) s = execAttestationRequest cl nonce flashOk s := rfl
theorem exec_lifeCycleTransition (code s) : exec (.lifeCycleTransition code) s = execLifeCycleTransition code s := rfl
theorem exec_firmwareImageUpload (image flashOk s) : exec (.firmwareImageUpload image flashOk) s = execFirmwareImageUpload image flashOk s := rfl
theorem exec_bootImageUpload (image flashOk s) : exec (.bootImageUpload image flashOk) s = execBootImageUpload image flashOk s := rfl
theorem exec_hallPassSubmit (pass s) : exec (.hallPassSubmit pass) s = execHallPassSubmit pass s := rfl
theorem exec_hallPassDecision (s) : exec .hallPassDecision s = execHallPassDecision s := rfl
theorem exec_endAllPasses (s) : exec .endAllPasses s = execEndAllPasses s := rfl
theorem exec_tracePortSend (s) : exec .tracePortSend s = execTracePortSend s := rfl
theorem exec_auxOn (sb s) : exec (.auxOn sb) s = execAuxOn sb s := rfl
theorem exec_auxLoss (s) : exec .auxLoss s = execAuxLoss s := rfl
theorem exec_mainInputReturn (s) : exec .mainInputReturn s = execMainInputReturn s := rfl
theorem exec_mainInputLoss (s) : exec .mainInputLoss s = execMainInputLoss s := rfl
theorem exec_mainPowerGood (obs s) : exec (.mainPowerGood obs) s = execMainPowerGood obs s := rfl
theorem exec_pwrgdTimeout (s) : exec .pwrgdTimeout s = execPwrgdTimeout s := rfl
theorem exec_thermalTrip (s) : exec .thermalTrip s = execThermalTrip s := rfl
theorem exec_hostReset (why s) : exec (.hostReset why) s = execHostReset why s := rfl
theorem exec_hostLinkTraining (lanes rate s) : exec (.hostLinkTraining lanes rate) s = execHostLinkTraining lanes rate s := rfl
theorem exec_expansionLinkUp (d s) : exec (.expansionLinkUp d) s = execExpansionLinkUp d s := rfl
theorem exec_expansionLinkDown (s) : exec .expansionLinkDown s = execExpansionLinkDown s := rfl
theorem exec_deviceFailure (p s) : exec (.deviceFailure p) s = execDeviceFailure p s := rfl
theorem exec_tapReset (s) : exec .tapReset s = execTapReset s := rfl
theorem exec_bypass (s) : exec .bypass s = execBypass s := rfl
theorem exec_idcode (s) : exec .idcode s = execIdcode s := rfl
theorem exec_samplePreload (sampled preload s) : exec (.samplePreload sampled preload) s = execSamplePreload sampled preload s := rfl
theorem exec_extest (s) : exec .extest s = execExtest s := rfl
theorem exec_clamp (s) : exec .clamp s = execClamp s := rfl
theorem exec_highz (s) : exec .highz s = execHighz s := rfl
theorem exec_dbgacc (a s) : exec (.dbgacc a) s = execDbgacc a s := rfl
theorem exec_portTrainingFailure (p s) : exec (.portTrainingFailure p) s = execPortTrainingFailure p s := rfl
theorem exec_submissionQueueEntryWrite (off data s) : exec (.submissionQueueEntryWrite off data) s = execSubmissionQueueEntryWrite off data s := rfl
theorem exec_msixVectorUnmask (v s) : exec (.msixVectorUnmask v) s = execMsixVectorUnmask v s := rfl
theorem exec_configSpaceWrite (w s) : exec (.configSpaceWrite w) s = execConfigSpaceWrite w s := rfl
theorem exec_canFrameTransmit (o s) : exec (.canFrameTransmit o) s = execCanFrameTransmit o s := rfl
theorem exec_journalCompaction (ok s) : exec (.journalCompaction ok) s = execJournalCompaction ok s := rfl
theorem exec_coverageRunEnd (patterns us s) : exec (.coverageRunEnd patterns us) s = execCoverageRunEnd patterns us s := rfl
theorem exec_powerStageRailWarning (s) : exec .powerStageRailWarning s = execPowerStageRailWarning s := rfl

end Sys2Proof.Machine
end

