-- ==== Sys2Proof/Laws/Memory.lean ====
section
/-!
SUPPORT. Memory: every operation keeps the canonical form, a read after a write gives the byte written, and a write leaves every other
byte alone.
-/

namespace Sys2Proof.Machine

/-! ### Cells -/

/-- The addresses of the cells are above `a`. -/
def Cells.above (a : Nat) : List Host.Cell → Prop
  | [] => True
  | (b, _) :: _ => a < b

theorem Cells.wf_cons (d : Nat → Byte) (a : Nat) (x : Byte) (l : List Host.Cell) :
    Cells.wf d ((a, x) :: l) = true ↔ x ≠ d a ∧ Cells.above a l ∧ Cells.wf d l = true := by
  cases l with
  | nil => simp [Cells.wf, Cells.above]
  | cons c l => obtain ⟨b, y⟩ := c; simp [Cells.wf, Cells.above, and_assoc]

theorem Cells.read_of_above (d : Nat → Byte) (l : List Host.Cell) (a : Nat) (h : Cells.above a l) : Cells.read d l a = d a := by
  cases l with
  | nil => rfl
  | cons c l =>
    obtain ⟨b, y⟩ := c
    simp only [Cells.above] at h
    simp [Cells.read, h, Nat.ne_of_lt h]

theorem Cells.above_trans (a b : Nat) (h : a < b) : (l : List Host.Cell) → Cells.above b l → Cells.above a l
  | [], _ => trivial
  | (_, _) :: _, hb => Nat.lt_trans h hb

theorem Cells.above_write (d : Nat → Byte) (c : Nat) : (l : List Host.Cell) → (a : Nat) → (x : Byte) → Cells.wf d l = true → Cells.above c l → c < a →
    Cells.above c (Cells.write d l a x)
  | [], a, x, _, _, hc => by simp only [Cells.write]; split <;> simp [Cells.above, hc]
  | (b, y) :: r, a, x, hw, hab, hc => by
    have hb : c < b := hab
    have hr := ((Cells.wf_cons d b y r).1 hw).2.1
    simp only [Cells.write]
    split
    · split
      · exact hb
      · exact hc
    · split
      · split
        · exact Cells.above_trans c b hb r hr
        · exact hc
      · exact hb

theorem Cells.wf_write (d : Nat → Byte) : (l : List Host.Cell) → (a : Nat) → (x : Byte) → Cells.wf d l = true →
    Cells.wf d (Cells.write d l a x) = true
  | [], a, x, _ => by simp only [Cells.write]; split <;> simp [Cells.wf, *]
  | (b, y) :: r, a, x, h => by
    obtain ⟨hy, hab, hr⟩ := (Cells.wf_cons d b y r).1 h
    simp only [Cells.write]
    split
    · rename_i hlt
      split
      · exact h
      · rename_i hx; exact (Cells.wf_cons ..).2 ⟨hx, hlt, h⟩
    · rename_i hlt
      split
      · rename_i he
        split
        · exact hr
        · rename_i hx; exact (Cells.wf_cons ..).2 ⟨hx, he ▸ hab, hr⟩
      · rename_i he
        exact (Cells.wf_cons ..).2 ⟨hy, Cells.above_write d b r a x hr hab (by omega), Cells.wf_write d r a x hr⟩

theorem Cells.read_write (d : Nat → Byte) : (l : List Host.Cell) → (a : Nat) → (x : Byte) → (b : Nat) → Cells.wf d l = true →
    Cells.read d (Cells.write d l a x) b = if b = a then x else Cells.read d l b
  | [], a, x, b, _ => by
    simp only [Cells.write]
    split
    · rename_i hx; split <;> simp_all [Cells.read]
    · simp only [Cells.read]; split <;> simp_all
  | (c, y) :: r, a, x, b, h => by
    obtain ⟨hy, hab, hr⟩ := (Cells.wf_cons d c y r).1 h
    simp only [Cells.write]
    split
    · rename_i hlt
      have hac : Cells.read d ((c, y) :: r) a = d a := Cells.read_of_above d _ a hlt
      split
      · rename_i hx
        split
        · rename_i e; rw [e, hac, hx]
        · rfl
      · rename_i hx
        by_cases e : b = a
        · subst e; simp [Cells.read]
        · by_cases hb : b < a
          · have : Cells.read d ((c, y) :: r) b = d b := Cells.read_of_above d _ b (Nat.lt_trans hb hlt)
            rw [this]; simp [Cells.read, e, hb]
          · have : Cells.read d ((a, x) :: (c, y) :: r) b = Cells.read d ((c, y) :: r) b := by
              rw [show Cells.read d ((a, x) :: (c, y) :: r) b = if b = a then x else if b < a then d b else Cells.read d ((c, y) :: r) b from rfl,
                if_neg e, if_neg hb]
            rw [this, if_neg e]
    · rename_i hlt
      split
      · rename_i he
        subst he
        split
        · rename_i hx
          by_cases e : b = a
          · subst e; simp [Cells.read_of_above d r b hab, hx]
          · simp only [if_neg e, Cells.read]
            split
            · rename_i hb; exact Cells.read_of_above d r b (Cells.above_trans _ _ hb r hab)
            · rfl
        · simp only [Cells.read]; split <;> simp_all
      · rename_i he
        simp only [Cells.read]
        rw [Cells.read_write d r a x b hr]
        by_cases e : b = a
        · subst e; simp [he, hlt]
        · simp [e]

/-! ### Memory -/

@[simp] theorem Mem.zero_wf : Mem.zero.wf = true := rfl

theorem Mem.write_wf (m : Mem) (a : Nat) (x : Byte) (h : m.wf = true) : (m.write a x).wf = true := Cells.wf_write _ _ _ _ h

theorem Mem.read_write (m : Mem) (a b : Nat) (x : Byte) (h : m.wf = true) : (m.write a x).read b = if b = a then x else m.read b :=
  Cells.read_write _ _ _ _ _ h

theorem Mem.read_write_same (m : Mem) (a : Nat) (x : Byte) (h : m.wf = true) : (m.write a x).read a = x := by
  simp [Mem.read_write m a a x h]

theorem Mem.read_write_other (m : Mem) (a b : Nat) (x : Byte) (h : m.wf = true) (e : b ≠ a) : (m.write a x).read b = m.read b := by
  simp [Mem.read_write m a b x h, e]

theorem Mem.writeBytes_wf : (xs : List Byte) → (m : Mem) → (a : Nat) → m.wf = true → (m.writeBytes a xs).wf = true
  | [], _, _, h => h
  | x :: xs, m, a, h => Mem.writeBytes_wf xs (m.write a x) (a + 1) (m.write_wf a x h)

theorem Mem.writeMasked_wf : (xs : List (Option Byte)) → (m : Mem) → (a : Nat) → m.wf = true → (m.writeMasked a xs).wf = true
  | [], _, _, h => h
  | none :: xs, m, a, h => Mem.writeMasked_wf xs m (a + 1) h
  | some x :: xs, m, a, h => Mem.writeMasked_wf xs (m.write a x) (a + 1) (m.write_wf a x h)

theorem Mem.write64_wf (m : Mem) (a : Nat) (w : Word64) (h : m.wf = true) : (m.write64 a w).wf = true := Mem.writeBytes_wf _ m a h

/-- The bytes written read back, and every other byte is as before. -/
theorem Mem.read_writeBytes : (xs : List Byte) → (m : Mem) → (a b : Nat) → m.wf = true →
    (m.writeBytes a xs).read b = if a ≤ b ∧ b < a + xs.length then xs.getD (b - a) 0 else m.read b
  | [], m, a, b, _ => by
    have : ¬(a ≤ b ∧ b < a + ([] : List Byte).length) := by simp
    rw [if_neg this]; rfl
  | x :: xs, m, a, b, h => by
    rw [Mem.writeBytes, Mem.read_writeBytes xs (m.write a x) (a + 1) b (m.write_wf a x h), Mem.read_write m a b x h]
    by_cases e : b = a
    · subst e
      have h1 : ¬(b + 1 ≤ b ∧ b < b + 1 + xs.length) := by omega
      rw [if_neg h1, if_pos rfl, if_pos (by simp)]
      simp
    · by_cases h1 : a + 1 ≤ b ∧ b < a + 1 + xs.length
      · rw [if_pos h1, if_pos (by simp only [List.length_cons]; omega)]
        obtain ⟨n, hn⟩ : ∃ n, b - a = n + 1 := ⟨b - a - 1, by omega⟩
        rw [hn, show b - (a + 1) = n by omega]
        simp
      · rw [if_neg h1, if_neg e, if_neg (by simp only [List.length_cons]; omega)]

theorem Mem.read_writeBytes_other (m : Mem) (a b : Nat) (xs : List Byte) (h : m.wf = true) (hb : b < a ∨ a + xs.length ≤ b) :
    (m.writeBytes a xs).read b = m.read b := by
  rw [Mem.read_writeBytes xs m a b h, if_neg (by omega)]

theorem Mem.readBytes_eq : (n : Nat) → (m : Mem) → (a : Nat) → m.readBytes a n = (List.range n).map fun i => m.read (a + i)
  | 0, _, _ => rfl
  | n + 1, m, a => by
    rw [Mem.readBytes, Mem.readBytes_eq n m (a + 1), List.range_succ_eq_map]
    simp [List.map_map, Function.comp_def, Nat.add_assoc, Nat.add_comm 1]

@[simp] theorem Mem.readBytes_length (m : Mem) (a n : Nat) : (m.readBytes a n).length = n := by simp [Mem.readBytes_eq]

/-- What was written is what a read of the same bytes gives. -/
theorem Mem.readBytes_writeBytes (m : Mem) (a : Nat) (xs : List Byte) (h : m.wf = true) : (m.writeBytes a xs).readBytes a xs.length = xs := by
  rw [Mem.readBytes_eq]
  apply List.ext_getElem
  · simp
  · intro i h1 h2
    simp only [List.length_map, List.length_range] at h1
    simp [Mem.read_writeBytes xs m a (a + i) h, h1]

end Sys2Proof.Machine
end

