-- ==== Sys2Proof/Tests/Slice0.lean ====
section
/-!
SUPPORT. An ill-formed term for each check of WellFormed; for every statement, a state and operands that meet its hypotheses together, clause by
clause; and the spec's worked values. Expected values come from the spec.
-/

namespace Sys2Proof.Tests

open Sys2Proof Sys2Proof.Machine

set_option Elab.async false

/-! ### An ill-formed term for each check of WellFormed -/

theorem test_wf_lineFill : (Instr.lineFill 0 4 .ok).wellFormed = false := by decide
theorem test_wf_deskEcc : (Instr.deskEccWriteBack 0 524288).wellFormed = false := by decide
theorem test_wf_dma : (Instr.deskDmaLineIssue 0 (some ⟨8, none⟩) none .idle).wellFormed = false := by decide
theorem test_wf_dma_bytes : (Instr.deskDmaLineIssue 0 none (some ⟨64, some []⟩) .idle).wellFormed = false := by decide
theorem test_wf_dma_engine : (Instr.deskDmaLineIssue 0 none none (.write [])).wellFormed = false := by decide
theorem test_wf_far : (Instr.farResponse 0 ⟨0, false, []⟩).wellFormed = false := by decide
theorem test_wf_refresh : (Instr.refresh 0 ⟨0, [.deskWord 0 524288 true]⟩).wellFormed = false := by decide
theorem test_wf_refresh_block : (Instr.refresh 0 ⟨0, [.block (.spare 0 983040) [] .detected]⟩).wellFormed = false := by decide
theorem test_wf_piece : (Instr.smPieceGrant .gsp ⟨[⟨.hdma, 0, 252, 8, none, true, 252, 8⟩], false⟩).wellFormed = false := by decide
theorem test_wf_piece_whole : (Instr.smPieceGrant .gsp ⟨[⟨.hdma, 0, 256, 4, none, true, 252, 12⟩], false⟩).wellFormed = false := by decide
theorem test_wf_gsp_tile : (Instr.gspBlockService [.hub 0 17 0 0 false]).wellFormed = false := by decide
theorem test_wf_gsp_core : (Instr.gspBlockService [.hub 0 1 0 0 false, .hub 0 1 0 5 true]).wellFormed = false := by decide
theorem test_wf_read : (Instr.hostReadRequest .bar4 0 ⟨0, false⟩).wellFormed = false := by decide
theorem test_wf_write : (Instr.hostWriteRequest .bar4 0xFFFFE [0, 0, 0] .sound).wellFormed = false := by decide
theorem test_wf_access : (Instr.debugAccess ⟨4092, 8, none⟩).wellFormed = false := by decide
theorem test_wf_dbgacc : (Instr.dbgacc ⟨4, 4, some []⟩).wellFormed = false := by decide
theorem test_wf_sq : (Instr.submissionQueueEntryWrite 0x7FFFF [0, 0]).wellFormed = false := by decide
theorem test_wf_mailbox : (Instr.mailboxRequest 0 [0]).wellFormed = false := by decide
theorem test_wf_can : (Instr.canFrameReceive (.fd 0 [])).wellFormed = false := by decide
theorem test_wf_retry : (Instr.blockRetry ⟨none, 0, false, .link, 1, true, false⟩).wellFormed = false := by decide

/-! ### Small states -/

/-- A module whose main domain runs, with the slot that serves Stream 0. -/
def board (x : Slot) : State :=
  { State.reset with
    power := { State.reset.power with phase := .run, ready := true, main48 := true }
    repair := { State.reset.repair with serving := State.reset.repair.serving.set 0 (some 0) }
    slots := State.reset.slots.set 0 x }

/-- A core that runs with the registers `r`. -/
def running (r : Regs) : Slot := { Slot.reset with status := .running, regs := r }

def core (r : Regs) : State := board (running r)

theorem board_slot (x : Slot) : (board x).slot 0 = x := rfl

/-- The board is clear when its slot keeps what a running core holds. -/
theorem board_clear (r : Regs) (y : Slot → Slot)
    (h : ∀ x, (y x).status = x.status ∧ (y x).exc = x.exc ∧ (y x).loads = x.loads ∧ (y x).storeErr = x.storeErr ∧ (y x).wd = x.wd
      ∧ (y x).chain = x.chain ∧ (y x).parity = x.parity ∧ (y x).dbg.monen = x.dbg.monen)
    (hq : (y (running r)).eng.queue = []) : (board (y (running r))).clear 0 0 := by
  obtain ⟨h1, h2, h3, h4, h5, h6, h7, h8⟩ := h (running r)
  refine ⟨rfl, ?_⟩
  rw [board_slot]
  refine ⟨.inl h1, h2, h3, h4, ?_, h6, h7, h8, ?_, ?_⟩
  · rw [h5]; rfl
  · intro n; simp [Engine.targetsD, hq]
  · intro n; simp [Engine.targetsQ, hq]

theorem core_clear (r : Regs) : (core r).clear 0 0 := board_clear r id (fun _ => ⟨rfl, rfl, rfl, rfl, rfl, rfl, rfl, rfl⟩) rfl

theorem core_placed (r : Regs) (n : Nat) : ((core r).slot 0).placed n := .inl rfl

/-- Registers with the values of D1 and D2, and the FPCSR. -/
def rd12 (a b : Word64) (f : Word32) : Regs := { Regs.reset with d := (Regs.reset.d.set 1 a).set 2 b, fpcsr := f }

/-! ### Integer and address rows -/

theorem witness_BinaryRowsWriteTheirValue : ∃ (s : State) (i : StreamId) (k : SlotId) (f : RFmt),
    s.clear i k ∧ (s.slot k).placed 4 ∧ f.w = 0 ∧ f.rsv = 0 :=
  ⟨core Regs.reset, 0, 0, ⟨31, 1, 2, 0, 0⟩, core_clear _, core_placed _ _, rfl, rfl⟩

/-- A queue of one reduction into D1. -/
def reducing : Engine := { (running Regs.reset).eng with queue := [⟨[Regs.reset.captured 0x52 ⟨0, 0, 0, 0, 1, 0, 0, 0, 0, 0, 0⟩ none], 1, 5, 0⟩] }

/-- A core behind a reduction into D1, and a core whose D1 fails its parity check. -/
theorem witness_BinaryRowsWriteTheirValue_waits :
    (let s := board { running Regs.reset with eng := reducing };
      (s.modSlot 0 fun x => { x with eng := { x.eng with queue := [] } }).clear 0 0 ∧ (s.slot 0).delay = none ∧ (s.slot 0).eng.stopped = false
      ∧ ∃ e ∈ (s.slot 0).eng.queue, ∃ v ∈ e.ops, 0x52 ≤ v.vop.toNat ∧ v.vop.toNat ≤ 0x58 ∧ v.f.ds = 1)
    ∧ (let s := board { running Regs.reset with parity := [0x21] };
      (s.modSlot 0 fun x => { x with parity := [] }).clear 0 0 ∧ (s.slot 0).placed 4
      ∧ (s.slot 0).parity = [BitVec.ofNat 8 (0x20 + (1 : BitVec 5).toNat)]) :=
  ⟨⟨core_clear Regs.reset, rfl, rfl, _, List.mem_singleton.2 rfl, _, List.mem_singleton.2 rfl, by decide, by decide, rfl⟩,
    core_clear Regs.reset, .inl rfl, rfl⟩

theorem witness_UnaryRowsWriteTheirValue : ∃ (s : State) (i : StreamId) (k : SlotId) (f g : RFmt),
    s.clear i k ∧ (s.slot k).placed 4 ∧ (f.w = 0 ∧ f.rsv = 0 ∧ f.rb = 0) ∧ (g.w ≠ 3 ∧ g.rsv = 0 ∧ g.rb = 0) :=
  ⟨core Regs.reset, 0, 0, ⟨31, 1, 0, 0, 0⟩, ⟨31, 1, 0, 2, 0⟩, core_clear _, core_placed _ _, by decide, by decide⟩

theorem witness_ImmediateRowsWriteTheirValue : ∃ (s : State) (i : StreamId) (k : SlotId) (f : IFmt) (g : WFmt),
    s.clear i k ∧ (s.slot k).placed 4 ∧ f.imm.toNat < 64 ∧ f.imm.toNat = 63 ∧ g.rsv = 0 :=
  ⟨core Regs.reset, 0, 0, ⟨3, 4, 63⟩, ⟨3, 0, 0x8000⟩, core_clear _, core_placed _ _, by decide, by decide, rfl⟩

theorem witness_WideProductsFillAnEvenPair : ∃ (s : State) (i : StreamId) (k : SlotId) (f g : RFmt),
    s.clear i k ∧ (s.slot k).placed 4 ∧ (f.w = 0 ∧ f.rsv = 0 ∧ f.rd.toNat % 2 = 0) ∧ (g.w = 0 ∧ g.rsv = 0 ∧ g.rd.toNat % 2 = 1) :=
  ⟨core Regs.reset, 0, 0, ⟨30, 1, 2, 0, 0⟩, ⟨31, 1, 2, 0, 0⟩, core_clear _, core_placed _ _, by decide, by decide⟩

theorem witness_CarryRowsChain : ∃ (s : State) (i : StreamId) (k : SlotId) (f : RFmt),
    s.clear i k ∧ (s.slot k).placed 4 ∧ f.w = 0 ∧ f.rsv = 0 :=
  ⟨core { Regs.reset with cc := ⟨false, false, false, true⟩ }, 0, 0, ⟨3, 1, 2, 0, 0⟩, core_clear _, core_placed _ _, rfl, rfl⟩

theorem witness_ComparesSetCC : ∃ (s : State) (i : StreamId) (k : SlotId) (f : RFmt) (g : IFmt) (h : ARFmt),
    s.clear i k ∧ (s.slot k).placed 4 ∧ (f.w = 0 ∧ f.rsv = 0 ∧ f.rd = 0) ∧ g.rd = 0 ∧ h.ad = 0 ∧ h.sc = 0 ∧ h.rsv = 0 :=
  ⟨core Regs.reset, 0, 0, ⟨0, 1, 2, 0, 0⟩, ⟨0, 1, 0x800⟩, ⟨0, 1, 2, 0, 0⟩, core_clear _, core_placed _ _, by decide, rfl, rfl, rfl, rfl⟩

/-- A sum that fits, one that overflows with IOE = 0, and one that overflows with IOE = 1. -/
theorem witness_CheckedRowsWrapOrTrap : ∃ (r r' : Regs) (f : RFmt),
    (core r).clear 0 0 ∧ (core r').clear 0 0 ∧ ((core r).slot 0).placed 4 ∧ ((core r').slot 0).placed 4 ∧ f.w = 0 ∧ f.rsv = 0
    ∧ (let x := (r.getD f.ra).toInt - (r.getD f.rb).toInt; -2 ^ 63 ≤ x ∧ x < 2 ^ 63)
    ∧ (let x := (r.getD f.ra).toInt + (r.getD f.rb).toInt; ¬(-2 ^ 63 ≤ x ∧ x < 2 ^ 63) ∧ r.fpcsr.getLsbD 12 = false)
    ∧ (let x := (r'.getD f.ra).toInt + (r'.getD f.rb).toInt; ¬(-2 ^ 63 ≤ x ∧ x < 2 ^ 63) ∧ r'.fpcsr.getLsbD 12 = true) :=
  ⟨rd12 0x7FFFFFFFFFFFFFFF 1 0x10000, rd12 0x8000000000000000 0xFFFFFFFFFFFFFFFF 0x11000, ⟨3, 1, 2, 0, 0⟩, core_clear _, core_clear _,
    core_placed _ _, core_placed _ _, rfl, rfl, by decide +kernel, by decide +kernel, by decide +kernel⟩

/-- A divisor of 0 with either enable, a plain division, and the corner −2^63 ÷ −1 with either enable. -/
theorem witness_DivideRowsFollowTheirCorners : ∃ (z z' p c c' : Regs) (f : RFmt),
    (∀ r ∈ [z, z', p, c, c'], (core r).clear 0 0 ∧ ((core r).slot 0).placed 4) ∧ f.w = 0 ∧ f.rsv = 0
    ∧ (z.getD f.rb = 0 ∧ z.fpcsr.getLsbD 13 = false) ∧ (z'.getD f.rb = 0 ∧ z'.fpcsr.getLsbD 13 = true)
    ∧ (p.getD f.rb ≠ 0 ∧ (p.getD f.ra).toInt ≠ -2 ^ 63)
    ∧ (c.getD f.rb ≠ 0 ∧ (c.getD f.ra).toInt = -2 ^ 63 ∧ (c.getD f.rb).toInt = -1 ∧ c.fpcsr.getLsbD 12 = false)
    ∧ (c'.getD f.rb ≠ 0 ∧ (c'.getD f.ra).toInt = -2 ^ 63 ∧ (c'.getD f.rb).toInt = -1 ∧ c'.fpcsr.getLsbD 12 = true) :=
  ⟨rd12 5 0 0x10000, rd12 5 0 0x12000, rd12 7 2 0x10000, rd12 0x8000000000000000 0xFFFFFFFFFFFFFFFF 0x10000,
    rd12 0x8000000000000000 0xFFFFFFFFFFFFFFFF 0x11000, ⟨3, 1, 2, 0, 0⟩, fun r _ => ⟨core_clear r, core_placed r 4⟩, rfl, rfl,
    by decide +kernel, by decide +kernel, by decide +kernel, by decide +kernel, by decide +kernel⟩

theorem witness_AddressRowsWriteTheirValue : ∃ (s : State) (i : StreamId) (k : SlotId) (f : AFmt) (g : ARFmt) (h : AXFmt),
    s.clear i k ∧ (s.slot k).placed 4 ∧ f.aa = 0 ∧ g.rsv = 0 ∧ h.aa = 0 ∧ h.ad = 0 ∧ h.rsv = 0 :=
  ⟨core Regs.reset, 0, 0, ⟨3, 0, 0x2000⟩, ⟨3, 1, 2, 3, 0⟩, ⟨0, 0, 5, 0⟩, core_clear _, core_placed _ _, rfl, rfl, rfl, rfl, rfl⟩

theorem witness_CrcRowsStep : ∃ (s : State) (i : StreamId) (k : SlotId) (f : RFmt), s.clear i k ∧ (s.slot k).placed 4 ∧ f.rsv = 0 :=
  ⟨core Regs.reset, 0, 0, ⟨3, 1, 2, 3, 0⟩, core_clear _, core_placed _ _, rfl⟩

/-! ### Floating-point rows -/

/-- A row without an enabled condition, one with, and the operands at the ends of their ranges. -/
theorem witness_FloatRowsCompleteOrTrap : ∃ (r r' : Regs) (f g h : FFmt) (u : F4Fmt) (v : FCFmt),
    (core r).clear 0 0 ∧ (core r').clear 0 0 ∧ ((core r).slot 0).placed 4 ∧ ((core r').slot 0).placed 4
    ∧ (f.rsv = 0 ∧ f.rnd.toNat < 6 ∧ f.rnd.toNat = 5) ∧ (g.rsv = 0 ∧ g.rnd.toNat < 6 ∧ g.rb = 0) ∧ (h.rsv = 0 ∧ h.rnd = 0) ∧ u.rsv = 0
    ∧ (v.rsv = 0 ∧ v.rnd.toNat < 6 ∧ v.dt.toNat < 10 ∧ v.st.toNat < 10 ∧ v.dt.toNat = 9 ∧ (v.dt.toNat < 4 ∨ v.st.toNat < 4))
    ∧ (r.fpcsr >>> 7).truncate 7 = (0 : BitVec 7)
    ∧ (let p := precision f.p
      arithTrap r (p.addV f.rnd (p.decode (r.floatD p f.ra)) (p.decode (r.floatD p f.rb))).flags = none
      ∧ arithTrap r' (p.addV f.rnd (p.decode (r'.floatD p f.ra)) (p.decode (r'.floatD p f.rb))).flags = some 7) :=
  ⟨rd12 0x7FF4000000000000 0 0x10000, rd12 0x7FF4000000000000 0 0x10080, ⟨3, 1, 2, 5, 0, 0⟩, ⟨3, 1, 0, 0, 0, 0⟩, ⟨3, 1, 2, 0, 0, 0⟩,
    ⟨3, 1, 2, 4, 0, 0⟩, ⟨3, 1, 9, 0, 5, 0⟩, core_clear _, core_clear _, core_placed _ _, core_placed _ _, by decide, by decide, by decide, rfl,
    by decide, by decide, by decide +kernel⟩

/-- For a bit row without and with a signalling NaN; for a comparison without and with IV. -/
theorem witness_FloatBitRowsAndCompares : ∃ (r r' : Regs) (f g : FFmt),
    (core r).clear 0 0 ∧ (core r').clear 0 0 ∧ ((core r).slot 0).placed 4 ∧ ((core r').slot 0).placed 4
    ∧ (f.rsv = 0 ∧ f.rnd = 0 ∧ f.rb = 0) ∧ (g.rsv = 0 ∧ g.rnd = 0 ∧ g.rd = 0)
    ∧ (binary64.decode (r.floatD binary64 g.ra)).isNaN = false ∧ (binary64.decode (r.floatD binary64 g.rb)).isNaN = false
    ∧ binary64.decode (r'.floatD binary64 g.ra) = .nan true ∧ f.ra = g.ra ∧ precision f.p = binary64 :=
  ⟨rd12 0 0 0x10000, rd12 0x7FF4000000000000 0 0x10000, ⟨3, 1, 0, 0, 0, 0⟩, ⟨0, 1, 2, 0, 0, 0⟩, core_clear _, core_clear _,
    core_placed _ _, core_placed _ _, by decide, by decide, by decide +kernel, by decide +kernel, by decide +kernel, rfl, rfl⟩

/-- A sum that is a NaN; and types for every vector row with a destination and every reduction. -/
theorem witness_EveryNaNResultIsTheDefaultNaN :
    (binary64.decode (binary64.addV 1 (binary64.decode 0x7FF0000000000000) (binary64.decode 0xFFF0000000000000)).val).isNaN = true
    ∧ (∀ row ∈ Rows.element, ∃ td t1 t2 t3, row.types td t1 t2 t3 ∧ row.fnOk 0) ∧ ∀ row ∈ Rows.reduction, ∃ t1, row.types t1 := by
  have ok : ∀ r : ElemRow, r.fnOk 0 := fun r => by unfold ElemRow.fnOk; split <;> [skip; split] <;> decide
  refine ⟨by decide +kernel, ?_, ?_⟩ <;>
  simp only [Rows.element, Rows.reduction, List.forall_mem_cons, List.not_mem_nil, false_implies, implies_true, and_true]
  · refine ⟨⟨0, 0, 0, 0, by decide, ok _⟩, ⟨0, 0, 0, 0, by decide, ok _⟩, ⟨0, 0, 0, 0, by decide, ok _⟩, ⟨5, 0, 0, 0, by decide, ok _⟩,
      ⟨0, 0, 0, 5, by decide, ok _⟩, ⟨0, 0, 5, 0, by decide, ok _⟩, ?_⟩
    repeat' apply And.intro
    all_goals first
      | exact ⟨5, 5, 5, 5, ⟨by decide, by decide, by decide, by decide⟩, ok _⟩
      | exact ⟨0, 0, 0, 0, ⟨by decide, by decide, by decide, by decide⟩, ok _⟩
      | exact ⟨5, 0, 0, 0, by decide, ok _⟩
      | exact ⟨5, 5, 5, 0, by decide, ok _⟩
      | exact ⟨1, 2, 2, 1, by decide, ok _⟩
  · exact ⟨⟨5, by decide⟩, ⟨5, by decide⟩, ⟨5, by decide⟩, ⟨0, by decide⟩, ⟨0, by decide⟩, ⟨0, by decide⟩, ⟨5, by decide⟩⟩

/-! ### Memory -/

/-- The registers with A1. -/
def ra1 (a : Word64) : Regs := { Regs.reset with a := Regs.reset.a.set 1 a }

theorem mayRead_of (x : Slot) (a n al : Nat) (hs : x.sbuf = []) (hq : x.eng.queue = []) (ha : (board x).mayAccess a n al)
    (hv : (board x).sound 0 a n) : (board x).mayRead 0 a n al := by
  refine ⟨ha, hv, ?_, .inl hq⟩
  intro e he
  rw [board_slot, hs] at he
  cases he

/-- The addresses at A1 + DISP that the rows read: in local memory and in the desk. -/
theorem reads_at (x : Slot) (a n al : Nat) (hs : x.sbuf = []) (hq : x.eng.queue = []) (h1 : a % al = 0) (h2 : (board x).badByte a n = none)
    (h3 : (board x).sound 0 a n) : (board x).mayRead 0 a n al := mayRead_of x a n al hs hq ⟨h1, h2⟩ h3

/-- A doubleword of local memory, a vector load of D28 to D31 at the end of the desk, and LDA of A15. -/
theorem witness_LoadRowsReadTheirBytes : ∃ (r : Regs) (f g h : MFmt) (n : BitVec 4) (m : Fin 8),
    (core r).clear 0 0 ∧ ((core r).slot 0).placed 4
    ∧ (core r).mayRead 0 (r.getA f.ab + f.disp.signExtend 64).toNat 8 8
    ∧ ((core r).mayRead 0 (r.getA g.ab + g.disp.signExtend 64).toNat 32 32 ∧ g.rd.toNat = m.val)
    ∧ ((core r).mayRead 0 (r.getA h.ab + h.disp.signExtend 64).toNat 8 1 ∧ h.rd = n.zeroExtend 5) := by
  refine ⟨ra1 0x3A003FBFE0, ⟨3, 0, 8⟩, ⟨7, 1, 0⟩, ⟨15, 0, 1⟩, 15, 7, core_clear _, core_placed _ _, ?_, ⟨?_, rfl⟩, ⟨?_, rfl⟩⟩ <;>
  exact reads_at _ _ _ _ rfl rfl (by decide +kernel) (by decide +kernel) (by unfold State.sound; decide +kernel)

/-- A store-buffer entry of 8 bytes at 0: a byte load at 7 is covered, and one of 2 bytes there is met in part. -/
theorem witness_LoadsForwardFromTheStoreBuffer :
    let e : StoreEntry := ⟨0, [1, 2, 3, 4, 5, 6, 7, 8], false⟩
    let s := board { running Regs.reset with sbuf := [] ++ [e] ++ [] }
    s.clear 0 0 ∧ (s.slot 0).placed 4 ∧ (s.slot 0).delay = none ∧ s.mayAccess 7 1 1 ∧ s.mayAccess 7 2 1
    ∧ e.meets 7 1 = true ∧ (e.addr ≤ 7 ∧ 7 + 1 ≤ e.addr + e.bytes.length) ∧ e.meets 7 2 = true ∧ ¬(e.addr ≤ 7 ∧ 7 + 2 ≤ e.addr + e.bytes.length) :=
  ⟨board_clear Regs.reset (fun x => { x with sbuf := [] ++ [⟨0, [1, 2, 3, 4, 5, 6, 7, 8], false⟩] ++ [] })
      (fun _ => ⟨rfl, rfl, rfl, rfl, rfl, rfl, rfl, rfl⟩) rfl,
    .inl rfl, rfl, ⟨rfl, by decide +kernel⟩, ⟨rfl, by decide +kernel⟩, by decide, by decide, by decide, by decide⟩

/-- A load that is out, before and after its shadow. -/
def out (ret sh : Bool) : PendingLoad := ⟨[(.d 3, 7)], 0, none, true, 0, false, ret, sh, none, [], 0⟩

theorem witness_LoadsDeliverAfterTheirShadow :
    (∀ sh, let s := board { running Regs.reset with loads := [out false sh] }
      s.slotOf 0 = some 0 ∧ (s.slot 0).loads = [out false sh] ∧ (out false sh).returned = false ∧ (out false sh).bad = none
      ∧ (out false sh).shadowed = sh ∧ (out false sh).vals = [(.d 3, 7)])
    ∧ (let s := board { running Regs.reset with loads := [out true false] }
      ({ s with slots := s.slots.set (0 : SlotId) { s.slot 0 with loads := [] } }).clear 0 0 ∧ (s.slot 0).delay = none
      ∧ (s.slot 0).notAtEnd 4 ∧ (s.slot 0).loads = [out true false] ∧ (out true false).returned = true ∧ (out true false).shadowed = false) :=
  ⟨fun _ => ⟨rfl, rfl, rfl, rfl, rfl, rfl⟩, core_clear Regs.reset, rfl, .inl rfl, rfl, rfl, rfl⟩

/-- A store with an empty and with a full buffer, STA of A15 and STV of D28 to D31. -/
theorem witness_StoreRowsEnterTheStoreBuffer :
    (let s := core Regs.reset;
      s.clear 0 0 ∧ (s.slot 0).placed 4 ∧ (s.slot 0).sbuf.length < 8 ∧ s.mayAccess 0 8 1 ∧ s.mayAccess 32 32 32
      ∧ (∃ (f : MFmt) (n : BitVec 4), f.rd = n.zeroExtend 5 ∧ n = 15) ∧ ∃ (f : MFmt) (n : Fin 8), f.rd.toNat = n.val ∧ n = 7)
    ∧ (let s := board { running Regs.reset with sbuf := List.replicate 8 ⟨0, [1], false⟩ }
      s.clear 0 0 ∧ (s.slot 0).placed 4 ∧ (s.slot 0).sbuf.length = 8 ∧ (s.slot 0).delay = none ∧ s.mayAccess 0 8 1) :=
  ⟨⟨core_clear _, core_placed _ _, by decide, ⟨rfl, by decide +kernel⟩, ⟨rfl, by decide +kernel⟩, ⟨⟨15, 0, 0⟩, 15, rfl, rfl⟩, ⟨7, 0, 0⟩, 7, rfl, rfl⟩,
    board_clear Regs.reset (fun x => { x with sbuf := List.replicate 8 ⟨0, [1], false⟩ }) (fun _ => ⟨rfl, rfl, rfl, rfl, rfl, rfl, rfl, rfl⟩) rfl,
    .inl rfl, rfl, rfl, rfl, by decide +kernel⟩

/-- An entry in one block, and one that crosses a block boundary. -/
theorem witness_StoreCommitWritesExactlyTheEntry : ∀ a ∈ [0, 60],
    let e : StoreEntry := ⟨a, [1, 2, 3, 4, 5, 6, 7, 8], false⟩
    let s := board { running Regs.reset with sbuf := [e] }
    s.memWf = true ∧ s.slotOf 0 = some 0 ∧ (s.slot 0).sbuf = e :: [] ∧ e.inShadow = false ∧ (s.slot 0).storeErr = none
    ∧ e.addr + e.bytes.length ≤ deskBase ∧ (a = 60 → 64 - e.addr % 64 < e.bytes.length) := by
  intro a ha
  refine ⟨?_, rfl, rfl, rfl, rfl, ?_, ?_⟩ <;> fin_cases ha <;> decide +kernel

/-- With and without the reservation. -/
theorem witness_StoreConditionalNeedsItsReservation : ∀ v ∈ [none, some 0],
    let s := board { running Regs.reset with resv := v }
    s.memWf = true ∧ s.clear 0 0 ∧ (s.slot 0).placed 4 ∧ (s.slot 0).sbuf = [] ∧ s.mayAccess 56 8 8 ∧ (s.slot 0).resv = v := by
  intro v hv
  refine ⟨?_, board_clear Regs.reset (fun x => { x with resv := v }) (fun _ => ⟨rfl, rfl, rfl, rfl, rfl, rfl, rfl, rfl⟩) rfl, .inl rfl, rfl,
    ⟨rfl, ?_⟩, rfl⟩ <;> fin_cases hv <;> decide +kernel

/-- A slot whose buffer holds `b`, with `n` words of a QST done. -/
def storing (b : List StoreEntry) (n : Nat) : State := board { running (ra1 0x3A00000000) with sbuf := b, partsDone := n }

theorem storing_clear (b : List StoreEntry) (n : Nat) : (storing b n).clear 0 0 :=
  board_clear (ra1 0x3A00000000) (fun x => { x with sbuf := b, partsDone := n }) (fun _ => ⟨rfl, rfl, rfl, rfl, rfl, rfl, rfl, rfl⟩) rfl

/-- QLD and QST of Q3 in the desk: its first words, its last words, and a full buffer; and the save of a guarded Q3. -/
theorem witness_AccumulatorImagesMove_qst : ∀ p ∈ [(0, 0), (3, 62), (8, 16)],
    let s := storing (List.replicate p.1 ⟨0, [1], false⟩) p.2
    let x := s.slot 0
    s.clear 0 0 ∧ x.delay = none ∧ x.placed 4 ∧ s.mayAccess 0x3A00000000 536 8 ∧ x.partsDone < 67
    ∧ (p = (0, 0) → x.sbuf.length < 8 ∧ x.partsDone + Min.min (8 - x.sbuf.length) (67 - x.partsDone) < 67)
    ∧ (p = (3, 62) → x.sbuf.length < 8 ∧ x.partsDone + Min.min (8 - x.sbuf.length) (67 - x.partsDone) = 67)
    ∧ (p = (8, 16) → x.sbuf.length = 8) := by
  intro p hp
  refine ⟨storing_clear _ _, rfl, .inl rfl, ⟨rfl, ?_⟩, ?_, ?_, ?_, ?_⟩ <;> fin_cases hp <;> decide +kernel

theorem witness_AccumulatorImagesMove :
    (∃ (f : MFmt) (n : BitVec 2), let r := ra1 0x3A00000000
      (core r).clear 0 0 ∧ ((core r).slot 0).placed 4 ∧ f.rd = n.zeroExtend 5 ∧ n = 3 ∧ (core r).unguarded 0 n ∧ ((core r).slot 0).sbuf = []
      ∧ (core r).mayRead 0 (r.getA f.ab + f.disp.signExtend 64).toNat 536 8)
    ∧ ∃ (x : Slot), let s := board x
      s.memWf = true ∧ s.clear 0 0 ∧ (s.regs 0).qg.getLsbD 3 = true ∧ inOwnDesk (s.regs 0).ctsb.toNat 512 = true ∧ (s.slot 0).desk.bad = []
      ∧ (let o := (s.regs 0).ctsb.toNat - deskBase
        let q := (s.slot 0).deskWord (o + 0x1E8)
        q % 8 = 0 ∧ inOwnDesk q 2176 = true ∧ deskBase + o + 512 ≤ q) := by
  refine ⟨⟨⟨3, 1, 0⟩, 3, core_clear _, core_placed _ _, rfl, rfl, rfl, rfl,
    reads_at _ _ _ _ rfl rfl (by decide +kernel) (by decide +kernel) (by unfold State.sound; decide +kernel)⟩,
    { running { Regs.reset with qg := 8, ctsb := 0x3A00000000 } with desk := { Desk.reset with mem := ⟨0, [(0x1E9, 4), (0x1EC, 0x3A)]⟩ } },
    by decide +kernel,
    board_clear { Regs.reset with qg := 8, ctsb := 0x3A00000000 } (fun x => { x with desk := { Desk.reset with mem := ⟨0, [(0x1E9, 4), (0x1EC, 0x3A)]⟩ } })
      (fun _ => ⟨rfl, rfl, rfl, rfl, rfl, rfl, rfl, rfl⟩) rfl, rfl, ?_, rfl, ?_⟩
  · decide +kernel
  · decide +kernel

/-- The same guarded Q3, behind a buffered store to QG of its TSB. -/
theorem witness_AccumulatorImagesMove_saveWaits :
    let y (x : Slot) : Slot := { x with
      desk := { Desk.reset with mem := ⟨0, [(0x1E9, 4), (0x1EC, 0x3A)]⟩ }, sbuf := [⟨0x3A000001E0, List.replicate 8 0, false⟩] }
    let s := board (y (running { Regs.reset with qg := 8, ctsb := 0x3A00000000 }))
    s.memWf = true ∧ s.clear 0 0 ∧ (s.regs 0).qg.getLsbD 3 = true ∧ (s.slot 0).desk.bad = []
    ∧ (let q := (s.slot 0).deskWord 0x1E8; q % 8 = 0 ∧ inOwnDesk q 2176 = true ∧ deskBase + 512 ≤ q)
    ∧ ∃ e ∈ (s.slot 0).sbuf, e.meets (deskBase + 0x1E0) 16 = true := by
  refine ⟨by decide +kernel, ?_, by decide +kernel, rfl, by decide +kernel, _, List.mem_singleton.2 rfl, by decide⟩
  exact board_clear { Regs.reset with qg := 8, ctsb := 0x3A00000000 } (fun x => { x with
    desk := { Desk.reset with mem := ⟨0, [(0x1E9, 4), (0x1EC, 0x3A)]⟩ }, sbuf := [⟨0x3A000001E0, List.replicate 8 0, false⟩] })
    (fun _ => ⟨rfl, rfl, rfl, rfl, rfl, rfl, rfl, rfl⟩) rfl

/-! ### Branches, loops and strings -/

/-- Both jumps: to a multiple of 4 and to another address. -/
theorem witness_BranchesOpenADelaySlot : ∃ (r : Regs) (f g : AFmt) (b : BFmt),
    (core r).clear 0 0 ∧ ((core r).slot 0).mayBranch ∧ b.cond.toNat < 15 ∧ b.cond.toNat = 14 ∧ f.ad = 0 ∧ g.ad = 0
    ∧ (BitVec.ofInt 64 ((r.getA f.aa).toNat + 4 * f.imm.toInt)).toNat % 4 = 0 ∧ (BitVec.ofInt 64 ((r.getA g.aa).toNat + 4 * g.imm.toInt)).toNat % 4 ≠ 0 :=
  ⟨ra1 2, ⟨0, 0, 0x2000⟩, ⟨0, 1, 0x1FFF⟩, ⟨14, 0⟩, core_clear _, ⟨rfl, .inl rfl⟩, by decide, by decide, rfl, rfl, by decide +kernel,
    by decide +kernel⟩

theorem witness_LoopsSetUpTheirRegisters : ∃ (s : State) (i : StreamId) (k : SlotId) (f : LoopIFmt) (g : LoopRFmt),
    s.clear i k ∧ (s.slot k).mayBranch ∧ f.endw ≠ 0 ∧ g.endw = 0 ∧ g.rsv = 0 :=
  ⟨core Regs.reset, 0, 0, ⟨3, 0x3FF⟩, ⟨3, 0, 0⟩, core_clear _, ⟨rfl, .inl rfl⟩, by decide, rfl, rfl⟩

/-- LC 0, 1 and 2 at LE, in and out of a delay slot; an MTS of LC there; a branch taken to LE. -/
theorem witness_TheLoopTestRunsAtLE :
    (∀ n ∈ [0#32, 1#32, 2#32], ∀ d ∈ [none, some ⟨0, 8⟩], let x := { running { Regs.reset with lc := n, le := 4 } with delay := d }
      x.delay = d ∧ x.regs.pc + BitVec.ofNat 64 4 = x.regs.le ∧ x.regs.lc = n)
    ∧ (∃ (r : Regs) (f : XFmt), (core r).clear 0 0 ∧ ((core r).slot 0).delay = none ∧ f.sn = 4 ∧ f.imm = 0 ∧ r.pc + 4 = r.le
      ∧ 1 < (r.getD f.rd).toNat ∧ (r.getD f.rd).toNat < 2 ^ 32)
    ∧ ∃ (x : Slot) (d : DelaySlot), x.delay = some d ∧ d.target = x.regs.le ∧ x.regs.pc + BitVec.ofNat 64 4 ≠ x.regs.le :=
  ⟨fun _ _ _ _ => ⟨rfl, rfl, rfl⟩, ⟨{ rd12 2 0 0 with le := Regs.reset.pc + 4 }, ⟨1, 4, 0⟩, core_clear _, rfl, rfl, rfl, rfl, by decide, by decide⟩,
    { running { Regs.reset with le := 8 } with delay := some ⟨0, 8⟩ }, ⟨0, 8⟩, rfl, rfl, by decide⟩

/-- An active loop whose LE is at the end of an instruction of 4 and of 8 bytes: outside and in a delay slot, and in an open group of three. -/
theorem witness_TheLoopTestRunsAtLE_traps : ∀ n ∈ [4, 8], let r : Regs := { Regs.reset with lc := 1, le := Regs.reset.pc + BitVec.ofNat 64 n }
    (∀ d ∈ [none, some ⟨0, 8⟩], let s := board { running r with delay := d }
      s.clear 0 0 ∧ (s.slot 0).delay = d ∧ (s.regs 0).lc ≠ 0 ∧ (s.regs 0).pc + BitVec.ofNat 64 n = (s.regs 0).le)
    ∧ (let c : OpenChain := ⟨0, 3, [Regs.reset.captured 0x30 ⟨0, 0, 0, 0, 0, 0, 0, 0, 0, 0, 0⟩ none], 5, 0⟩
      let s := board { running r with chain := some c };
      (s.modSlot 0 fun x => { x with chain := none }).clear 0 0 ∧ (s.slot 0).chain = some c ∧ (s.slot 0).delay = none
      ∧ (s.regs 0).lc ≠ 0 ∧ c.ops.length + 1 < c.count ∧ (s.regs 0).pc + BitVec.ofNat 64 n = (s.regs 0).le) := by
  intro n _
  refine ⟨fun d _ => ⟨?_, rfl, ?_, rfl⟩, core_clear _, rfl, rfl, ?_, by decide, rfl⟩
  · exact board_clear { Regs.reset with lc := 1, le := Regs.reset.pc + BitVec.ofNat 64 n } (fun x => { x with delay := d })
      (fun _ => ⟨rfl, rfl, rfl, rfl, rfl, rfl, rfl, rfl⟩) rfl
  all_goals exact (by decide : (1 : Word32) ≠ 0)

/-- The registers with A8, A9 and A10. -/
def strings (p q m : Word64) : Regs := { Regs.reset with a := ((Regs.reset.a.set 8 p).set 9 q).set 10 m }

/-- Each element size, and a REP with the count 0 and with a buffer of 3 elements. -/
theorem witness_StringRowsMoveTheirElements :
    (∀ sz ∈ [0#2, 1#2, 2#2, 3#2], ∃ (r : Regs) (f : SFmt), let s := core r
      s.clear 0 0 ∧ (s.slot 0).delay = none ∧ (s.slot 0).sbuf = [] ∧ f.rsv = 0 ∧ f.ck = 0 ∧ f.rd = 0 ∧ f.sz = sz
      ∧ s.mayRead 0 r.a[8].toNat (2 ^ f.sz.toNat) 1 ∧ s.mayRead 0 r.a[9].toNat (2 ^ f.sz.toNat) 1 ∧ s.mayAccess r.a[9].toNat (2 ^ f.sz.toNat) 1)
    ∧ ∃ (r r' : Regs) (f h : PFmt) (g : SFmt), (core r).clear 0 0 ∧ (core r').clear 0 0 ∧ f.rsv = 0 ∧ g.rsv = 0 ∧ g.ck = 0 ∧ g.rd = 0
      ∧ r.a[10].toNat = 0 ∧ f.untl = 15 ∧ h.untl.toNat < 14 ∧ h.rsv = 0 ∧ 0 < r'.a[10].toNat ∧ r'.a[10].toNat ≤ 3
      ∧ (core r').mayRead 0 r'.a[8].toNat (r'.a[10].toNat * 2 ^ g.sz.toNat) 1 := by
  refine ⟨fun sz h => ?_, strings 0 0 0, strings 5 0 3, ⟨15, 0⟩, ⟨13, 0⟩, ⟨0, 3, 0, 0⟩, core_clear _, core_clear _, rfl, rfl, rfl, rfl, by decide,
    rfl, by decide, rfl, by decide, by decide, ?_⟩
  · refine ⟨strings 5 0x3A00000003 1, ⟨0, sz, 0, 0⟩, core_clear _, rfl, rfl, rfl, rfl, rfl, rfl, ?_, ?_, ?_⟩
    · fin_cases h <;> exact reads_at _ _ _ _ rfl rfl (by decide +kernel) (by decide +kernel) (by unfold State.sound; decide +kernel)
    · fin_cases h <;> exact reads_at _ _ _ _ rfl rfl (by decide +kernel) (by decide +kernel) (by unfold State.sound; decide +kernel)
    · fin_cases h <;> exact ⟨by decide +kernel, by decide +kernel⟩
  · exact reads_at _ _ _ _ rfl rfl (by decide +kernel) (by decide +kernel) (by unfold State.sound; decide +kernel)

/-- A prefix at the end of the address space; five zero bytes at 0 and in the desk, with a bound below the count and one above it, for a UNTIL that they
never meet and one that they meet at once. -/
theorem witness_StringRowsMoveTheirElements_rep :
    (let s := core { Regs.reset with pc := 0x3FFFFFFFFFC };
      s.clear 0 0 ∧ (s.slot 0).delay = none ∧ s.badByte ((s.regs 0).pc + 4).toNat 1 ≠ none)
    ∧ ∀ iters ∈ [3, 9], ∃ (f : PFmt) (g : SFmt), let r := strings 0 0x3A00000000 5
      let len := Min.min 5 iters * 2 ^ g.sz.toNat;
      (core r).clear 0 0 ∧ (core r).badByte (r.pc + 4).toNat 1 = none ∧ f.untl = 15 ∧ f.rsv = 0 ∧ g.rsv = 0 ∧ g.ck = 0 ∧ g.rd = 0 ∧ r.a[10].toNat = 5
      ∧ (core r).mayRead 0 r.a[8].toNat len 1 ∧ (core r).mayRead 0 r.a[9].toNat len 1 ∧ (core r).mayAccess r.a[9].toNat len 1
      ∧ (r.a[8].toNat + len ≤ r.a[9].toNat)
      ∧ ∀ p ∈ [((1 : BitVec 4), Min.min 5 iters), (0, 1)], let cc : CC := ⟨false, true, false, false⟩
        let met := p.1 ≠ 15 ∧ cc.meets p.1.toNat = true
        p.1.toNat < 14 ∧ p.2 ≤ Min.min 5 iters ∧ (p.2 = Min.min 5 iters ∨ (0 < p.2 ∧ met)) ∧ (∀ l, l + 1 < p.2 → ¬met)
        ∧ cc.compares (BitVec.ofNat 64 (leNat ((core r).bytesAt 0 0 1))) (BitVec.ofNat 64 (leNat ((core r).bytesAt 0 0x3A00000000 1))) := by
  refine ⟨⟨core_clear _, rfl, by decide +kernel⟩, fun n h => ⟨⟨15, 0⟩, ⟨0, 0, 0, 0⟩, core_clear _, by decide +kernel, rfl, rfl, rfl, rfl, rfl, by decide, ?_, ?_, ?_, ?_, ?_⟩⟩
  · fin_cases h <;> exact reads_at _ _ _ _ rfl rfl (by decide +kernel) (by decide +kernel) (by unfold State.sound; decide +kernel)
  · fin_cases h <;> exact reads_at _ _ _ _ rfl rfl (by decide +kernel) (by decide +kernel) (by unfold State.sound; decide +kernel)
  · fin_cases h <;> exact ⟨by decide +kernel, by decide +kernel⟩
  · fin_cases h <;> decide +kernel
  · intro p hp
    refine ⟨?_, ?_, ?_, ?_, ?_⟩
    · fin_cases h <;> fin_cases hp <;> decide
    · fin_cases h <;> fin_cases hp <;> decide
    · fin_cases h <;> fin_cases hp <;> decide
    · intro l hl
      fin_cases h <;> fin_cases hp <;> first | decide | simp at hl
    · unfold CC.compares; decide +kernel

/-! ### System rows and accumulators -/

/-- MFS of LLV and SR; MTS of a value that SR takes and of one that it does not; VX with the queue empty; LS with a value that is misaligned. -/
theorem witness_SpecialRegistersMove : ∃ (r r' : Regs) (f g h : XFmt),
    (core r).clear 0 0 ∧ (core r').clear 0 0 ∧ ((core r).slot 0).placed 4 ∧ ((core r').slot 0).placed 4 ∧ f.imm = 0 ∧ g.imm = 0 ∧ h.imm = 0
    ∧ f.sn.toNat = 10 ∧ g.sn.toNat = 3 ∧ h.sn.toNat = 5 ∧ ((core r).slot 0).eng.queue = []
    ∧ (let v := r.getD f.rd; v.toNat < 2 ^ 17 ∧ v.toNat / 2 ^ 12 % 16 = 0 ∧ v.toNat / 2 ^ 4 % 16 = 0)
    ∧ ¬(let v := r'.getD f.rd; v.toNat < 2 ^ 17 ∧ v.toNat / 2 ^ 12 % 16 = 0 ∧ v.toNat / 2 ^ 4 % 16 = 0)
    ∧ (r.getD g.rd).toNat < 2 ^ 32 ∧ ¬((r.getD h.rd).toNat % 4 = 0) :=
  ⟨rd12 0x10F0F 0 0x10000, rd12 0x20000 0 0x10000, ⟨1, 10, 0⟩, ⟨2, 3, 0⟩, ⟨1, 5, 0⟩, core_clear _, core_clear _, core_placed _ _, core_placed _ _,
    rfl, rfl, rfl, rfl, rfl, rfl, rfl, by decide, by decide, by decide, by decide⟩

/-- VX and FPCSR behind a queued entry. -/
theorem witness_SpecialRegistersMove_waits : ∀ n ∈ [(3 : BitVec 5), 9], ∃ f : XFmt,
    let s := board { running Regs.reset with eng := { (running Regs.reset).eng with queue := [⟨[], 1, 5, 0⟩] } }
    s.clear 0 0 ∧ (s.slot 0).delay = none ∧ f.sn = n ∧ f.imm = 0 ∧ (s.slot 0).eng.queue ≠ [] ∧ (s.slot 0).eng.stopped = false := by
  intro n _
  refine ⟨⟨1, n, 0⟩, ⟨rfl, ?_⟩, rfl, rfl, rfl, List.cons_ne_nil _ _, rfl⟩
  rw [board_slot]
  refine ⟨.inl rfl, rfl, rfl, rfl, rfl, rfl, rfl, rfl, ?_, ?_⟩ <;> intro n <;> simp [Engine.targetsD, Engine.targetsQ]

/-- With an empty and with a filled store buffer. -/
theorem witness_SystemRowsHaveTheirEffect : ∀ b ∈ [[], [⟨0, [1], false⟩]],
    let s := board { running Regs.reset with sbuf := b }
    s.clear 0 0 ∧ (s.slot 0).placed 4 ∧ (s.slot 0).delay = none ∧ (s.slot 0).sbuf = b ∧ (s.slot 0).notAtEnd 4
    ∧ (s.slot 0).eng.stopped = false :=
  fun b _ => ⟨board_clear Regs.reset (fun x => { x with sbuf := b }) (fun _ => ⟨rfl, rfl, rfl, rfl, rfl, rfl, rfl, rfl⟩) rfl, .inl rfl, rfl, rfl,
    .inl rfl, rfl⟩

/-- A stopped engine before END, and in the wait of END; and a Stream whose monitor takes breakpoints. -/
theorem witness_SystemRowsHaveTheirEffect_stopped :
    (∀ w ∈ [none, some WaitKind.endLesson],
      let s := board { running Regs.reset with eng := { (running Regs.reset).eng with stopped := true }, waitAt := w }
      s.clear 0 0 ∧ (s.slot 0).delay = none ∧ (s.slot 0).notAtEnd 4 ∧ (s.slot 0).eng.stopped = true ∧ (s.slot 0).waitAt = w)
    ∧ (core Regs.reset).clear 0 0 ∧ ((core Regs.reset).slot 0).status = .running ∧ (core Regs.reset).streamOf 0 = some 0
    ∧ (core Regs.reset).level 0 = 2 ∧ ∀ n : Fin 4, (((core Regs.reset).slot 0).dbg.ibp[n]).1 = false := by
  refine ⟨fun w _ => ⟨?_, rfl, .inl rfl, rfl, rfl⟩, core_clear _, rfl, by decide +kernel, by decide +kernel, by decide +kernel⟩
  exact board_clear Regs.reset (fun x => { x with eng := { x.eng with stopped := true }, waitAt := w })
    (fun _ => ⟨rfl, rfl, rfl, rfl, rfl, rfl, rfl, rfl⟩) rfl

/-- −1 into Q0, Q3 into Q0, an infinity and NaNs of both kinds into Q0, and a rounding with each state of Q0. -/
theorem witness_AccumulatorRowsAddExactly :
    (∃ (r : Regs) (f g : QFmt), (core r).clear 0 0 ∧ ((core r).slot 0).placed 4 ∧ (core r).unguarded 0 f.qn ∧ f.rsv = 0 ∧ f.qm = 0 ∧ f.rnd = 0
      ∧ binary64.decode (r.getD f.rd).toNat = .fin true (2 ^ 52) (-52)
      ∧ (let x : Int := r.q[f.qn.toFin].toInt + (-1) * (2 ^ 52 : Nat) * 2 ^ ((-52 : Int) + 2148).toNat; -2 ^ 4287 ≤ x ∧ x < 2 ^ 4287)
      ∧ g.rd = 0 ∧ g.rnd = 0 ∧ g.qm.toNat = 3 ∧ (r.fpcsr >>> 20).truncate 3 = 0#3 ∧ (r.fpcsr >>> 29).truncate 3 = 0#3
      ∧ (let x : Int := r.q[g.qn.toFin].toInt + r.q[g.qm.toFin].toInt; -2 ^ 4287 ≤ x ∧ x < 2 ^ 4287))
    ∧ (∀ p ∈ [(0xFFF0000000000000, FVal.inf true), (0x7FF8000000000000, .nan false), (0x7FF4000000000000, .nan true)], ∃ (r : Regs) (f : QFmt),
      (core r).clear 0 0 ∧ ((core r).slot 0).placed 4 ∧ (core r).unguarded 0 f.qn ∧ f.rsv = 0 ∧ f.qm = 0 ∧ f.rnd = 0
      ∧ binary64.decode (r.getD f.rd).toNat = p.2)
    ∧ ∀ st ∈ [0#3, 1#3, 2#3, 3#3], ∃ (r : Regs) (f : QFmt), (core r).clear 0 0 ∧ f.qm = 0 ∧ f.rnd.toNat < 6 ∧ f.rnd.toNat = 5
      ∧ (r.fpcsr >>> (20 + 3 * f.qn.toNat)).truncate 3 = st := by
  refine ⟨⟨rd12 0xBFF0000000000000 0 0x10000, ⟨0, 0, 1, 0, 0⟩, ⟨0, 3, 0, 0, 0⟩, core_clear _, core_placed _ _, rfl, rfl, rfl, rfl,
    by decide +kernel, by decide +kernel, rfl, rfl, rfl, by decide, by decide, by decide +kernel⟩, fun p h => ?_, ?_⟩
  · refine ⟨rd12 (BitVec.ofNat 64 p.1) 0 0x10000, ⟨0, 0, 1, 0, 0⟩, core_clear _, core_placed _ _, (rfl : Regs.reset.qg.getLsbD 0 = false), rfl, rfl, rfl, ?_⟩
    fin_cases h <;> decide +kernel
  intro st h
  refine ⟨{ Regs.reset with fpcsr := 0x10000 ||| (st.zeroExtend 32 <<< 20) }, ⟨0, 0, 1, 5, 0⟩, core_clear _, rfl, by decide, by decide, ?_⟩
  fin_cases h <;> decide

/-- A core behind a QDOT into Q2. -/
theorem witness_AccumulatorRowsAddExactly_waits : ∃ f : QFmt,
    let v := Regs.reset.captured 0x50 ⟨0, 0, 0, 0, 0, 2, 0, 0, 0, 0, 0⟩ none
    let s := board { running Regs.reset with eng := { (running Regs.reset).eng with queue := [⟨[v], 1, 5, 0⟩] } };
    (s.modSlot 0 fun x => { x with eng := { x.eng with queue := [] } }).clear 0 0 ∧ (s.slot 0).delay = none ∧ (s.slot 0).eng.stopped = false
    ∧ f.rsv = 0 ∧ f.qm = 0 ∧ f.rd = 0 ∧ f.rnd = 0 ∧ ∃ e ∈ (s.slot 0).eng.queue, ∃ v ∈ e.ops, (v.vop = 0x50 ∨ v.vop = 0x51) ∧ v.f.qn = f.qn :=
  ⟨⟨2, 0, 0, 0, 0⟩, core_clear Regs.reset, rfl, rfl, rfl, rfl, rfl, rfl, _, List.mem_singleton.2 rfl, _, List.mem_singleton.2 rfl, .inl rfl, rfl⟩

/-- Outside a delay slot and in one; each reserved field is free of the others. -/
theorem witness_ReservedFormsTrap :
    (core Regs.reset).clear 0 0 ∧ ((core Regs.reset).slot 0).placed 4 ∧ ((core Regs.reset).slot 0).delay = none
    ∧ (core Regs.reset).badByte (((core Regs.reset).regs 0).pc + 4).toNat 1 = none
    ∧ (let s := board { running Regs.reset with delay := some ⟨0, 8⟩ }
      s.clear 0 0 ∧ (s.slot 0).delay ≠ none)
    ∧ (∃ f : RFmt, f.w = 3 ∧ f.rsv ≠ 0 ∧ f.rb ≠ 0 ∧ f.rd ≠ 0) ∧ (∃ f : IFmt, 64 ≤ f.imm.toNat ∧ f.imm.toNat = 64 ∧ f.rd ≠ 0) ∧ (∃ f : WFmt, f.rsv ≠ 0)
    ∧ (∃ f : ARFmt, f.ad ≠ 0 ∧ f.sc ≠ 0 ∧ f.rsv ≠ 0) ∧ (∃ f : AFmt, f.aa ≠ 0) ∧ (∃ f : AXFmt, f.aa ≠ 0 ∧ f.ad ≠ 0 ∧ f.rsv ≠ 0)
    ∧ (∃ f : FFmt, f.rsv = 0 ∧ 6 ≤ f.rnd.toNat ∧ f.rnd.toNat = 6 ∧ f.rb ≠ 0 ∧ f.rd ≠ 0) ∧ (∃ f : F4Fmt, f.rsv ≠ 0)
    ∧ (∃ f : FCFmt, 10 ≤ f.dt.toNat ∧ f.dt.toNat = 10 ∧ 10 ≤ f.st.toNat) ∧ (∃ f : FCFmt, 4 ≤ f.dt.toNat ∧ f.dt.toNat = 4 ∧ 4 ≤ f.st.toNat)
    ∧ (∃ f : QFmt, f.qm ≠ 0 ∧ f.rd ≠ 0 ∧ 6 ≤ f.rnd.toNat ∧ f.rnd.toNat = 6 ∧ f.rsv ≠ 0) ∧ ((core Regs.reset).slot 0).mayBranch
    ∧ (∃ f : BFmt, f.cond = 15) ∧ (∃ f : AFmt, f.ad ≠ 0) ∧ (∃ f : LoopRFmt, f.rsv ≠ 0) ∧ (∃ f : XFmt, f.rd ≠ 0 ∧ f.sn ≠ 0)
    ∧ (∃ f : SFmt, f.rsv ≠ 0 ∧ f.ck ≠ 0 ∧ f.rd ≠ 0) ∧ (∃ f : PFmt, f.untl = 14 ∧ f.rsv ≠ 0)
    ∧ (∃ f : PFmt, ¬(f.untl = 15 ∨ StringOp.movs = .cmps ∨ StringOp.movs = .scans))
    ∧ (∃ f : VFmt, 8 ≤ f.cnt.toNat ∧ f.cnt.toNat = 8 ∧ f ≠ ⟨0, 0, 0, 0, 0, 0, 0, 0, 0, 0, 0⟩)
    ∧ (∃ t : LiveTable, t.slots[(5 : Fin 64)] ≠ []) ∧ (∃ f : MFmt, 16 ≤ f.rd.toNat) ∧ (∃ f : MFmt, f.rd.toNat = 4)
    ∧ (∃ f : XFmt, f.imm ≠ 0 ∧ 10 < f.sn.toNat ∧ f.sn.toNat = 11) ∧ (∃ f : XFmt, f.sn = 0 ∧ f ≠ ⟨0, 0, 0⟩)
    ∧ (∃ f : VFmt, ¬keepsRow 0x30 f)
    ∧ ∀ b : Bool, let s := core { Regs.reset with pc := if b then 4 else 8 }
      s.clear 0 0 ∧ (s.slot 0).delay = none ∧ (s.regs 0).pc.getLsbD 2 = b :=
  ⟨core_clear _, core_placed _ _, rfl, by decide +kernel,
    ⟨board_clear Regs.reset (fun x => { x with delay := some ⟨0, 8⟩ }) (fun _ => ⟨rfl, rfl, rfl, rfl, rfl, rfl, rfl, rfl⟩) rfl, by decide⟩,
    ⟨⟨1, 0, 1, 3, 1⟩, by decide⟩, ⟨⟨1, 0, 64⟩, by decide⟩, ⟨⟨0, 1, 0⟩, by decide⟩, ⟨⟨1, 0, 0, 1, 1⟩, by decide⟩, ⟨⟨0, 1, 0⟩, by decide⟩,
    ⟨⟨1, 1, 0, 1⟩, by decide⟩, ⟨⟨1, 0, 1, 6, 0, 0⟩, by decide⟩, ⟨⟨0, 0, 0, 0, 0, 1⟩, by decide⟩, ⟨⟨0, 0, 10, 10, 0, 0⟩, by decide⟩,
    ⟨⟨0, 0, 4, 9, 0, 0⟩, by decide⟩, ⟨⟨0, 1, 1, 6, 1⟩, by decide⟩, ⟨rfl, .inl rfl⟩, ⟨⟨15, 0⟩, rfl⟩, ⟨⟨1, 0, 0⟩, by decide⟩, ⟨⟨0, 1, 0⟩, by decide⟩,
    ⟨⟨1, 1, 0⟩, by decide⟩, ⟨⟨1, 0, 1, 1⟩, by decide⟩, ⟨⟨14, 1⟩, by decide⟩, ⟨⟨0, 0⟩, by decide⟩, ⟨⟨0, 0, 0, 0, 0, 0, 0, 0, 0, 8, 0⟩, by decide⟩,
    ⟨{ LiveTable.reset with slots := Vector.replicate 64 [1] }, by decide +kernel⟩,
    ⟨⟨16, 0, 0⟩, by decide⟩, ⟨⟨4, 0, 0⟩, by decide⟩, ⟨⟨0, 11, 1⟩, by decide⟩, ⟨⟨1, 0, 0⟩, by decide⟩, ⟨⟨0, 0, 0, 0, 0, 0, 0, 0, 0, 1, 0⟩, by decide⟩,
    fun b => ⟨core_clear _, rfl, by cases b <;> decide⟩⟩

/-! ### Exceptions -/

/-- A slot whose EDB at the desk's start gives every vector the handler 9000h with IML 1, TSB 0 at offset 1000h and A15 unchanged. -/
def table (vs : List Nat) : Mem := ⟨0, vs.flatMap fun v => [(16 * v + 1, (0x90 : Byte)), (16 * v + 14, 0x18), (16 * v + 15, 0x01)]⟩

/-- Registers of a task with its EDB and TSBP. -/
def task (pc : Word64) : Regs := { Regs.reset with pc := pc, edb := 0x3A00000000, tsbp := 0x3A00001000, fpcsr := 0x10000 }

def tasked (pc : Word64) (v : Nat) : Slot := { running (task pc) with desk := { Desk.reset with mem := table [v] } }

theorem tasked_clear (pc : Word64) (v : Nat) : (board (tasked pc v)).clear 0 0 :=
  board_clear (task pc) (fun x => { x with desk := { Desk.reset with mem := table [v] } }) (fun _ => ⟨rfl, rfl, rfl, rfl, rfl, rfl, rfl, rfl⟩) rfl

/-- A desk without errors is sound. -/
theorem sound_of (s : State) (k : SlotId) (a n : Nat) (ha : deskBase ≤ a) (hb : (s.slot k).desk.bad = []) (hs : (s.slot k).desk.soft = []) :
    s.sound k a n := by
  unfold State.sound
  rw [if_pos ha, hb, hs]
  exact fun w _ => ⟨List.not_mem_nil, List.not_mem_nil⟩

set_option maxRecDepth 8000 in
/-- A slot whose EDB entry for `v` names the handler 9000h and whose TSB is quiet is ready for an entry. -/
theorem ready_of (x : Slot) (v : Byte) (hb : x.desk.bad = []) (hs : x.desk.soft = [])
    (he : x.regs.edb.toNat % 1024 = 0 ∧ inOwnDesk x.regs.edb.toNat 1024 = true ∧ x.deskWord (x.regs.edb.toNat - deskBase + 16 * v.toNat) = 0x9000
      ∧ x.deskWord (x.regs.edb.toNat - deskBase + 16 * v.toNat + 8) = 2 ^ 56 + 2 ^ 52 + 2 ^ 51)
    (hp : x.regs.tsbp.toNat % 512 = 0 ∧ inOwnDesk (x.regs.tsbp.toNat + 512 * 0) 512 = true
      ∧ x.deskWord (x.regs.tsbp.toNat + 512 * 0 - deskBase + 0x1F0) % 2 = 0)
    (hh : (board x).badByte 0x9000 4 = none) : (board x).entryReady 0 v 0x9000 1 0 none := by
  obtain ⟨h1, h2, h3, h4⟩ := he
  have h5 := hp.2.1
  simp only [inOwnDesk, Bool.and_eq_true, decide_eq_true_eq] at h5
  refine ⟨h1, h2, sound_of _ _ _ _ (Nat.le_add_right _ _) hb hs, ?_, hp.1, hp.2.1, sound_of _ _ _ _ (Nat.le_trans h5.1 (Nat.le_add_right _ _)) hb hs, hp.2.2⟩
  change (board x).describes (x.deskWord (x.regs.edb.toNat - deskBase + 16 * v.toNat)) (x.deskWord (x.regs.edb.toNat - deskBase + 16 * v.toNat + 8)) _ _ _ _
  unfold State.describes
  rw [h3, h4]
  exact ⟨rfl, by decide, by decide, hh, by decide, by decide, by decide +kernel, fun a ha => by cases ha⟩

/-- TRAP, an undefined word, an instruction that is misplaced, and a fetch outside the address space. -/
theorem witness_ExceptionEntrySavesTheTask :
    ((board (tasked 0 12)).memWf = true ∧ (board (tasked 0 12)).clear 0 0 ∧ ((board (tasked 0 12)).slot 0).delay = none
      ∧ (board (tasked 0 12)).entryReady 0 0x0C 0x9000 1 0 none)
    ∧ ((board (tasked 0 0)).memWf = true ∧ (board (tasked 0 0)).table.defines ((board (tasked 0 0)).iword 0 0) ((board (tasked 0 0)).iword 0 4) = false
      ∧ (board (tasked 0 0)).entryReady 0 0 0x9000 1 0 none)
    ∧ (let x := { tasked 4 2 with lines := [⟨0, List.replicate 11 0xF0 ++ [0x30] ++ List.replicate 244 0xF0⟩] }
      (board x).memWf = true ∧ x.regs.pc.getLsbD 2 = true ∧ bits ((board x).iword 0 x.regs.pc) 31 28 = 15 ∧ (board x).clear 0 0
      ∧ (board x).table.defines ((board x).iword 0 x.regs.pc) ((board x).iword 0 (x.regs.pc + 4)) = true ∧ x.tableBad = []
      ∧ (board x).entryReady 0 2 0x9000 1 0 none)
    ∧ ((board (tasked 0x3FFFFFFFFFF 5)).memWf = true ∧ (board (tasked 0x3FFFFFFFFFF 5)).badByte 0x3FFFFFFFFFF 1 ≠ none
      ∧ (board (tasked 0x3FFFFFFFFFF 5)).entryReady 0 5 0x9000 1 0 none) := by
  refine ⟨⟨by decide +kernel, tasked_clear _ _, rfl, ?_⟩, ⟨by decide +kernel, by decide +kernel, ?_⟩,
    ⟨by decide +kernel, by decide, by decide +kernel, ?_, by decide +kernel, rfl, ?_⟩, by decide +kernel, by decide +kernel, ?_⟩
  case refine_3 =>
    exact board_clear (task 4) (fun x => { x with
        desk := { Desk.reset with mem := table [2] }, lines := [⟨0, List.replicate 11 0xF0 ++ [0x30] ++ List.replicate 244 0xF0⟩] })
      (fun _ => ⟨rfl, rfl, rfl, rfl, rfl, rfl, rfl, rfl⟩) rfl
  all_goals exact ready_of _ _ rfl rfl (by decide +kernel) (by decide +kernel) (by decide +kernel)

/-- An undefined word and a misplaced instruction in a delay slot. -/
theorem witness_ExceptionEntrySavesTheTask_delaySlot :
    (let s := board { tasked 0 0 with delay := some ⟨0x8000, 0x9000⟩ };
      s.memWf = true ∧ s.clear 0 0 ∧ (s.slot 0).delay = some ⟨0x8000, 0x9000⟩ ∧ s.table.defines (s.iword 0 0) (s.iword 0 4) = false
      ∧ s.entryReady 0 0 0x9000 1 0 none) := by
  refine ⟨by decide +kernel, ?_, rfl, by decide +kernel, ready_of _ _ rfl rfl (by decide +kernel) (by decide +kernel) (by decide +kernel)⟩
  exact board_clear (task 0) (fun x => { x with desk := { Desk.reset with mem := table [0] }, delay := some ⟨0x8000, 0x9000⟩ })
    (fun _ => ⟨rfl, rfl, rfl, rfl, rfl, rfl, rfl, rfl⟩) rfl

/-- The desk of a task whose escalation entry is in order: its handler is 9000h with IML 1. -/
def escalating (m : Mem) : Mem := (m.writeBytes 0x3FC001 [0x90]).writeBytes 0x3FC00E [0x18, 0x01]

/-- A task whose TRAP fails, by its registers, the writes into its desk after the vector 0Ch has been set up, and the words that are uncorrectable. -/
def failing (r : Regs) (ws : List (Nat × Byte)) (bad : List Nat) : State :=
  board { running r with desk := { Desk.reset with mem := ws.foldl (fun m w => m.writeBytes w.1 [w.2]) (escalating (table [12])), bad := bad } }

theorem failing_clear (r : Regs) (ws : List (Nat × Byte)) (bad : List Nat) : (failing r ws bad).clear 0 0 :=
  board_clear r (fun x => { x with desk := { Desk.reset with mem := ws.foldl (fun m w => m.writeBytes w.1 [w.2]) (escalating (table [12])), bad := bad } })
    (fun _ => ⟨rfl, rfl, rfl, rfl, rfl, rfl, rfl, rfl⟩) rfl

/-- A descriptor with a reserved bit, an HADDR that is no multiple of 4, an NSP below 16, a TSB and an EDB that are misaligned, a TSB in use as in the
handler of another exception that shares it, and an uncorrectable word of the descriptor and of the TSB: escalation entry is ready for each. -/
theorem witness_ExceptionEntrySavesTheTask_escalates : ∀ p ∈ [
      (task 0, [(0xCE, (0x1C : Byte))], [], 1), (task 0, [(0xC0, 1)], [], 2), (task 0, [(0xCE, 0x10)], [], 3),
      ({ task 0 with tsbp := 0x3A00001008 }, [], [], 5), ({ task 0 with edb := 0x3A00000008 }, [], [], 4), (task 0, [(0x11F0, 1)], [], 6),
      (task 0, [], [0xC0 / 8], 7), (task 0, [], [0x11F0 / 8], 7)],
    (failing p.1 p.2.1 p.2.2.1).memWf = true ∧ (failing p.1 p.2.1 p.2.2.1).failsEntry 0 0x0C p.2.2.2
    ∧ (failing p.1 p.2.1 p.2.2.1).escalationReady 0 0x9000 1 none := by
  have plain : ∀ (s : State) (w0 w1 : Nat), s.badByte 0x9000 4 = none → w0 = 0x9000 → w1 = 2 ^ 56 + 2 ^ 52 + 2 ^ 51 → s.describes w0 w1 0x9000 1 0 none :=
    fun s w0 w1 hb h0 h1 => ⟨h0, by decide, by decide, hb, by decide, by decide, h1, fun a ha => by cases ha⟩
  intro p hp
  refine ⟨by fin_cases hp <;> decide +kernel, ?_, ?_⟩
  · unfold State.failsEntry
    fin_cases hp
    · exact .inr (.inr (.inl ⟨by decide +kernel, by unfold State.sound; decide +kernel, .inl (by decide +kernel)⟩))
    · exact .inr (.inr (.inl ⟨by decide +kernel, by unfold State.sound; decide +kernel, .inr (.inl (by decide +kernel))⟩))
    · exact .inr (.inr (.inl ⟨by decide +kernel, by unfold State.sound; decide +kernel, .inr (.inr (by decide +kernel))⟩))
    · exact .inr (.inr (.inr ⟨by decide +kernel, by unfold State.sound; decide +kernel, 0x9000, 1, 0, none,
        plain _ _ _ (by decide +kernel) (by decide +kernel) (by decide +kernel), .inl (by decide +kernel)⟩))
    · exact .inl (by decide +kernel)
    · exact .inr (.inr (.inr ⟨by decide +kernel, by unfold State.sound; decide +kernel, 0x9000, 1, 0, none,
        plain _ _ _ (by decide +kernel) (by decide +kernel) (by decide +kernel), .inr (.inr ⟨rfl, by decide +kernel, by unfold State.sound; decide +kernel, by decide +kernel⟩)⟩))
    · exact .inr (.inl (by unfold Slot.spoiled; decide +kernel))
    · exact .inr (.inr (.inr ⟨by decide +kernel, by unfold State.sound; decide +kernel, 0x9000, 1, 0, none,
        plain _ _ _ (by decide +kernel) (by decide +kernel) (by decide +kernel), .inr (.inl (by unfold Slot.spoiled; decide +kernel))⟩))
  · unfold State.escalationReady
    refine ⟨?_, plain _ _ _ ?_ ?_ ?_, ?_, ?_⟩ <;> fin_cases hp <;> first | decide +kernel | (unfold State.sound; decide +kernel)

/-- The escalation TSB in use, an escalation descriptor that breaks a rule, one that selects another TSB, and an uncorrectable word of each. -/
theorem witness_ExceptionEntrySavesTheTask_checkstops : ∀ p ∈ [
      ([(0x11F0, (1 : Byte)), (0x3FC3F0, 1)], [], 0x0C), ([(0x11F0, 1), (0x3FC000, 1)], [], 2), ([(0x11F0, 1), (0x3FC00E, 0x38)], [], 1),
      ([(0x11F0, 1)], [0x3FC000 / 8], 7), ([(0x11F0, 1)], [0x3FC3F0 / 8], 7)],
    (failing (task 0) p.1 p.2.1).memWf = true ∧ (failing (task 0) p.1 p.2.1).failsEntry 0 0x0C 6 ∧ (failing (task 0) p.1 p.2.1).failsEscalation 0 p.2.2
    ∧ (failing (task 0) p.1 p.2.1).streamOf 0 = some 0 := by
  have plain : ∀ (s : State) (w0 w1 sel : Nat), s.badByte 0x9000 4 = none → w0 = 0x9000 → w1 = 2 ^ 56 + sel * 2 ^ 53 + 2 ^ 52 + 2 ^ 51 → sel < 8 →
      s.describes w0 w1 0x9000 1 sel none :=
    fun s w0 w1 sel hb h0 h1 h2 => ⟨h0, by decide, by decide, hb, by decide, h2, h1, fun a ha => by cases ha⟩
  intro p hp
  refine ⟨by fin_cases hp <;> decide +kernel, ?_, ?_, by fin_cases hp <;> decide +kernel⟩
  · refine .inr (.inr (.inr ⟨by fin_cases hp <;> decide +kernel, ?_, 0x9000, 1, 0, none, plain _ _ _ _ ?_ ?_ ?_ (by decide), ?_⟩))
    any_goals fin_cases hp <;> first | decide +kernel | (unfold State.sound; decide +kernel)
    refine .inr (.inr ⟨rfl, ?_, ?_, ?_⟩) <;> fin_cases hp <;> first | decide +kernel | (unfold State.sound; decide +kernel)
  · unfold State.failsEscalation
    fin_cases hp
    · exact .inr (.inr ⟨by unfold State.sound; decide +kernel, 0x9000, 1, 0, none, plain _ _ _ _ (by decide +kernel) (by decide +kernel) (by decide +kernel) (by decide),
        .inr ⟨rfl, .inr ⟨rfl, by unfold State.sound; decide +kernel, by decide +kernel⟩⟩⟩)
    · exact .inr (.inl ⟨by unfold State.sound; decide +kernel, .inr (.inl (by decide +kernel))⟩)
    · exact .inr (.inr ⟨by unfold State.sound; decide +kernel, 0x9000, 1, 1, none, plain _ _ _ _ (by decide +kernel) (by decide +kernel) (by decide +kernel) (by decide),
        .inl ⟨rfl, by decide⟩⟩)
    · exact .inl ⟨rfl, by unfold Slot.spoiled; decide +kernel⟩
    · exact .inr (.inr ⟨by unfold State.sound; decide +kernel, 0x9000, 1, 0, none, plain _ _ _ _ (by decide +kernel) (by decide +kernel) (by decide +kernel) (by decide),
        .inr ⟨rfl, .inl ⟨rfl, by unfold Slot.spoiled; decide +kernel⟩⟩⟩)

/-- A store error; a watchdog expiry; two lines of equal level, the lower one taken. -/
theorem witness_BoundariesTakeWhatIsPending :
    (let x := { tasked 0 13 with storeErr := some ⟨8, 1, true⟩ };
      (board x).memWf = true ∧ (board x).slotOf 0 = some 0 ∧ x.status = .running ∧ x.storeErr ≠ none ∧ (board x).entryReady 0 0x0D 0x9000 1 0 none)
    ∧ (let x := { tasked 0 14 with wd := { Watchdog.reset with pending := true } };
      x.storeErr = none ∧ x.wd.pending = true ∧ (board x).entryReady 0 0x0E 0x9000 1 0 none)
    ∧ (let x := { tasked 0 0x20 with evpend := 0x80000001, lines32 := ((tasked 0 0).lines32.set 0 ⟨true, 15, 0⟩).set 31 ⟨true, 15, 0⟩ };
      x.storeErr = none ∧ x.wd.pending = false ∧ x.evpend.getLsbD 0 = true ∧ x.regs.iml.toNat < x.lines32[0].level.toNat
      ∧ (∀ m : Fin 32, x.evpend.getLsbD m.val = true → x.lines32[m].level.toNat ≤ x.lines32[0].level.toNat)
      ∧ (∀ m : Fin 32, m < 0 → x.evpend.getLsbD m.val = true → x.lines32[m].level.toNat < x.lines32[0].level.toNat)
      ∧ (board x).entryReady 0 0x20 0x9000 1 0 none) := by
  refine ⟨⟨by decide +kernel, rfl, rfl, by simp, ?_⟩, ⟨rfl, rfl, ?_⟩, ⟨rfl, rfl, by decide, by decide +kernel, by decide +kernel, by decide +kernel, ?_⟩⟩ <;>
  exact ready_of _ _ rfl rfl (by decide +kernel) (by decide +kernel) (by decide +kernel)

/-- A TRAP with QSP at offset 2000h of the desk. -/
theorem witness_AnExceptionReturnsToItsTask :
    let m := (table [12]).writeBytes 0x11E8 [0, 0x20, 0, 0, 0x3A]
    let x := { running (task 0x400) with desk := { Desk.reset with mem := m } }
    (board x).memWf = true ∧ (board x).clear 0 0 ∧ x.delay = none ∧ (board x).entryReady 0 0x0C 0x9000 1 0 none ∧ x.regs.pc.toNat % 4 = 0
    ∧ fpcsrOk (x.regs.fpcsr.zeroExtend 64) = true
    ∧ (let q := x.deskWord (x.regs.tsbp.toNat - deskBase + 0x1E8); q % 8 = 0 ∧ inOwnDesk q 2176 = true) ∧ x.desk.bad = [] ∧ x.status = .running := by
  refine ⟨by decide +kernel, board_clear (task 0x400) (fun x => { x with desk := { Desk.reset with mem := (table [12]).writeBytes 0x11E8 [0, 0x20, 0, 0, 0x3A] } })
    (fun _ => ⟨rfl, rfl, rfl, rfl, rfl, rfl, rfl, rfl⟩) rfl, rfl, ?_, by decide, by decide, by decide +kernel, rfl, rfl⟩
  exact ready_of _ _ rfl rfl (by decide +kernel) (by decide +kernel) (by decide +kernel)

/-- A task with a store that waits in its buffer, away from its TSB. -/
theorem witness_AnExceptionReturnsToItsTask_buffered : ∃ e ∈ ([⟨0x100, [1], false⟩] : List StoreEntry), e.meets (deskBase + 0x1000) 512 = false :=
  ⟨_, List.mem_singleton.2 rfl, by decide⟩

/-- A line that the core waits for, and one to prefetch; a monitor with its descriptor and TSB; a watchdog at 0, not expired and expired. -/
theorem witness_CoreEventsTakeTheirEffect :
    ((core Regs.reset).memWf = true ∧ (core Regs.reset).slotOf 0 = some 0 ∧ (core Regs.reset).streamOf 0 = some 0
      ∧ (core Regs.reset).badByte 0 256 = none ∧ (core Regs.reset).sound 0 0 256 ∧ ((core Regs.reset).slot 0).status = .running
      ∧ ((core Regs.reset).slot 0).lines ++ ((core Regs.reset).slot 0).ahead = [] ∧ 0 = ((core Regs.reset).regs 0).pc.toNat / 256 * 256)
    ∧ (let x := { running Regs.reset with lines := [⟨0, List.replicate 256 0⟩], line := some 0, prefetch := [256] }
      (board x).badByte 256 256 = none ∧ (board x).sound 0 256 256 ∧ (∀ l ∈ x.lines ++ x.ahead, l.addr ≠ 256) ∧ 256 ∈ x.prefetch)
    ∧ (let x := { running Regs.reset with dbg := { Debug.reset with tsb := 0x3A00001000, desc0 := 0x9000, desc1 := 2 ^ 56 + 2 ^ 52 + 2 ^ 51 } };
      (board x).clear 0 0 ∧ x.status = .running ∧ (board x).level 0 = 2 ∧ x.dbg.tsb.toNat % 512 = 0 ∧ inOwnDesk x.dbg.tsb.toNat 512 = true
      ∧ (board x).describes x.dbg.desc0.toNat x.dbg.desc1.toNat 0x9000 1 0 none)
    ∧ ∀ e, let s := board { running Regs.reset with wd := { Watchdog.reset with mode := 1, count := 1, exp := e } }
      let u := s.elapse 64
      (u.slot 0).wd.mode ≠ 0 ∧ (u.slot 0).status = .running ∧ (u.slot 0).wd.count = 0 ∧ (u.slot 0).wd.exp = e := by
  refine ⟨⟨by decide +kernel, rfl, by decide +kernel, by decide +kernel, by unfold State.sound; decide +kernel, rfl, rfl, rfl⟩,
    ⟨by decide +kernel, by unfold State.sound; decide +kernel, by decide, by decide⟩,
    ⟨?_, rfl, by decide +kernel, by decide, by decide +kernel, ?_⟩, ?_⟩
  · exact board_clear Regs.reset (fun x => { x with dbg := { x.dbg with tsb := 0x3A00001000, desc0 := 0x9000, desc1 := 2 ^ 56 + 2 ^ 52 + 2 ^ 51 } })
      (fun _ => ⟨rfl, rfl, rfl, rfl, rfl, rfl, rfl, rfl⟩) rfl
  · exact ⟨rfl, by decide, by decide, by decide +kernel, by decide, by decide, by decide, fun a ha => by cases ha⟩
  · intro e; cases e <;> decide +kernel

/-! ### The vector engine -/

def vf0 : VFmt := ⟨0, 0, 0, 0, 0, 0, 0, 0, 0, 0, 0⟩

/-- Fields for a row: an index in each field that the row uses. -/
def fieldsFor (vop : Nat) : VFmt := match vrow vop with
  | none => vf0
  | some r => { vf0 with
      ad := if r.ad then 5 else 0, as1 := if r.as1 then 6 else 0, as2 := if r.as2 then 7 else 0, as3 := if r.as3 then 8 else 0
      ds := if r.ds then 9 else 0, qn := if r.qn then 3 else 0, rnd := if r.rnd then 5 else 0 }

/-- Every row takes its fields; a scalar form takes SCL = 1 with DS and not with AS2, and VFCMP its last comparison. -/
theorem rows_take : (∀ row ∈ Rows.vector, keepsRow row.2 (fieldsFor row.2)) ∧ keepsRow 0x30 { vf0 with scl := 1, ds := 9 }
    ∧ ¬keepsRow 0x30 { vf0 with scl := 1, as2 := 1 } ∧ keepsRow 0x1C { vf0 with fn := 7 } ∧ ¬keepsRow 0x3F { vf0 with fn := 6 } := by
  simp only [keepsRow]
  exact ⟨by decide +kernel, by decide, by decide, by decide, by decide⟩

/-- An engine stopped at an entry. -/
def stoppedEng : Engine := { (running Regs.reset).eng with stopped := true, queue := [⟨[], 1, 5, 0⟩] }

/-- Every row has fields that it takes; the engine has room up to 127 slots in use; and it may be stopped. -/
theorem witness_VectorRowsEnterTheQueue :
    (∀ row ∈ Rows.vector, keepsRow row.2 (fieldsFor row.2))
    ∧ (core Regs.reset).clear 0 0 ∧ ((core Regs.reset).slot 0).delay = none ∧ ((core Regs.reset).regs 0).qg = 0
    ∧ ((core Regs.reset).regs 0).pc.getLsbD 2 = false ∧ (core Regs.reset).takesEntry 0 128
    ∧ (let s := board { running Regs.reset with eng := stoppedEng }
      s.clear 0 0 ∧ (s.slot 0).delay = none ∧ (s.regs 0).qg = 0 ∧ (s.slot 0).eng.stopped = true) := by
  refine ⟨rows_take.1, core_clear _, rfl, rfl, rfl, ⟨rfl, rfl, by decide⟩, ⟨rfl, ?_⟩, rfl, rfl, rfl⟩
  rw [board_slot]
  refine ⟨.inl rfl, rfl, rfl, rfl, rfl, rfl, rfl, rfl, ?_, ?_⟩ <;> intro n <;> simp [Engine.targetsD, Engine.targetsQ, stoppedEng]

/-- A vector row behind an uncommitted store, and one before a full queue. -/
theorem witness_VectorRowsEnterTheQueue_waits :
    (let s := board { running Regs.reset with sbuf := [⟨0, [1], false⟩] };
      s.clear 0 0 ∧ (s.slot 0).delay = none ∧ (s.slot 0).eng.stopped = false ∧ (s.slot 0).sbuf ≠ [])
    ∧ (let s := board { running Regs.reset with eng := { (running Regs.reset).eng with queue := [⟨[], 128, 5, 0⟩] } };
      s.clear 0 0 ∧ (s.slot 0).delay = none ∧ (s.slot 0).eng.stopped = false ∧ ((s.slot 0).eng.queue.map VEntry.slots).sum = 128) := by
  refine ⟨⟨?_, rfl, rfl, List.cons_ne_nil _ _⟩, ⟨rfl, ?_⟩, rfl, rfl, rfl⟩
  · exact board_clear Regs.reset (fun x => { x with sbuf := [⟨0, [1], false⟩] }) (fun _ => ⟨rfl, rfl, rfl, rfl, rfl, rfl, rfl, rfl⟩) rfl
  · rw [board_slot]
    refine ⟨.inl rfl, rfl, rfl, rfl, rfl, rfl, rfl, rfl, ?_, ?_⟩ <;> intro n <;> simp [Engine.targetsD, Engine.targetsQ]

/-- CHAIN with CNT 7; the first of two members, and the last of two. -/
theorem witness_GroupsEnterTogether :
    ((core Regs.reset).clear 0 0 ∧ ((core Regs.reset).slot 0).delay = none ∧ ((core Regs.reset).slot 0).notAtEnd 8
      ∧ ((core Regs.reset).regs 0).qg = 0 ∧ ((core Regs.reset).slot 0).sbuf = [] ∧ ((core Regs.reset).regs 0).pc.getLsbD 2 = false
      ∧ ∃ f : VFmt, f.cnt.toNat < 8 ∧ f.cnt.toNat = 7 ∧ f = ⟨0, 0, 0, 0, 0, 0, 0, 0, 0, f.cnt, 0⟩)
    ∧ ∀ ops ∈ [[], [Regs.reset.captured 0x30 (fieldsFor 0x30) none]],
      let c : OpenChain := ⟨0, 2, ops, 5, 0⟩
      let s := board { running Regs.reset with chain := some c };
      (s.modSlot 0 fun x => { x with chain := none }).clear 0 0 ∧ (s.slot 0).chain = some c ∧ (s.slot 0).delay = none ∧ (s.slot 0).notAtEnd 8
      ∧ (s.regs 0).qg = 0 ∧ (s.slot 0).sbuf = [] ∧ keepsRow 0x31 (fieldsFor 0x31)
      ∧ (let all := ops ++ [(s.regs 0).captured 0x31 (fieldsFor 0x31) none]
        (all.length < c.count ∨ all.length = c.count) ∧ ∀ v ∈ all, v.qDest = none) ∧ s.takesEntry 0 (c.count + 1) := by
  refine ⟨⟨core_clear _, rfl, .inl rfl, rfl, rfl, rfl, ⟨⟨0, 0, 0, 0, 0, 0, 0, 0, 0, 7, 0⟩, by decide⟩⟩, ?_⟩
  intro ops ho
  refine ⟨core_clear Regs.reset, rfl, rfl, .inl rfl, rfl, rfl, by decide, ?_, rfl, rfl, by simp [board_slot, running]; decide⟩
  fin_cases ho <;> decide +kernel

/-- An idle engine, one that runs, and one that is stopped, with and without a VFENCE that waits. -/
theorem witness_EngineControlRows : ∀ e ∈ [(running Regs.reset).eng, { stoppedEng with stopped := false }, stoppedEng], ∀ w : Option WaitKind,
    w = none ∨ w = some .vfence →
    let s := board { running Regs.reset with eng := e, waitAt := w }
    s.clear 0 0 ∧ (s.slot 0).delay = none ∧ (s.regs 0).pc.getLsbD 2 = false ∧ (s.slot 0).eng = e ∧ (s.slot 0).waitAt = w := by
  intro e he w _
  have hq : (∀ n, e.targetsD n = false) ∧ (∀ n, e.targetsQ n = false) := by
    fin_cases he <;> constructor <;> intro n <;> simp [Engine.targetsD, Engine.targetsQ, stoppedEng, running, Slot.reset, Engine.reset]
  refine ⟨⟨rfl, ?_⟩, rfl, (show Regs.reset.pc.getLsbD 2 = false by decide), rfl, rfl⟩
  rw [board_slot]
  exact ⟨.inl rfl, rfl, rfl, rfl, rfl, rfl, rfl, rfl, hq.1, hq.2⟩

/-- Two entries of which the second may be read ahead. -/
theorem witness_EngineControlRows_runAhead :
    let x : Slot := { running Regs.reset with eng := { stoppedEng with stopped := false, queue := [⟨[], 1, 5, 0⟩, ⟨[], 1, 5, 0⟩] } }
    x.mayRunAhead = true ∧ (board x).drains 0 ⟨[], 1, 5, 0⟩ = true := by
  decide +kernel

/-- A program of one VADD from AS1 and AS2 to AD. -/
def program : List Word64 := [0x01C5010001C00000, BitVec.ofNat 64 (0x30 * 2 ^ 56 + 16 * 2 ^ 51 + 17 * 2 ^ 46 + 18 * 2 ^ 41)]

theorem witness_UserInstructionsExpand :
    let s := { core Regs.reset with table := { (core Regs.reset).table with slots := (core Regs.reset).table.slots.set 5 program } }
    s.clear 0 0 ∧ (s.slot 0).delay = none ∧ (s.slot 0).tableBad = [] ∧ (s.slot 0).tableSoft = [] ∧ (s.regs 0).qg = 0
    ∧ (s.regs 0).pc.getLsbD 2 = false ∧ s.table.slots[6] = [] ∧ s.table.slots[5] = program
    ∧ userFieldsOk program { vf0 with ad := 3, as1 := 4, as2 := 5 } = true ∧ program.tail.length < 32
    ∧ (∀ w ∈ program.tail, Uop.op w ≠ 8 ∧ Uop.op w ≠ 0x50 ∧ Uop.op w ≠ 0x51) ∧ s.takesEntry 0 program.tail.length := by
  refine ⟨core_clear _, rfl, rfl, rfl, rfl, rfl, by decide +kernel, by decide +kernel, by decide +kernel, by decide, ?_, rfl, rfl, by decide +kernel⟩
  intro w hw
  obtain rfl := List.mem_singleton.mp hw
  decide +kernel

/-- A sum of 130 elements with its three descriptors, running and to be suspended at group 2. -/
theorem witness_AVectorSumIsComputed : ∀ sus : Bool,
    let v : VOp := { Regs.reset.captured 0x30 vf0 none with aAd := 0x3A00000100, a1 := 0x3A00000120, a2 := 0x3A00000140 }
    let m := [(0x100, 0x3A00001000), (0x110, 5 * 2 ^ 28), (0x120, 0x3A00002000), (0x130, 5 * 2 ^ 28), (0x140, 0x3A00003008), (0x150, 5 * 2 ^ 28)].foldl
      (fun (m : Mem) (p : Nat × Nat) => m.writeBytes p.1 (leBytes 8 p.2)) Desk.reset.mem
    let x := { running Regs.reset with
      desk := { Desk.reset with mem := m }, eng := { (running Regs.reset).eng with queue := [⟨[v], 1, 130, 0⟩], suspend := sus } }
    (board x).memWf = true ∧ (board x).slotOf 0 = some 0 ∧ x.sums v [] 130 0x3A00001000 0x3A00002000 0x3A00003008 ∧ x.eng.suspend = sus ∧ 64 * 2 < (130 : Word32).toNat := by
  intro sus
  cases sus <;> refine ⟨by decide +kernel, rfl, ⟨rfl, rfl, rfl, rfl, rfl, ?_, ?_, ?_, by decide +kernel, by decide +kernel⟩, rfl, by decide⟩ <;> unfold Slot.plainDesc <;> decide +kernel

/-- The three arrays of a vector entry, of type `ty`, with their descriptors at 100h, 120h and 140h of the desk. -/
def arrays (ty : Nat) : Mem :=
  [(0x100, 0x3A00001000), (0x110, ty * 2 ^ 28), (0x120, 0x3A00002000), (0x130, ty * 2 ^ 28), (0x140, 0x3A00003000), (0x150, ty * 2 ^ 28)].foldl
    (fun (m : Mem) (p : Nat × Nat) => m.writeBytes p.1 (leBytes 8 p.2)) Desk.reset.mem

/-- An engine whose front entry is `vop` over 130 elements of those arrays. -/
def fronted (vop ty : Nat) : Slot :=
  let v : VOp := { Regs.reset.captured vop vf0 none with aAd := 0x3A00000100, a1 := 0x3A00000120, a2 := 0x3A00000140 }
  { running Regs.reset with desk := { Desk.reset with mem := arrays ty }, eng := { (running Regs.reset).eng with queue := [⟨[v], 1, 130, 0⟩] } }

def frontOp (vop ty : Nat) : VOp := ((fronted vop ty).eng.queue.head?.bind fun e => e.ops.head?).getD (Regs.reset.captured 0 vf0 none)

theorem fronts_of (vop ty : Nat) : (fronted vop ty).fronts (frontOp vop ty) [] 130 vop := ⟨rfl, rfl, rfl, rfl, rfl, rfl, rfl⟩

/-- A VSUB of uint64 elements, a VISUM of them, and QSUM and QDOT of binary64 zeros. -/
theorem witness_AVectorSumIsComputed_rows :
    (∃ row ∈ Rows.element, row.vop = 0x31 ∧ (board (fronted 0x31 5)).memWf = true ∧ (fronted 0x31 5).fronts (frontOp 0x31 5) [] 130 row.vop
      ∧ (fronted 0x31 5).operands row (frontOp 0x31 5) 130 (fun _ => 5) (fun n => 0x3A00001000 + 0x1000 * n.val))
    ∧ (∃ row ∈ Rows.reduction, (fronted 0x52 5).fronts (frontOp 0x52 5) [] 130 row.vop ∧ row.types 5 ∧ (frontOp 0x52 5).f.fn.toNat < 2
      ∧ (fronted 0x52 5).plainDesc (frontOp 0x52 5).a1 5 0x3A00002000 130)
    ∧ ∀ vop ∈ [0x50, 0x51], let x := fronted vop 0
      x.fronts (frontOp vop 0) [] 130 vop ∧ floatOf 0 = some binary64 ∧ x.plainDesc (frontOp vop 0).a1 0 0x3A00002000 130
      ∧ x.plainDesc (frontOp vop 0).a2 0 0x3A00003000 130
      ∧ (∀ j < 130, ∃ g m e, binary64.decode (x.elem 0 0x3A00002000 j) = .fin g m e ∧ ((0 : Int) : ℚ) = ratOf g m e * 2 ^ 2148)
      ∧ (∀ j ≤ 130, let upTo : Int := ((board x).regs 0).q[(frontOp vop 0).f.qn.toFin].toInt + ((List.range j).map fun _ => (0 : Int)).sum;
        -2 ^ 4287 ≤ upTo ∧ upTo < 2 ^ 4287) := by
  refine ⟨⟨⟨0x31, 2, sameTypes isI, fun m a1 a2 _ _ x => m.wraps true (asInt m.td a1 - asInt m.td a2) x⟩, ?_, rfl, by decide +kernel, fronts_of _ _, ?_⟩,
    ⟨⟨0x52, fun t => isI t = true, fun _ t d a d' fl => fl = 0 ∧ (d'.toNat : Int) = (d.toNat + asInt t a) % 2 ^ 64⟩, ?_, fronts_of _ _, by decide,
      by decide +kernel, ?_⟩, fun vop h => ⟨fronts_of _ _, rfl, ?_, ?_, ?_, ?_⟩⟩
  · simp [Rows.element]
  · refine ⟨⟨rfl, rfl, rfl, rfl⟩, by unfold ElemRow.fnOk; decide +kernel, ?_, fun _ => ?_, fun _ => ?_, fun h => absurd h (by decide), ?_⟩
    any_goals unfold Slot.plainDesc; decide +kernel
    intro n h1 h2
    have h5 : typeBytes 5 = 8 := by decide
    exact .inl (by simp only [h5]; omega)
  · simp [Rows.reduction]
  · unfold Slot.plainDesc; decide +kernel
  · unfold Slot.plainDesc; fin_cases h <;> decide +kernel
  · unfold Slot.plainDesc; fin_cases h <;> decide +kernel
  · intro j hj
    have hz : binary64.decode ((fronted vop 0).elem 0 0x3A00002000 j) = .fin false 0 binary64.qmin := by
      revert j; fin_cases h <;> decide +kernel
    exact ⟨_, _, _, hz, by simp [ratOf]⟩
  · intro j _
    have hs : ((List.range j).map fun _ => (0 : Int)).sum = 0 := by simp
    rw [hs]
    fin_cases h <;> decide +kernel

/-- A plain stream of type `ty` at `base`. -/
def plainStream (base ty : Nat) : VStream := ⟨base, 0, 0, none, false, 0, ty, 0⟩

/-- Streams of every mode: a bit-reversed destination in the desk with its mask inverted and ZERO, a source by index, and a strided one in local
memory at `near`. -/
def streams (far near ty : Nat) : VecArgs := {
  main := fun n => [⟨far, 2, 2, some (0x200, true), true, 3, ty, 0⟩, ⟨0x3A00020000, 0, 0, none, false, 2, ty, 0x220⟩,
    ⟨near, 3, 0, none, false, 1, ty, 0⟩].getD n.val (plainStream 0 ty)
  index := fun _ => plainStream 0x3A00030000 6
  mask := plainStream 0x3A00040000 10 }

/-- The desk that holds their descriptors, with the first source element `a`. -/
def described (g : VecArgs) (a : Nat) : Mem :=
  let at_ (o : Nat) (d : VStream) : List (Nat × Nat) := d.words.mapIdx fun j w => (o + 8 * j, w)
  ((at_ 0x100 (g.main 0) ++ at_ 0x120 (g.main 1) ++ at_ 0x140 (g.main 2) ++ at_ 0x200 g.mask ++ at_ 0x220 (g.index 0)) ++ [(0x20000, a)]).foldl
    (fun (m : Mem) (p : Nat × Nat) => m.writeBytes p.1 (leBytes 8 p.2)) Mem.zero

/-- The operation `vop` over those streams, with the conditions `traps` enabled. -/
def streamOp (vop : Nat) (traps : BitVec 7) : VOp :=
  { Regs.reset.captured vop vf0 none with aAd := 0x3A00000100, a1 := 0x3A00000120, a2 := 0x3A00000140, traps := traps }

def streaming (g : VecArgs) (a : Nat) (v : VOp) (vx : Word32) : State :=
  { board { running Regs.reset with
      desk := { Desk.reset with mem := described g a }, eng := { (running Regs.reset).eng with queue := [⟨[v], 1, 3, vx⟩] } } with
    mem := { State.reset.mem with mem := ⟨0, [(0x1018, 1)]⟩ } }

/-- Where the streams of a witness lie, with the first source element and the enabled conditions. -/
structure Shape where
  far : Nat
  near : Nat
  a : Nat
  traps : BitVec 7

def Shape.args (p : Shape) : VecArgs := streams p.far p.near 4
def Shape.op (p : Shape) : VOp := streamOp 0x30 p.traps
def Shape.state (p : Shape) : State := streaming p.args p.a p.op 1

/-- Nothing in local memory is in error. -/
theorem mem_sound (s : State) (hm : s.mem.bad = [] ∧ s.mem.soft = [] ∧ s.mem.failed = []) (hp : ∀ p : PortId, s.ports[p].gone = false)
    (hd : (s.slot 0).desk.bad = [] ∧ (s.slot 0).desk.soft = []) (a n : Nat) : s.sound 0 a n := by
  unfold State.sound
  split
  · exact fun w _ => by simp [hd]
  · exact fun b _ => ⟨by simp [hm], by simp [hm], by simp [hm], hp _⟩

def shapes : List Shape :=
  [⟨0x3A00010000, 0x1000, 7, 0⟩, ⟨0x3A00010000, 247680008536, 7, 0⟩, ⟨0x4000000000, 0x1000, 7, 0⟩, ⟨0x3A00010000, 0x1000, 2 ^ 63 - 1, 0x20⟩]

/-- Elements 1 and 2 of such a VADD may be computed. -/
theorem witness_AVectorSumIsComputed_streams : ∀ p ∈ shapes, let g := p.args
    let named (o : Fin 4) : Prop := o.val ≤ 2 ∧ (o = 2 → p.op.f.scl = 0)
    p.state.memWf = true ∧ keepsRow 0x30 p.op.f ∧ (p.state.slot 0).names g p.op named 0 ∧ p.state.mayCompute 0 g named 0 1 3
    ∧ ((g.main 0).mode = 1 → (g.main 0).stride ≠ 0)
    ∧ ∃ lo hi : Int, (∀ j, 1 ≤ j → j < 3 → lo ≤ g.addr p.state 0 0 j ∧ g.addr p.state 0 0 j + typeBytes (g.main 0).ty ≤ hi)
      ∧ ∀ d at_, g.reads p.state 0 named 0 d at_ →
        (∀ j, 64 * (1 / 64) ≤ j → j < 3 → at_ j + typeBytes d.ty ≤ lo) ∨ (∀ j, 64 * (1 / 64) ≤ j → j < 3 → hi ≤ at_ j) := by
  intro p hp
  refine ⟨?_, by fin_cases hp <;> decide, ?_, ⟨?_, ?_, rfl, ?_, ?_⟩, ?_, p.far, p.far + 64, ?_, ?_⟩
  · fin_cases hp <;> decide +kernel
  · intro n hn
    have h3 : n ≠ 3 := by rintro rfl; exact absurd hn.1 (by decide)
    refine ⟨?_, ?_, ?_, ?_⟩
    · fin_cases hp <;> fin_cases n <;> first
        | exact absurd rfl h3
        | (unfold Slot.holds VStream.keepsRules
           refine ⟨by decide, by decide, by decide +kernel, by decide, by decide, by decide, by decide, by decide, by decide, by decide, by decide, by decide,
            by decide, by decide, by decide, ?_⟩
           simp [Shape.args, streams])
    · intro h0; fin_cases n <;> first | exact absurd rfl h0 | rfl
    · intro hm
      refine ⟨?_, ⟨rfl, rfl, by simp [Shape.args, streams, plainStream]⟩, .inr rfl⟩
      fin_cases hp <;> fin_cases n <;> first
        | exact absurd rfl h3
        | exact absurd hm (by decide)
        | (unfold Slot.holds VStream.keepsRules
           refine ⟨by decide, by decide, by decide +kernel, by decide, by decide, by decide, by decide, by decide, by decide, by decide, by decide, by decide,
            by decide, by decide, by decide, ?_⟩
           simp [Shape.args, streams, plainStream])
    · intro q inv hq
      have hb : n = 0 := by fin_cases n <;> first | rfl | cases hq
      subst hb
      obtain ⟨rfl, rfl⟩ : 0x200 = q ∧ true = inv := by simpa [Shape.args, streams] using hq
      refine ⟨?_, ⟨rfl, rfl, by simp [Shape.args, streams, plainStream]⟩, rfl⟩
      fin_cases hp <;>
        (unfold Slot.holds VStream.keepsRules
         refine ⟨by decide, by decide, by decide +kernel, by decide, by decide, by decide, by decide, by decide, by decide, by decide, by decide, by decide,
          by decide, by decide, by decide, ?_⟩
         simp [Shape.args, streams, plainStream])
  · intro n _ _ i _ hi
    change p.state.badByte ((plainStream 0x3A00030000 6).addr i 0) (typeBytes 6) = none
    interval_cases i <;> fin_cases hp <;> decide +kernel
  · intro _ i _ hi
    change p.state.badByte ((plainStream 0x3A00040000 10).addr i 0) (typeBytes 10) = none
    interval_cases i <;> fin_cases hp <;> decide +kernel
  · intro a _
    exact mem_sound _ (by fin_cases hp <;> exact ⟨rfl, rfl, rfl⟩) (by fin_cases hp <;> decide +kernel) (by fin_cases hp <;> exact ⟨rfl, rfl⟩) _ _
  · intro i r _ hr
    have h0 : ∀ i, (p.state.client (.stream i)).run = none := by fin_cases hp <;> decide +kernel
    rw [h0] at hr; cases hr
  · intro h; exact absurd h (by fin_cases hp <;> decide)
  · intro j h1 h3
    interval_cases j <;> fin_cases hp <;> decide +kernel
  · intro d at_ h
    have low : ∀ f : Nat → Int, (∀ c ∈ [0, 1, 2], f c ≤ p.far) → ∀ j, 64 * (1 / 64) ≤ j → j < 3 → f j ≤ p.far := fun f h j _ hj =>
      h j (by interval_cases j <;> decide)
    have high : ∀ f : Nat → Int, (∀ c ∈ [0, 1, 2], p.far + 64 ≤ f c) → ∀ j, 64 * (1 / 64) ≤ j → j < 3 → p.far + 64 ≤ f j := fun f h j _ hj =>
      h j (by interval_cases j <;> decide)
    obtain ⟨n, h0, hn, rfl, rfl⟩ | ⟨n, hn, hm, rfl, rfl⟩ | ⟨_, rfl, rfl⟩ := h
    · have h3 : n ≠ 3 := by rintro rfl; exact absurd hn.1 (by decide)
      fin_cases hp <;> fin_cases n <;> first
        | exact absurd rfl h3
        | exact absurd rfl h0
        | exact .inl (low (fun j => _ + _) (by decide +kernel))
        | exact .inr (high _ (by decide +kernel))
    · fin_cases hp <;> first
        | exact .inl (low (fun j => (plainStream 0x3A00030000 6).addr j 0 + typeBytes 6) (by decide +kernel))
        | exact .inr (high (fun j => (plainStream 0x3A00030000 6).addr j 0) (by decide +kernel))
    · fin_cases hp <;> first
        | exact .inl (low (fun j => (plainStream 0x3A00040000 10).addr j 0 + typeBytes 10) (by decide +kernel))
        | exact .inr (high (fun j => (plainStream 0x3A00040000 10).addr j 0) (by decide +kernel))

/-- The clauses at those streams: every element completes; a source that no memory holds; such a destination; an overflow whose condition is enabled;
and VX past VL. -/
theorem witness_AVectorSumIsComputed_clauses : ∃ row ∈ Rows.element, row.vop = 0x30 ∧ (∀ p ∈ shapes, row.types (p.args.main 0).ty (p.args.main 1).ty (p.args.main 2).ty (p.args.main 3).ty)
    ∧ (let p : Shape := ⟨0x3A00010000, 0x1000, 7, 0⟩
      ∀ j ∈ [1, 2], p.args.active p.state 0 0 j = true ∧ ∀ o, o.val ≤ 2 → p.args.valid p.state 0 o j)
    ∧ (let p : Shape := ⟨0x3A00010000, 247680008536, 7, 0⟩
      p.args.active p.state 0 0 2 = true ∧ p.args.valid p.state 0 1 2 ∧ p.state.addrCode (p.args.addr p.state 0 2 2) 8 4
      ∧ ∀ o, o.val ≤ 2 → p.args.valid p.state 0 o 1)
    ∧ (let p : Shape := ⟨0x4000000000, 0x1000, 7, 0⟩
      p.args.active p.state 0 0 1 = true ∧ p.state.addrCode (p.args.addr p.state 0 0 1) 8 2 ∧ ∀ o, 1 ≤ o.val → o.val ≤ 2 → p.args.valid p.state 0 o 1)
    ∧ (let p : Shape := ⟨0x3A00010000, 0x1000, 2 ^ 63 - 1, 0x20⟩
      p.args.active p.state 0 0 1 = true ∧ (∀ o, o.val ≤ 2 → p.args.valid p.state 0 o 1)
      ∧ ∃ x : FRes, row.gives ⟨0, p.op.rm, 4, 4⟩ (p.args.elem p.state 0 1 1) (p.args.elem p.state 0 2 1) 0 1 x
        ∧ trapCode x.flags (p.op.traps.truncate 6) 0x0B 1)
    ∧ ∃ vx vl : Word32, vl.toNat < vx.toNat := by
  refine ⟨⟨0x30, 2, sameTypes isI, fun m a1 a2 _ _ x => m.wraps true (asInt m.td a1 + asInt m.td a2) x⟩, by simp [Rows.element], rfl,
    fun p hp => by unfold sameTypes; fin_cases hp <;> decide, ?_,
    ⟨?_, ?_, ?_, ?_⟩, ⟨?_, ?_, ?_⟩, ⟨?_, ?_, ⟨2 ^ 63, 0x20⟩, ?_, 5, by decide, by decide, by decide, by decide, by decide⟩, 5, 3, by decide⟩
  · intro p j hj
    refine ⟨by fin_cases hj <;> decide +kernel, fun o ho => ?_⟩
    unfold VecArgs.valid
    fin_cases hj <;> fin_cases o <;> decide +kernel
  · decide +kernel
  · unfold VecArgs.valid; decide +kernel
  · exact ⟨247680008584, by decide +kernel, by decide +kernel⟩
  · intro o ho; unfold VecArgs.valid
    fin_cases o <;> decide +kernel
  · decide +kernel
  · exact ⟨0x4000000020, by decide +kernel, by decide +kernel⟩
  · intro o h1 ho; unfold VecArgs.valid
    fin_cases o <;> first | exact absurd h1 (by decide) | decide +kernel
  · decide +kernel
  · intro o ho; unfold VecArgs.valid
    fin_cases o <;> decide +kernel
  · have e1 : (Shape.args ⟨0x3A00010000, 0x1000, 2 ^ 63 - 1, 0x20⟩).elem (Shape.state ⟨0x3A00010000, 0x1000, 2 ^ 63 - 1, 0x20⟩) 0 1 1 = 2 ^ 63 - 1 := by decide +kernel
    have e2 : (Shape.args ⟨0x3A00010000, 0x1000, 2 ^ 63 - 1, 0x20⟩).elem (Shape.state ⟨0x3A00010000, 0x1000, 2 ^ 63 - 1, 0x20⟩) 0 2 1 = 1 := by decide +kernel
    simp only [e1, e2]
    refine ⟨by decide, fun _ _ _ => rfl, fun h => ?_⟩
    obtain h | h | h := h
    · cases h
    · exact absurd (⟨64, rfl⟩ : ∃ b, intOf 4 = some (true, b)) h
    · exact absurd h.2 (by decide)

/-- A reduction of a strided source under a mask, from element 1 on, whose elements all lie in memory, or whose element 2 lies past it. -/
def reduceArgs (near ty : Nat) : VecArgs := {
  main := fun _ => ⟨near, 3, 0, some (0x200, true), false, 1, ty, 0⟩
  index := fun _ => plainStream 0x3A00030000 6
  mask := plainStream 0x3A00040000 10 }

theorem witness_AVectorSumIsComputed_reduces : ∀ near ∈ [0x1000, 247680008536], let g := reduceArgs near 4
    let v := streamOp 0x52 0
    let s := streaming g 0 v 1
    (∃ row ∈ Rows.reduction, row.vop = 0x52 ∧ row.types 4) ∧ s.memWf = true ∧ keepsRow 0x52 v.f ∧ (s.slot 0).names g v (fun o => o = 1) 1
    ∧ s.mayCompute 0 g (fun o => o = 1) 1 1 3 ∧ g.active s 0 1 1 = true ∧ g.active s 0 1 2 = true ∧ g.valid s 0 1 1
    ∧ (near = 0x1000 → g.valid s 0 1 2) ∧ (near = 247680008536 → s.addrCode (g.addr s 0 1 2) 8 4) := by
  intro near hn
  refine ⟨⟨⟨0x52, fun t => isI t = true, fun _ t d a d' fl => fl = 0 ∧ (d'.toNat : Int) = (d.toNat + asInt t a) % 2 ^ 64⟩, by simp [Rows.reduction], rfl, rfl⟩,
    by fin_cases hn <;> decide +kernel, by decide, ?_, ⟨?_, ?_, rfl, ?_, ?_⟩, ?_, ?_, ?_, ?_, ?_⟩
  · rintro n rfl
    refine ⟨?_, fun h => absurd rfl h, fun h => absurd h (by simp [reduceArgs]), ?_⟩
    · fin_cases hn <;>
        (unfold Slot.holds VStream.keepsRules
         refine ⟨by decide, by decide, by decide +kernel, by decide, by decide, by decide, by decide, by decide, by decide, by decide, by decide, by decide,
          by decide, by decide, by decide, ?_⟩
         simp [reduceArgs])
    · intro q inv hq
      obtain ⟨rfl, rfl⟩ : 0x200 = q ∧ true = inv := by simpa [reduceArgs] using hq
      refine ⟨?_, ⟨rfl, rfl, by simp [reduceArgs, plainStream]⟩, rfl⟩
      fin_cases hn <;>
        (unfold Slot.holds VStream.keepsRules
         refine ⟨by decide, by decide, by decide +kernel, by decide, by decide, by decide, by decide, by decide, by decide, by decide, by decide, by decide,
          by decide, by decide, by decide, ?_⟩
         simp [reduceArgs, plainStream])
  · intro n _ hm; exact absurd hm (by simp [reduceArgs])
  · intro _ i _ hi
    change (streaming (reduceArgs near 4) 0 (streamOp 0x52 0) 1).badByte ((plainStream 0x3A00040000 10).addr i 0) (typeBytes 10) = none
    interval_cases i <;> fin_cases hn <;> decide +kernel
  · exact fun a _ => mem_sound _ ⟨rfl, rfl, rfl⟩ (by fin_cases hn <;> decide +kernel) ⟨rfl, rfl⟩ _ _
  · intro i r _ hr
    have h0 : ∀ i, ((streaming (reduceArgs near 4) 0 (streamOp 0x52 0) 1).client (.stream i)).run = none := by fin_cases hn <;> decide +kernel
    rw [h0] at hr; cases hr
  · fin_cases hn <;> decide +kernel
  · fin_cases hn <;> decide +kernel
  · unfold VecArgs.valid; fin_cases hn <;> decide +kernel
  · unfold VecArgs.valid; fin_cases hn <;> decide +kernel
  · intro h; subst h; exact ⟨247680008584, by decide +kernel, by decide +kernel⟩

/-- A signalling NaN that a VFMAXR meets with IV enabled; and an AD that names no descriptor. -/
theorem witness_AVectorSumIsComputed_stops :
    (∃ row ∈ Rows.reduction, row.vop = 0x55 ∧ row.types 0 ∧ ∃ d' fl, row.gives 0 0 0 0x7FF4000000000000 d' fl ∧ trapCode fl 1 0x0A 1)
    ∧ (let v := { streamOp 0x30 0 with aAd := 0x3A00000108 }
      let s := streaming (streams 0 0 4) 0 v 0
      s.memWf = true ∧ (s.slot 0).eng.queue = ⟨[v], 1, 3, 0⟩ :: [] ∧ v.aAd.toNat % 32 ≠ 0) := by
  refine ⟨⟨⟨0x55, fun t => t < 2, fun _ t d a d' fl => ∃ p, floatOf t = some p ∧ p.picks true (d.toNat % 2 ^ p.width) a ⟨d'.toNat, fl⟩⟩,
    by simp [Rows.reduction], rfl, by decide, 0, 1, ⟨binary64, rfl, ?_⟩, 0, by decide, by decide, by decide, by decide, by decide⟩,
    by decide +kernel, rfl, by decide⟩
  have hz : binary64.decode 0x7FF4000000000000 = .nan true := by decide +kernel
  have hy : binary64.decode ((0 : Word64).toNat % 2 ^ binary64.width) = .fin false 0 binary64.qmin := by decide +kernel
  unfold FloatFmt.picks
  simp only [hz, hy]
  exact ⟨by simp, by simp [FVal.isNaN], by simp [FVal.isNaN], by decide, by simp [FVal.isNaN]⟩

/-- A VADD and a VSUB of int64 elements over link 2: the sources at 2000h and 3000h, the second one's other source at 4000h, and its destination at
1000h of the desk. -/
theorem witness_AVectorSumIsComputed_group :
    let words : List (Nat × Nat) := [(0x110, 4 * 2 ^ 28 + 2 * 2 ^ 52 + 2 ^ 55), (0x120, 0x3A00002000), (0x130, 4 * 2 ^ 28), (0x140, 0x3A00003000), (0x150, 4 * 2 ^ 28),
      (0x160, 0x3A00004000), (0x170, 4 * 2 ^ 28), (0x180, 0x3A00001000), (0x190, 4 * 2 ^ 28)]
    let v := { streamOp 0x30 0 with aAd := 0x3A00000100, a1 := 0x3A00000120, a2 := 0x3A00000140 }
    let v' := { streamOp 0x31 0 with aAd := 0x3A00000180, a1 := 0x3A00000100, a2 := 0x3A00000160 }
    let x := { running Regs.reset with
      desk := { Desk.reset with mem := words.foldl (fun (m : Mem) (p : Nat × Nat) => m.writeBytes p.1 (leBytes 8 p.2)) Mem.zero }
      eng := { (running Regs.reset).eng with queue := [⟨[v, v'], 3, 130, 0⟩] } }
    (board x).memWf = true ∧ x.eng.queue = ⟨[v, v'], 3, 130, 0⟩ :: [] ∧ x.desk.bad = [] ∧ keepsRow 0x30 v.f ∧ keepsRow 0x31 v'.f
    ∧ sameTypes isI 4 4 4 4 ∧ x.linkDesc v.aAd 4 2 ∧ x.linkDesc v'.a1 4 2 ∧ x.plainDesc v'.aAd 4 0x3A00001000 130
    ∧ x.plainDesc v.a1 4 0x3A00002000 130 ∧ x.plainDesc v.a2 4 0x3A00003000 130 ∧ x.plainDesc v'.a2 4 0x3A00004000 130
    ∧ 0x3A00001000 + typeBytes 4 * 130 ≤ 0x3A00002000 := by
  refine ⟨by decide +kernel, rfl, rfl, by decide, by decide, by unfold sameTypes; decide, ?_, ?_, ?_, ?_, ?_, ?_, by decide⟩
  any_goals unfold Slot.linkDesc; decide +kernel
  all_goals unfold Slot.plainDesc; decide +kernel

/-! ### Bells, bookings and lessons -/

/-- A module that runs and is ready, with an open timetable of 1,000 µs periods, outside recess. -/
def school (x : Slot) : State :=
  { board x with tt := { (board x).tt with open_ := true, inRecess := false, params := ⟨1000, 1, 5⟩ }, host := { (board x).host with linkUp := true } }

/-- A booking of Stream 0 for 1,000 clk with an energy limit. -/
def booking : Booking := {
  lesson := true, early := false, repeat_ := true, mode := 0, target := 0, budget := 1000, weight := 23, stream := 0, energy := 7, tag := 0x77
  lmBase := 0, lmLen := 0, dPages := 0, dBase := 0, entry := 0, arg := 0, stack := 0, tsbp := 0, edb := 0, far := 0, near := 0, len := 0
  nearToFar := false }

def admitted : Admitted := { b := booking, period := 0, offset := 0, client := .stream 0, queue := 2, charge := 4 }

/-- Stream 0 with a lesson that started at 0, `pclk` clk after the bell. -/
def lesson (x : Slot) (pclk : Word32) (used : Nat) : State :=
  let s := school x
  { s with tt := { s.tt with pclk := pclk } }.modClient (.stream 0) fun y => { y with run := some { admitted.run 0 with counted := used } }

/-- A booking that may start; a lesson whose END waits; one at its budget point; one at its energy limit. -/
theorem witness_LessonsStartEndAndAreStopped :
    (let s := { school Slot.reset with tt := { (school Slot.reset).tt with admitted := [admitted] } }
      let x := s.client (.stream 0)
      s.slotOf 0 = some 0 ∧ s.tt.open_ = true ∧ s.tt.inRecess = false ∧ x.run = none ∧ x.rerun = none ∧ x.copy = none ∧ x.nextStart ≤ s.now
      ∧ s.nextBooking (.stream 0) = some admitted ∧ s.repair.ladder ≠ .ended ∧ x.lostCause = none
      ∧ (s.repair.withdrawn = true → admitted.b.touchesWithdrawn = false) ∧ (s.slot 0).status ≠ .monitor ∧ (s.slot 0).desk.power = .on
      ∧ (s.slot 0).sbuf = [] ∧ (s.slot 0).resetHold = none)
    ∧ (let s := lesson { running Regs.reset with waitAt := some .endLesson } 50 0
      let x := s.slot 0
      s.slotOf 0 = some 0 ∧ ((s.client (.stream 0)).run.isSome = true) ∧ x.waitAt = some .endLesson ∧ x.eng.queue = [] ∧ x.eng.stopped = false
      ∧ x.sbuf = [] ∧ x.delay = none ∧ x.storeErr = none ∧ x.wd.pending = false ∧ x.dbg.monen = false)
    ∧ (let s := lesson (running Regs.reset) 1000 0
      ∃ r, (s.client (.stream 0)).run = some r ∧ r.start + r.adm.b.budget + r.ext ≤ s.now ∧ r.farSlow = false)
    ∧ (let s := lesson (running Regs.reset) 500 6250000
      ∃ r, (s.client (.stream 0)).run = some r ∧ r.adm.b.energy ≠ 0
        ∧ r.adm.b.energy * 1000000 ≤ r.counted + (if r.adm.b.lesson then 1500 * Min.min (s.now - r.start) r.adm.b.budget else 0)) :=
  ⟨by decide +kernel, by decide +kernel, ⟨admitted.run 0, by decide +kernel, by decide +kernel, rfl⟩,
    ⟨{ admitted.run 0 with counted := 6250000 }, by decide +kernel, by decide, by decide +kernel⟩⟩

/-- A copy within the reserve and beyond it; a re-run that may run and one that may not; a record for a pair that runs and for one that does not. -/
theorem witness_StoppedLessonsAreCopiedReRunAndReported :
    (∀ d ∈ [0, 7401], let s := (school Slot.reset).modClient (.stream 0) fun y => { y with copy := some (0, 16), drawn := d }
      let x := s.client (.stream 0)
      x.copy = some (0, 16) ∧ (s.slot 0).sbuf = [] ∧ x.exhausted = false ∧ (x.drawn + 2600 ≤ s.tt.params.tFr ↔ d = 0))
    ∧ (∀ p ∈ [(100 : Nat), 1999000], let s := { school Slot.reset with tt := { (school Slot.reset).tt with pclk := BitVec.ofNat 32 p } }.modClient (.stream 0) fun y =>
        { y with rerun := some (admitted.run 10, 60) }
      let x := s.client (.stream 0)
      x.rerun = some (admitted.run 10, 60) ∧ x.copy = none ∧ s.slotOf 0 = some 0 ∧ (s.slot 0).sbuf = [] ∧ (admitted.run 10).adm.b.repeat_ = true ∧ x.lostCause = none
      ∧ x.exhausted = false ∧ x.drawn + (admitted.run 10).adm.b.budget + 400 ≤ s.tt.params.tFr ∧ (admitted.run 10).excused = false
      ∧ (s.now + (admitted.run 10).adm.b.budget + 2400 ≤ s.tt.params.period ↔ p = 100))
    ∧ ∀ b : Bool, ∃ (s : State) (r : Record), s.tt.due = [r] ∧ r.client = .stream 0 ∧ ((s.host.pairs[r.queue].state = .running) ↔ b = true) := by
  refine ⟨by decide +kernel, by decide +kernel, fun b => ?_⟩
  let s := school Slot.reset
  let r : Record := ⟨true, 1, 0, 0, 0, 0, 0, false, false, false, 0x77, 0, 0, .stream 0, 2, false, 0⟩
  let q := { s.host.pairs[(2 : QueueId)] with state := if b then PairState.running else .disabled }
  refine ⟨{ s with tt := { s.tt with due := [r] }, host := { s.host with pairs := s.host.pairs.set 2 q } }, r, rfl, rfl, ?_⟩
  cases b <;> decide +kernel

/-- An entry of the first queue: a lesson for period 2 of 1,000 clk with weight 23. -/
def entryBytes : List Byte := leBytes 8 (2 ^ 56 + 2) ++ leBytes 8 (1000 * 2 ^ 32 + 23 * 2 ^ 16)

/-- A malformed entry; a sound one while admission is held, before the timetable opens, and with the timetable open. -/
theorem witness_DecisionsAnswerTheirEntries : ∀ bs ∈ [[], entryBytes], ∀ held open_ : Bool,
    let s := school Slot.reset
    let s := { s with
      tt := { s.tt with
        view := { s.tt.view with
          held := held, params := ⟨1000, 1, 5⟩, sqMem := s.tt.view.sqMem.writeBytes 0 bs
          queues := s.tt.view.queues.set 0 { s.tt.view.queues[(0 : QueueId)] with running := true, tail := 1 } }
        open_ := open_ }
      host := { s.host with pairs := s.host.pairs.set 0 { s.host.pairs[(0 : QueueId)] with state := .running, sqTail := 1 } } }
    s.power.ready = true ∧ s.turnQueue = some 0 ∧ s.host.pairs[(0 : QueueId)].state = .running ∧ s.host.pairs[(0 : QueueId)].renewed = false
    ∧ s.tt.view.held = held ∧ s.tt.open_ = open_
    ∧ (readEntry s.tt.view.params.bookable ((List.range 128).map fun j => s.tt.view.sqMem.read (0x8000 * 0 + 128 * 0 + j))).bad = decide (bs = []) := by
  decide +kernel

/-- Each source state, an edge in the window and an edge before it, and recess work that is over. -/
theorem witness_BellsOpenPeriods :
    (let s := { board Slot.reset with tt := { (board Slot.reset).tt with timer := 0, source := false } };
      s.power.phase = .run ∧ s.power.ready = true ∧ s.tt.timer = 0 ∧ s.tt.source = false ∧ s.tt.open_ = false)
    ∧ (∀ p ∈ [(1999000 : Nat), 500], let s := { school Slot.reset with tt := { (school Slot.reset).tt with source := false, src := .locked, pclk := BitVec.ofNat 32 p } }
      s.power.phase = .run ∧ s.power.ready = true ∧ s.tt.source = false ∧ s.tt.open_ = true ∧ s.tt.src = .locked
      ∧ (s.tt.params.period - 1000 ≤ s.now ↔ p = 1999000) ∧ s.now ≤ s.tt.params.period + 1000)
    ∧ (∀ w ∈ [BellSrc.searching, .holdover], let s := { school Slot.reset with tt := { (school Slot.reset).tt with source := false, src := w } }
      s.tt.open_ = true ∧ s.tt.src ≠ .locked)
    ∧ (let s := { school Slot.reset with tt := { (school Slot.reset).tt with inRecess := true, pclk := 2000 } }
      s.tt.inRecess = true ∧ s.tt.params.tRec ≤ s.now ∧ s.sm.txns = []) := by
  refine ⟨⟨rfl, rfl, rfl, rfl, rfl⟩, by decide +kernel, by decide, by decide +kernel⟩

/-! ### Queue pairs and the host's windows -/

/-- A module whose pair 3 is `x`. -/
def paired (x : QueuePair) : State := { school Slot.reset with host := { (school Slot.reset).host with pairs := (school Slot.reset).host.pairs.set 3 x } }

/-- A pair that is disabled; one that runs, with two entries that wait and the tail at the end of the ring; a module whose BARs are not decoded. -/
theorem witness_QueuePairsRunTheirRings :
    ((paired QueuePair.reset).host.pairs[(3 : QueueId)].state = .disabled ∧ (7 : BitVec 12) ≠ 0 ∧ (paired QueuePair.reset).barOn = true)
    ∧ (let s := paired { QueuePair.reset with state := .running, cqsz := 7, cqTail := 7, cqHead := 3, wait := [(2, [5]), (1, [6])] }
      let x := s.host.pairs[(3 : QueueId)]
      s.barOn = true ∧ s.power.ready = true ∧ x.state = .running ∧ x.state ≠ .disabled ∧ x.wait = (2, [5]) :: [(1, [6])] ∧ x.used ≠ x.cqsz.toNat ∧ x.cqTail = x.cqsz)
    ∧ State.reset.barOn = false
    ∧ (State.reset.power.ready = false ∨ State.reset.host.pairs[(3 : QueueId)].state ≠ .running) := by
  refine ⟨⟨rfl, by decide, rfl⟩, by decide +kernel, rfl, .inl rfl⟩

/-- A vector that is asked for, masked by the function, by itself and by neither; and a mailbox with room and without. -/
theorem witness_HostWindowsTakeTheirWrites :
    (∀ f m : Bool, let s := school Slot.reset
      let s := { s with host := { s.host with asked := 5, pba := 2, fnMask := f, msix := s.host.msix.set 0 { s.host.msix[(0 : Fin 2048)] with masked := m } } }
      s.host.asked.getLsbD 0 = true ∧ s.host.linkUp = true ∧ s.host.fnMask = f ∧ s.host.msix[(0 : Fin 2048)].masked = m)
    ∧ (school Slot.reset).barOn = true ∧ State.reset.barOn = false ∧ (school Slot.reset).memWf = true ∧ (0 < [(1 : Byte)].length ∧ 0x7FFFF + [(1 : Byte)].length ≤ 0x80000)
    ∧ (∃ data : List Byte, data.length = 64) ∧ (school Slot.reset).mgmt.mailbox.queue.length < 16
    ∧ (let s := school Slot.reset
      let s := { s with mgmt := { s.mgmt with mailbox := { s.mgmt.mailbox with queue := List.replicate 16 ⟨[], 0, none⟩ } } }
      16 ≤ s.mgmt.mailbox.queue.length) := by
  refine ⟨?_, rfl, rfl, by decide +kernel, by decide, ⟨List.replicate 64 0, rfl⟩, by decide +kernel, by decide +kernel⟩
  intro f m
  cases f <;> cases m <;> decide +kernel

/-! ### Memory, desks and failures -/

/-- A block with a corrected error, one with an uncorrectable error, and a row of a bank spare; a lesson whose extension the reserve holds and one whose does not; a field
trip of a sound block and of a bad one; a port that works; a unit of a pass that is under test, in time and too long, and one that is barred. -/
theorem witness_MemoryWorkAndFailuresAreNoted :
    (∀ bad ∈ [[], [9]], let s := board Slot.reset
      let s := { s with mem := { s.mem with soft := [9], bad := bad } }
      s.power.phase = .run ∧ 9 < 983040 * s.portCount * 127 ∧ s.blockBad 9 = decide (bad = [9]) ∧ s.mem.soft.Nodup)
    ∧ (∀ d ∈ [8900, 8901], let s := (lesson Slot.reset 100 0).modClient (.stream 0) fun y => { y with drawn := d }
      let x := s.client (.stream 0)
      s.power.phase = .run ∧ x.run.isSome = true ∧ x.exhausted = false ∧ (x.drawn + 1100 ≤ s.tt.params.tFr ↔ d = 8900))
    ∧ (let s := board Slot.reset
      let s := { s with mgmt := { s.mgmt with rwp := { s.mgmt.rwp with slices := true } }, tt := { s.tt with open_ := true, inRecess := true } }
      s.mgmt.rwp.slices = true ∧ s.sec.life ≠ .void ∧ s.tt.open_ = true ∧ s.tt.inRecess = true ∧ s.sm.txns = [] ∧ s.bist.unit = none
      ∧ SliceUnit.iot ∉ s.bist.barred)
    ∧ (∀ c ∈ [80000, 80001], let s := board Slot.reset
      let s := { s with clk := c, bist := { s.bist with unit := some .iot, since := 0, barred := [.path 0] } }
      s.bist.unit = some .iot ∧ (s.bist.since + 80000 < s.clk ↔ c = 80001) ∧ s.bist.unit ≠ some (.path 0) ∧ SliceUnit.path 0 ∈ s.bist.barred)
    ∧ (let s := board Slot.reset
      let s := { s with mem := { s.mem with failed := [(9, 1)] }, ports := s.ports.set (s.homeOf 7).1 { s.ports[(s.homeOf 7).1] with dead := true } }
      (∃ f ∈ s.mem.failed, f.1 = 9) ∧ s.blockLost 7 = true ∧ ∀ f ∈ s.mem.failed, f.1 ≠ 7)
    ∧ (let s := board Slot.reset
      let s := { s with
        repair := { s.repair with portMap := s.repair.portMap ++ [0] }
        ports := s.ports.set 0 { s.ports[(0 : PortId)] with spareBank := 127 } }
      0 ∈ s.repair.portMap ∧ s.ports[(0 : PortId)].spareBank ≠ 0xFF)
    ∧ (∀ bad : Bool, let s := board Slot.reset
      let x : FieldTrip := ⟨1, 0, some 0, none, 4, 0, 0, 0, some 0, false, ⟨0, 0, 0, 0, 0, 0, 0⟩⟩
      let s := { s with tt := { s.tt with inRecess := true }, repair := { s.repair with trips := [x] } }
      let s := { s with mem := { s.mem with bad := if bad then [s.tripBlock x] else [] } }
      s.repair.trips = x :: [] ∧ s.tt.inRecess = true ∧ x.began ≠ none ∧ x.moved < x.total ∧ s.tripBlock x < spareBase
      ∧ s.blockBad (s.tripBlock x) = bad)
    ∧ (let s := board Slot.reset
      let s := { s with ports := s.ports.set 0 { s.ports[(0 : PortId)] with train := .trained } }
      s.ports[(0 : PortId)].dead = false ∧ s.ports[(0 : PortId)].train = .trained) := by
  refine ⟨by decide +kernel, by decide +kernel, by decide +kernel, by decide +kernel, ⟨⟨_, List.mem_singleton.2 rfl, rfl⟩, by decide +kernel, ?_⟩,
    by decide +kernel, ?_, by decide +kernel⟩
  · intro f h; rw [List.mem_singleton.1 h]; decide
  intro bad
  cases bad <;> decide +kernel

/-- A block whose corrected bytes wait for their write-back; a unit with 79,999 clk spent in this recess, and one that is under test; the step of a
rebuild that puts a staged block in its place, and a copy of a lost port. -/
theorem witness_MemoryWorkAndFailuresAreNoted_more :
    (let s := board Slot.reset
      let s := { s with mem := { s.mem with writeBacks := [(9, List.replicate 64 1)] } };
      s.memWf = true ∧ s.mem.writeBacks.find? (fun w => w.1 == 9) = some (9, List.replicate 64 1) ∧ s.ports[(s.homeOf 9).1].gone = false ∧ s.mem.soft.Nodup
      ∧ ∀ w ∈ s.mem.writeBacks, w.1 ≠ 8)
    ∧ (∀ n : Option SliceUnit, n = none ∨ n = some .iot → let s := board Slot.reset
      let s := { s with
        mgmt := { s.mgmt with rwp := { s.mgmt.rwp with slices := true } }, tt := { s.tt with open_ := true, inRecess := true }
        bist := { s.bist with unit := n, spent := [(.iot, 79999)] } };
      s.mgmt.rwp.slices = true ∧ s.sec.life ≠ .void ∧ s.tt.open_ = true ∧ s.tt.inRecess = true ∧ s.bist.unit = n ∧ SliceUnit.iot ∉ s.bist.barred
      ∧ s.clk ≤ s.bist.since + 80000 ∧ ∀ e ∈ s.bist.spent, e.1 = .iot → e.2 < 80000)
    ∧ (let s := board Slot.reset
      let x : FieldTrip := ⟨3, 0, none, none, 2 * rebuildBlocks, rebuildBlocks, 0, 0, some 0, false, ⟨0, 0, 0, 0, 0, 0, 0⟩⟩
      let s := { s with tt := { s.tt with inRecess := true }, repair := { s.repair with trips := [x] } };
      s.repair.trips = x :: [] ∧ x.kind = 3 ∧ rebuildBlocks ≤ x.moved ∧ x.moved < x.total ∧ s.tripBlock x < spareBase ∧ s.memWf = true)
    ∧ (let s := board Slot.reset
      let x : FieldTrip := ⟨2, 31, none, none, 4, 0, 0, 0, some 0, true, ⟨0, 0, 0, 0, 0, 0, 0⟩⟩
      let s := { s with tt := { s.tt with inRecess := true }, repair := { s.repair with trips := [x] } };
      x.began ≠ none ∧ x.moved < x.total ∧ s.tripBlock x < spareBase ∧ ¬(x.kind = 3 ∨ x.srcPort ∈ s.repair.portMap)) := by
  refine ⟨by decide +kernel, fun n hn => ?_, by decide +kernel, by decide +kernel⟩
  obtain rfl | rfl := hn <;> decide +kernel

/-- Data that agree and data that differ, in each power state of the desk; a desk in retention before a period that books it, and before one that
does not. -/
theorem witness_DeskPortsPreemptCollideAndWake : ∀ p ∈ [DeskPower.on, .retention, .waking, .entering],
    let s := board { Slot.reset with desk := { Desk.reset with power := p } }
    let mine : List (Option Byte) := some 1 :: List.replicate 63 none
    (s.slot 0).desk.power = p ∧ (s.slot 0).desk.dma = [] ∧ s.sm.txns = [] ∧ s.bist.unit = none ∧ s.memWf = true ∧ (⟨0x40, some mine⟩ : DmaLine).ok = true
    ∧ (EngineAccess.write mine).ok = true ∧ (EngineAccess.write (some 2 :: List.replicate 63 none)).ok = true
    ∧ (∃ j a b, j < 64 ∧ mine.getD j none = some a ∧ (some (2 : Byte) :: List.replicate 63 none).getD j none = some b ∧ a ≠ b) := by
  intro p h
  refine ⟨rfl, rfl, rfl, rfl, ?_, ?_, ?_, ?_, 0, 1, 2, by decide, rfl, rfl, by decide⟩
  · fin_cases h <;> decide +kernel
  all_goals decide +kernel

theorem witness_DeskPortsPreemptCollideAndWake_wakes : ∀ b : Bool,
    let x := { Slot.reset with desk := { Desk.reset with power := .retention } }
    let s := { school x with tt := { (school x).tt with pclk := 1997000, admitted := if b then [{ admitted with period := 1 }] else [] } }
    let u := s.elapse 5
    (u.slot 0).desk.power = .retention ∧ u.sm.txns = [] ∧ u.tt.open_ = true ∧ u.tt.params.period ≤ u.now + 4000 ∧ u.streamOf 0 = some 0
    ∧ u.deskBooked 0 (u.tt.bellNum.toNat + 1) = b ∧ (u.slot 0).desk.dma = [] := by
  intro b
  cases b <;> decide +kernel

/-- A booked excursion of engine 0. -/
def trip : Admitted := { admitted with b := { booking with lesson := false, len := 2, near := 0, far := 0 }, client := .engine 0 }

/-- An excursion that may start; one whose blocks are done; one that waits for its first block; the link in each state. -/
theorem witness_ExcursionsMoveTheirBlocks :
    (school Slot.reset).memWf = true
    ∧ (let s := { school Slot.reset with tt := { (school Slot.reset).tt with admitted := [trip] } }
      let x := s.client (.engine 0)
      s.tt.open_ = true ∧ s.tt.inRecess = false ∧ x.run = none ∧ x.nextStart ≤ s.now ∧ s.nextBooking (.engine 0) = some trip ∧ s.repair.ladder ≠ .ended)
    ∧ (let r : Run := { trip.run 0 with blocks := 2 }
      let s := (school Slot.reset).modClient (.engine 0) fun y => { y with run := some r }
      (s.client (.engine 0)).run = some r ∧ s.linesOut 0 = false ∧ (r.linkDown = true ∨ r.blocks = r.adm.b.len) ∧ r.excused = false)
    ∧ (let r : Run := trip.run 0
      let s := (school Slot.reset).modClient (.engine 0) fun y => { y with run := some r }
      (s.client (.engine 0)).run = some r ∧ r.linkDown = false ∧ r.poison = false ∧ r.adm.b.nearToFar = false ∧ s.blocksOut 0 = 0
      ∧ r.blocks < r.adm.b.len ∧ r.adm.b.near + 64 * r.blocks + 64 ≤ deskBase ∧ ∃ f : FarResponse, f.data.length = 64)
    ∧ (∀ l ∈ [(1 : Byte), 2], let s := { school Slot.reset with xp := { (school Slot.reset).xp with link := l } }
      s.xp.link = l)
    ∧ ∃ d : FarDevice, d.present = true ∧ d.supported = true ∧ d.lanes ∈ [4, 8, 16] ∧ d.rate ∈ [32, 64] := by
  refine ⟨by decide +kernel, by decide +kernel, by decide +kernel, ⟨by decide +kernel, rfl, rfl, rfl, by decide +kernel, by decide, by decide, ?_⟩,
    fun _ _ => rfl, ?_⟩
  · exact ⟨⟨0, false, List.replicate 64 0⟩, rfl⟩
  · exact ⟨⟨true, true, 2 ^ 30, 100, 16, 64⟩, by decide⟩

/-! ### The service matrix and the registers -/

/-- A halt request and its cancel with the monitor off, and a halt request with the monitor on; a read in the clk of a bell, and a later one. -/
theorem witness_RegistersKeepTheirAccessCodes : ∀ m : Bool,
    let s := school { running Regs.reset with dbg := { Debug.reset with monen := m } }
    s.power.phase = .run ∧ s.barOn = true ∧ s.power.ready = true ∧ (s.slot 0).dbg.monen = m ∧ s.levelOk .dam (.reg (.dbgctl 0) 0) true 0 = true ∧ s.streamOf 0 = some 0 ∧ s.level 0 = 2
    ∧ (s.slot 0).status = .running ∧ s.sm.txns = []
    ∧ ∃ b : BellBefore, ∀ c, let u := { s with clk := c, tt := { s.tt with before := some b } }
      u.tt.before = some b ∧ (b.clk = u.clk ↔ c = 5) := by
  intro m
  refine ⟨rfl, rfl, rfl, rfl, ?_, ?_, ?_, rfl, rfl, ⟨5, 0, 0, Vector.replicate 68 0, Vector.replicate 68 0, Vector.replicate 32 0⟩, fun c => ⟨rfl, eq_comm⟩⟩ <;>
  cases m <;> decide +kernel

/-- The last bytes of a desk, by a module that is PROVISIONED and by one that is DEPLOYED without a pass; a packet that waits at the port, and none. -/
theorem witness_MatrixAccessesReachTheirTargets :
    (∀ l ∈ [Life.provisioned, .deployed], let s := school (running Regs.reset)
      let s := { s with sec := { s.sec with life := l } }
      s.power.phase = .run ∧ s.sm.txns = [] ∧ s.memWf = true ∧ s.slotOf 0 = some 0 ∧ (s.slot 0).desk.power = .on ∧ s.bist.unit = none
      ∧ (0x3FFFFB % 256 + 5 ≤ 256 ∧ 0x3FFFFB + 5 ≤ 0x400000)
      ∧ [(1 : Byte), 2, 3, 4, 5].length = 5 ∧ (s.slot 0).desk.bad = [] ∧ (s.slot 0).desk.soft = [] ∧ (s.slot 0).desk.dma = [] ∧ s.barOn = true
      ∧ s.power.ready = true ∧ (s.level 0 = 2 ↔ l = .provisioned) ∧ (s.level 0 < 2 ↔ l = .deployed))
    ∧ (State.reset.dbg.portStarted = false ∨ State.reset.dbg.portq = [])
    ∧ ∃ (s : State) (p : Packet), s.dbg.portStarted = true ∧ s.dbg.portq = [p] := by
  refine ⟨by decide +kernel, .inr rfl, ?_⟩
  exact ⟨{ State.reset with dbg := { State.reset.dbg with portStarted := true, portq := [⟨0, 0, 0, 0, 0, 0, 0⟩] } }, _, rfl, rfl⟩

/-- A slot with a lesson, which a debug reset and a host's reset may reach. -/
theorem witness_StreamResetsReportTheirLessons :
    let s := lesson (running Regs.reset) 50 0
    s.power.phase = .run ∧ s.slotOf 0 = some ⟨17 * 0 + 0, by decide⟩ ∧ s.streamOf ⟨17 * 0 + 0, by decide⟩ = some 0 ∧ (s.slot 0).eng.queue = []
    ∧ (s.slot 0).sbuf = [] ∧ s.level 0 = 2 ∧ s.sm.txns = [] ∧ (s.slot 0).desk.dma = []
    ∧ (s.client (.stream 0)).run = some (admitted.run 0) := by
  decide +kernel

/-- A core with a queued vector instruction and a store that crosses a block; and two accesses of the debug access master to a test port, of which the
first is granted. -/
theorem witness_StreamResetsReportTheirLessons_more :
    (∀ n ∈ [8, 60], let e : StoreEntry := ⟨n, [1, 2, 3, 4, 5, 6, 7, 8], false⟩
      let s := lesson { running Regs.reset with eng := stoppedEng, sbuf := [e] } 50 0
      s.memWf = true ∧ s.slotOf 0 = some 0 ∧ s.streamOf 0 = some 0 ∧ (s.slot 0).eng.queue ≠ [] ∧ (s.slot 0).sbuf = [e]
      ∧ (e.bytes.length ≤ 64 - e.addr % 64 ↔ n = 8))
    ∧ (let y (g : Bool) (id : BitVec 6) : Txn := 
        ⟨.dam, id, deskArray, 8, 8, [⟨.dam, id, deskArray, 8, none, true, deskArray, 8⟩], g, 3, false, [], false, .ok, [], false, false⟩
      let s := lesson (running Regs.reset) 50 0
      let s := { s with sm := { s.sm with txns := [y true 0, y false 1] } };
      let mine := s.sm.txns.filter fun y => y.master == .dam
      s.level 0 = 2 ∧ mine = [y true 0, y false 1] ∧ ∀ y ∈ mine, ∃ n, s.txnTarget y = .tp n) := by
  refine ⟨fun n hn => ?_, by decide +kernel, by decide +kernel, fun y hy => ⟨0, ?_⟩⟩
  · fin_cases hn <;> decide +kernel
  · obtain hy | hy : y = _ ∨ y = _ := by simpa [lesson, school, board] using hy
    all_goals subst hy; decide +kernel

/-! ### Management -/

/-- The module, held, with one request on the CAN transport, and an open read and write of a segmented transfer there. -/
def asked (cmd sub : Byte) (index : Word16) (v : List Byte) (idle : Nat) : State :=
  { school Slot.reset with mgmt := { (school Slot.reset).mgmt with pub := [((0x2002, 1), [2])], can := {
    queue := [⟨requestFrame cmd 9 sub index v, 3, none⟩]
    rd := some ⟨(0x2000, 1), List.replicate 100 7, idle⟩
    wr := some ⟨(0x9101, 1), 160, List.replicate 56 7, 1, idle⟩ } } }

/-- Two writes that wait, the mailbox's received first. -/
theorem witness_RequestsAreAnswered_order : ∃ s : State, s.power.phase ≠ .off
    ∧ (s.trans .can).queue = [⟨requestFrame 2 9 1 0x2000 (leBytes 4 2000), 4, none⟩]
    ∧ (s.trans .mailbox).queue = [⟨requestFrame 2 7 2 0x2000 (leBytes 2 20), 3, none⟩] ∧ s.mgmt.turn = .can
    ∧ ((findObj (0x2000, 1)).any fun o => decide (o.acc = .rwp) && s.writeStatus o (leBytes 4 2000) false false == 0) = true
    ∧ ((findObj (0x2000, 2)).any fun o => decide (o.acc = .rwp) && s.writeStatus o (leBytes 2 20) false false == 0) = true := by
  refine ⟨{ school Slot.reset with mgmt := { (school Slot.reset).mgmt with
    turn := .can
    pub := [((0x2002, 1), [2])]
    can := { TransportState.reset with queue := [⟨requestFrame 2 9 1 0x2000 (leBytes 4 2000), 4, none⟩] }
    mailbox := { TransportState.reset with queue := [⟨requestFrame 2 7 2 0x2000 (leBytes 2 20), 3, none⟩] } } }, ?_, rfl, rfl, rfl, ?_, ?_⟩ <;>
  decide +kernel

/-- READ of an object and of none; WRITE of a bell period; SREAD-INIT and SWRITE-INIT; the last segment of a read; a segment of a write that is
expected, one that is repeated, one that is ahead and one of the wrong length; transfers that are idle for 2,000 frames and for less. -/
theorem witness_RequestsAreAnswered :
    findObj (0x2000, 77) = none
    ∧ ((findObj (0x2000, 1)).any fun o => decide (o.acc = .rwp) && decide (((asked 1 1 0x2000 [] 0).published o).length ≤ 56)
      && (asked 2 1 0x2000 (leBytes 4 2000) 0).writeStatus o (leBytes 4 2000) false false == 0) = true
    ∧ ((findObj (0x9101, 1)).any fun o => decide (o.acc = .rwp) && !o.lengthBad 24) = true
    ∧ (let s := asked 1 1 0x2000 [] 0;
      s.power.phase ≠ .off ∧ (s.trans .can).queue = ⟨requestFrame 1 9 1 0x2000 [], 3, none⟩ :: []
      ∧ (s.trans .mailbox).queue = [] ∧ s.unavailable 0x2000 = false
      ∧ s.unavailable 0x9101 = false)
    ∧ (∀ idle ∈ [1999, 2000], let s := asked 4 0 1 [] idle
      (s.trans .can).rd = some ⟨(0x2000, 1), List.replicate 100 7, idle⟩ ∧ (s.trans .can).wr = some ⟨(0x9101, 1), 160, List.replicate 56 7, 1, idle⟩
      ∧ 56 * 1 < (List.replicate 100 (7 : Byte)).length ∧ 1 < (160 - 1) / 56 ∧ (0 ≠ 1 ∧ 0 < (160 - 1) / 56) ∧ (2 ≠ 1 ∧ 160 - 56 * ((160 - 1) / 56) = 48))
    ∧ ((asked 4 0 1 [] 0).trans .mailbox).rd = none
    ∧ (let s := asked 1 1 0x2000 [] 0
      let s := { s with mgmt := { s.mgmt with turn := .can } }
      (s.trans (otherTransport .mailbox)).queue ≠ [] ∧ s.mgmt.turn ≠ .mailbox) := by
  refine ⟨by decide +kernel, by decide +kernel, by decide +kernel, by decide +kernel, fun _ _ => ⟨rfl, rfl, by decide, by decide, by decide, by decide⟩, rfl,
    by decide +kernel⟩

/-- A queue with room and one without; a frame to send with the error counter below and at its last value; a bus that is off. -/
theorem witness_CanFramesAreCountedAndSent :
    (∀ n ∈ [15, 16], let s := school Slot.reset
      let s := { s with mgmt := { s.mgmt with canState := .errorActive, can := { s.mgmt.can with queue := List.replicate n ⟨[], 0, none⟩ } } }
      s.power.phase ≠ .off ∧ s.mgmt.canState = .errorActive ∧ (s.mgmt.can.queue.length < 16 ↔ n = 15))
    ∧ (∃ (id : BitVec 11) (data : List Byte), data.length = 64 ∧ id.toNat = 0x400 + (school Slot.reset).mgmt.node.toNat)
    ∧ (∀ n ∈ [247, 248], let s := school Slot.reset
      let s := { s with mgmt := { s.mgmt with txq := [(0x440, List.replicate 64 0)], txErrors := n, canState := .errorPassive } }
      s.mgmt.canState = .errorPassive ∧ s.mgmt.txq = (0x440, List.replicate 64 0) :: [])
    ∧ ∃ u : State, u.mgmt.canState = .busOff := by
  refine ⟨by decide +kernel, ⟨0x400, List.replicate 64 0, rfl, by decide +kernel⟩, by decide +kernel, ?_⟩
  exact ⟨{ State.reset with mgmt := { State.reset.mgmt with canState := .busOff } }, rfl⟩

/-- A boundary with one accepted bell period; a record to persist; a compaction in each of its phases; an image. -/
theorem witness_BoundariesApplyAndJournal :
    (let s := school Slot.reset
      let s := { s with mgmt := { s.mgmt with accepted := [⟨0, (0x2000, 1), leBytes 4 (2000 : Word32).toNat, some 1⟩], toPersist := [⟨(0x2000, 1), [], 1⟩] } }
      s.controllerOn = true ∧ s.power.phase = .run ∧ s.mgmt.accepted = [⟨0, (0x2000, 1), leBytes 4 (2000 : Word32).toNat, some 1⟩]
      ∧ s.mgmt.can.queue = [] ∧ s.mgmt.mailbox.queue = [] ∧ s.mgmt.toPersist = ⟨(0x2000, 1), [], 1⟩ :: [] ∧ s.sec.life ≠ .void)
    ∧ (∀ b : Bool, ∃ s : State, s.controllerOn = true ∧ s.mgmt.compacting = b) ∧ (∃ a b : Bool, (a && b) = false)
    ∧ ∃ image : List Byte, 16 ≤ image.length ∧ image.length ≤ 264 ∧ image.length % 8 = 0 ∧ image.length = 264 := by
  refine ⟨by decide +kernel, fun b => ?_, ⟨true, false, rfl⟩, ⟨List.replicate 264 0, by decide +kernel⟩⟩
  exact ⟨{ school Slot.reset with mgmt := { (school Slot.reset).mgmt with compacting := b } }, rfl, rfl⟩

/-- An image of a coverage run: one unit, the format 1, a pattern count and a time. -/
def bistImage : List Byte := leBytes 8 (2 ^ 56 + 1) ++ leBytes 8 1 ++ leBytes 8 1 ++ List.replicate 64 0

/-- A module that runs, with admission held, a field record and a coverage program; one in standby; a spare slot that is not retired and one that
is; a coverage run that runs. -/
theorem witness_CommandsTakeTheirEffect :
    (let s := school Slot.reset;
      let r : RepairRec := ⟨1, 1, 0, 0, 0xFF, 0, 0⟩;
      let s := { s with sec := { s.sec with life := .returned }, tt := { s.tt with held := true }, repair := { s.repair with field := [r] }
                        mgmt := { s.mgmt with rwp := { s.mgmt.rwp with bistProgram := bistImage } } };
      s.power.phase = .run ∧ s.sec.life.open_ = true ∧ s.bist.running = false ∧ s.repair.field[0]? = some r ∧ s.holdState = 2
      ∧ bistImageOk s.mgmt.rwp.bistProgram = true)
    ∧ (∀ b : Bool, let s := school { Slot.reset with retired := b };
      s.power.phase = .run ∧ retireTarget 0x02000000 = some (.slot 0) ∧ s.unitRetired (.slot 0) = b)
    ∧ (∀ n ∈ [none, some 20000], let s := { board Slot.reset with power := { (board Slot.reset).power with phase := .standby, sinceTrip := n } };
      s.power.phase = .standby ∧ s.power.main48 = true ∧ s.sec.life ≠ .void ∧ s.power.sinceTrip = n)
    ∧ (let s := { board Slot.reset with bist := { (board Slot.reset).bist with running := true } };
      s.power.phase = .run ∧ s.bist.running = true ∧ 0 < programPlanned bistImage) := by
  refine ⟨by decide +kernel, fun b => ?_, by decide +kernel, by decide +kernel⟩
  cases b <;> decide +kernel

/-! ### Security, supplies and the TAP -/

/-- An index that is left, one that is used up, and one that must be reserved first; a module in each life-cycle state; a pass that waits. -/
theorem witness_SecurityRowsKeepTheirRules :
    (∀ n ∈ [0, 5, 1048576], let s := school Slot.reset
      let s := { s with sec := { s.sec with index := n }, flash := { s.flash with rtA := 5, rtB := 8 } }
      s.controllerOn = true ∧ s.fuses.identity = true ∧ s.sec.index = n ∧ (1048576 ≤ s.sec.index ↔ n = 1048576) ∧ (s.sec.index < Min.min s.flash.rtA s.flash.rtB ↔ n = 0))
    ∧ (∃ s : State, s.controllerOn = true ∧ s.fuses.identity = false) ∧ (∃ nonce : List Byte, nonce.length = 32) ∧ (∃ v : List Byte, v.head? ≠ some 1 ∧ v.head? ≠ some 2)
    ∧ (∀ l ∈ [Life.provisioned, .deployed, .void], let s := school Slot.reset
      let s := { s with sec := { s.sec with life := l, pass := some [1] }, fuses := { s.fuses with life := l } }
      s.controllerOn = true ∧ s.sec.life = l ∧ s.fuses.life = l ∧ s.sec.pass = some [1]) := by
  exact ⟨by decide +kernel, ⟨{ school Slot.reset with fuses := { Fuses.shipped with identity := false } }, rfl, rfl⟩, ⟨List.replicate 32 0, rfl⟩, ⟨[3], by decide⟩, by decide +kernel⟩

/-- A hall pass for this module: its level, its signer, its release and its expiry. -/
def passBytes (level signer : Byte) (release expiry : Nat) (ident : List Byte) : List Byte :=
  [1, level, signer, 0] ++ leBytes 4 release ++ leBytes 8 expiry ++ leBytes 8 1 ++ ident ++ List.replicate 8 0 ++ List.replicate 2820 0

def mine : List Byte := digest (Config.shake256 Config.identityKey)

/-- Pass bytes whose fields are sound for a module with no release yet. -/
def soundPass (v : List Byte) (signer expiry : Nat) : Bool :=
  let field (a n : Nat) : Nat := leNat ((v.drop a).take n)
  decide (v.length = 2884) && decide (field 0 1 = 1) && decide (field 1 1 = 1) && decide (field 2 1 = signer) && decide (field 3 1 = 0)
    && decide (field 14 2 = 0) && decide (field 56 8 = 0) && decide (field 4 4 = 0) && decide (field 8 8 = expiry) && decide (signer ≤ 1)

/-- The codes from 4 on, for such a pass. -/
theorem pass_codes (s : State) (v : List Byte) (signer expiry : Nat) (code : Byte) (hs : s.flash.releases = 0) (h : soundPass v signer expiry = true)
    (hc : if (v.drop 24).take 32 ≠ mine then code = 4
      else if expiry ≤ s.tt.bellNum.toNat then code = 5
      else if s.sec.life = .void then code = 6
      else if signer = 1 ∧ s.mgmt.rwp.ownerKey = [] then code = 7
      else if Config.xmssVerify (if signer = 0 then Config.brirelKey else s.mgmt.rwp.ownerKey) (v.take 64) (v.drop 64) = false then code = 8
      else code = 1) : s.passVerdict v code := by
  simp only [soundPass, Bool.and_eq_true, decide_eq_true_eq] at h
  obtain ⟨⟨⟨⟨⟨⟨⟨⟨⟨h0, h1⟩, h2⟩, h3⟩, h4⟩, h5⟩, h6⟩, h7⟩, h8⟩, h9⟩ := h
  unfold State.passVerdict
  simp only [h0, h1, h2, h3, h4, h5, h6, h7, h8, h9, hs]
  exact hc

theorem other_at (g : Byte) (e : Nat) : ((passBytes 1 g 0 e (mine.map (· + 1))).drop 24).take 32 ≠ mine := by
  intro h
  have h1 : ∀ b ∈ (((passBytes 1 g 0 e (mine.map (· + 1))).drop 24).take 32).head?, ∀ c ∈ mine.head?, b = c + 1 := by
    rintro b ⟨⟩ c ⟨⟩
    rfl
  rw [h] at h1
  have h2 := h1 _ rfl _ rfl
  revert h2
  generalize BitVec.ofNat 8 _ = b
  revert b; decide

/-- A pass that is sound for signer `g` and expiry `e`, with or without this module's identity digest. -/
theorem has_pass (own : Bool) : ∀ p ∈ [(0, 0), (0, 9), (1, 9)], ∃ v : List Byte, soundPass v p.1 p.2 = true ∧ ((v.drop 24).take 32 = mine ↔ own = true) := by
  intro p hp
  cases own
  · refine ⟨passBytes 1 (BitVec.ofNat 8 p.1) 0 p.2 (mine.map (· + 1)), by fin_cases hp <;> decide +kernel, fun h => ?_, fun h => by cases h⟩
    exact absurd h (by fin_cases hp <;> exact other_at _ _)
  · exact ⟨passBytes 1 (BitVec.ofNat 8 p.1) 0 p.2 mine, by fin_cases hp <;> decide +kernel, fun _ => rfl, fun _ => rfl⟩

/-- A pass for each result code, the last two by what the signature check answers. -/
theorem witness_SecurityRowsKeepTheirRules_passes : let s := school Slot.reset
    s.passVerdict [] 2 ∧ (∃ v, s.passVerdict v 3) ∧ (∃ v, s.passVerdict v 4) ∧ (∃ v, s.passVerdict v 5)
    ∧ (∃ v, ({ s with sec := { s.sec with life := .void } }).passVerdict v 6) ∧ (∃ v, s.passVerdict v 7)
    ∧ ∃ v, s.passVerdict v 8 ∨ s.passVerdict v 1 := by
  have none_yet : (school Slot.reset).flash.releases = 0 := by decide
  have late : ¬9 ≤ (school Slot.reset).tt.bellNum.toNat := by decide
  have early : 0 ≤ (school Slot.reset).tt.bellNum.toNat := by decide
  have rest : (school Slot.reset).sec.life ≠ .void ∧ (school Slot.reset).mgmt.rwp.ownerKey = [] := by decide
  obtain ⟨other, h4, n4⟩ := has_pass false (0, 9) (by simp)
  obtain ⟨due, h5, n5⟩ := has_pass true (0, 0) (by simp)
  obtain ⟨brirel, h6, n6⟩ := has_pass true (0, 9) (by simp)
  obtain ⟨owner, h7, n7⟩ := has_pass true (1, 9) (by simp)
  refine ⟨?_, ⟨passBytes 1 0 1 9 mine, ?_⟩, ⟨other, ?_⟩, ⟨due, ?_⟩, ⟨brirel, ?_⟩, ⟨owner, ?_⟩, brirel, ?_⟩
  · unfold State.passVerdict; rw [if_pos (by decide)]
  · unfold State.passVerdict; rw [if_neg (not_not.2 (by decide +kernel)), if_pos (by decide +kernel)]
  · exact pass_codes _ _ _ _ _ none_yet h4 (by rw [if_pos (by simp [n4])])
  · exact pass_codes _ _ _ _ _ none_yet h5 (by rw [if_neg (by simp [n5]), if_pos early])
  · exact pass_codes _ _ _ _ _ none_yet h6 (by rw [if_neg (by simp [n6]), if_neg late, if_pos rfl])
  · exact pass_codes _ _ _ _ _ none_yet h7 (by rw [if_neg (by simp [n7]), if_neg late, if_neg rest.1, if_pos ⟨rfl, rest.2⟩])
  · by_cases hx : Config.xmssVerify (if (0 : Nat) = 0 then Config.brirelKey else (school Slot.reset).mgmt.rwp.ownerKey) (brirel.take 64) (brirel.drop 64) = false
    · exact .inl (pass_codes _ _ _ _ _ none_yet h6 (by rw [if_neg (by simp [n6]), if_neg late, if_neg rest.1, if_neg (by simp), if_pos hx]))
    · exact .inr (pass_codes _ _ _ _ _ none_yet h6 (by rw [if_neg (by simp [n6]), if_neg late, if_neg rest.1, if_neg (by simp), if_neg hx]))
/-- An upload of each type that has the layout of a signed image: it verifies, or fails by its security version or its signature; and one that fails by
its type, and one by its layout. -/
theorem witness_SecurityRowsKeepTheirRules_uploads : ∀ ty ∈ [(1 : Byte), 2], failsUpload ty [3] 6 ∧ failsUpload ty [ty] 3
    ∧ ∃ v, v.head? = some ty ∧ laidOut (leNat ((v.drop 12).take 4)) v ∧ (verifies ty v ∨ failsUpload ty v 4 ∨ failsUpload ty v 3) := by
  intro ty h
  have h1 : ty ≠ 3 := by fin_cases h <;> decide
  have hl : laidOut 0 (ty :: List.replicate 2883 0) := by
    have hn : (ty :: List.replicate 2883 (0 : Byte)).length = 2884 := by rw [List.length_cons, List.length_replicate]
    refine ⟨hn, by rw [hn]; decide, by decide, fun i b hb hi => ?_⟩
    obtain ⟨i, rfl⟩ : ∃ j, i = j + 1 := ⟨i - 1, by omega⟩
    rw [List.getElem?_cons_succ, List.getElem?_replicate] at hb
    split at hb <;> cases hb
    rfl
  have hz : leNat (((ty :: List.replicate 2883 0).drop 12).take 4) = 0 := by fin_cases h <;> decide +kernel
  refine ⟨.inl ⟨fun e => h1 (Option.some.inj e).symm, rfl⟩, .inr (.inl ⟨rfl, fun e => absurd e.1 ?_, rfl⟩), ty :: List.replicate 2883 0, rfl, by rw [hz]; exact hl, ?_⟩
  · simp
    omega
  · unfold verifies failsUpload
    simp only [hz]
    by_cases hv : Config.minSvn.toNat ≤ leNat (((ty :: List.replicate 2883 0).drop 8).take 4)
    · cases hx : Config.xmssVerify Config.brirelKey ((ty :: List.replicate 2883 0).take (64 + 0)) ((ty :: List.replicate 2883 0).drop (64 + 0))
      · exact .inr (.inr (.inr (.inr (.inr ⟨rfl, hl, hv, rfl, trivial⟩))))
      · exact .inl ⟨rfl, hl, hv, rfl⟩
    · exact .inr (.inl (.inr (.inr (.inl ⟨rfl, hl, Nat.lt_of_not_le hv, trivial⟩))))

/-- A DEPLOYED module with a pass of Brirel's in force on a Stream, and one without; an accepted pass before a boundary that applies nothing else; and
a bell of the timer with a grant that it ends and one that it does not. -/
theorem witness_SecurityRowsKeepTheirRules_grants :
    (∀ b : Bool, let s := school Slot.reset
      let s := { s with
        fuses := { s.fuses with life := .deployed }
        sec := { s.sec with grants := s.sec.grants.set 5 (if b then some ⟨2, 9, 0⟩ else some ⟨2, 9, 1⟩) } };
      s.controllerOn = true ∧ s.fuses.life = .deployed ∧ ((∃ (i : StreamId) (g : Grant), s.sec.grants[i] = some g ∧ g.signer = 0) ↔ b = true))
    ∧ (∃ v, let s := school Slot.reset
      let s := { s with sec := { s.sec with accepted := some v } };
      s.controllerOn = true ∧ s.sec.accepted = some v ∧ s.mgmt.accepted = [] ∧ s.mgmt.can.queue = [] ∧ s.mgmt.mailbox.queue = [])
    ∧ (let s := board Slot.reset
      let s := { s with tt := { s.tt with timer := 0 }, sec := { s.sec with grants := (s.sec.grants.set 5 (some ⟨2, 0, 0⟩)).set 6 (some ⟨1, 9, 0⟩) } };
      (s.elapse 0).power.phase = .run ∧ (s.elapse 0).power.ready = true ∧ (s.elapse 0).tt.timer = 0 ∧ s.controllerOn = true
      ∧ s.sec.grants[(5 : StreamId)] = some ⟨2, 0, 0⟩ ∧ s.sec.grants[(6 : StreamId)] = some ⟨1, 9, 0⟩ ∧ s.sec.grants[(7 : StreamId)] = none) := by
  refine ⟨fun b => ⟨rfl, rfl, ?_⟩, ⟨[], rfl, rfl, rfl, rfl, rfl⟩, by decide +kernel⟩
  cases b
  · refine ⟨fun ⟨i, g, hg, hs⟩ => ?_, fun h => by cases h⟩
    have h : ∀ i : StreamId, ∀ g, ((school Slot.reset).sec.grants.set 5 (some ⟨2, 9, 1⟩))[i] = some g → g.signer = 1 := by
      intro i g hg
      have hall : ∀ i : StreamId, ((school Slot.reset).sec.grants.set 5 (some ⟨2, 9, 1⟩))[i] = none ∨
          ((school Slot.reset).sec.grants.set 5 (some ⟨2, 9, 1⟩))[i] = some ⟨2, 9, 1⟩ := by decide +kernel
      obtain e | e := hall i
      · rw [e] at hg; cases hg
      · rw [e] at hg; cases hg; rfl
    rw [h i g hg] at hs
    cases hs
  · exact ⟨fun _ => rfl, fun _ => ⟨5, ⟨2, 9, 0⟩, by decide +kernel, rfl⟩⟩

def observed : StartupObs :=
  ⟨true, [], false, false, [], [], false, 100, [], Vector.replicate 32 3, Vector.replicate 32 3, Vector.replicate 32 50, none, 10⟩

/-- The module off with each image verified or not, enabling with a clean start-up, running, and at a bell with a warm reset or a standby entry
that waits. -/
theorem witness_PowerEventsMoveThePhases :
    (∀ a b : Bool, let s := { State.reset with flash := { State.reset.flash with
        fwA := { State.reset.flash.fwA with verified := a }, fwB := { State.reset.flash.fwB with verified := b } } }
      s.power.phase = .off ∧ s.flash.fwA.verified = a ∧ s.flash.fwB.verified = b)
    ∧ (∀ p ∈ [Phase.standby, .enabling, .run], let s := { board Slot.reset with power := { (board Slot.reset).power with phase := p, leaveAsked := true } }
      s.power.phase = p ∧ (s.mgmt.rwp.autoLeave || s.power.leaveAsked) = true ∧ s.startsClean observed)
    ∧ (∀ w : Bool, let s := { board Slot.reset with power := { (board Slot.reset).power with bellRung := true, warmPending := w, standbyPending := !w } }
      s.bellDone = true ∧ s.power.warmPending = w ∧ s.power.standbyPending = !w ∧ s.startsClean observed) := by
  refine ⟨fun a b => ⟨rfl, rfl, rfl⟩, ?_, ?_⟩
  · intro p h
    refine ⟨rfl, by simp, ?_⟩
    unfold State.startsClean
    fin_cases h <;> decide +kernel
  · intro w
    unfold State.startsClean
    cases w <;> decide +kernel

/-- A state where the pins may be driven, and one where they may not. -/
theorem witness_TapInstructionsDriveOnlyWhereAllowed : ∀ l ∈ [Life.blank, .deployed],
    let s := { school Slot.reset with sec := { (school Slot.reset).sec with life := l } }
    s.power.phase ≠ .off ∧ ((s.sec.life = .blank ∨ s.sec.life = .returned) ↔ l = .blank) := by
  decide +kernel

/-! ### The whole module -/

/-- A queue with a command, and an empty one. -/
theorem witness_StepRunsTheFrontCommand : ({ State.reset with pending := [Instr.tapReset] } : State).pending = Instr.tapReset :: [] ∧ State.reset.pending = [] :=
  ⟨rfl, rfl⟩

theorem witness_NoCommandTouchesTheQueue : ∃ t, exec .auxLoss State.reset = .next t := ⟨_, rfl⟩

theorem witness_EveryStepKeepsTheMemoriesInForm : State.reset.memWf = true ∧ ∃ t, step State.reset = .next t := ⟨by decide +kernel, _, rfl⟩

/-! ### The spec's worked values -/

/-- 05, Worked address translations: port, bank and row offset of b. -/
theorem test_interleave_31 : interleave 31 16777220 = (20, 53, 4261) ∧ interleave 31 3870000133 = (30, 126, 982981) := by decide

theorem test_interleave_29 : interleave 29 4194304 = (5, 105, 1138) := by decide

/-- 04, CRC steps: the check values of ASCII "123456789". -/
theorem test_crc : crcBytes false 0xFFFFFFFF [0x31, 0x32, 0x33, 0x34, 0x35, 0x36, 0x37, 0x38, 0x39] ^^^ 0xFFFFFFFF = 0xE3069283
    ∧ crcBytes true (2 ^ 64 - 1) [0x31, 0x32, 0x33, 0x34, 0x35, 0x36, 0x37, 0x38, 0x39] ^^^ (2 ^ 64 - 1) = 0x995DC9BBDF1939FA := by
  decide +kernel

/-- D3 after the row on D1 and D2. -/
def d3 (c : Instr) (a b : Word64) : Option Word64 := match exec c (core (rd12 a b 0x10000)) with
  | .next t => some ((t.regs 0).getD 3)
  | _ => none

/-- 04, Integer divide: −100 by 7, and 12 by 0. -/
theorem test_divs : d3 (.divs 0 ⟨3, 1, 2, 0, 0⟩) (-100) 7 = some (-14) := by decide +kernel

theorem test_rems : d3 (.rems 0 ⟨3, 1, 2, 0, 0⟩) (-100) 7 = some (-2) ∧ d3 (.rems 0 ⟨3, 1, 2, 0, 0⟩) 12 0 = some 12 := by decide +kernel

/-- 09, slot C5h: the resolved fields of the VFMUL and of the VFMA of C5456018F0000000h. -/
theorem test_user_resolved :
    let f : VFmt := { vf0 with ad := 4, as1 := 5, as2 := 6, ds := 3 }
    Uop.resolved 0x1264400802000000 f = { vf0 with ad := 12, as1 := 5, ds := 3, scl := 1 }
    ∧ Uop.resolved 0x158480C502000000 f = { vf0 with ad := 4, as1 := 6, as3 := 12, ds := 20, scl := 1 } := by
  decide +kernel

/-- 8b/10b: K28.5 and D0.0 from negative running disparity, and D21.5, whose code alternates. -/
theorem test_8b10b : codeLane false [.k28_5, .data 0, .data 0xB5] = ([0b0011111010, 0b0110001011, 0b1010101010], true) := by
  decide

/-- 05 R145: an access in the flash controller window, in which no chapter defines a register, is answered with the decode error. -/
theorem test_flash_window : (match exec (.registerReadClear .dam flashBase false) (school Slot.reset) with
    | .next t => some t.out
    | _ => none) = some [.response .decodeError [0, 0, 0, 0]] := by decide +kernel

/-- 07 R252: the value of IMM12 is sign-extended. -/
theorem test_addi : d3 (.addi 0 ⟨3, 1, 0xFFF⟩) 5 0 = some 4 := by decide +kernel

/-- 04 R108: the sum of the infinities is the default NaN. -/
theorem test_fadd_invalid : d3 (.fadd 0 ⟨3, 1, 2, 0, 0, 0⟩) 0x7FF0000000000000 0xFFF0000000000000 = some 0x7FF8000000000000 := by decide +kernel

end Sys2Proof.Tests
end

section
/-!
The commands of CMD objects: the status that each leaves, what a field record's deletion, a restore and a coverage run do to the state, and then
one lemma for each command.
-/

namespace Sys2Proof.Machine

/-! ### The status of a command -/

@[simp] theorem State.setCmd_cmds (s : State) (k : ObjKey) (v : CmdStatus) : (s.setCmd k v).mgmt.cmds = s.mgmt.cmds.put k v := rfl
@[simp] theorem State.setCmd_rwp (s : State) (k : ObjKey) (v : CmdStatus) : (s.setCmd k v).mgmt.rwp = s.mgmt.rwp := rfl
@[simp] theorem State.setCmd_toPersist (s : State) (k : ObjKey) (v : CmdStatus) : (s.setCmd k v).mgmt.toPersist = s.mgmt.toPersist := rfl
@[simp] theorem State.setCmd_admissionHeld (s : State) (k : ObjKey) (v : CmdStatus) : (s.setCmd k v).admissionHeld = s.admissionHeld := rfl

@[simp] theorem CmdStatuses.put_power (c : CmdStatuses) (v : CmdStatus) : c.put (0x1010, 1) v = { c with power := v } := rfl
@[simp] theorem CmdStatuses.put_hold (c : CmdStatuses) (v : CmdStatus) : c.put (0x2002, 1) v = { c with hold := v } := rfl
@[simp] theorem CmdStatuses.put_retire (c : CmdStatuses) (v : CmdStatus) : c.put (0x3036, 1) v = { c with retire := v } := rfl
@[simp] theorem CmdStatuses.put_delete (c : CmdStatuses) (v : CmdStatus) : c.put (0x3050, 5) v = { c with delete := v } := rfl
@[simp] theorem CmdStatuses.put_bist (c : CmdStatuses) (v : CmdStatus) : c.put (0x7000, 2) v = { c with bist := v } := rfl
@[simp] theorem CmdStatuses.put_defaults (c : CmdStatuses) (v : CmdStatus) : c.put (0x9000, 5) v = { c with defaults := v } := rfl

/-! ### What the commands' operations keep -/

/-- No byte that a program or the host can read changes when the units that hold bytes are the same. -/
theorem State.sameBytes_of_units_eq {s t : State} (hmem : t.mem = s.mem) (hslots : t.slots = s.slots) (hhost : t.host = s.host) (hdbg : t.dbg = s.dbg) :
    s.sameBytes t := by
  simp [State.sameBytes, State.slot, hmem, hslots, hhost, hdbg]

theorem State.controllerOn_of_run {s : State} (h : s.power.phase = .run) : s.controllerOn = true := by simp [State.controllerOn, h]

theorem State.controllerOn_of_standby {s : State} (h : s.power.phase = .standby) : s.controllerOn = true := by simp [State.controllerOn, h]

theorem State.not_inStandby_of_run {s : State} (h : s.power.phase = .run) : s.inStandby = false := by simp [State.inStandby, Phase.isStandby, h]

theorem State.tripWaited_iff (s : State) : s.tripWaited = true ↔ s.power.sinceTrip = none ∨ ∃ n, s.power.sinceTrip = some n ∧ 20000 ≤ n := by
  unfold State.tripWaited
  cases s.power.sinceTrip <;> simp

/-- A deletion takes a record out of every list of live records (12 R367). -/
theorem State.dropRecords_not_mem (s : State) {gone : RepairRec → Bool} {r : RepairRec} (h : gone r = true) :
    r ∉ (s.dropRecords gone).repair.field ∧ r ∉ (s.dropRecords gone).flash.field ∧ r ∉ (s.dropRecords gone).repair.toSave := by
  simp [State.dropRecords, h]

/-- The loop of a restore: every value is journalled with the next persist number (12 R361). -/
def State.journalAll (s : State) (es : List (ObjKey × List Byte)) : State :=
  es.foldl (fun (s : State) e =>
    let p := s.mgmt.persistLast + 1
    { s with mgmt := { s.mgmt with persistLast := p, toPersist := s.mgmt.toPersist ++ [⟨e.1, e.2, p⟩] } }) s

@[simp] theorem State.journalAll_power (s : State) (es : List (ObjKey × List Byte)) : (s.journalAll es).power = s.power := by
  induction es generalizing s with
  | nil => rfl
  | cons e es ih => exact ih _

theorem State.journalAll_toPersist_length (s : State) (es : List (ObjKey × List Byte)) :
    (s.journalAll es).mgmt.toPersist.length = s.mgmt.toPersist.length + es.length := by
  induction es generalizing s with
  | nil => rfl
  | cons e es ih =>
    refine (ih _).trans ?_
    simp only [List.length_append, List.length_cons, List.length_nil]
    omega

theorem defaultsOf_length (s : State) : (defaultsOf s).length = rwpKeys.length := by simp only [defaultsOf, rwpKeys, List.length_map]

/-- A restore of the values `es` of the RWP objects. -/
def State.restoreFrom (s : State) (es : List (ObjKey × List Byte)) : State :=
  let t := s.journalAll es
  { t with mgmt := { t.mgmt with rwp := if t.inStandby then t.mgmt.rwp else Rwp.defaults } }

theorem State.restoreDefaults_eq (s : State) : s.restoreDefaults = s.restoreFrom (defaultsOf s) := by
  unfold State.restoreDefaults State.restoreFrom State.journalAll
  generalize defaultsOf s = es
  rfl

theorem State.restoreFrom_rwp {s : State} (h : s.power.phase = .run) (es : List (ObjKey × List Byte)) :
    (s.restoreFrom es).mgmt.rwp = Rwp.defaults := by
  have hrun : (s.journalAll es).power.phase = .run := by rw [State.journalAll_power, h]
  simp [State.restoreFrom, State.not_inStandby_of_run hrun]

theorem State.restoreFrom_toPersist_length (s : State) (es : List (ObjKey × List Byte)) :
    (s.restoreFrom es).mgmt.toPersist.length = s.mgmt.toPersist.length + es.length :=
  s.journalAll_toPersist_length es

theorem State.restoreDefaults_rwp {s : State} (h : s.power.phase = .run) : s.restoreDefaults.mgmt.rwp = Rwp.defaults := by
  rw [State.restoreDefaults_eq, State.restoreFrom_rwp h]

theorem State.restoreDefaults_toPersist_length (s : State) :
    s.restoreDefaults.mgmt.toPersist.length = s.mgmt.toPersist.length + rwpKeys.length := by
  rw [State.restoreDefaults_eq, State.restoreFrom_toPersist_length, defaultsOf_length]

/-- What a coverage run destroys leaves the record of the runs alone. -/
@[simp] theorem State.destroy_bist (s : State) (blocks : Nat) : (s.destroy blocks).bist = s.bist := by
  simp only [State.destroy, apply_ite State.bist, ite_self, State.draw]

/-! ### Power (13 R370, R390) -/

section
variable {s : State} (hrun : s.power.phase = .run)
include hrun

theorem moduleWarmReset_waits :
    ∃ t, exec .moduleWarmReset s = .next t ∧ t.power.warmPending = true ∧ t.admissionHeld = true ∧ t.mgmt.cmds.power = .pending ∧ s.sameBytes t := by
  refine ⟨s.askWarm, by simp [exec_moduleWarmReset, execModuleWarmReset, State.controllerOn_of_run hrun], ?_⟩
  rw [State.askWarm, if_pos hrun]
  exact ⟨rfl, by simp [State.admissionHeld], by simp, State.sameBytes_of_units_eq rfl rfl rfl rfl⟩

theorem enterModuleStandby_waits :
    ∃ t, exec .enterModuleStandby s = .next t ∧ t.power.standbyPending = true ∧ t.admissionHeld = true ∧ t.mgmt.cmds.power = .pending := by
  refine ⟨s.askStandby, by simp [exec_enterModuleStandby, execEnterModuleStandby, State.controllerOn_of_run hrun], ?_⟩
  rw [State.askStandby, if_pos hrun]
  exact ⟨rfl, by simp [State.admissionHeld], by simp⟩

theorem leaveModuleStandby_refused_of_run :
    ∃ t, exec .leaveModuleStandby s = .next t ∧ t.mgmt.cmds.power = .refused ∧ t.power = s.power := by
  refine ⟨s.askLeave, by simp [exec_leaveModuleStandby, execLeaveModuleStandby, State.controllerOn_of_run hrun], ?_⟩
  rw [State.askLeave, if_neg (by simp [hrun])]
  exact ⟨by simp, rfl⟩

omit hrun in
theorem leaveModuleStandby_enables (hphase : s.power.phase = .standby) (hmain : s.power.main48 = true) (hlife : s.sec.life ≠ .void)
    (htrip : s.power.sinceTrip = none ∨ ∃ n, s.power.sinceTrip = some n ∧ 20000 ≤ n) :
    ∃ t, exec .leaveModuleStandby s = .next t ∧ t.power.phase = .enabling ∧ t.mgmt.cmds.power = .done := by
  refine ⟨s.askLeave, by simp [exec_leaveModuleStandby, execLeaveModuleStandby, State.controllerOn_of_standby hphase], ?_⟩
  rw [State.askLeave, if_pos ⟨hphase, s.tripWaited_iff.2 htrip, hlife⟩, if_pos hmain]
  exact ⟨rfl, by simp⟩

/-! ### The admission hold (06 R178) -/

theorem State.setHeld_of_run (v : Bool) : s.setHeld v =
    { s with tt := { s.tt with held := v }, mgmt := { s.mgmt with cmds := { s.mgmt.cmds with hold := .done } } } := by
  rw [State.setHeld, if_pos hrun, State.setCmd, CmdStatuses.put_hold]

/-! ### Retirement (01 R17; 10 R296) -/

theorem retireUnit_decides {v : Word32} {u : UnitRef} (hv : retireTarget v = some u) (hu : s.unitRetired u = false) :
    ∃ t, exec (.retireUnit v) s = .next t ∧ t.mgmt.cmds.retire = .done
      ∧ t.repair = { s.repair with failed := s.repair.failed ++ [(u, 2, false)] } := by
  refine ⟨s.queueRetire v, by simp [exec_retireUnit, execRetireUnit, State.controllerOn_of_run hrun], ?_⟩
  simp [State.queueRetire, hv, hrun, hu]

theorem retireUnit_refused {v : Word32} {u : UnitRef} (hv : retireTarget v = some u) (hu : s.unitRetired u = true) :
    ∃ t, exec (.retireUnit v) s = .next t ∧ t.mgmt.cmds.retire = .refused ∧ t.repair = s.repair := by
  refine ⟨s.queueRetire v, by simp [exec_retireUnit, execRetireUnit, State.controllerOn_of_run hrun], ?_⟩
  simp [State.queueRetire, hv, hu]

/-! ### Field records (12 R367) -/

theorem deleteFieldRecord_deletes {n : Nat} {r : RepairRec} (hr : s.repair.field[n]? = some r) (hopen : s.sec.life.open_ = true) :
    ∃ t, exec (.deleteFieldRecord n) s = .next t ∧ r ∉ t.repair.field ∧ r ∉ t.flash.field ∧ r ∉ t.repair.toSave
      ∧ t.mgmt.cmds.delete = .done ∧ t.slots = s.slots := by
  refine ⟨(s.dropRecords (· == r)).setCmd (0x3050, 5) .done, ?_, ?_⟩
  · simp [exec_deleteFieldRecord, execDeleteFieldRecord, State.deleteRecord, hrun, hr, hopen]
  · obtain ⟨hfield, hflash, hsave⟩ := s.dropRecords_not_mem (gone := (· == r)) (beq_self_eq_true r)
    exact ⟨hfield, hflash, hsave, by simp, rfl⟩

theorem deleteAllFieldRecords_deletes (hopen : s.sec.life.open_ = true) :
    ∃ t, exec .deleteAllFieldRecords s = .next t ∧ t.repair.field = [] ∧ t.flash.field = [] ∧ t.repair.toSave = []
      ∧ t.mgmt.cmds.delete = .done ∧ t.slots = s.slots := by
  refine ⟨(s.dropRecords fun _ => true).setCmd (0x3050, 5) .done, ?_, ?_⟩
  · simp [exec_deleteAllFieldRecords, execDeleteAllFieldRecords, State.deleteAll, hrun, hopen]
  · simp [State.dropRecords]

/-! ### Defaults (12 R361) -/

theorem restoreDefaults_restores :
    ∃ t, exec .restoreDefaults s = .next t ∧ t.mgmt.rwp = Rwp.defaults ∧ t.mgmt.cmds.defaults = .done
      ∧ t.mgmt.toPersist.length = s.mgmt.toPersist.length + rwpKeys.length := by
  refine ⟨s.restoreDefaults.setCmd (0x9000, 5) .done, ?_, ?_, ?_, ?_⟩
  · rw [exec_restoreDefaults, execRestoreDefaults, if_pos (State.controllerOn_of_run hrun)]
  · rw [State.setCmd_rwp, State.restoreDefaults_rwp hrun]
  · rw [State.setCmd_cmds, CmdStatuses.put_defaults]
  · rw [State.setCmd_toPersist, State.restoreDefaults_toPersist_length]

/-! ### Coverage runs (13 R382-R384) -/

theorem coverageRunStart_starts (hopen : s.sec.life.open_ = true) (hheld : s.holdState = 2) (himage : bistImageOk s.mgmt.rwp.bistProgram = true)
    (hidle : s.bist.running = false) :
    ∃ t, exec .coverageRunStart s = .next t ∧ t.bist.running = true ∧ t.mgmt.cmds.bist = .pending ∧ t.admissionHeld = true := by
  refine ⟨s.startCoverage, by simp [exec_coverageRunStart, execCoverageRunStart, State.controllerOn_of_run hrun], ?_⟩
  rw [State.startCoverage, if_pos ⟨hrun, hopen, hheld, himage, by simp [hidle]⟩]
  exact ⟨by simp, by simp, by simp [State.admissionHeld]⟩

omit hrun in
theorem State.endCoverage_reports (hrunning : s.bist.running = true) (n us : Nat) :
    let t := s.endCoverage n us
    t.bist.running = false ∧ t.mgmt.cmds.bist = .done ∧ t.bist.lastN = (if s.mgmt.rwp.bistMode = 1 then BitVec.ofNat 32 n else 0)
      ∧ t.bist.lastKind = 3 ∧ s.sameBytes t := by
  rw [State.endCoverage, if_pos hrunning]
  exact ⟨rfl, by simp, rfl, rfl, State.sameBytes_of_units_eq rfl rfl rfl rfl⟩

omit hrun in
theorem coverageRunEnd_reports (hrunning : s.bist.running = true) {n : Nat} (us : Nat) (hn : n ≤ programPlanned s.mgmt.rwp.bistProgram) :
    ∃ t, exec (.coverageRunEnd n us) s = .next t ∧ t.bist.running = false ∧ t.mgmt.cmds.bist = .done
      ∧ t.bist.lastN = (if s.mgmt.rwp.bistMode = 1 then BitVec.ofNat 32 n else 0) ∧ t.bist.lastKind = 3 ∧ s.sameBytes t :=
  ⟨s.endCoverage n us, by rw [exec_coverageRunEnd, execCoverageRunEnd, if_pos hrunning, min_eq_left hn], State.endCoverage_reports hrunning n us⟩

/-- An abort always falls short of the plan (13 R383). -/
theorem bistAbort_reports (hrunning : s.bist.running = true) {n : Nat} (us : Nat) (hn : n < programPlanned s.mgmt.rwp.bistProgram) :
    ∃ t, exec (.bistAbort n us) s = .next t ∧ t.bist.running = false ∧ t.mgmt.cmds.bist = .done
      ∧ t.bist.lastN = (if s.mgmt.rwp.bistMode = 1 then BitVec.ofNat 32 n else 0) ∧ s.sameBytes t := by
  obtain ⟨hstop, hstatus, hn', -, hbytes⟩ := State.endCoverage_reports hrunning n us
  refine ⟨s.endCoverage n us, ?_, hstop, hstatus, hn', hbytes⟩
  rw [exec_bistAbort, execBistAbort, if_pos (State.controllerOn_of_run hrun), min_eq_left (by omega)]

/-! ### The rail warning (12 R365) -/

theorem powerStageRailWarning_counts :
    ∃ t, exec .powerStageRailWarning s = .next t ∧ t.mgmt.health[6] = satAdd s.mgmt.health[6] 1 ∧ t.mgmt.sawHealth = true ∧ s.sameBytes t :=
  ⟨s.countHealth 6, by simp [exec_powerStageRailWarning, execPowerStageRailWarning, hrun], by simp [State.countHealth], rfl,
    State.sameBytes_of_units_eq rfl rfl rfl rfl⟩

end

/-- Settles O53, one lemma for each command. -/
theorem commandsTakeTheirEffect : Obligations.CommandsTakeTheirEffect := by
  intro s hrun
  refine ⟨moduleWarmReset_waits hrun, enterModuleStandby_waits hrun, leaveModuleStandby_refused_of_run hrun, ?_, ?_, ?_, ?_, ?_,
    restoreDefaults_restores hrun, coverageRunStart_starts hrun, ?_, powerStageRailWarning_counts hrun⟩
  · exact fun _ => leaveModuleStandby_enables
  · exact ⟨congrArg _ (State.setHeld_of_run hrun true), congrArg _ (State.setHeld_of_run hrun false)⟩
  · exact fun _ _ => retireUnit_decides hrun
  · exact fun _ _ => retireUnit_refused hrun
  · exact fun _ _ hr hopen => ⟨deleteFieldRecord_deletes hrun hr hopen, deleteAllFieldRecords_deletes hrun hopen⟩
  · exact fun hrunning _ us => ⟨coverageRunEnd_reports hrunning us, bistAbort_reports hrun hrunning us⟩

end Sys2Proof.Machine
end

section
/-!
SUPPORT. How an instruction starts on a core that may stand inside an open group or behind queued vector work, and how vector instructions
enter the queue (02 R26-R32; 03 R72-R74; 07 R224, R254).
-/

namespace Sys2Proof.Machine

/-! ### Starting on a core that is ready -/

/-- The core in slot `k` serves Stream `i` and its next instruction can start: `State.clear` without what it asks of the open group and of the
engine's queue. -/
structure State.ready (s : State) (i : StreamId) (k : SlotId) : Prop where
  slot : s.slotOf i = some k
  status : (s.slot k).status = .running ∨ (s.slot k).status = .monitor
  exc : (s.slot k).exc = none
  loads : (s.slot k).loads = []
  storeErr : (s.slot k).storeErr = none
  watchdog : (s.slot k).wd.pending = false
  parity : (s.slot k).parity = []
  monen : (s.slot k).dbg.monen = false

theorem State.clear.ready {s : State} {i : StreamId} {k : SlotId} (h : s.clear i k) : s.ready i k := by
  obtain ⟨hi, hs, he, hl, hse, hw, _, hp, hm, _, _⟩ := h
  exact ⟨hi, hs, he, hl, hse, hw, hp, hm⟩

theorem State.clear.chain_none {s : State} {i : StreamId} {k : SlotId} (h : s.clear i k) : (s.slot k).chain = none := by
  obtain ⟨_, _, _, _, _, _, hc, _⟩ := h
  exact hc

/-- A core with an open group that is otherwise undisturbed. -/
theorem State.ready_of_clear_chain {s : State} {i : StreamId} {k : SlotId} (h : (s.modSlot k fun x => { x with chain := none }).clear i k) :
    s.ready i k := by
  obtain ⟨hi, hs, he, hl, hse, hw, _, hp, hm, _⟩ := h
  simp only [State.modSlot_slot_same, State.modSlot_slotOf] at *
  exact ⟨hi, hs, he, hl, hse, hw, hp, hm⟩

/-- A core with work in its vector queue that is otherwise undisturbed. -/
theorem State.ready_of_clear_queue {s : State} {i : StreamId} {k : SlotId}
    (h : (s.modSlot k fun x => { x with eng := { x.eng with queue := [] } }).clear i k) : s.ready i k ∧ (s.slot k).chain = none := by
  obtain ⟨hi, hs, he, hl, hse, hw, hc, hp, hm, _⟩ := h
  simp only [State.modSlot_slot_same, State.modSlot_slotOf] at *
  exact ⟨⟨hi, hs, he, hl, hse, hw, hp, hm⟩, hc⟩

/-- A group that is open changes no interlock: `State.clear` without its group says what the queue's destinations are. -/
theorem State.interlocked_of_clear_chain {s : State} {i : StreamId} {k : SlotId} (h : (s.modSlot k fun x => { x with chain := none }).clear i k)
    (f : Info) : (s.slot k).interlocked f = false := by
  simpa [Slot.interlocked] using h.interlocked f

namespace State.ready

variable {s : State} {i : StreamId} {k : SlotId} (h : s.ready i k)
include h

theorem debugOff : s.debugOn k = false := by simp [State.debugOn, h.monen]

theorem canStart (f : Info) : s.canStart k f = true := by
  rcases h.status with e | e <;>
    simp [State.canStart, State.boundaryBusy, h.exc, h.loads, h.storeErr, h.watchdog, h.debugOff, e]

theorem breakpoint (f : Info) : s.breakpoint k f = none := by simp [State.breakpoint, h.debugOff]

theorem parityOf (rs : List Reg) : (s.slot k).parityOf rs = none := by simp [Slot.parityOf, h.parity]

end State.ready

/-- What an instruction comes to, once its decode rules hold and nothing waits, from the result of its body (07 R223-R229, R249). -/
def State.outcome (s : State) (k : SlotId) (f : Info) : Done → Host.Outcome State Fault Refusal
  | .wait => .next (s.noteWait k)
  | .hold w => .next (s.modSlot k fun x => { x with waitAt := some w })
  | .stay t => .next t
  | .trap v c a fl => .next ((s.enterLine k).raiseExc k ((s.slot k).excAt v c a fl))
  | .next t => .next ((t.modSlot k fun x => x.sequence f.size).complete k f ((s.slot k).status == .monitor))
  | .branch t target => .next ((t.modSlot k fun x =>
      let pc := x.regs.pc
      let x := match target with | some a => x.branchTaken pc a | none => x
      { x with
        delay := some ⟨pc, target.getD (pc + 8)⟩
        regs := { x.regs with pc := pc + 4 } }).complete k f ((s.slot k).status == .monitor))
  | .goto t pc => .next ((t.modSlot k fun x => { x with regs := { x.regs with pc := pc } }).complete k f ((s.slot k).status == .monitor))

theorem Slot.afterShadow_false (x : Slot) (rs : List Reg) : x.afterShadow false rs = x := by
  unfold Slot.afterShadow; split <;> simp

section
variable {s : State} {i : StreamId} {k : SlotId} (h : s.ready i k) {f : Info} (he : f.early = none)
include h he

/-- An instruction that breaks no decode rule, waits for no scalar result and saves no accumulator runs its body at once. -/
theorem State.ready.instruction (body : State → SlotId → Done) (hd : (s.slot k).decodeFault f = none) (hq : (s.slot k).interlocked f = false)
    (hs : s.saveQs k f.saves = .ok s) (hf : f.soft = 0 := by rfl) :
    s.instruction i f body = s.outcome k f (body (s.start k) k) := by
  have hn : s.noteCopies k f = s := by simp [State.noteCopies, hf]
  simp only [State.instruction, h.slot, h.canStart, h.breakpoint, he, hd, hq, h.parityOf, hs, h.loads, hn, Slot.afterShadow_false,
    Option.map_none, Option.or_none, List.isEmpty_nil, Bool.not_true, Bool.false_eq_true, if_false]
  cases body (s.start k) k <;> rfl

/-- A broken decode rule raises its exception, and the instruction does nothing else (07 R254). -/
theorem State.ready.decodeTraps (body : State → SlotId → Done) {v : Byte} (hd : (s.slot k).decodeFault f = some v) (hf : f.soft = 0 := by rfl) :
    s.instruction i f body = .next (s.raiseExc k ((s.slot k).excAt v 0 0 0)) := by
  have hn : s.noteCopies k f = s := by simp [State.noteCopies, hf]
  have hv : v ≠ 6#8 := by
    rintro rfl
    unfold Slot.decodeFault at hd
    dsimp only at hd
    split_ifs at hd <;> cases hd
  simp [State.instruction, h.slot, h.canStart, h.breakpoint, he, hd, hn, hv]

/-- An instruction that waits for the scalar result of a queued vector instruction changes nothing outside a delay slot (02 R31). -/
theorem State.ready.interlock (body : State → SlotId → Done) (hd : (s.slot k).decodeFault f = none) (hq : (s.slot k).interlocked f = true)
    (hdelay : (s.slot k).delay = none) : s.instruction i f body = .next s := by
  simp [State.instruction, h.slot, h.canStart, h.breakpoint, he, hd, hq, State.noteWait, hdelay]

end

theorem State.noteWait_of_no_delay {s : State} {k : SlotId} (h : (s.slot k).delay = none) : s.noteWait k = s := by
  simp [State.noteWait, h]

/-- A body that comes to its effect `g` on the slot of a core that is ready runs to completion. -/
theorem State.ready.outcome_next {s : State} {i : StreamId} {k : SlotId} (h : s.ready i k) (f : Info) {g : Slot → Slot} (hg : Slot.Plain g) :
    s.outcome k f (.next ((s.start k).modSlot k g)) = .next (s.after k f.size g) := by
  have hslot : (s.start k).slot k = (s.slot k).start (s.moreLines k) := State.modSlot_slot_same ..
  simp only [State.outcome, State.modSlot_modSlot]
  rw [State.complete_off f _ (by
    rw [State.modSlot_slot_same, Slot.sequence_eq, hslot]; simp only [hg.dbg]; rw [Slot.start_of_no_loads _ _ h.loads]; exact h.monen)]
  have hf := Slot.finish_eq (s.slot k) (s.moreLines k) f g hg h.loads h.parity
  simp only [State.start, State.modSlot_modSlot]
  exact congrArg (fun y => Host.Outcome.next (s.setSlot k y)) hf

theorem Slot.Plain.id : Slot.Plain id := ⟨fun _ => rfl, fun _ => rfl, fun _ => rfl, fun _ => rfl, fun _ => rfl, fun _ _ _ _ => rfl⟩

/-! ### A slot that has started an instruction -/

/-- Starting touches the line buffer, the loads' undo and the breakpoint exemption alone. -/
theorem Slot.start_eq (x : Slot) (b : Bool) :
    x.start b = { x with lines := (x.start b).lines, ahead := (x.start b).ahead, line := (x.start b).line, prefetch := (x.start b).prefetch
                         loads := (x.start b).loads, dbg := (x.start b).dbg } := by
  unfold Slot.start Slot.keepUndo
  rw [Slot.enterLine_eq]
  dsimp only
  repeat' (split <;> try rfl)

@[simp] theorem State.start_slot_regs (s : State) (k : SlotId) : ((s.start k).slot k).regs = (s.slot k).regs := by
  rw [State.start, State.modSlot_slot_same, Slot.start_eq]
@[simp] theorem State.start_slot_chain (s : State) (k : SlotId) : ((s.start k).slot k).chain = (s.slot k).chain := by
  rw [State.start, State.modSlot_slot_same, Slot.start_eq]
@[simp] theorem State.start_slot_delay (s : State) (k : SlotId) : ((s.start k).slot k).delay = (s.slot k).delay := by
  rw [State.start, State.modSlot_slot_same, Slot.start_eq]
@[simp] theorem State.start_slot_sbuf (s : State) (k : SlotId) : ((s.start k).slot k).sbuf = (s.slot k).sbuf := by
  rw [State.start, State.modSlot_slot_same, Slot.start_eq]
@[simp] theorem State.start_slot_eng (s : State) (k : SlotId) : ((s.start k).slot k).eng = (s.slot k).eng := by
  rw [State.start, State.modSlot_slot_same, Slot.start_eq]
@[simp] theorem State.start_slot_waitAt (s : State) (k : SlotId) : ((s.start k).slot k).waitAt = (s.slot k).waitAt := by
  rw [State.start, State.modSlot_slot_same, Slot.start_eq]
@[simp] theorem State.start_slot_parity (s : State) (k : SlotId) : ((s.start k).slot k).parity = (s.slot k).parity := by
  rw [State.start, State.modSlot_slot_same, Slot.start_eq]
@[simp] theorem State.start_regs (s : State) (k : SlotId) : (s.start k).regs k = s.regs k := s.start_slot_regs k

end Sys2Proof.Machine
end

section
namespace Sys2Proof.Machine

/-! ### The rows of the vector opcode table -/

/-- Every row of the table is `State.vector` with its VOP. -/
theorem exec_of_vectorRow (s : State) (i : StreamId) (f : VFmt) : ∀ row ∈ Rows.vector, exec (row.1 i f) s = s.vector i row.2 f := by
  simp only [Rows.vector, List.forall_mem_cons, List.not_mem_nil, false_imp_iff, implies_true, and_true]
  and_intros <;> rfl

theorem vfmt_scl_cases (f : VFmt) : f.scl = 0 ∨ f.scl = 1 := by
  have := f.scl.isLt
  rcases (by omega : f.scl.toNat = 0 ∨ f.scl.toNat = 1) with e | e
  · exact .inl (BitVec.eq_of_toNat_eq e)
  · exact .inr (BitVec.eq_of_toNat_eq e)

/-- The decode rules of a row are those of its columns (02 R64, R66). -/
theorem vecInfo_fieldsOk_iff (f : VFmt) : ∀ row ∈ Rows.vector, (vecInfo row.2 f).fieldsOk = true ↔ keepsRow row.2 f := by
  have hrnd : (f.rnd.toNat < 6 ∨ f.rnd = 0#3) ↔ f.rnd.toNat < 6 := or_iff_left_of_imp fun e => by simp [e]
  simp only [Rows.vector, List.forall_mem_cons, List.not_mem_nil, false_imp_iff, implies_true, and_true]
  rcases vfmt_scl_cases f with e | e <;> and_intros <;> simp [keepsRow, vecInfo, vrow, VRow.fieldsOk, FnUse.ok, e, hrnd, and_assoc, and_left_comm (a := f.as3 = 0#4)]

/-! ### Capture and the queue -/

theorem Regs.capture_eq (r : Regs) (vop : Nat) (f : VFmt) (u : Option (Fin 64 × BitVec 5)) : r.capture vop f u = r.captured vop f u := rfl

/-- The slots taken in the queue (02 R27). -/
theorem Engine.used_eq (g : Engine) : g.used = (g.queue.map VEntry.slots).sum := by
  have e : ∀ (l : List VEntry) (n : Nat), l.foldl (fun n e => n + e.slots) n = n + (l.map VEntry.slots).sum := fun l => by
    induction l with
    | nil => simp
    | cons a l ih => intro n; simp [ih, Nat.add_assoc]
  exact (e g.queue 0).trans (Nat.zero_add _)

/-- Without a guarded accumulator nothing is saved first (08 R264). -/
theorem State.saveQs_unguarded {s : State} {k : SlotId} (h : (s.slot k).regs.qg = 0) (ns : List (Fin 4)) : s.saveQs k ns = .ok s := by
  induction ns with
  | nil => rfl
  | cons n ns ih => rw [State.saveQs, State.saveQ]; simpa [h] using ih

/-- An entry whose operations write no accumulator leaves SR.QD as it is. -/
theorem Slot.enqueue_eq_queued {x : Slot} {e : VEntry} {dirty : BitVec 4}
    (h : (e.ops.filterMap VOp.qDest).foldl Regs.dirty x.regs = { x.regs with qd := x.regs.qd ||| dirty }) :
    x.enqueue [e] = x.queued [e] dirty := by
  simp only [Slot.enqueue, Slot.queued, List.flatMap_cons, List.flatMap_nil, List.append_nil, h]

/-- What an operation of a row writes: its accumulator is dirty from its issue (08 R263). -/
theorem Regs.dirty_captured (r r' : Regs) (f : VFmt) : ∀ row ∈ Rows.vector,
    ([r'.captured row.2 f none].filterMap VOp.qDest).foldl Regs.dirty r = { r with qd := r.qd ||| dirtyBit row.2 f } := by
  simp only [Rows.vector, List.forall_mem_cons, List.not_mem_nil, false_imp_iff, implies_true, and_true]
  and_intros <;> simp [Regs.captured, VOp.qDest, dirtyBit, Regs.dirty]

theorem Regs.dirty_none (r : Regs) {ops : List VOp} (h : ∀ v ∈ ops, v.qDest = none) :
    (ops.filterMap VOp.qDest).foldl Regs.dirty r = { r with qd := r.qd ||| 0 } := by
  rw [List.filterMap_eq_nil_iff.2 h]; simp

theorem Slot.Plain.queued (es : List VEntry) (dirty : BitVec 4) : Slot.Plain fun x => x.queued es dirty :=
  ⟨fun _ => rfl, fun _ => rfl, fun _ => rfl, fun _ => rfl, fun _ => rfl, fun _ _ _ _ => rfl⟩

theorem Slot.Plain.setChain (c : Option OpenChain) : Slot.Plain fun x => { x with chain := c } :=
  ⟨fun _ => rfl, fun _ => rfl, fun _ => rfl, fun _ => rfl, fun _ => rfl, fun _ _ _ _ => rfl⟩

/-! ### Issue of entries (02 R27, R29, R32) -/

section
variable {s : State} {k : SlotId}

theorem State.issueEntries_stopped (n : Nat) (es : List VEntry) (h : (s.slot k).eng.stopped = true) :
    s.issueEntries k n es = .stay (s.raiseExc k ⟨0x0A, (s.slot k).back.1, (s.slot k).back.2, 0, 0, 0, 0⟩) := by
  simp [State.issueEntries, h]

theorem State.issueEntries_waits {n : Nat} (es : List VEntry) (h : (s.slot k).eng.stopped = false)
    (hw : (s.slot k).sbuf ≠ [] ∨ 128 < ((s.slot k).eng.queue.map VEntry.slots).sum + n) : s.issueEntries k n es = .wait := by
  rw [← Engine.used_eq] at hw
  have : (!(s.slot k).sbuf.isEmpty || decide (128 < (s.slot k).eng.used + n)) = true := by simpa using hw
  simp only [State.issueEntries, h, this, Bool.false_eq_true, if_false, if_true]

/-- An entry for which there is room enters the queue. -/
theorem State.issueEntries_enters {n : Nat} {e : VEntry} {dirty : BitVec 4} (h : s.takesEntry k n) (hp : (s.slot k).parity = [])
    (hq : (s.slot k).regs.qg = 0)
    (hd : (e.ops.filterMap VOp.qDest).foldl Regs.dirty (s.slot k).regs = { (s.slot k).regs with qd := (s.slot k).regs.qd ||| dirty }) :
    s.issueEntries k n [e] = .next (s.modSlot k fun x => x.queued [e] dirty) := by
  obtain ⟨hstop, hbuf, hroom⟩ := h
  rw [← Engine.used_eq] at hroom
  have : ¬128 < (s.slot k).eng.used + n := by omega
  simp only [State.issueEntries, hstop, hbuf, this, List.isEmpty_nil, Bool.not_true, decide_false, Bool.or_self, Bool.false_eq_true,
    if_false, Slot.parityOf, hp, List.find?_nil, State.saveQs_unguarded hq, State.modSlot_eq, Slot.enqueue_eq_queued hd]

theorem State.takesEntry_start {n : Nat} (h : s.takesEntry k n) : (s.start k).takesEntry k n := by
  simpa [State.takesEntry] using h

end

/-! ### A vector instruction on a core that is ready -/

section
variable {s : State} {i : StreamId} {k : SlotId} (h : s.ready i k) (hdelay : (s.slot k).delay = none)
  (hpc : (s.regs k).pc.getLsbD 2 = false) {row : (StreamId → VFmt → Instr) × Nat} (hr : row ∈ Rows.vector) {f : VFmt} (hf : keepsRow row.2 f)
include h hdelay hpc hr hf

/-- Outside a group a vector instruction comes to what its entry does. -/
theorem State.ready.vector_alone (hc : (s.slot k).chain = none) (hi : ∀ f, (s.slot k).interlocked f = false) :
    exec (row.1 i f) s = s.outcome k (vecInfo row.2 f)
      ((s.start k).issueEntries k 1 [⟨[(s.regs k).captured row.2 f none], 1, (s.regs k).vl, (s.regs k).vx⟩]) := by
  have hd : (s.slot k).decodeFault (vecInfo row.2 f) = none := by
    have hfields := (vecInfo_fieldsOk_iff f row hr).2 hf
    have hpc : (s.slot k).regs.pc.getLsbD 2 = false := hpc
    simp only [Slot.decodeFault, hc, hdelay, hpc, hfields]
    simp [vecInfo]
  rw [exec_of_vectorRow s i f row hr, State.vector, h.instruction (f := vecInfo row.2 f) rfl _ hd (hi _) rfl]
  simp only [State.issueOp, State.start_slot_chain, State.start_slot_regs, hc]
  rfl

/-- Inside a group a vector instruction joins it, or sends it into the queue (03 R73). -/
theorem State.ready.vector_member {c : OpenChain} (hc : (s.slot k).chain = some c) (hi : ∀ f, (s.slot k).interlocked f = false)
    (hend : (s.slot k).notAtEnd 8) :
    let ops := c.ops ++ [(s.regs k).captured row.2 f none]
    let vl := if c.ops = [] then (s.regs k).vl else c.vl
    let vx := if c.ops = [] then (s.regs k).vx else c.vx
    exec (row.1 i f) s = s.outcome k (vecInfo row.2 f) (if ops.length < c.count
      then .next ((s.start k).modSlot k fun x => { x with chain := some ⟨c.at_, c.count, ops, vl, vx⟩ })
      else (s.start k).issueEntries k (c.count + 1) [⟨ops, c.count + 1, vl, vx⟩]) := by
  have hd : (s.slot k).decodeFault (vecInfo row.2 f) = none := by
    have hfields := (vecInfo_fieldsOk_iff f row hr).2 hf
    have hpc : (s.slot k).regs.pc.getLsbD 2 = false := hpc
    have hend : (s.slot k).atLoopEnd 8 = false := by
      rcases hend with e | e <;> simp [Slot.atLoopEnd, e]
    simp only [Slot.decodeFault, hc, hdelay, hpc, hfields]
    simp [vecInfo, hend]
  rw [exec_of_vectorRow s i f row hr, State.vector, h.instruction (f := vecInfo row.2 f) rfl _ hd (hi _) rfl]
  simp only [State.issueOp, State.start_slot_chain, State.start_slot_regs, hc, Regs.capture_eq, State.modSlot_eq]
  by_cases he : c.ops = [] <;> simp [he] <;> rfl

end

/-- Settles O33: the three outcomes of an entry's issue, for a vector instruction alone. -/
theorem vectorRowsEnterTheQueue : Obligations.VectorRowsEnterTheQueue := by
  intro row hr s i k f hclear hdelay hpc hf hq
  have hready := hclear.ready
  have hexec := hready.vector_alone hdelay hpc hr hf hclear.chain_none hclear.interlocked
  refine ⟨fun htakes => ?_, fun hrun hwait => ?_, fun hstop => ?_⟩
  · rw [hexec, State.issueEntries_enters (State.takesEntry_start htakes) (by rw [State.start_slot_parity, hready.parity])
      (by rw [State.start_slot_regs]; exact hq) (Regs.dirty_captured _ _ f row hr), hready.outcome_next _ (Slot.Plain.queued _ _)]
    rfl
  · rw [hexec, State.issueEntries_waits _ (by simpa using hrun)]
    · exact congrArg _ (State.noteWait_of_no_delay hdelay)
    · rw [State.start_slot_sbuf, State.start_slot_eng]; exact hwait.imp_right fun e => by omega
  · rw [hexec, State.issueEntries_stopped _ _ (by simpa using hstop)]
    simp [State.outcome, Slot.back, Slot.here, hclear.chain_none, hdelay, State.regs]

/-- How CHAIN stands in the rules of decode (03 R72). -/
def chainInfo (f : VFmt) : Info where
  size := 8
  span := 8 * (f.cnt.toNat + 2)
  wide := true
  slotOk := false
  endOk := false
  cancel := false
  fieldsOk := f.none && decide (f.cnt.toNat < 8)

theorem execChain_eq (i : StreamId) (f : VFmt) (s : State) : exec (.chain i f) s = s.instruction i (chainInfo f) fun s k =>
    if !(s.slot k).sbuf.isEmpty then .wait
    else .next (s.modSlot k fun x => { x with chain := some ⟨(s.regs k).pc, f.cnt.toNat + 1, [], (s.regs k).vl, (s.regs k).vx⟩ }) :=
  rfl

/-- CHAIN opens its group once every earlier store has committed (03 R72). -/
theorem State.clear.chain_opens {s : State} {i : StreamId} {k : SlotId} {f : VFmt} (h : s.clear i k) (hdelay : (s.slot k).delay = none)
    (hend : (s.slot k).notAtEnd 8) (hbuf : (s.slot k).sbuf = []) (hpc : (s.regs k).pc.getLsbD 2 = false) (hcnt : f.cnt.toNat < 8)
    (hf : f = ⟨0, 0, 0, 0, 0, 0, 0, 0, 0, f.cnt, 0⟩) :
    exec (.chain i f) s = .next (s.after k 8 fun x =>
      { x with chain := some ⟨(s.regs k).pc, f.cnt.toNat + 1, [], (s.regs k).vl, (s.regs k).vx⟩ }) := by
  have hd : (s.slot k).decodeFault (chainInfo f) = none := by
    have hend : (s.slot k).atLoopEnd 8 = false := by
      rcases hend with e | e <;> simp [Slot.atLoopEnd, e]
    have hpc : (s.slot k).regs.pc.getLsbD 2 = false := hpc
    have hnone : f.none = true := by rw [hf]; rfl
    simp only [Slot.decodeFault, chainInfo, h.chain_none, hdelay, hend, hpc, hnone, hcnt]
    rfl
  rw [execChain_eq, h.ready.instruction (f := chainInfo f) rfl _ hd (h.interlocked _) rfl]
  simp only [State.start_slot_sbuf, hbuf, List.isEmpty_nil, Bool.not_true, Bool.false_eq_true, if_false, State.start_regs]
  rw [h.ready.outcome_next _ (Slot.Plain.setChain _)]
  rfl

/-- Settles O34: the group opens, each member joins it, and the last one sends it into the queue. -/
theorem groupsEnterTogether : Obligations.GroupsEnterTogether := by
  intro s i k f hdelay hend hq hbuf hpc
  refine ⟨fun h hcnt hf => h.chain_opens hdelay hend hbuf hpc hcnt hf, fun row hr c hclear hc hf => ?_⟩
  have hready := State.ready_of_clear_chain hclear
  have hexec := hready.vector_member hdelay hpc hr hf hc (State.interlocked_of_clear_chain hclear) hend
  refine ⟨fun hmore => ?_, fun hlast hplain htakes => ?_⟩
  · rw [hexec, if_pos hmore]
    exact hready.outcome_next _ (Slot.Plain.setChain _)
  · rw [hexec, if_neg (by omega), State.issueEntries_enters (State.takesEntry_start htakes) (by rw [State.start_slot_parity, hready.parity])
      (by rw [State.start_slot_regs]; exact hq) (Regs.dirty_none _ hplain), hready.outcome_next _ (Slot.Plain.queued _ _)]
    rfl

end Sys2Proof.Machine
end

section
/-!
SUPPORT. What the engine's accounting leaves alone: counts, weights, events and energy touch no byte, no register and no queue.
-/

namespace Sys2Proof.Machine

/-! ### States that agree but for counts -/

/-- `t` has the memories, the registers, the engines and the maps of `s`; counts, weights, events and energy may differ. -/
structure State.agrees (s t : State) : Prop where
  repair : t.repair = s.repair
  mem : t.mem.mem = s.mem.mem
  sqMem : t.host.sqMem = s.host.sqMem
  dbg : t.dbg = s.dbg
  regs : ∀ j, (t.slot j).regs = (s.slot j).regs
  desk : ∀ j, (t.slot j).desk.mem = (s.slot j).desk.mem
  eng : ∀ j, (t.slot j).eng = (s.slot j).eng

theorem State.agrees.refl (s : State) : s.agrees s := ⟨rfl, rfl, rfl, rfl, fun _ => rfl, fun _ => rfl, fun _ => rfl⟩

theorem State.agrees.trans {s t u : State} (h : s.agrees t) (h' : t.agrees u) : s.agrees u where
  repair := h'.repair.trans h.repair
  mem := h'.mem.trans h.mem
  sqMem := h'.sqMem.trans h.sqMem
  dbg := h'.dbg.trans h.dbg
  regs j := (h'.regs j).trans (h.regs j)
  desk j := (h'.desk j).trans (h.desk j)
  eng j := (h'.eng j).trans (h.eng j)

theorem State.agrees.sameBytes {s t : State} (h : s.agrees t) : s.sameBytes t :=
  ⟨fun a => by rw [h.mem], fun k a => by rw [h.desk], fun a => by rw [h.sqMem], fun i a => by rw [h.dbg]⟩

theorem State.sameBytes_trans {s t u : State} (h : s.sameBytes t) (h' : t.sameBytes u) : s.sameBytes u := by
  obtain ⟨hm, hd, hq, hr⟩ := h
  obtain ⟨hm', hd', hq', hr'⟩ := h'
  exact ⟨fun a => (hm' a).trans (hm a), fun k a => (hd' k a).trans (hd k a), fun a => (hq' a).trans (hq a), fun i a => (hr' i a).trans (hr i a)⟩

/-- A step of the same agreement for every item of a list. -/
theorem State.agrees.foldl {α : Type} {f : State → α → State} (hf : ∀ (s : State) a, s.agrees (f s a)) (l : List α) (s : State) :
    s.agrees (l.foldl f s) := by
  induction l generalizing s with
  | nil => exact .refl s
  | cons a l ih => exact (hf s a).trans (ih _)

theorem State.agrees.modSlot {s : State} (k : SlotId) {g : Slot → Slot} (hr : (g (s.slot k)).regs = (s.slot k).regs)
    (hd : (g (s.slot k)).desk.mem = (s.slot k).desk.mem) (he : (g (s.slot k)).eng = (s.slot k).eng) : s.agrees (s.modSlot k g) where
  repair := rfl
  mem := rfl
  sqMem := rfl
  dbg := rfl
  regs j := by
    by_cases e : j = k
    · subst e; rw [State.modSlot_slot_same, hr]
    · rw [State.modSlot_slot_other _ _ _ _ e]
  desk j := by
    by_cases e : j = k
    · subst e; rw [State.modSlot_slot_same, hd]
    · rw [State.modSlot_slot_other _ _ _ _ e]
  eng j := by
    by_cases e : j = k
    · subst e; rw [State.modSlot_slot_same, he]
    · rw [State.modSlot_slot_other _ _ _ _ e]

/-- What leaves the slots and the memories of a state alone agrees with it. -/
theorem State.agrees.of_slots {s t : State} (hr : t.repair = s.repair) (hm : t.mem.mem = s.mem.mem) (hq : t.host.sqMem = s.host.sqMem)
    (hd : t.dbg = s.dbg) (hs : t.slots = s.slots) : s.agrees t :=
  ⟨hr, hm, hq, hd, fun j => by simp [State.slot, hs], fun j => by simp [State.slot, hs], fun j => by simp [State.slot, hs]⟩

/-! ### Events, weights and energy -/

theorem State.agrees.requestVector (s : State) (v : BitVec 11) : s.agrees (s.requestVector v) := by
  unfold State.requestVector; dsimp only; split <;> exact .of_slots rfl rfl rfl rfl rfl

/-- So does what changes every slot alike, in its counts. -/
theorem State.agrees.of_map {s t : State} {f : Slot → Slot} (hs : t.slots = s.slots.map f)
    (hf : ∀ x, (f x).regs = x.regs ∧ (f x).desk.mem = x.desk.mem ∧ (f x).eng = x.eng)
    (hr : t.repair = s.repair) (hm : t.mem.mem = s.mem.mem) (hq : t.host.sqMem = s.host.sqMem) (hd : t.dbg = s.dbg) : s.agrees t := by
  have hj : ∀ j, t.slot j = f (s.slot j) := fun j => by simp [State.slot, hs]
  exact ⟨hr, hm, hq, hd, fun j => by rw [hj, (hf _).1], fun j => by rw [hj, (hf _).2.1], fun j => by rw [hj, (hf _).2.2]⟩

theorem State.agrees.raise (s : State) (n : Nat) : s.agrees (s.raise n) := by
  unfold State.raise
  split
  · dsimp only
    split
    · refine State.agrees.trans ?_ (.requestVector _ _)
      exact .of_map rfl (fun _ => ⟨rfl, rfl, rfl⟩) rfl rfl rfl rfl
    · exact .of_map rfl (fun _ => ⟨rfl, rfl, rfl⟩) rfl rfl rfl rfl
  · exact .refl s

theorem State.agrees.raiseStream (s : State) (k : SlotId) (n : Nat) : s.agrees (s.raiseStream k n) := by
  unfold State.raiseStream; split
  · exact .raise _ _
  · exact .refl s

theorem State.agrees.meterStream (s : State) (k : SlotId) (pJ : Nat) : s.agrees (s.meterStream k pJ) := by
  unfold State.meterStream; split
  · exact .refl s
  · exact .of_slots rfl rfl rfl rfl rfl

theorem State.agrees.meterOnlyStream (s : State) (k : SlotId) (pJ : Nat) : s.agrees (s.meterOnlyStream k pJ) := by
  unfold State.meterOnlyStream; split
  · exact .refl s
  · exact .of_slots rfl rfl rfl rfl rfl

/-! ### Error states of blocks and words -/

theorem State.agrees.noteUncorrectable (s : State) (b : Nat) : s.agrees (s.noteUncorrectable b) := by
  have h : ∀ p g bank w, s.agrees ((s.modPort p g).chargeBank p bank w) := fun _ _ _ _ => .of_slots rfl rfl rfl rfl rfl
  exact (h _ _ _ _).trans (.raise _ _)

theorem State.agrees.notePoisonedWrite (s : State) (b : Nat) : s.agrees (s.notePoisonedWrite b) := by
  have h : ∀ p g w, s.agrees ((s.modPort p g).chargePort p w) := fun _ _ _ => .of_slots rfl rfl rfl rfl rfl
  exact (h _ _ _).trans (.raise _ _)

theorem State.agrees.noteCorrected (s : State) (b : Nat) : s.agrees (s.noteCorrected b) :=
  .of_slots rfl rfl rfl rfl rfl

theorem State.agrees.deliverFailure (s : State) (b : Nat) : s.agrees (s.deliverFailure b) := .of_slots rfl rfl rfl rfl rfl

theorem State.agrees.scheduleWriteBack (s : State) (b : Nat) : s.agrees (s.scheduleWriteBack b) := by
  unfold State.scheduleWriteBack; split
  · exact .refl s
  · exact .of_slots rfl rfl rfl rfl rfl

theorem State.agrees.touchBlocks (s : State) (bs : List Nat) : s.agrees (s.touchBlocks bs).1 := by
  induction bs generalizing s with
  | nil => exact .refl s
  | cons b bs ih =>
    unfold State.touchBlocks
    split
    · refine State.agrees.trans ?_ (ih _)
      split
      · exact .deliverFailure _ _
      · exact .noteUncorrectable _ _
    · refine State.agrees.trans ?_ (ih _)
      split
      · exact (State.agrees.noteCorrected _ _).trans (.scheduleWriteBack _ _)
      · exact .refl s

theorem State.agrees.settleReads (s : State) (k : SlotId) (rs : List Access1) : s.agrees (s.settleReads k rs) := by
  refine (State.agrees.touchBlocks s (dedupNat (((rs.filter fun w => w.err).filter fun w => !w.desk).map fun w => w.addr / 64))).trans ?_
  unfold State.settleReads
  refine State.agrees.modSlot k ?_ ?_ ?_ <;> rfl

theorem State.modSlot_id (s : State) (k : SlotId) : s.modSlot k id = s := by
  simp [State.modSlot, State.setSlot, State.slot]

/-! ### VFENCE, VSUSPEND, VRESUME and VDISCARD -/

section
variable {s : State} {i : StreamId} {k : SlotId} {f : VFmt} (h : s.clear i k) (hdelay : (s.slot k).delay = none)
  (hpc : (s.regs k).pc.getLsbD 2 = false) (hf : f = ⟨0, 0, 0, 0, 0, 0, 0, 0, 0, 0, 0⟩)
include h hdelay hpc hf

/-- An engine-control instruction that is well placed runs its body at once. -/
theorem State.clear.control (rs ws : List Reg) (body : State → SlotId → Done) :
    s.instruction i (controlInfo f rs ws) body = s.outcome k (controlInfo f rs ws) (body (s.start k) k) := by
  refine h.ready.instruction rfl body ?_ (h.interlocked _) rfl
  have hpc : (s.slot k).regs.pc.getLsbD 2 = false := hpc
  have hnone : (f.none && f.cnt == 0) = true := by rw [hf]; rfl
  simp only [Slot.decodeFault, controlInfo, h.chain_none, hdelay, hpc, hnone]
  simp

/-- One whose body has the effect `g` on the slot completes. -/
theorem State.clear.control_next {rs ws : List Reg} {body : State → SlotId → Done} (g : Slot → Slot) (hg : Slot.Plain g)
    (hb : body (s.start k) k = .next ((s.start k).modSlot k g)) :
    s.instruction i (controlInfo f rs ws) body = .next (s.after k 8 g) := by
  rw [h.control hdelay hpc hf, hb, h.ready.outcome_next _ hg]
  rfl

/-- One whose body traps takes the exception at itself. -/
theorem State.clear.control_trap {rs ws : List Reg} {body : State → SlotId → Done} {v : Byte} {c : BitVec 12}
    (hb : body (s.start k) k = .trap v c 0 0) :
    s.instruction i (controlInfo f rs ws) body = .next (s.trapped k ⟨v, (s.regs k).pc, false, 0, c, 0, 0⟩) := by
  rw [h.control hdelay hpc hf, hb]
  simp [State.outcome, State.trapped, Slot.excAt, Slot.here, h.chain_none, hdelay, State.regs]

theorem vfence_idle (hstop : (s.slot k).eng.stopped = false) (hq : (s.slot k).eng.queue = []) :
    exec (.vfence i f) s = .next (s.after k 8 id) := by
  rw [exec_vfence, execVfence, h.control_next hdelay hpc hf id Slot.Plain.id]
  simp [hstop, hq, State.modSlot_id]

theorem vfence_waits (hstop : (s.slot k).eng.stopped = false) (hq : (s.slot k).eng.queue ≠ []) :
    exec (.vfence i f) s = .next (s.modSlot k fun x => { x with waitAt := some .vfence }) := by
  rw [exec_vfence, execVfence, h.control hdelay hpc hf]
  simp [hstop, hq, State.outcome]

theorem vfence_met (hstop : (s.slot k).eng.stopped = true) (hw : (s.slot k).waitAt = some .vfence) :
    exec (.vfence i f) s = .next (s.trapped k ⟨0x0B, (s.regs k).pc, false, 0, (s.slot k).eng.cause.cause.zeroExtend 12, 0, 0⟩) := by
  rw [exec_vfence, execVfence, h.control_trap hdelay hpc hf]
  simp [hstop, hw]

theorem vfence_stopped (hstop : (s.slot k).eng.stopped = true) (hw : (s.slot k).waitAt = none) :
    exec (.vfence i f) s = .next (s.trapped k ⟨0x0A, (s.regs k).pc, false, 0, 0, 0, 0⟩) := by
  rw [exec_vfence, execVfence, h.control_trap hdelay hpc hf]
  simp [hstop, hw]

theorem vsuspend_running (hstop : (s.slot k).eng.stopped = false) (hq : (s.slot k).eng.queue ≠ []) :
    exec (.vsuspend i f) s = .next (s.after k 8 fun x => { x with eng := { x.eng with suspend := true } }) := by
  rw [exec_vsuspend, execVsuspend, h.control_next hdelay hpc hf (fun x => { x with eng := { x.eng with suspend := true } })
    ⟨fun _ => rfl, fun _ => rfl, fun _ => rfl, fun _ => rfl, fun _ => rfl, fun _ _ _ _ => rfl⟩]
  simp [State.modSlot_eq, hstop, hq]

theorem vsuspend_idle (hidle : (s.slot k).eng.stopped = true ∨ (s.slot k).eng.queue = []) :
    exec (.vsuspend i f) s = .next (s.after k 8 id) := by
  have : ((s.slot k).eng.stopped || (s.slot k).eng.queue.isEmpty) = true := by simpa using hidle
  rw [exec_vsuspend, execVsuspend, h.control_next hdelay hpc hf id Slot.Plain.id]
  simp only [State.modSlot_eq, State.start_slot_eng, this, if_true, id]

theorem vresume_running (hstop : (s.slot k).eng.stopped = false) : exec (.vresume i f) s = .next (s.after k 8 id) := by
  rw [exec_vresume, execVresume, h.control_next hdelay hpc hf id Slot.Plain.id]
  simp [State.modSlot_eq, Slot.resume, hstop]

theorem vdiscard_running (hstop : (s.slot k).eng.stopped = false) : exec (.vdiscard i f) s = .next (s.after k 8 id) := by
  rw [exec_vdiscard, execVdiscard, h.control_next hdelay hpc hf id Slot.Plain.id]
  simp [State.modSlot_eq, hstop]

/-- A resumed engine starts its front entry again at VX (02 R58). -/
theorem vresume_stopped {e : VEntry} {es : List VEntry} (hstop : (s.slot k).eng.stopped = true) (hq : (s.slot k).eng.queue = e :: es) :
    exec (.vresume i f) s = .next (s.after k 8 fun x => { x with eng := { x.eng with
      stopped := false
      cause := { x.eng.cause with valid := false }
      queue := { e with vx := x.regs.vx } :: es } }) := by
  rw [exec_vresume, execVresume, h.control_next hdelay hpc hf
    (fun x => { x with eng := { x.eng with
      stopped := false
      cause := { x.eng.cause with valid := false }
      queue := { e with vx := x.regs.vx } :: es } })
    ⟨fun _ => rfl, fun _ => rfl, fun _ => rfl, fun _ => rfl, fun _ => rfl, fun _ _ _ _ => rfl⟩]
  simp [State.modSlot_eq, Slot.resume, hstop, hq]

theorem vdiscard_stopped (hstop : (s.slot k).eng.stopped = true) :
    exec (.vdiscard i f) s = .next (s.after k 8 fun x => { x with regs := { x.regs with vx := 0 }, eng := x.eng.cleared }) := by
  rw [exec_vdiscard, execVdiscard, h.control_next hdelay hpc hf
    (fun x => { x with regs := { x.regs with vx := 0 }, eng := x.eng.cleared })
    ⟨fun _ => rfl, fun _ => rfl, fun _ => rfl, fun _ => rfl, fun _ => rfl, fun _ _ _ _ => rfl⟩]
  simp [State.modSlot_eq, hstop]

end

/-! ### Completed instructions and bytes -/

theorem Slot.completed_desk (x : Slot) (b : Bool) : (x.completed b).desk = x.desk := by
  rw [Slot.completed, Slot.enterLine_eq]

theorem Slot.completed_regs (x : Slot) (b : Bool) : (x.completed b).regs = x.regs := by
  rw [Slot.completed, Slot.enterLine_eq]

theorem Slot.completed_eng (x : Slot) (b : Bool) : (x.completed b).eng = x.eng := by
  rw [Slot.completed, Slot.enterLine_eq]

/-- A change of one slot that keeps its desk keeps every byte. -/
theorem State.sameBytes_modSlot (s : State) (k : SlotId) {g : Slot → Slot} (hg : (g (s.slot k)).desk.mem = (s.slot k).desk.mem) :
    s.sameBytes (s.modSlot k g) := by
  refine ⟨fun _ => rfl, fun j a => ?_, fun _ => rfl, fun _ _ => rfl⟩
  by_cases e : j = k
  · subst e; rw [State.modSlot_slot_same, hg]
  · rw [State.modSlot_slot_other _ _ _ _ e]

/-- PC and LC apart, an instruction that completes in sequence leaves the registers as its effect made them (07 R223, R238). -/
theorem Slot.sequence_regs (x : Slot) (n : Nat) : ∃ pc lc, (x.sequence n).regs = { x.regs with pc := pc, lc := lc } := by
  unfold Slot.sequence
  dsimp only
  split_ifs
  · exact ⟨_, _, rfl⟩
  · exact ⟨_, _, rfl⟩
  · exact ⟨_, _, rfl⟩

/-! ### Run-ahead (03 R81-R85) -/

/-- RUN_AHEAD_READ counts the next reads of its plan, and changes no register, no byte and no entry. -/
theorem runAheadRead_counts {s : State} {i : StreamId} {k : SlotId} {e₁ e : VEntry} {es : List VEntry} (n : Nat) (hi : s.slotOf i = some k)
    (hq : (s.slot k).eng.queue = e₁ :: e :: es) (hm : (s.slot k).mayRunAhead = true) (hd : s.drains k e₁ = true) :
    ∃ t, exec (.runAheadRead i n) s = .next t ∧ t.regs k = s.regs k ∧ s.sameBytes t ∧ (t.slot k).eng.queue = (s.slot k).eng.queue
      ∧ (t.slot k).eng.raIssued = (s.slot k).eng.raIssued.add
        ((((s.aheadPlan k e).drop ((s.slot k).eng.raHeld + (s.slot k).eng.raLines)).take n).filter fun w => !w.desk).length := by
  generalize hws : ((s.aheadPlan k e).drop ((s.slot k).eng.raHeld + (s.slot k).eng.raLines)).take n = ws
  have hread := State.agrees.settleReads s k (servedBy ws (s.aheadReads k e))
  generalize hu : s.settleReads k (servedBy ws (s.aheadReads k e)) = u at hread
  let counted : State := u.modSlot k fun x => { x with eng := { x.eng with
    raIssued := x.eng.raIssued.add (s.countAccesses ws).2.1
    raHeld := x.eng.raHeld + (s.countAccesses ws).2.1
    raLines := x.eng.raLines + (s.countAccesses ws).1 } }
  have hmeter := (State.agrees.meterStream counted k (40 * (s.countAccesses ws).1 + 1300 * (s.countAccesses ws).2.1)).trans
    (.meterOnlyStream _ k (1300 * (s.countAccesses ws).2.2))
  have hcounted : s.sameBytes counted := by
    have h := State.sameBytes_modSlot u k (g := fun x => { x with eng := { x.eng with
      raIssued := x.eng.raIssued.add (s.countAccesses ws).2.1
      raHeld := x.eng.raHeld + (s.countAccesses ws).2.1
      raLines := x.eng.raLines + (s.countAccesses ws).1 } }) rfl
    exact State.sameBytes_trans hread.sameBytes h
  refine ⟨_, ?_, (hmeter.regs k).trans ?_, State.sameBytes_trans hcounted hmeter.sameBytes, ?_, ?_⟩
  · rw [exec_runAheadRead]
    simp only [execRunAheadRead, hi, hq, hm, hd, hws, hu]
    rfl
  · exact (congrArg Slot.regs (State.modSlot_slot_same ..)).trans (hread.regs k)
  · rw [hmeter.eng, State.modSlot_slot_same]
    change (u.slot k).eng.queue = _
    rw [hread.eng]
  · rw [hmeter.eng, State.modSlot_slot_same, hread.eng]
    rfl

/-- Settles O35. -/
theorem engineControlRows : Obligations.EngineControlRows := by
  intro s i k f h hdelay hpc hf
  have hidle : ¬((s.slot k).eng.stopped = false ∧ (s.slot k).eng.queue ≠ []) → (s.slot k).eng.stopped = true ∨ (s.slot k).eng.queue = [] := by
    intro hn
    rcases hb : (s.slot k).eng.stopped with _ | _
    · exact .inr (not_not.1 fun hq => hn ⟨hb, hq⟩)
    · exact .inl rfl
  refine ⟨vfence_idle h hdelay hpc hf, fun ⟨hstop, hq⟩ => ⟨_, vfence_waits h hdelay hpc hf hstop hq, ?_, ?_, ?_⟩, vfence_met h hdelay hpc hf,
    vfence_stopped h hdelay hpc hf, fun ⟨hstop, hq⟩ => vsuspend_running h hdelay hpc hf hstop hq,
    fun hn => vsuspend_idle h hdelay hpc hf (hidle hn),
    fun hstop => ⟨vresume_running h hdelay hpc hf hstop, vdiscard_running h hdelay hpc hf hstop⟩,
    fun e es hstop hq => ?_, fun hstop => ⟨_, vdiscard_stopped h hdelay hpc hf hstop, ?_⟩,
    fun n e₁ e es hq hm hd => runAheadRead_counts n h.ready.slot hq hm hd⟩
  · rw [State.regs, State.modSlot_slot_same]; rfl
  · rw [State.modSlot_slot_same]
  · exact State.sameBytes_modSlot s k rfl
  · exact vresume_stopped h hdelay hpc hf hstop hq
  · obtain ⟨pc, lc, hregs⟩ := Slot.sequence_regs { (s.slot k).completed (s.moreLines k) with
      regs := { ((s.slot k).completed (s.moreLines k)).regs with vx := 0 }, eng := ((s.slot k).completed (s.moreLines k)).eng.cleared } 8
    refine ⟨?_, ?_, ?_, ?_, ?_, ?_, State.sameBytes_modSlot s k (congrArg Desk.mem (Slot.completed_desk _ _))⟩
    all_goals simp only [State.after, State.regs, State.modSlot_slot_same]
    · rfl
    · rfl
    · rfl
    all_goals rw [hregs]
    all_goals simp only [Slot.completed_regs]

end Sys2Proof.Machine
end

section
/-!
The forms that decode refuses: which rules an instruction's `Info` states, and what each of them raises (07 R250-R254).
-/

namespace Sys2Proof.Machine

/-! ### Instructions by their decode rules -/

/-- Command `c` is an instruction of Stream `i` with the decode rules `f`. -/
def decodesAs (c : Instr) (i : StreamId) (f : Info) : Prop := ∀ s : State, ∃ body, exec c s = s.instruction i f body

/-- The decode rules of an instruction of one word that may stand in a delay slot and end a loop. -/
def Info.anywhere (f : Info) : Prop :=
  f.size = 4 ∧ f.wide = false ∧ f.early = none ∧ f.slotOk = true ∧ f.endOk = true ∧ f.prefixOk = true ∧ f.soft = 0

/-- Those of one that may stand in no delay slot. -/
def Info.noSlot (f : Info) : Prop := f.early = none ∧ f.slotOk = false ∧ f.soft = 0

section
variable {s : State} {i : StreamId} {k : SlotId} (h : s.clear i k) {c : Instr} {f : Info}
include h

/-- What decode raises for an instruction that it refuses (07 R254). -/
theorem State.clear.decodeTraps {v : Byte} (hc : ∃ body, exec c s = s.instruction i f body) (he : f.early = none) (hs : f.soft = 0)
    (hd : (s.slot k).decodeFault f = some v) : exec c s = .next (s.raiseExc k ((s.slot k).excAt v 0 0 0)) := by
  obtain ⟨body, hexec⟩ := hc
  rw [hexec, h.ready.decodeTraps he body hd hs]

/-- A reserved field of an instruction that may stand anywhere. -/
theorem State.clear.reserved_anywhere (hp : (s.slot k).placed 4) (hc : decodesAs c i f) (ha : f.anywhere) (hf : f.fieldsOk = false) :
    exec c s = .next (s.raiseExc k ((s.slot k).excAt 1 0 0 0)) := by
  obtain ⟨hsize, hwide, he, hslot, hend, hpre, hs⟩ := ha
  refine h.decodeTraps (hc s) he hs ?_
  have hp : (s.slot k).delay = none ∨ (s.slot k).regs.lc = 0 ∨ (s.slot k).regs.pc + BitVec.ofNat 64 4 ≠ (s.slot k).regs.le := hp
  rcases hp with e | e | e <;> simp [Slot.decodeFault, Slot.atLoopEnd, hsize, hwide, hslot, hend, hpre, hf, h.chain_none, e]

/-- A reserved field of an instruction outside a delay slot, where the other rules of its place hold. -/
theorem State.clear.reserved_outside (hdelay : (s.slot k).delay = none) (hc : ∃ body, exec c s = s.instruction i f body)
    (he : f.early = none) (hs : f.soft = 0) (hend : f.endOk = true ∨ (s.slot k).notAtEnd f.size)
    (hwide : f.wide = true → (s.regs k).pc.getLsbD 2 = false) (hpre : f.prefixOk = true) (hf : f.fieldsOk = false) :
    exec c s = .next (s.raiseExc k ((s.slot k).excAt 1 0 0 0)) := by
  refine h.decodeTraps hc he hs ?_
  have hw : (f.wide && (s.slot k).regs.pc.getLsbD 2) = false := by
    cases e : f.wide with
    | false => rfl
    | true => exact hwide e
  have hend : ((s.slot k).atLoopEnd f.size && !f.endOk) = false := by
    rcases hend with e | e | e <;> simp [Slot.atLoopEnd, e]
  simp only [Slot.decodeFault, hw, hpre, hf, h.chain_none, hdelay]
  simpa using hend

/-- An instruction in a delay slot that none takes (07 R224). -/
theorem State.clear.illegal_in_slot (hdelay : (s.slot k).delay ≠ none) (hc : ∃ body, exec c s = s.instruction i f body) (hf : f.noSlot) :
    exec c s = .next (s.raiseExc k ((s.slot k).excAt 2 0 0 0)) := by
  obtain ⟨he, hslot, hs⟩ := hf
  refine h.decodeTraps hc he hs ?_
  have : (s.slot k).delay.isSome = true := Option.isSome_iff_ne_none.2 hdelay
  simp [Slot.decodeFault, hslot, this]

/-- A class-Fh word at an address with bit 2 set (07 R250). -/
theorem State.clear.illegal_misplaced (hpc : (s.regs k).pc.getLsbD 2 = true) (hc : decodesAs c i f) (hw : f.wide = true) (he : f.early = none)
    (hs : f.soft = 0) : exec c s = .next (s.raiseExc k ((s.slot k).excAt 2 0 0 0)) := by
  refine h.decodeTraps (hc s) he hs ?_
  have hpc : (s.slot k).regs.pc.getLsbD 2 = true := hpc
  simp only [Slot.decodeFault, hw, hpc, Bool.and_self, Bool.true_or, if_true]

/-- A REP that may not stand before the instruction (07 R243). -/
theorem State.clear.illegal_prefix (hdelay : (s.slot k).delay = none) (hc : ∃ body, exec c s = s.instruction i f body) (he : f.early = none)
    (hs : f.soft = 0) (hend : f.endOk = true) (hw : f.wide = false) (hf : f.prefixOk = false) :
    exec c s = .next (s.raiseExc k ((s.slot k).excAt 3 0 0 0)) := by
  refine h.decodeTraps hc he hs ?_
  simp [Slot.decodeFault, hw, hend, hf, h.chain_none, hdelay]

end

/-! ### The decode rules of each row -/

section
variable (i : StreamId)

theorem decodes_binary (f : RFmt) : ∀ row ∈ Rows.binary, decodesAs (row.1 i f) i f.info := by
  simp only [Rows.binary, List.forall_mem_cons, List.not_mem_nil, false_imp_iff, implies_true, and_true, decodesAs, exec_add, execAdd, exec_sub, execSub, exec_mul, execMul, exec_mulh, execMulh, exec_mulhu, execMulhu, exec_and, execAnd, exec_or, execOr, exec_xor, execXor, exec_andn, execAndn, exec_shl, execShl, exec_shr, execShr, exec_sar, execSar, exec_ror, execRor, exec_min, execMin, exec_max, execMax, exec_minu, execMinu, exec_maxu, execMaxu, State.binary, State.compute]
  and_intros <;> exact fun s => ⟨_, rfl⟩

theorem decodes_checked (f : RFmt) : ∀ row ∈ Rows.checked, decodesAs (row.1 i f) i f.infoTrap := by
  simp only [Rows.checked, List.forall_mem_cons, List.not_mem_nil, false_imp_iff, implies_true, and_true, decodesAs, exec_addv, execAddv, exec_subv, execSubv, exec_mulv, execMulv, State.checked]
  and_intros <;> exact fun s => ⟨_, rfl⟩

theorem decodes_divide (f : RFmt) : ∀ row ∈ Rows.divide, decodesAs (row.1 i f) i f.infoTrap := by
  simp only [Rows.divide, List.forall_mem_cons, List.not_mem_nil, false_imp_iff, implies_true, and_true, decodesAs, exec_divs, execDivs, exec_divu, execDivu, exec_rems, execRems, exec_remu, execRemu, State.divide]
  and_intros <;> exact fun s => ⟨_, rfl⟩

theorem decodes_unary (f : RFmt) : ∀ row ∈ Rows.unary, decodesAs (row.1 i f) i f.info1 := by
  simp only [Rows.unary, List.forall_mem_cons, List.not_mem_nil, false_imp_iff, implies_true, and_true, decodesAs, exec_popc, execPopc, exec_parity, execParity, exec_brev, execBrev, exec_clz, execClz, exec_ctz, execCtz, State.unary, State.compute]
  and_intros <;> exact fun s => ⟨_, rfl⟩

theorem decodes_extend (f : RFmt) : ∀ row ∈ Rows.extend, decodesAs (row.1 i f) i f.infoExt := by
  simp only [Rows.extend, List.forall_mem_cons, List.not_mem_nil, false_imp_iff, implies_true, and_true, decodesAs, exec_sext, execSext, exec_zext, execZext, State.compute]
  and_intros <;> exact fun s => ⟨_, rfl⟩

theorem decodes_shift (f : IFmt) : ∀ row ∈ Rows.shift, decodesAs (row.1 i f) i f.infoShift := by
  simp only [Rows.shift, List.forall_mem_cons, List.not_mem_nil, false_imp_iff, implies_true, and_true, decodesAs, exec_shli, execShli, exec_shri, execShri, exec_sari, execSari, exec_rori, execRori, State.shiftImm, State.compute]
  and_intros <;> exact fun s => ⟨_, rfl⟩

theorem decodes_float (f : FFmt) : ∀ row ∈ Rows.float, decodesAs (row.1 i f) i f.info := by
  simp only [Rows.float, List.forall_mem_cons, List.not_mem_nil, false_imp_iff, implies_true, and_true, decodesAs, exec_fadd, execFadd, exec_fsub, execFsub, exec_fmul, execFmul, exec_fdiv, execFdiv, State.float2, State.checked]
  and_intros <;> exact fun s => ⟨_, rfl⟩

theorem decodes_float1 (f : FFmt) : ∀ row ∈ Rows.float1, decodesAs (row.1 i f) i f.info1 := by
  simp only [Rows.float1, List.forall_mem_cons, List.not_mem_nil, false_imp_iff, implies_true, and_true, decodesAs, exec_fsqrt, execFsqrt, exec_frint, execFrint, State.checked]
  and_intros <;> exact fun s => ⟨_, rfl⟩

theorem decodes_floatMin (f : FFmt) : ∀ row ∈ Rows.floatMin, decodesAs (row.1 i f) i f.infoMin := by
  simp only [Rows.floatMin, List.forall_mem_cons, List.not_mem_nil, false_imp_iff, implies_true, and_true, decodesAs, exec_fmin, execFmin, exec_fmax, execFmax, State.floatMin, State.checked]
  and_intros <;> exact fun s => ⟨_, rfl⟩

theorem decodes_floatBits (f : FFmt) : ∀ row ∈ Rows.floatBits, decodesAs (row.1 i f) i f.infoBits ∨ decodesAs (row.1 i f) i f.infoClass := by
  simp only [Rows.floatBits, List.forall_mem_cons, List.not_mem_nil, false_imp_iff, implies_true, and_true, decodesAs, exec_fabs, execFabs,
    exec_fneg, execFneg, exec_fclass, execFclass, State.compute, State.checked]
  exact ⟨.inl fun s => ⟨_, rfl⟩, .inl fun s => ⟨_, rfl⟩, .inr fun s => ⟨_, rfl⟩⟩

theorem decodes_floatCmp (f : FFmt) : ∀ row ∈ Rows.floatCmp, decodesAs (row.1 i f) i f.infoCmp := by
  simp only [Rows.floatCmp, List.forall_mem_cons, List.not_mem_nil, false_imp_iff, implies_true, and_true, decodesAs, exec_fcmp, execFcmp, exec_fcmps, execFcmps, State.floatCmp, State.checked]
  and_intros <;> exact fun s => ⟨_, rfl⟩

theorem decodes_fused (f : F4Fmt) : ∀ row ∈ Rows.fused, decodesAs (row.1 i f) i f.info := by
  simp only [Rows.fused, List.forall_mem_cons, List.not_mem_nil, false_imp_iff, implies_true, and_true, decodesAs, exec_fma, execFma, exec_fms, execFms, exec_fnma, execFnma, State.fused, State.checked]
  and_intros <;> exact fun s => ⟨_, rfl⟩

theorem decodes_vector (f : VFmt) : ∀ row ∈ Rows.vector, decodesAs (row.1 i f) i (vecInfo row.2 f) :=
  fun row hr s => ⟨_, exec_of_vectorRow s i f row hr⟩

theorem decodes_chain (f : VFmt) : decodesAs (.chain i f) i (chainInfo f) := fun s => ⟨_, execChain_eq i f s⟩

/-- The engine-control instructions differ in the registers that they read or write alone. -/
theorem decodes_control (f : VFmt) (s : State) : ∀ c ∈ [Instr.vfence i f, .vsuspend i f, .vresume i f, .vdiscard i f],
    ∃ rs ws body, exec c s = s.instruction i (controlInfo f rs ws) body := by
  simp only [List.forall_mem_cons, List.not_mem_nil, false_imp_iff, implies_true, and_true, exec_vfence, execVfence, exec_vsuspend, execVsuspend,
    exec_vresume, execVresume, exec_vdiscard, execVdiscard]
  exact ⟨⟨_, _, _, rfl⟩, ⟨_, _, _, rfl⟩, ⟨_, _, _, rfl⟩, ⟨_, _, _, rfl⟩⟩

end

end Sys2Proof.Machine
end

section
/-!
The rows that a reserved field makes raise Reserved Field, by the place where each of them may stand, and the obligation about all of them.
-/

namespace Sys2Proof.Machine

/-! ### Rows that may stand anywhere -/

/-- Command `c` of Stream `i` may stand anywhere, and decode takes it only with fields that keep `ok`. -/
def fieldRule (c : Instr) (i : StreamId) (ok : Prop) : Prop := ∃ f : Info, decodesAs c i f ∧ f.anywhere ∧ (f.fieldsOk = true → ok)

theorem State.clear.reserved_of_rule {s : State} {i : StreamId} {k : SlotId} (h : s.clear i k) (hp : (s.slot k).placed 4) {c : Instr} {ok : Prop}
    (hc : fieldRule c i ok) (hbad : ¬ok) : exec c s = .next (s.raiseExc k ((s.slot k).excAt 1 0 0 0)) := by
  obtain ⟨f, hdec, ha, hok⟩ := hc
  exact h.reserved_anywhere hp hdec ha (Bool.eq_false_iff.2 fun e => hbad (hok e))

section
variable (i : StreamId)

theorem fieldRule_carry (f : RFmt) : ∀ c ∈ [Instr.addc i f, .subc i f, .mulw i f, .mulwu i f], fieldRule c i (f.w = 0 ∧ f.rsv = 0) := by
  have hc : f.infoCarry.fieldsOk = true → f.w = 0 ∧ f.rsv = 0 := fun h => by simpa [RFmt.infoCarry] using h
  have hp : f.infoPair.fieldsOk = true → f.w = 0 ∧ f.rsv = 0 := fun h => by
    have : (f.w = 0 ∧ f.rsv = 0) ∧ f.rd.toNat % 2 = 0 := by simpa [RFmt.infoPair] using h
    exact this.1
  simp only [List.forall_mem_cons, List.not_mem_nil, false_imp_iff, implies_true, and_true]
  exact ⟨⟨_, fun s => ⟨_, by rw [exec_addc, execAddc, State.compute]⟩, ⟨rfl, rfl, rfl, rfl, rfl, rfl, rfl⟩, hc⟩,
    ⟨_, fun s => ⟨_, by rw [exec_subc, execSubc, State.compute]⟩, ⟨rfl, rfl, rfl, rfl, rfl, rfl, rfl⟩, hc⟩,
    ⟨_, fun s => ⟨_, by rw [exec_mulw, execMulw, State.compute]⟩, ⟨rfl, rfl, rfl, rfl, rfl, rfl, rfl⟩, hp⟩,
    ⟨_, fun s => ⟨_, by rw [exec_mulwu, execMulwu, State.compute]⟩, ⟨rfl, rfl, rfl, rfl, rfl, rfl, rfl⟩, hp⟩⟩

theorem fieldRule_cmp (f : RFmt) : fieldRule (.cmp i f) i (f.w = 0 ∧ f.rsv = 0 ∧ f.rd = 0) :=
  ⟨_, fun s => ⟨_, by rw [exec_cmp, execCmp, State.compute]⟩, ⟨rfl, rfl, rfl, rfl, rfl, rfl, rfl⟩, fun h => by
    simpa [RFmt.infoCmp, and_assoc] using h⟩

theorem fieldRule_crc (f : RFmt) : ∀ c ∈ [Instr.crc32c i f, .crc64 i f], fieldRule c i (f.rsv = 0) := by
  have hc : f.infoCrc.fieldsOk = true → f.rsv = 0 := fun h => by simpa [RFmt.infoCrc] using h
  simp only [List.forall_mem_cons, List.not_mem_nil, false_imp_iff, implies_true, and_true]
  exact ⟨⟨_, fun s => ⟨_, by rw [exec_crc32c, execCrc32c, State.compute]⟩, ⟨rfl, rfl, rfl, rfl, rfl, rfl, rfl⟩, hc⟩,
    ⟨_, fun s => ⟨_, by rw [exec_crc64, execCrc64, State.compute]⟩, ⟨rfl, rfl, rfl, rfl, rfl, rfl, rfl⟩, hc⟩⟩

theorem fieldRule_cmpi (f : IFmt) : fieldRule (.cmpi i f) i (f.rd = 0) :=
  ⟨_, fun s => ⟨_, by rw [exec_cmpi, execCmpi, State.compute]⟩, ⟨rfl, rfl, rfl, rfl, rfl, rfl, rfl⟩, fun h => by simpa using h⟩

theorem fieldRule_imm (f : WFmt) : ∀ c ∈ [Instr.imms i f, .immx i f], fieldRule c i (f.rsv = 0) := by
  simp only [List.forall_mem_cons, List.not_mem_nil, false_imp_iff, implies_true, and_true]
  exact ⟨⟨_, fun s => ⟨_, by rw [exec_imms, execImms, State.compute]⟩, ⟨rfl, rfl, rfl, rfl, rfl, rfl, rfl⟩, fun h => by simpa using h⟩,
    ⟨_, fun s => ⟨_, by rw [exec_immx, execImmx, State.compute]⟩, ⟨rfl, rfl, rfl, rfl, rfl, rfl, rfl⟩, fun h => by simpa using h⟩⟩

theorem fieldRule_scaled (f : ARFmt) : ∀ c ∈ [Instr.addar i f, .subar i f], fieldRule c i (f.rsv = 0) := by
  have hc : f.info.fieldsOk = true → f.rsv = 0 := fun h => by simpa [ARFmt.info] using h
  simp only [List.forall_mem_cons, List.not_mem_nil, false_imp_iff, implies_true, and_true]
  exact ⟨⟨_, fun s => ⟨_, by rw [exec_addar, execAddar, State.compute]⟩, ⟨rfl, rfl, rfl, rfl, rfl, rfl, rfl⟩, hc⟩,
    ⟨_, fun s => ⟨_, by rw [exec_subar, execSubar, State.compute]⟩, ⟨rfl, rfl, rfl, rfl, rfl, rfl, rfl⟩, hc⟩⟩

theorem fieldRule_cmpa (f : ARFmt) : fieldRule (.cmpa i f) i (f.ad = 0 ∧ f.sc = 0 ∧ f.rsv = 0) :=
  ⟨_, fun s => ⟨_, by rw [exec_cmpa, execCmpa, State.compute]⟩, ⟨rfl, rfl, rfl, rfl, rfl, rfl, rfl⟩, fun h => by simpa [and_assoc] using h⟩

theorem fieldRule_leapc (f : AFmt) : fieldRule (.leapc i f) i (f.aa = 0) :=
  ⟨_, fun s => ⟨_, by rw [exec_leapc, execLeapc, State.compute]⟩, ⟨rfl, rfl, rfl, rfl, rfl, rfl, rfl⟩, fun h => by simpa using h⟩

theorem fieldRule_movad (f : AXFmt) : fieldRule (.movad i f) i (f.aa = 0 ∧ f.rsv = 0) :=
  ⟨_, fun s => ⟨_, by rw [exec_movad, execMovad, State.compute]⟩, ⟨rfl, rfl, rfl, rfl, rfl, rfl, rfl⟩, fun h => by simpa using h⟩

theorem fieldRule_movda (f : AXFmt) : fieldRule (.movda i f) i (f.ad = 0 ∧ f.rsv = 0) :=
  ⟨_, fun s => ⟨_, by rw [exec_movda, execMovda, State.compute]⟩, ⟨rfl, rfl, rfl, rfl, rfl, rfl, rfl⟩, fun h => by simpa using h⟩

theorem fieldRule_fcvt (f : FCFmt) : fieldRule (.fcvt i f) i
    (f.rsv = 0 ∧ f.rnd.toNat < 6 ∧ f.dt.toNat < 10 ∧ f.st.toNat < 10 ∧ (f.dt.toNat < 4 ∨ f.st.toNat < 4)) := by
  have hF : ∀ n : Nat, isF n = true → n < 4 := fun n h => by
    by_contra hn
    simp [isF, floatOf, show n ≠ 0 by omega, show n ≠ 1 by omega, show n ≠ 2 by omega, show n ≠ 3 by omega] at h
  refine ⟨_, fun s => ⟨_, by rw [exec_fcvt, execFcvt, State.checked]⟩, ⟨rfl, rfl, rfl, rfl, rfl, rfl, rfl⟩, fun h => ?_⟩
  have h : ((((f.rsv = 0 ∧ f.rnd.toNat < 6) ∧ f.dt.toNat < 10) ∧ f.st.toNat < 10) ∧ (isF f.dt.toNat = true ∨ isF f.st.toNat = true)) := by
    simpa [FCFmt.info] using h
  obtain ⟨⟨⟨⟨hr, hm⟩, hd⟩, hs⟩, hF'⟩ := h
  exact ⟨hr, hm, hd, hs, hF'.imp (hF _) (hF _)⟩

theorem fieldRule_qclr (f : QFmt) : fieldRule (.qclr i f) i (f.qm = 0 ∧ f.rd = 0 ∧ f.rnd = 0 ∧ f.rsv = 0) :=
  ⟨_, fun s => ⟨_, by rw [exec_qclr, execQclr, State.compute]⟩, ⟨rfl, rfl, rfl, rfl, rfl, rfl, rfl⟩, fun h => by simpa [and_assoc] using h⟩

theorem fieldRule_qaddd (f : QFmt) : fieldRule (.qaddd i f) i (f.qm = 0 ∧ f.rnd = 0 ∧ f.rsv = 0) :=
  ⟨_, fun s => ⟨_, by rw [exec_qaddd, execQaddd, State.checked]⟩, ⟨rfl, rfl, rfl, rfl, rfl, rfl, rfl⟩, fun h => by simpa [and_assoc] using h⟩

theorem fieldRule_qaddq (f : QFmt) : fieldRule (.qaddq i f) i (f.rd = 0 ∧ f.rnd = 0 ∧ f.rsv = 0) :=
  ⟨_, fun s => ⟨_, by rw [exec_qaddq, execQaddq, State.checked]⟩, ⟨rfl, rfl, rfl, rfl, rfl, rfl, rfl⟩, fun h => by simpa [and_assoc] using h⟩

theorem fieldRule_qrnd (f : QFmt) : fieldRule (.qrnd i f) i (f.qm = 0 ∧ f.rnd.toNat < 6 ∧ f.rsv = 0) :=
  ⟨_, fun s => ⟨_, by rw [exec_qrnd, execQrnd, State.checked]⟩, ⟨rfl, rfl, rfl, rfl, rfl, rfl, rfl⟩, fun h => by simpa [and_assoc] using h⟩

theorem fieldRule_addressFile (f : MFmt) : ∀ c ∈ [Instr.lda i f, .sta i f], fieldRule c i (f.rd.toNat < 16) := by
  simp only [List.forall_mem_cons, List.not_mem_nil, false_imp_iff, implies_true, and_true]
  exact ⟨⟨_, fun s => ⟨_, by rw [exec_lda, execLda, State.load]⟩, ⟨rfl, rfl, rfl, rfl, rfl, rfl, rfl⟩, of_decide_eq_true⟩,
    ⟨_, fun s => ⟨_, by rw [exec_sta, execSta, State.store]⟩, ⟨rfl, rfl, rfl, rfl, rfl, rfl, rfl⟩, of_decide_eq_true⟩⟩

theorem fieldRule_vectorFile (f : MFmt) : ∀ c ∈ [Instr.ldv i f, .stv i f], fieldRule c i (f.rd.toNat < 8) := by
  simp only [List.forall_mem_cons, List.not_mem_nil, false_imp_iff, implies_true, and_true]
  exact ⟨⟨_, fun s => ⟨_, by rw [exec_ldv, execLdv, State.load]⟩, ⟨rfl, rfl, rfl, rfl, rfl, rfl, rfl⟩, of_decide_eq_true⟩,
    ⟨_, fun s => ⟨_, by rw [exec_stv, execStv, State.store]⟩, ⟨rfl, rfl, rfl, rfl, rfl, rfl, rfl⟩, of_decide_eq_true⟩⟩

theorem fieldRule_accumulatorFile (f : MFmt) : ∀ c ∈ [Instr.qld i f, .qst i f], fieldRule c i (f.rd.toNat < 4) := by
  simp only [List.forall_mem_cons, List.not_mem_nil, false_imp_iff, implies_true, and_true]
  exact ⟨⟨_, fun s => ⟨_, by rw [exec_qld, execQld]⟩, ⟨rfl, rfl, rfl, rfl, rfl, rfl, rfl⟩, of_decide_eq_true⟩,
    ⟨_, fun s => ⟨_, by rw [exec_qst, execQst]⟩, ⟨rfl, rfl, rfl, rfl, rfl, rfl, rfl⟩, of_decide_eq_true⟩⟩

theorem fieldRule_mfs (f : XFmt) : fieldRule (.mfs i f) i (f.imm = 0 ∧ f.sn.toNat ≤ 10) :=
  ⟨_, fun s => ⟨_, by rw [exec_mfs, execMfs]⟩, ⟨rfl, rfl, rfl, rfl, rfl, rfl, rfl⟩, fun h => by simpa [XFmt.infoMfs] using h⟩

theorem fieldRule_mts (f : XFmt) : fieldRule (.mts i f) i (f.imm = 0 ∧ 1 ≤ f.sn.toNat ∧ f.sn.toNat ≤ 10) :=
  ⟨_, fun s => ⟨_, by rw [exec_mts, execMts]⟩, ⟨rfl, rfl, rfl, rfl, rfl, rfl, rfl⟩, fun h => by
    simpa [XFmt.infoMts, and_assoc, Nat.one_le_iff_ne_zero] using h⟩

theorem xfmt_eq_of_none {f : XFmt} (h : f.none = true) : f = ⟨0, 0, 0⟩ := by
  obtain ⟨rd, sn, imm⟩ := f
  simpa [XFmt.none, and_assoc] using h

theorem fieldRule_unused (f : XFmt) : ∀ c ∈ [Instr.nop i f, .setc i f, .clrc i f], fieldRule c i (f = ⟨0, 0, 0⟩) := by
  simp only [List.forall_mem_cons, List.not_mem_nil, false_imp_iff, implies_true, and_true]
  exact ⟨⟨_, fun s => ⟨_, by rw [exec_nop, execNop, State.compute]⟩, ⟨rfl, rfl, rfl, rfl, rfl, rfl, rfl⟩, xfmt_eq_of_none⟩,
    ⟨_, fun s => ⟨_, by rw [exec_setc, execSetc, State.compute]⟩, ⟨rfl, rfl, rfl, rfl, rfl, rfl, rfl⟩, xfmt_eq_of_none⟩,
    ⟨_, fun s => ⟨_, by rw [exec_clrc, execClrc, State.compute]⟩, ⟨rfl, rfl, rfl, rfl, rfl, rfl, rfl⟩, xfmt_eq_of_none⟩⟩

theorem fieldRule_binary (f : RFmt) (row) (hr : row ∈ Rows.binary) : fieldRule (row.1 i f) i (f.w = 0 ∧ f.rsv = 0) :=
  ⟨_, decodes_binary i f row hr, ⟨rfl, rfl, rfl, rfl, rfl, rfl, rfl⟩, fun h => by simpa [RFmt.info] using h⟩

theorem fieldRule_checked (f : RFmt) (row) (hr : row ∈ Rows.checked) : fieldRule (row.1 i f) i (f.w = 0 ∧ f.rsv = 0) :=
  ⟨_, decodes_checked i f row hr, ⟨rfl, rfl, rfl, rfl, rfl, rfl, rfl⟩, fun h => by simpa [RFmt.infoTrap] using h⟩

theorem fieldRule_divide (f : RFmt) (row) (hr : row ∈ Rows.divide) : fieldRule (row.1 i f) i (f.w = 0 ∧ f.rsv = 0) :=
  ⟨_, decodes_divide i f row hr, ⟨rfl, rfl, rfl, rfl, rfl, rfl, rfl⟩, fun h => by simpa [RFmt.infoTrap] using h⟩

theorem fieldRule_unary (f : RFmt) (row) (hr : row ∈ Rows.unary) : fieldRule (row.1 i f) i (f.w = 0 ∧ f.rsv = 0 ∧ f.rb = 0) :=
  ⟨_, decodes_unary i f row hr, ⟨rfl, rfl, rfl, rfl, rfl, rfl, rfl⟩, fun h => by simpa [RFmt.info1, and_assoc] using h⟩

theorem fieldRule_extend (f : RFmt) (row) (hr : row ∈ Rows.extend) : fieldRule (row.1 i f) i (f.w ≠ 3 ∧ f.rsv = 0 ∧ f.rb = 0) :=
  ⟨_, decodes_extend i f row hr, ⟨rfl, rfl, rfl, rfl, rfl, rfl, rfl⟩, fun h => by simpa [RFmt.infoExt, and_assoc] using h⟩

theorem fieldRule_shift (f : IFmt) (row) (hr : row ∈ Rows.shift) : fieldRule (row.1 i f) i (f.imm.toNat < 64) :=
  ⟨_, decodes_shift i f row hr, ⟨rfl, rfl, rfl, rfl, rfl, rfl, rfl⟩, of_decide_eq_true⟩

theorem fieldRule_float (f : FFmt) (row) (hr : row ∈ Rows.float) : fieldRule (row.1 i f) i (f.rsv = 0 ∧ f.rnd.toNat < 6) :=
  ⟨_, decodes_float i f row hr, ⟨rfl, rfl, rfl, rfl, rfl, rfl, rfl⟩, fun h => by simpa [FFmt.info] using h⟩

theorem fieldRule_float1 (f : FFmt) (row) (hr : row ∈ Rows.float1) : fieldRule (row.1 i f) i (f.rsv = 0 ∧ f.rnd.toNat < 6 ∧ f.rb = 0) :=
  ⟨_, decodes_float1 i f row hr, ⟨rfl, rfl, rfl, rfl, rfl, rfl, rfl⟩, fun h => by simpa [FFmt.info1, and_assoc] using h⟩

theorem fieldRule_floatMin (f : FFmt) (row) (hr : row ∈ Rows.floatMin) : fieldRule (row.1 i f) i (f.rsv = 0 ∧ f.rnd = 0) :=
  ⟨_, decodes_floatMin i f row hr, ⟨rfl, rfl, rfl, rfl, rfl, rfl, rfl⟩, fun h => by simpa [FFmt.infoMin] using h⟩

theorem fieldRule_floatBits (f : FFmt) (row) (hr : row ∈ Rows.floatBits) : fieldRule (row.1 i f) i (f.rsv = 0 ∧ f.rnd = 0 ∧ f.rb = 0) := by
  rcases decodes_floatBits i f row hr with hd | hd
  · exact ⟨_, hd, ⟨rfl, rfl, rfl, rfl, rfl, rfl, rfl⟩, fun h => by simpa [FFmt.infoBits, and_assoc] using h⟩
  · exact ⟨_, hd, ⟨rfl, rfl, rfl, rfl, rfl, rfl, rfl⟩, fun h => by simpa [FFmt.infoClass, and_assoc] using h⟩

theorem fieldRule_floatCmp (f : FFmt) (row) (hr : row ∈ Rows.floatCmp) : fieldRule (row.1 i f) i (f.rsv = 0 ∧ f.rnd = 0 ∧ f.rd = 0) :=
  ⟨_, decodes_floatCmp i f row hr, ⟨rfl, rfl, rfl, rfl, rfl, rfl, rfl⟩, fun h => by simpa [FFmt.infoCmp, and_assoc] using h⟩

theorem fieldRule_fused (f : F4Fmt) (row) (hr : row ∈ Rows.fused) : fieldRule (row.1 i f) i (f.rsv = 0) :=
  ⟨_, decodes_fused i f row hr, ⟨rfl, rfl, rfl, rfl, rfl, rfl, rfl⟩, fun h => by simpa [F4Fmt.info] using h⟩

end

/-! ### Rows that may not stand in a delay slot -/

section
variable {s : State} {i : StreamId} {k : SlotId} (h : s.clear i k)
include h

/-- Rows that may stand neither in a delay slot nor before LE of a loop (07 R224, R239). -/
theorem State.clear.reserved_branch (hb : (s.slot k).mayBranch) :
    (∀ f : BFmt, f.cond = 15 → exec (.bcc i f) s = .next (s.raiseExc k ((s.slot k).excAt 1 0 0 0)))
    ∧ (∀ f : AFmt, f.ad ≠ 0 → exec (.jr i f) s = .next (s.raiseExc k ((s.slot k).excAt 1 0 0 0)))
    ∧ (∀ f : LoopRFmt, f.rsv ≠ 0 → exec (.loopr i f) s = .next (s.raiseExc k ((s.slot k).excAt 1 0 0 0)))
    ∧ ∀ f : XFmt, f ≠ ⟨0, 0, 0⟩ → exec (.rte i f) s = .next (s.raiseExc k ((s.slot k).excAt 1 0 0 0))
      ∧ exec (.endLesson i f) s = .next (s.raiseExc k ((s.slot k).excAt 1 0 0 0)) := by
  obtain ⟨hdelay, hend⟩ := hb
  have go : ∀ {c : Instr} {f : Info}, (∃ body, exec c s = s.instruction i f body) → f.early = none → f.soft = 0 → f.size = 4 → f.wide = false →
      f.prefixOk = true → f.fieldsOk = false → exec c s = .next (s.raiseExc k ((s.slot k).excAt 1 0 0 0)) :=
    fun hc he hs hsize hw hp hf => h.reserved_outside hdelay hc he hs (.inr (hsize ▸ hend)) (fun e => by simp [hw] at e) hp hf
  refine ⟨fun f hf => ?_, fun f hf => ?_, fun f hf => ?_, fun f hf => ?_⟩
  · exact go ⟨_, by rw [exec_bcc, execBcc, State.branchTo]⟩ rfl rfl rfl rfl rfl (by simp [branchInfo, hf])
  · exact go ⟨_, by rw [exec_jr, execJr, State.jumpReg]⟩ rfl rfl rfl rfl rfl (by simpa [branchInfo] using hf)
  · exact go ⟨_, by rw [exec_loopr, execLoopr, State.loop]⟩ rfl rfl rfl rfl rfl (by simpa [loopInfo] using fun _ => hf)
  · have hnone : f.none = false := Bool.eq_false_iff.2 fun e => hf (xfmt_eq_of_none e)
    exact ⟨go ⟨_, by rw [exec_rte, execRte]⟩ rfl rfl rfl rfl rfl hnone, go ⟨_, by rw [exec_endLesson, execEndLesson]⟩ rfl rfl rfl rfl rfl hnone⟩

/-- Rows that may stand before LE of a loop, but in no delay slot (07 R224). -/
theorem State.clear.reserved_system (hdelay : (s.slot k).delay = none) (f : XFmt) :
    (f ≠ ⟨0, 0, 0⟩ → exec (.fence i f) s = .next (s.raiseExc k ((s.slot k).excAt 1 0 0 0))
      ∧ exec (.iflush i f) s = .next (s.raiseExc k ((s.slot k).excAt 1 0 0 0))
      ∧ exec (.bkpt i f) s = .next (s.raiseExc k ((s.slot k).excAt 1 0 0 0)))
    ∧ (f.rd ≠ 0 ∨ f.sn ≠ 0 → exec (.trap i f) s = .next (s.raiseExc k ((s.slot k).excAt 1 0 0 0))) := by
  have go : ∀ {c : Instr} {f : Info}, (∃ body, exec c s = s.instruction i f body) → f.early = none → f.soft = 0 → f.endOk = true → f.wide = false →
      f.prefixOk = true → f.fieldsOk = false → exec c s = .next (s.raiseExc k ((s.slot k).excAt 1 0 0 0)) :=
    fun hc he hs hend hw hp hf => h.reserved_outside hdelay hc he hs (.inl hend) (fun e => by simp [hw] at e) hp hf
  refine ⟨fun hf => ?_, fun hf => ?_⟩
  · have hnone : f.none = false := Bool.eq_false_iff.2 fun e => hf (xfmt_eq_of_none e)
    exact ⟨go ⟨_, by rw [exec_fence, execFence]⟩ rfl rfl rfl rfl rfl hnone, go ⟨_, by rw [exec_iflush, execIflush]⟩ rfl rfl rfl rfl rfl hnone,
      go ⟨_, by rw [exec_bkpt, execBkpt]⟩ rfl rfl rfl rfl rfl hnone⟩
  · refine go ⟨_, by rw [exec_trap, execTrap]⟩ rfl rfl rfl rfl rfl (Bool.eq_false_iff.2 fun e => ?_)
    have : f.rd = 0 ∧ f.sn = 0 := by simpa [XFmt.infoTrap] using e
    tauto

/-- A string instruction alone decodes by the fields of its operation (07 R252). -/
theorem State.clear.reserved_string (hdelay : (s.slot k).delay = none) {c : Instr} {f : SFmt} {op : StringOp}
    (hc : exec c s = s.stringOne i op f) (hf : f.fieldsOk op = false) : exec c s = .next (s.raiseExc k ((s.slot k).excAt 1 0 0 0)) :=
  h.reserved_outside hdelay ⟨_, by rw [hc, State.stringOne]⟩ rfl rfl (.inl rfl) (fun e => by cases e) rfl hf

theorem State.clear.reserved_strings (hdelay : (s.slot k).delay = none) (f : SFmt) :
    (f.rsv ≠ 0 ∨ f.ck ≠ 0 → exec (.movs i f) s = .next (s.raiseExc k ((s.slot k).excAt 1 0 0 0))
      ∧ exec (.fills i f) s = .next (s.raiseExc k ((s.slot k).excAt 1 0 0 0)) ∧ exec (.cmps i f) s = .next (s.raiseExc k ((s.slot k).excAt 1 0 0 0))
      ∧ exec (.scans i f) s = .next (s.raiseExc k ((s.slot k).excAt 1 0 0 0)))
    ∧ (f.rd ≠ 0 → exec (.movs i f) s = .next (s.raiseExc k ((s.slot k).excAt 1 0 0 0))
      ∧ exec (.cmps i f) s = .next (s.raiseExc k ((s.slot k).excAt 1 0 0 0)))
    ∧ (f.rsv ≠ 0 → exec (.crcs i f) s = .next (s.raiseExc k ((s.slot k).excAt 1 0 0 0))) := by
  have hmovs : f.rsv ≠ 0 ∨ f.ck ≠ 0 ∨ f.rd ≠ 0 → f.fieldsOk .movs = false := fun hf => by simp [SFmt.fieldsOk]; tauto
  have hcmps : f.rsv ≠ 0 ∨ f.ck ≠ 0 ∨ f.rd ≠ 0 → f.fieldsOk .cmps = false := fun hf => by simp [SFmt.fieldsOk]; tauto
  have hfills : f.rsv ≠ 0 ∨ f.ck ≠ 0 → f.fieldsOk .fills = false := fun hf => by simp [SFmt.fieldsOk]; tauto
  have hscans : f.rsv ≠ 0 ∨ f.ck ≠ 0 → f.fieldsOk .scans = false := fun hf => by simp [SFmt.fieldsOk]; tauto
  have hcrcs : f.rsv ≠ 0 → f.fieldsOk .crcs = false := fun hf => by simpa [SFmt.fieldsOk] using hf
  exact ⟨fun hf => ⟨h.reserved_string hdelay rfl (hmovs (hf.imp_right .inl)), h.reserved_string hdelay rfl (hfills hf),
      h.reserved_string hdelay rfl (hcmps (hf.imp_right .inl)), h.reserved_string hdelay rfl (hscans hf)⟩,
    fun hf => ⟨h.reserved_string hdelay rfl (hmovs (.inr (.inr hf))), h.reserved_string hdelay rfl (hcmps (.inr (.inr hf)))⟩,
    fun hf => h.reserved_string hdelay rfl (hcrcs hf)⟩

/-- What a REP raises where the word after it can be fetched (07 R243, R244, R254). -/
theorem State.clear.rep_refused (hdelay : (s.slot k).delay = none) (f : PFmt) (iters : Nat) (hb : s.badByte ((s.regs k).pc + 4).toNat 1 = none)
    (next : AfterRep) :
    (repPrefixOk f.untl next = false → exec (.rep i f next iters) s = .next (s.raiseExc k ((s.slot k).excAt 3 0 0 0)))
    ∧ (∀ op g, next = .string op g → repPrefixOk f.untl next = true → f.rsv ≠ 0 ∨ f.untl = 14 ∨ g.fieldsOk op = false →
      exec (.rep i f next iters) s = .next (s.raiseExc k ((s.slot k).excAt 1 0 0 0))) := by
  have hc : ∃ body, exec (.rep i f next iters) s = s.instruction i
      { repInfo f next ((s.slotOf i).any fun k => (s.regs k).getA 10 == 0) with early := s.noString i } body := ⟨_, by rw [exec_rep, execRep]⟩
  have he : s.noString i = none := by
    simp only [State.noString, h.ready.slot, hb]
    simp
  generalize ((s.slotOf i).any fun k => (s.regs k).getA 10 == 0) = none10 at hc
  refine ⟨fun hp => ?_, ?_⟩
  · cases next with
    | string op g => exact h.illegal_prefix hdelay hc he rfl rfl rfl hp
    | rep => exact h.illegal_prefix hdelay hc he rfl rfl rfl rfl
    | other => exact h.illegal_prefix hdelay hc he rfl rfl rfl rfl
  · rintro op g rfl hp hf
    refine h.reserved_outside hdelay hc he rfl (.inl rfl) (fun e => by cases e) hp ?_
    refine Bool.eq_false_iff.2 fun e => ?_
    have e : (f.rsv == 0 && f.untl != 14 && g.fieldsOk op) = true := e
    have e : (f.rsv = 0 ∧ f.untl ≠ 14) ∧ g.fieldsOk op = true := by simpa using e
    rcases hf with hf | hf | hf
    · exact hf e.1.1
    · exact e.1.2 hf
    · simp [hf] at e

/-- The vector rows and the engine-control rows, by the address at which they stand (02 R64; 07 R250). -/
theorem State.clear.vector_refused (f : VFmt) :
    ((s.regs k).pc.getLsbD 2 = true → ∀ c ∈ [Instr.chain i f, .vfence i f, .vsuspend i f, .vresume i f, .vdiscard i f],
      exec c s = .next (s.raiseExc k ((s.slot k).excAt 2 0 0 0)))
    ∧ ((s.slot k).delay = none → (s.regs k).pc.getLsbD 2 = false →
      ((s.slot k).notAtEnd 8 → 8 ≤ f.cnt.toNat ∨ f.none = false → exec (.chain i f) s = .next (s.raiseExc k ((s.slot k).excAt 1 0 0 0)))
      ∧ ((f.none && f.cnt == 0) = false → ∀ c ∈ [Instr.vfence i f, .vsuspend i f, .vresume i f, .vdiscard i f],
        exec c s = .next (s.raiseExc k ((s.slot k).excAt 1 0 0 0)))) := by
  refine ⟨fun hpc c hc => ?_, fun hdelay hpc => ⟨fun hend hf => ?_, fun hf c hc => ?_⟩⟩
  · rcases List.mem_cons.1 hc with rfl | hc
    · exact h.illegal_misplaced hpc (decodes_chain i f) rfl rfl rfl
    · obtain ⟨rs, ws, body, hexec⟩ := decodes_control i f s c hc
      refine h.decodeTraps ⟨body, hexec⟩ rfl rfl ?_
      have hpc : (s.slot k).regs.pc.getLsbD 2 = true := hpc
      simp only [Slot.decodeFault, controlInfo, hpc, Bool.and_self, Bool.true_or, if_true]
  · refine h.reserved_outside hdelay (decodes_chain i f s) rfl rfl (.inr hend) (fun _ => hpc) rfl ?_
    have : (f.none && decide (f.cnt.toNat < 8)) = false := by
      rcases hf with e | e
      · simp [show ¬f.cnt.toNat < 8 by omega]
      · simp [e]
    exact this
  · obtain ⟨rs, ws, body, hexec⟩ := decodes_control i f s c hc
    exact h.reserved_outside hdelay ⟨body, hexec⟩ rfl rfl (.inl rfl) (fun _ => hpc) rfl hf

end

theorem vfmt_eq_of_none {f : VFmt} (h : f.none = true) : f = ⟨0, 0, 0, 0, 0, 0, 0, 0, 0, f.cnt, 0⟩ := by
  obtain ⟨ad, as1, as2, as3, ds, qn, scl, rnd, fn, cnt, rsv⟩ := f
  simpa [VFmt.none, and_assoc] using h

/-! ### Instructions in a delay slot -/

section
variable {s : State} {i : StreamId} {k : SlotId} (h : s.clear i k) (hdelay : (s.slot k).delay ≠ none)
include h hdelay

/-- Branches and loops (07 R223, R239). -/
theorem State.clear.branches_in_slot :
    let traps (c : Instr) : Prop := exec c s = .next (s.raiseExc k ((s.slot k).excAt 2 0 0 0))
    (∀ f : BFmt, traps (.bcc i f) ∧ traps (.jal i f)) ∧ (∀ f : BZFmt, traps (.bz i f) ∧ traps (.bnz i f)) ∧ (∀ f : JFmt, traps (.jmp i f))
    ∧ (∀ f : AFmt, traps (.jr i f) ∧ traps (.jalr i f)) ∧ (∀ f : LoopIFmt, traps (.loopi i f)) ∧ ∀ f : LoopRFmt, traps (.loopr i f) := by
  have go : ∀ {c : Instr} {f : Info}, (∃ body, exec c s = s.instruction i f body) → f.noSlot →
      exec c s = .next (s.raiseExc k ((s.slot k).excAt 2 0 0 0)) := fun hc hf => h.illegal_in_slot hdelay hc hf
  exact ⟨fun f => ⟨go ⟨_, by rw [exec_bcc, execBcc, State.branchTo]⟩ ⟨rfl, rfl, rfl⟩, go ⟨_, by rw [exec_jal, execJal]⟩ ⟨rfl, rfl, rfl⟩⟩,
    fun f => ⟨go ⟨_, by rw [exec_bz, execBz, State.branchTo]⟩ ⟨rfl, rfl, rfl⟩, go ⟨_, by rw [exec_bnz, execBnz, State.branchTo]⟩ ⟨rfl, rfl, rfl⟩⟩,
    fun f => go ⟨_, by rw [exec_jmp, execJmp, State.branchTo]⟩ ⟨rfl, rfl, rfl⟩,
    fun f => ⟨go ⟨_, by rw [exec_jr, execJr, State.jumpReg]⟩ ⟨rfl, rfl, rfl⟩, go ⟨_, by rw [exec_jalr, execJalr, State.jumpReg]⟩ ⟨rfl, rfl, rfl⟩⟩,
    fun f => go ⟨_, by rw [exec_loopi, execLoopi, State.loop]⟩ ⟨rfl, rfl, rfl⟩,
    fun f => go ⟨_, by rw [exec_loopr, execLoopr, State.loop]⟩ ⟨rfl, rfl, rfl⟩⟩

/-- System instructions, string instructions and prefixes (07 R224, R235, R243). -/
theorem State.clear.system_in_slot :
    let traps (c : Instr) : Prop := exec c s = .next (s.raiseExc k ((s.slot k).excAt 2 0 0 0))
    (∀ f : XFmt, traps (.fence i f) ∧ traps (.iflush i f) ∧ traps (.rte i f) ∧ traps (.trap i f) ∧ traps (.bkpt i f) ∧ traps (.endLesson i f))
    ∧ (∀ f : SFmt, traps (.movs i f) ∧ traps (.fills i f) ∧ traps (.cmps i f) ∧ traps (.scans i f) ∧ traps (.crcs i f))
    ∧ ∀ (f : PFmt) (next : AfterRep) (iters : Nat), traps (.rep i f next iters) := by
  have go : ∀ {c : Instr} {f : Info}, (∃ body, exec c s = s.instruction i f body) → f.noSlot →
      exec c s = .next (s.raiseExc k ((s.slot k).excAt 2 0 0 0)) := fun hc hf => h.illegal_in_slot hdelay hc hf
  have string : ∀ {c : Instr} {f : SFmt} {op : StringOp}, exec c s = s.stringOne i op f → exec c s = .next (s.raiseExc k ((s.slot k).excAt 2 0 0 0)) :=
    fun hc => go ⟨_, by rw [hc, State.stringOne]⟩ ⟨rfl, rfl, rfl⟩
  have he : s.noString i = none := by
    have : (s.slot k).delay.isNone = false := Option.isNone_eq_false_iff.2 (Option.isSome_iff_ne_none.2 hdelay)
    simp [State.noString, h.ready.slot, this]
  refine ⟨fun f => ⟨go ⟨_, by rw [exec_fence, execFence]⟩ ⟨rfl, rfl, rfl⟩, go ⟨_, by rw [exec_iflush, execIflush]⟩ ⟨rfl, rfl, rfl⟩,
      go ⟨_, by rw [exec_rte, execRte]⟩ ⟨rfl, rfl, rfl⟩, go ⟨_, by rw [exec_trap, execTrap]⟩ ⟨rfl, rfl, rfl⟩,
      go ⟨_, by rw [exec_bkpt, execBkpt]⟩ ⟨rfl, rfl, rfl⟩, go ⟨_, by rw [exec_endLesson, execEndLesson]⟩ ⟨rfl, rfl, rfl⟩⟩,
    fun f => ⟨string rfl, string rfl, string rfl, string rfl, string rfl⟩, fun f next iters => ?_⟩
  refine go ⟨_, by rw [exec_rep, execRep]⟩ ?_
  cases next with
  | string op g => exact ⟨he, rfl, rfl⟩
  | rep => exact ⟨he, rfl, rfl⟩
  | other => exact ⟨he, rfl, rfl⟩

/-- A user instruction whose program is in a sound decode table (09 R284, R285). -/
theorem State.clear.user_in_slot (u : Fin 64) (f : VFmt) (hbad : (s.slot k).tableBad = []) (hsoft : (s.slot k).tableSoft = [])
    (hprog : s.table.slots[u] ≠ []) : exec (.userInstruction i u f) s = .next (s.raiseExc k ((s.slot k).excAt 2 0 0 0)) := by
  have hc : ∃ body, exec (.userInstruction i u f) s = s.instruction i (userInfo (s.slot k) s.table.slots[u] u f) body := by
    rw [exec_userInstruction, execUserInstruction]
    simp only [h.ready.slot]
    exact ⟨_, rfl⟩
  refine h.illegal_in_slot hdelay hc ⟨?_, rfl, ?_⟩
  · have hcopy : (s.slot k).badCopy s.table.slots[u] (0xC0 + u.val) = none := by simp [Slot.badCopy, hbad]
    have hprog : s.table.slots[u].isEmpty = false := by simpa using hprog
    simp only [userInfo, hcopy, hprog, Bool.false_eq_true, if_false]
  · simp [userInfo, hsoft]

/-- Vector instructions, CHAIN and engine control (02 R64; 03 R72). -/
theorem State.clear.vector_in_slot (f : VFmt) :
    let traps (c : Instr) : Prop := exec c s = .next (s.raiseExc k ((s.slot k).excAt 2 0 0 0))
    (∀ row ∈ Rows.vector, traps (row.1 i f)) ∧ traps (.chain i f) ∧ traps (.vfence i f) ∧ traps (.vsuspend i f) ∧ traps (.vresume i f)
    ∧ traps (.vdiscard i f) := by
  have control : ∀ c ∈ [Instr.vfence i f, .vsuspend i f, .vresume i f, .vdiscard i f],
      exec c s = .next (s.raiseExc k ((s.slot k).excAt 2 0 0 0)) := fun c hc => by
    obtain ⟨rs, ws, body, hexec⟩ := decodes_control i f s c hc
    exact h.illegal_in_slot hdelay ⟨body, hexec⟩ ⟨rfl, rfl, rfl⟩
  exact ⟨fun row hr => h.illegal_in_slot hdelay (decodes_vector i f row hr s) ⟨rfl, rfl, rfl⟩,
    h.illegal_in_slot hdelay (decodes_chain i f s) ⟨rfl, rfl, rfl⟩, control _ (by simp), control _ (by simp), control _ (by simp), control _ (by simp)⟩

end

/-! ### The obligation -/

section
variable {s : State} {i : StreamId} {k : SlotId} (h : s.clear i k)
include h

/-- The fields of the register, immediate and address rows (07 R252). -/
theorem State.clear.reserved_integer (hp : (s.slot k).placed 4) :
    let reserved (c : Instr) : Prop := exec c s = .next (s.raiseExc k ((s.slot k).excAt 1 0 0 0))
    (∀ f : RFmt, (f.w ≠ 0 ∨ f.rsv ≠ 0 → (∀ row ∈ Rows.binary, reserved (row.1 i f)) ∧ (∀ row ∈ Rows.checked, reserved (row.1 i f))
        ∧ (∀ row ∈ Rows.divide, reserved (row.1 i f)) ∧ reserved (.addc i f) ∧ reserved (.subc i f) ∧ reserved (.mulw i f)
        ∧ reserved (.mulwu i f))
      ∧ (f.w ≠ 0 ∨ f.rsv ≠ 0 ∨ f.rb ≠ 0 → ∀ row ∈ Rows.unary, reserved (row.1 i f))
      ∧ (f.w = 3 ∨ f.rsv ≠ 0 ∨ f.rb ≠ 0 → ∀ row ∈ Rows.extend, reserved (row.1 i f))
      ∧ (f.w ≠ 0 ∨ f.rsv ≠ 0 ∨ f.rd ≠ 0 → reserved (.cmp i f))
      ∧ (f.rsv ≠ 0 → reserved (.crc32c i f) ∧ reserved (.crc64 i f)))
    ∧ (∀ f : IFmt, (64 ≤ f.imm.toNat → ∀ row ∈ Rows.shift, reserved (row.1 i f)) ∧ (f.rd ≠ 0 → reserved (.cmpi i f)))
    ∧ (∀ f : WFmt, f.rsv ≠ 0 → reserved (.imms i f) ∧ reserved (.immx i f))
    ∧ (∀ f : ARFmt, (f.rsv ≠ 0 → reserved (.addar i f) ∧ reserved (.subar i f))
      ∧ (f.ad ≠ 0 ∨ f.sc ≠ 0 ∨ f.rsv ≠ 0 → reserved (.cmpa i f)))
    ∧ (∀ f : AFmt, f.aa ≠ 0 → reserved (.leapc i f))
    ∧ ∀ f : AXFmt, (f.aa ≠ 0 ∨ f.rsv ≠ 0 → reserved (.movad i f)) ∧ (f.ad ≠ 0 ∨ f.rsv ≠ 0 → reserved (.movda i f)) := by
  refine ⟨fun f => ⟨fun hf => ?_, fun hf row hr => h.reserved_of_rule hp (fieldRule_unary i f row hr) (by tauto),
      fun hf row hr => h.reserved_of_rule hp (fieldRule_extend i f row hr) (by tauto),
      fun hf => h.reserved_of_rule hp (fieldRule_cmp i f) (by tauto), fun hf => ?_⟩,
    fun f => ⟨fun hf row hr => h.reserved_of_rule hp (fieldRule_shift i f row hr) (by omega),
      fun hf => h.reserved_of_rule hp (fieldRule_cmpi i f) hf⟩, fun f hf => ?_,
    fun f => ⟨fun hf => ?_, fun hf => h.reserved_of_rule hp (fieldRule_cmpa i f) (by tauto)⟩,
    fun f hf => h.reserved_of_rule hp (fieldRule_leapc i f) hf,
    fun f => ⟨fun hf => h.reserved_of_rule hp (fieldRule_movad i f) (by tauto), fun hf => h.reserved_of_rule hp (fieldRule_movda i f) (by tauto)⟩⟩
  · have hc : ∀ c ∈ [Instr.addc i f, .subc i f, .mulw i f, .mulwu i f], exec c s = .next (s.raiseExc k ((s.slot k).excAt 1 0 0 0)) :=
      fun c hc => h.reserved_of_rule hp (fieldRule_carry i f c hc) (by tauto)
    exact ⟨fun row hr => h.reserved_of_rule hp (fieldRule_binary i f row hr) (by tauto),
      fun row hr => h.reserved_of_rule hp (fieldRule_checked i f row hr) (by tauto),
      fun row hr => h.reserved_of_rule hp (fieldRule_divide i f row hr) (by tauto),
      hc _ (by simp), hc _ (by simp), hc _ (by simp), hc _ (by simp)⟩
  · exact ⟨h.reserved_of_rule hp (fieldRule_crc i f _ (by simp)) hf, h.reserved_of_rule hp (fieldRule_crc i f _ (by simp)) hf⟩
  · exact ⟨h.reserved_of_rule hp (fieldRule_imm i f _ (by simp)) hf, h.reserved_of_rule hp (fieldRule_imm i f _ (by simp)) hf⟩
  · exact ⟨h.reserved_of_rule hp (fieldRule_scaled i f _ (by simp)) hf, h.reserved_of_rule hp (fieldRule_scaled i f _ (by simp)) hf⟩

/-- The fields of the floating-point and accumulator rows (07 R252). -/
theorem State.clear.reserved_float (hp : (s.slot k).placed 4) :
    let reserved (c : Instr) : Prop := exec c s = .next (s.raiseExc k ((s.slot k).excAt 1 0 0 0))
    (∀ f : FFmt, (f.rsv ≠ 0 ∨ 6 ≤ f.rnd.toNat → ∀ row ∈ Rows.float, reserved (row.1 i f))
      ∧ (f.rsv ≠ 0 ∨ 6 ≤ f.rnd.toNat ∨ f.rb ≠ 0 → ∀ row ∈ Rows.float1, reserved (row.1 i f))
      ∧ (f.rsv ≠ 0 ∨ f.rnd ≠ 0 → ∀ row ∈ Rows.floatMin, reserved (row.1 i f))
      ∧ (f.rsv ≠ 0 ∨ f.rnd ≠ 0 ∨ f.rb ≠ 0 → ∀ row ∈ Rows.floatBits, reserved (row.1 i f))
      ∧ (f.rsv ≠ 0 ∨ f.rnd ≠ 0 ∨ f.rd ≠ 0 → ∀ row ∈ Rows.floatCmp, reserved (row.1 i f)))
    ∧ (∀ f : F4Fmt, f.rsv ≠ 0 → ∀ row ∈ Rows.fused, reserved (row.1 i f))
    ∧ (∀ f : FCFmt, f.rsv ≠ 0 ∨ 6 ≤ f.rnd.toNat ∨ 10 ≤ f.dt.toNat ∨ 10 ≤ f.st.toNat ∨ (4 ≤ f.dt.toNat ∧ 4 ≤ f.st.toNat) →
      reserved (.fcvt i f))
    ∧ ∀ f : QFmt, (f.qm ≠ 0 ∨ f.rd ≠ 0 ∨ f.rnd ≠ 0 ∨ f.rsv ≠ 0 → reserved (.qclr i f))
      ∧ (f.qm ≠ 0 ∨ f.rnd ≠ 0 ∨ f.rsv ≠ 0 → reserved (.qaddd i f)) ∧ (f.rd ≠ 0 ∨ f.rnd ≠ 0 ∨ f.rsv ≠ 0 → reserved (.qaddq i f))
      ∧ (f.qm ≠ 0 ∨ 6 ≤ f.rnd.toNat ∨ f.rsv ≠ 0 → reserved (.qrnd i f)) := by
  exact ⟨fun f => ⟨fun hf row hr => h.reserved_of_rule hp (fieldRule_float i f row hr) (by rw [← not_le]; tauto),
      fun hf row hr => h.reserved_of_rule hp (fieldRule_float1 i f row hr) (by rw [← not_le]; tauto),
      fun hf row hr => h.reserved_of_rule hp (fieldRule_floatMin i f row hr) (by tauto),
      fun hf row hr => h.reserved_of_rule hp (fieldRule_floatBits i f row hr) (by tauto),
      fun hf row hr => h.reserved_of_rule hp (fieldRule_floatCmp i f row hr) (by tauto)⟩,
    fun f hf row hr => h.reserved_of_rule hp (fieldRule_fused i f row hr) hf,
    fun f hf => h.reserved_of_rule hp (fieldRule_fcvt i f) (by simp only [← not_le]; tauto),
    fun f => ⟨fun hf => h.reserved_of_rule hp (fieldRule_qclr i f) (by tauto), fun hf => h.reserved_of_rule hp (fieldRule_qaddd i f) (by tauto),
      fun hf => h.reserved_of_rule hp (fieldRule_qaddq i f) (by tauto),
      fun hf => h.reserved_of_rule hp (fieldRule_qrnd i f) (by rw [← not_le]; tauto)⟩⟩

/-- The fields of the memory rows of the register files and of class 7h (07 R252). -/
theorem State.clear.reserved_files (hp : (s.slot k).placed 4) :
    let reserved (c : Instr) : Prop := exec c s = .next (s.raiseExc k ((s.slot k).excAt 1 0 0 0))
    (∀ f : MFmt, (16 ≤ f.rd.toNat → reserved (.lda i f) ∧ reserved (.sta i f)) ∧ (8 ≤ f.rd.toNat → reserved (.ldv i f) ∧ reserved (.stv i f))
      ∧ (4 ≤ f.rd.toNat → reserved (.qld i f) ∧ reserved (.qst i f)))
    ∧ ∀ f : XFmt, (f.imm ≠ 0 ∨ 10 < f.sn.toNat → reserved (.mfs i f) ∧ reserved (.mts i f)) ∧ (f.sn = 0 → reserved (.mts i f))
      ∧ (f ≠ ⟨0, 0, 0⟩ → reserved (.nop i f) ∧ reserved (.setc i f) ∧ reserved (.clrc i f)) := by
  refine ⟨fun f => ⟨fun hf => ?_, fun hf => ?_, fun hf => ?_⟩, fun f => ⟨fun hf => ⟨?_, ?_⟩, fun hf => ?_, fun hf => ?_⟩⟩
  · have hc := fun c hc => h.reserved_of_rule hp (fieldRule_addressFile i f c hc) (by omega)
    exact ⟨hc _ (by simp), hc _ (by simp)⟩
  · have hc := fun c hc => h.reserved_of_rule hp (fieldRule_vectorFile i f c hc) (by omega)
    exact ⟨hc _ (by simp), hc _ (by simp)⟩
  · have hc := fun c hc => h.reserved_of_rule hp (fieldRule_accumulatorFile i f c hc) (by omega)
    exact ⟨hc _ (by simp), hc _ (by simp)⟩
  · exact h.reserved_of_rule hp (fieldRule_mfs i f) (by rw [← not_lt]; tauto)
  · exact h.reserved_of_rule hp (fieldRule_mts i f) (by simp only [← not_lt]; tauto)
  · exact h.reserved_of_rule hp (fieldRule_mts i f) (by simp [hf])
  · have hc := fun c hc => h.reserved_of_rule hp (fieldRule_unused i f c hc) hf
    exact ⟨hc _ (by simp), hc _ (by simp), hc _ (by simp)⟩

/-- A REP and the string instruction after it, by what its UNTIL allows (07 R243). -/
theorem State.clear.rep_string_refused (hdelay : (s.slot k).delay = none) (f : PFmt) (op : StringOp) (g : SFmt) (iters : Nat)
    (hb : s.badByte ((s.regs k).pc + 4).toNat 1 = none) :
    let allowed := f.untl = 15 ∨ op = .cmps ∨ op = .scans
    let bad := f.rsv ≠ 0 ∨ f.untl = 14 ∨ g.rsv ≠ 0 ∨ (op ≠ .crcs ∧ g.ck ≠ 0) ∨ ((op = .movs ∨ op = .cmps) ∧ g.rd ≠ 0)
    (allowed → bad → exec (.rep i f (.string op g) iters) s = .next (s.raiseExc k ((s.slot k).excAt 1 0 0 0)))
    ∧ (¬allowed → exec (.rep i f (.string op g) iters) s = .next (s.raiseExc k ((s.slot k).excAt 3 0 0 0))) := by
  intro allowed bad
  have hallowed : repPrefixOk f.untl (.string op g) = true ↔ allowed := by simp [repPrefixOk, allowed, or_assoc]
  have hfields : g.fieldsOk op = true ↔ g.rsv = 0 ∧ (op ≠ .crcs → g.ck = 0) ∧ (op = .movs ∨ op = .cmps → g.rd = 0) := by
    cases op <;> simp [SFmt.fieldsOk, and_assoc]
  obtain ⟨hprefix, hstring⟩ := h.rep_refused hdelay f iters hb (.string op g)
  refine ⟨fun ha hbad => hstring op g rfl (hallowed.2 ha) ?_, fun ha => hprefix (Bool.eq_false_iff.2 fun e => ha (hallowed.1 e))⟩
  have hword : g.rsv ≠ 0 ∨ (op ≠ .crcs ∧ g.ck ≠ 0) ∨ ((op = .movs ∨ op = .cmps) ∧ g.rd ≠ 0) → g.fieldsOk op = false := fun hw =>
    Bool.eq_false_iff.2 fun e => by
      obtain ⟨hrsv, hck, hrd⟩ := hfields.1 e
      exact hw.elim (absurd hrsv) (Or.rec (fun ⟨ho, hne⟩ => hne (hck ho)) fun ⟨ho, hne⟩ => hne (hrd ho))
  exact hbad.imp_right (.imp_right hword)

/-- The class-Fh rows outside a delay slot (02 R64; 03 R72; 07 R250). -/
theorem State.clear.reserved_vector (hdelay : (s.slot k).delay = none) (f : VFmt) :
    let traps (v : Byte) (c : Instr) : Prop := exec c s = .next (s.raiseExc k ((s.slot k).excAt v 0 0 0))
    ((s.regs k).pc.getLsbD 2 = true → (∀ row ∈ Rows.vector, traps 2 (row.1 i f)) ∧ traps 2 (.chain i f) ∧ traps 2 (.vfence i f)
      ∧ traps 2 (.vsuspend i f) ∧ traps 2 (.vresume i f) ∧ traps 2 (.vdiscard i f))
    ∧ ((s.regs k).pc.getLsbD 2 = false →
      (∀ row ∈ Rows.vector, ¬keepsRow row.2 f → traps 1 (row.1 i f))
      ∧ ((s.slot k).notAtEnd 8 → 8 ≤ f.cnt.toNat ∨ f ≠ ⟨0, 0, 0, 0, 0, 0, 0, 0, 0, f.cnt, 0⟩ → traps 1 (.chain i f))
      ∧ (f ≠ ⟨0, 0, 0, 0, 0, 0, 0, 0, 0, 0, 0⟩ → traps 1 (.vfence i f) ∧ traps 1 (.vsuspend i f) ∧ traps 1 (.vresume i f)
        ∧ traps 1 (.vdiscard i f))) := by
  obtain ⟨hmisplaced, hreserved⟩ := h.vector_refused f
  refine ⟨fun hpc => ?_, fun hpc => ⟨fun row hr hf => ?_, fun hend hf => ?_, fun hf => ?_⟩⟩
  · have hc := hmisplaced hpc
    exact ⟨fun row hr => h.illegal_misplaced hpc (decodes_vector i f row hr) rfl rfl rfl, hc _ (by simp), hc _ (by simp), hc _ (by simp),
      hc _ (by simp), hc _ (by simp)⟩
  · exact h.reserved_outside hdelay (decodes_vector i f row hr s) rfl rfl (.inl rfl) (fun _ => hpc) rfl
      (Bool.eq_false_iff.2 fun e => hf ((vecInfo_fieldsOk_iff f row hr).1 e))
  · exact (hreserved hdelay hpc).1 hend (hf.imp_right fun hf => Bool.eq_false_iff.2 fun e => hf (vfmt_eq_of_none e))
  · have hnone : (f.none && f.cnt == 0) = false := Bool.eq_false_iff.2 fun e => by
      have e : f.none = true ∧ f.cnt = 0 := by simpa using e
      exact hf (e.2 ▸ vfmt_eq_of_none e.1)
    have hc := (hreserved hdelay hpc).2 hnone
    exact ⟨hc _ (by simp), hc _ (by simp), hc _ (by simp), hc _ (by simp)⟩

end

/-- Settles O28: each row by its decode rules, in the order in which decode applies them. -/
theorem reservedFormsTrap : Obligations.ReservedFormsTrap := by
  intro s i k h
  refine ⟨fun hp => ?_, h.reserved_branch, fun hdelay => ?_, fun hdelay => ?_⟩
  · obtain ⟨hR, hI, hW, hAR, hA, hAX⟩ := h.reserved_integer hp
    obtain ⟨hF, hF4, hFC, hQ⟩ := h.reserved_float hp
    obtain ⟨hM, hX⟩ := h.reserved_files hp
    exact ⟨hR, hI, hW, hAR, hA, hAX, hF, hF4, hFC, hQ, hM, hX⟩
  · refine ⟨h.reserved_system hdelay, h.reserved_strings hdelay, fun f op g iters hb => ?_, h.reserved_vector hdelay⟩
    obtain ⟨hreserved, hprefix⟩ := h.rep_string_refused hdelay f op g iters hb
    exact ⟨hreserved, hprefix, (h.rep_refused hdelay f iters hb .rep).1 rfl, (h.rep_refused hdelay f iters hb .other).1 rfl⟩
  · obtain ⟨hB, hBZ, hJ, hA, hLI, hLR⟩ := h.branches_in_slot hdelay
    obtain ⟨hX, hS, hrep⟩ := h.system_in_slot hdelay
    exact ⟨hB, hBZ, hJ, hA, hLI, hLR, hX, hS, hrep, fun u f hbad hsoft hprog => h.user_in_slot hdelay u f hbad hsoft hprog,
      h.vector_in_slot hdelay⟩

end Sys2Proof.Machine
end

section
/-!
SUPPORT. Rounding (04 R103): the mode's choice between the two multiples of a power of two around an exact value, and what it is among the
numbers that a format reaches.
-/

namespace Sys2Proof.Machine

/-! ### The choice of a mode -/

/-- In mode `rm` a value at `h + t` last places, 0 ≤ t < 1, goes away from zero (04 R103, rounding table). -/
def roundsAway (rm : BitVec 3) (neg : Bool) (h : ℕ) (t : ℝ) : Prop :=
  t ≠ 0 ∧ (rm = 3 ∧ neg = false ∨ rm = 4 ∧ neg = true ∨ rm = 5 ∧ 1 / 2 ≤ t
    ∨ (rm ≠ 2 ∧ rm ≠ 3 ∧ rm ≠ 4 ∧ rm ≠ 5) ∧ (1 / 2 < t ∨ t = 1 / 2 ∧ h % 2 = 1))

/-- `r` last places is what the mode makes of the magnitude `h + t`. -/
def picksPlace (rm : BitVec 3) (neg : Bool) (h : ℕ) (t : ℝ) (r : ℕ) : Prop :=
  (roundsAway rm neg h t → r = h + 1) ∧ (¬roundsAway rm neg h t → r = h)

/-- The mode that does to −v what `rm` does to v. -/
def mirrored (rm : BitVec 3) : BitVec 3 := if rm = 3 then 4 else if rm = 4 then 3 else rm

theorem mirrored_eq (rm n : BitVec 3) (h3 : n ≠ 3) (h4 : n ≠ 4) : mirrored rm = n ↔ rm = n := by
  unfold mirrored; split_ifs with e e' <;> simp_all [eq_comm]

theorem mirrored_eq_three (rm : BitVec 3) : mirrored rm = 3 ↔ rm = 4 := by
  unfold mirrored; split_ifs with e e' <;> simp_all

theorem mirrored_eq_four (rm : BitVec 3) : mirrored rm = 4 ↔ rm = 3 := by
  unfold mirrored; split_ifs with e e' <;> simp_all

theorem roundsAway_neg (rm : BitVec 3) (h : ℕ) (t : ℝ) : roundsAway rm true h t ↔ roundsAway (mirrored rm) false h t := by
  simp only [roundsAway, mirrored_eq_three, mirrored_eq_four, ne_eq, mirrored_eq rm 2 (by decide) (by decide), mirrored_eq rm 5 (by decide) (by decide)]
  tauto

theorem roundsTo_neg {rm : BitVec 3} {S : ℝ → Prop} {v y : ℝ} (hS : ∀ z, S z → S (-z)) (h : roundsTo (mirrored rm) S v y) :
    roundsTo rm S (-v) (-y) := by
  obtain ⟨hy, h2, h3, h4, hn⟩ := h
  simp only [mirrored_eq_three, mirrored_eq_four, ne_eq, mirrored_eq rm 2 (by decide) (by decide), mirrored_eq rm 5 (by decide) (by decide)] at h2 h3 h4 hn
  refine ⟨hS y hy, fun e => ?_, fun e => ?_, fun e => ?_, fun e2 e3 e4 z hz => ?_⟩
  · obtain ⟨hle, hsign, hmax⟩ := h2 e
    refine ⟨by simpa using hle, by simpa using hsign, fun z hz hzv hzs => ?_⟩
    simpa using hmax (-z) (hS z hz) (by simpa using hzv) (by linarith)
  · obtain ⟨hle, hmax⟩ := h4 e
    exact ⟨by linarith, fun z hz hzv => by have := hmax (-z) (hS z hz) (by linarith); linarith⟩
  · obtain ⟨hle, hmax⟩ := h3 e
    exact ⟨by linarith, fun z hz hzv => by have := hmax (-z) (hS z hz) (by linarith); linarith⟩
  · obtain ⟨hle, htie⟩ := hn e2 e4 e3 (-z) (hS z hz)
    have hd : ∀ a b : ℝ, |-a - -b| = |a - b| := fun a b => by rw [← abs_neg (a - b)]; ring_nf
    have hz' : |z - -v| = |-z - v| := by rw [← abs_neg (-z - v)]; ring_nf
    rw [hd, hz']
    refine ⟨hle, fun he hne => ?_⟩
    obtain ⟨ha, hb⟩ := htie he (fun e => hne (by rw [← e, neg_neg]))
    refine ⟨fun e => by simpa using ha e, fun e => ?_⟩
    obtain ⟨n, hn⟩ := hb e
    exact ⟨n, by linear_combination -hn⟩

/-! ### The choice among the numbers of a set -/

section
variable {rm : BitVec 3} {S : ℝ → Prop} {h r : ℕ} {t g : ℝ}

/-- No number of `S` lies strictly between `h` and `h + 1` last places of size `g`. -/
def gapAt (S : ℝ → Prop) (h : ℕ) (g : ℝ) : Prop := ∀ z, S z → z ≤ h * g ∨ (h + 1) * g ≤ z

/-- The mode's choice among the two last places is its choice in `S`, for a positive value. -/
theorem roundsTo_of_gap_pos (hg : 0 < g) (ht0 : 0 ≤ t) (ht1 : t < 1) (hgap : gapAt S h g) (hr : picksPlace rm false h t r) (hS : S (r * g)) :
    roundsTo rm S ((h + t) * g) (r * g) := by
  have hh : (0 : ℝ) ≤ h := Nat.cast_nonneg h
  have htg : 0 ≤ t * g := mul_nonneg ht0 hg.le
  have hvg : 0 ≤ (h + t) * g := mul_nonneg (by linarith) hg.le
  have hlt : t * g < g := by nlinarith
  obtain ⟨hup, hdown⟩ := hr
  have hcases : r = h ∨ r = h + 1 := by by_cases e : roundsAway rm false h t <;> tauto
  have hy0 : (0 : ℝ) ≤ r * g := mul_nonneg (Nat.cast_nonneg r) hg.le
  refine ⟨hS, fun e => ?_, fun e => ?_, fun e => ?_, fun e2 e3 e4 z hz => ?_⟩
  · have hr : r = h := hdown fun ⟨_, ha⟩ => by simp [e] at ha
    subst hr
    rw [abs_of_nonneg hy0, abs_of_nonneg hvg]
    refine ⟨by nlinarith, mul_nonneg hy0 hvg, fun z hz hzv hzs => ?_⟩
    rcases le_or_gt 0 z with hz0 | hz0
    · rw [abs_of_nonneg hz0] at hzv ⊢
      rcases hgap z hz with h' | h'
      · exact h'
      · nlinarith
    · have : (r + t) * g = 0 := le_antisymm (by by_contra hc; push Not at hc; nlinarith) hvg
      rw [this] at hzv
      exact hzv.trans hy0
  · by_cases ht : t = 0
    · have hr : r = h := hdown fun ⟨h0, _⟩ => h0 ht
      subst hr ht
      exact ⟨by nlinarith, fun z _ hzv => by nlinarith⟩
    · have hr : r = h + 1 := hup ⟨ht, .inl ⟨e, rfl⟩⟩
      have htpos : 0 < t := lt_of_le_of_ne ht0 (Ne.symm ht)
      subst hr
      push_cast
      refine ⟨by nlinarith, fun z hz hzv => (hgap z hz).resolve_left fun hle => ?_⟩
      nlinarith [mul_pos htpos hg]
  · have hr : r = h := hdown fun ⟨_, ha⟩ => by simp [e] at ha
    subst hr
    exact ⟨by nlinarith, fun z hz hzv => (hgap z hz).resolve_right fun hle => by nlinarith⟩
  · have hnear : t ≤ 1 / 2 ∧ r = h ∨ 1 / 2 ≤ t ∧ r = h + 1 := by
      by_cases e : roundsAway rm false h t
      · refine .inr ⟨?_, hup e⟩
        obtain ⟨_, ha⟩ := e
        rcases ha with ⟨e, _⟩ | ⟨e, _⟩ | ⟨_, e⟩ | ⟨_, e | ⟨e, _⟩⟩
        · exact absurd e e3
        · exact absurd e e4
        all_goals linarith
      · refine .inl ⟨?_, hdown e⟩
        by_contra hc
        push Not at hc
        refine e ⟨by linarith, ?_⟩
        by_cases e5 : rm = 5
        · exact .inr (.inr (.inl ⟨e5, hc.le⟩))
        · exact .inr (.inr (.inr ⟨⟨e2, e3, e4, e5⟩, .inl hc⟩))
    rcases hnear with ⟨ht, hr⟩ | ⟨ht, hr⟩
    · have hyv : |(r : ℝ) * g - (h + t) * g| = t * g := by rw [hr, abs_sub_comm, abs_of_nonneg (by nlinarith)]; ring
      rw [hyv]
      rcases hgap z hz with hzl | hzr
      · have hzv : |z - (h + t) * g| = (h + t) * g - z := by rw [abs_sub_comm, abs_of_nonneg (by nlinarith)]
        rw [hzv, hr]
        exact ⟨by nlinarith, fun he hne => absurd (show z = h * g by linarith) hne⟩
      · have hzv : |z - (h + t) * g| = z - (h + t) * g := abs_of_nonneg (by nlinarith)
        rw [hzv, hr]
        refine ⟨by nlinarith, fun he _ => ?_⟩
        have ht' : t = 1 / 2 := le_antisymm ht (by nlinarith)
        have hzg : z - h * g = g := by rw [ht'] at he; linarith
        have hno : ¬roundsAway rm false h t := fun e => by have := hup e; omega
        refine ⟨fun e5 => absurd ⟨by linarith, .inr (.inr (.inl ⟨e5, ht'.ge⟩))⟩ hno, fun e5 => ?_⟩
        have heven : h % 2 = 0 := by
          by_contra ho
          exact hno ⟨by linarith, .inr (.inr (.inr ⟨⟨e2, e3, e4, e5⟩, .inr ⟨ht', by omega⟩⟩))⟩
        obtain ⟨j, hj⟩ : ∃ j, h = 2 * j := ⟨h / 2, by omega⟩
        exact ⟨j, by rw [hzg, hj]; push_cast; ring⟩
    · have hyv : |(r : ℝ) * g - (h + t) * g| = (1 - t) * g := by rw [hr, abs_of_nonneg (by push_cast; nlinarith)]; push_cast; ring
      rw [hyv]
      rcases hgap z hz with hzl | hzr
      · have hzv : |z - (h + t) * g| = (h + t) * g - z := by rw [abs_sub_comm, abs_of_nonneg (by nlinarith)]
        rw [hzv]
        refine ⟨by nlinarith, fun he _ => ?_⟩
        have ht' : t = 1 / 2 := le_antisymm (by nlinarith) ht
        have hzh : z = h * g := by rw [ht'] at he; linarith
        have hyes : roundsAway rm false h t := by
          by_contra e
          have := hdown e
          omega
        refine ⟨fun _ => ?_, fun e5 => ?_⟩
        · rw [hzh, hr, abs_of_nonneg (mul_nonneg hh hg.le), abs_of_nonneg (hr ▸ hy0)]
          push_cast; linarith
        · have hodd : h % 2 = 1 := by
            obtain ⟨_, ha⟩ := hyes
            rcases ha with ⟨e, _⟩ | ⟨e, _⟩ | ⟨e, _⟩ | ⟨_, e | ⟨_, e⟩⟩
            · exact absurd e e3
            · exact absurd e e4
            · exact absurd e e5
            · linarith
            · exact e
          obtain ⟨j, hj⟩ : ∃ j, h = 2 * j + 1 := ⟨h / 2, by omega⟩
          exact ⟨-(j + 1), by rw [hzh, hr, hj]; push_cast; ring⟩
      · have hzv : |z - (h + t) * g| = z - (h + t) * g := abs_of_nonneg (by nlinarith)
        rw [hzv, hr]
        push_cast
        exact ⟨by nlinarith, fun he hne => absurd (show z = (h + 1) * g by linarith) hne⟩

/-- −1 for a negative sign. -/
def signR (neg : Bool) : ℝ := if neg then -1 else 1

theorem roundsTo_of_gap (neg : Bool) (hneg : ∀ z, S z → S (-z)) (hg : 0 < g) (ht0 : 0 ≤ t) (ht1 : t < 1) (hgap : gapAt S h g)
    (hr : picksPlace rm neg h t r) (hS : S (r * g)) : roundsTo rm S (signR neg * ((h + t) * g)) (signR neg * (r * g)) := by
  cases neg with
  | false => simpa [signR] using roundsTo_of_gap_pos hg ht0 ht1 hgap hr hS
  | true =>
    have hr : picksPlace (mirrored rm) false h t r := by simpa only [picksPlace, roundsAway_neg] using hr
    simpa [signR] using roundsTo_neg hneg (roundsTo_of_gap_pos hg ht0 ht1 hgap hr hS)

end

/-! ### The numbers of a format -/

theorem FloatFmt.reaches_neg {p : FloatFmt} {b : Bool} {z : ℝ} (h : p.reaches b z) : p.reaches b (-z) := by
  obtain ⟨m, e, hm, he, rfl⟩ := h
  exact ⟨-m, e, by simpa using hm, he, by push_cast; ring⟩

theorem integral_neg {z : ℝ} (h : ∃ i : ℤ, z = i) : ∃ i : ℤ, -z = i := by
  obtain ⟨i, rfl⟩ := h
  exact ⟨-i, by push_cast; rfl⟩

/-- A multiple of `g` lies in no gap of `g`. -/
theorem gap_of_multiple (n : ℤ) (h : ℕ) {g : ℝ} (hg : 0 < g) : (n : ℝ) * g ≤ h * g ∨ (h + 1) * g ≤ n * g := by
  rcases le_or_gt n h with e | e
  · exact .inl (mul_le_mul_of_nonneg_right (by exact_mod_cast e) hg.le)
  · exact .inr (mul_le_mul_of_nonneg_right (by exact_mod_cast e) hg.le)

theorem gapAt_integers (h : ℕ) : gapAt (fun y => ∃ i : ℤ, y = i) h 1 := by
  rintro z ⟨i, rfl⟩
  simpa using gap_of_multiple i h one_pos

theorem two_zpow_pos (q : ℤ) : (0 : ℝ) < 2 ^ q := by positivity

/-- A number with at most p significant bits lies in no gap between p-bit numbers, nor between subnormals where the exponent is bounded. -/
theorem FloatFmt.gapAt_reaches (p : FloatFmt) (b : Bool) (h : ℕ) (q : ℤ) (hh : 2 ^ (p.p - 1) ≤ h ∨ b = true ∧ q = p.qmin) :
    gapAt (p.reaches b) h (2 ^ q) := by
  rintro z ⟨m, e, hm, he, rfl⟩
  rcases le_or_gt q e with hq | hq
  · obtain ⟨k, rfl⟩ := Int.le.dest hq
    have : (m : ℝ) * 2 ^ (q + (k : ℤ)) = (m * 2 ^ k : ℤ) * 2 ^ q := by
      rw [zpow_add₀ (by norm_num)]; push_cast; rw [zpow_natCast]; ring
    rw [this]
    exact gap_of_multiple _ h (two_zpow_pos q)
  · rcases hh with hh | ⟨rfl, rfl⟩
    · left
      obtain ⟨k, hk⟩ := Int.le.dest (show e + 1 ≤ q by omega)
      have hmr : (m : ℝ) ≤ 2 ^ p.p := by exact_mod_cast (le_abs_self m).trans hm.le
      have hhr : (2 : ℝ) ^ (p.p - 1) ≤ h := by exact_mod_cast hh
      have hpp : (2 : ℝ) ^ p.p = 2 ^ (p.p - 1) * 2 := by rw [← pow_succ]; rfl
      calc (m : ℝ) * 2 ^ e ≤ 2 ^ p.p * 2 ^ e := mul_le_mul_of_nonneg_right hmr (two_zpow_pos e).le
        _ = 2 ^ (p.p - 1) * 2 ^ (e + 1) := by rw [hpp, zpow_add_one₀ (by norm_num)]; ring
        _ ≤ h * 2 ^ q := by
          rw [← hk]
          refine mul_le_mul hhr (zpow_le_zpow_right₀ (by norm_num) (by omega)) (two_zpow_pos _).le (Nat.cast_nonneg h)
    · exact absurd (he rfl).1 (by omega)

end Sys2Proof.Machine
end

section
/-!
SUPPORT. `FloatFmt.round` rounds once: the places that `roundAt` keeps, the encoding of a result, and the flags (04 R100, R103, R110-R112).
-/

namespace Sys2Proof.Machine

/-! ### Significant bits -/

theorem bitLen_bounds {m : ℕ} (hm : m ≠ 0) : 2 ^ (bitLen m - 1) ≤ m ∧ m < 2 ^ bitLen m ∧ 1 ≤ bitLen m := by
  simp only [bitLen, hm, if_false, Nat.add_sub_cancel]
  exact ⟨Nat.log2_self_le hm, Nat.lt_log2_self, by omega⟩

theorem bitLen_eq {m n : ℕ} (h1 : 2 ^ n ≤ m) (h2 : m < 2 ^ (n + 1)) : bitLen m = n + 1 := by
  have hm : m ≠ 0 := by have := Nat.two_pow_pos n; omega
  simp only [bitLen, hm, if_false, Nat.add_right_cancel_iff]
  exact (Nat.log2_eq_iff hm).2 ⟨h1, h2⟩

theorem le_bitLen {m n : ℕ} (h : 2 ^ n ≤ m) : n + 1 ≤ bitLen m := by
  have hm : m ≠ 0 := by have := Nat.two_pow_pos n; omega
  have := (bitLen_bounds hm).2.1
  have := (Nat.pow_lt_pow_iff_right (a := 2) (by omega)).1 (h.trans_lt this)
  omega

/-! ### Discarding places -/

/-- The magnitude `X` is (m + δ)·2^e with 0 ≤ δ < 1, and δ ≠ 0 exactly when `sticky`. -/
def approx (X : ℝ) (m : ℕ) (e : ℤ) (sticky : Bool) : Prop :=
  ∃ δ : ℝ, 0 ≤ δ ∧ δ < 1 ∧ X = (m + δ) * 2 ^ e ∧ (sticky = true ↔ δ ≠ 0)

/-- The result of `roundAt`: the places that the mode picks at 2^q, and whether they are the value. -/
def rounding (rm : BitVec 3) (neg : Bool) (X : ℝ) (q : ℤ) (r : ℕ × Bool) : Prop :=
  ∃ (h : ℕ) (t : ℝ), 0 ≤ t ∧ t < 1 ∧ X = (h + t) * 2 ^ q ∧ picksPlace rm neg h t r.1 ∧ (r.2 = true ↔ t ≠ 0)

theorem picksPlace_exact (rm : BitVec 3) (neg : Bool) (h : ℕ) : picksPlace rm neg h 0 h :=
  ⟨fun ⟨h0, _⟩ => absurd rfl h0, fun _ => rfl⟩

theorem roundsUp_iff (rm : BitVec 3) (neg : Bool) (h : ℕ) (t : ℝ) (cmp : Ordering) (exact : Bool) (he : exact = true ↔ t = 0)
    (hlt : cmp = .lt ↔ t < 1 / 2) (heq : cmp = .eq ↔ t = 1 / 2) :
    roundsUp rm neg (h % 2 = 1) cmp exact = true ↔ roundsAway rm neg h t := by
  have hgt : cmp = .gt ↔ 1 / 2 < t := by
    cases cmp <;> simp at hlt heq ⊢
    · linarith
    · linarith
    · exact lt_of_le_of_ne hlt (Ne.symm heq)
  unfold roundsUp roundsAway
  by_cases h0 : t = 0
  · simp [he.2 h0, h0]
  · have : exact = false := Bool.eq_false_iff.2 fun e => h0 (he.1 e)
    subst this
    simp only [Bool.false_eq_true, if_false, ne_eq, h0, not_false_eq_true, true_and]
    by_cases e2 : rm = 2
    · subst e2; simp
    by_cases e3 : rm = 3
    · subst e3; simp
    by_cases e4 : rm = 4
    · subst e4; simp
    by_cases e5 : rm = 5
    · subst e5
      have hge : ¬cmp = .lt ↔ (2 : ℝ)⁻¹ ≤ t := by rw [hlt, not_lt, one_div]
      simp [hge]
    · simp only [e2, e3, e4, e5, hgt, heq, if_false, false_and, false_or, not_false_eq_true, true_and, Bool.or_eq_true, Bool.and_eq_true,
        decide_eq_true_eq]

/-- What is discarded, as a part of a place: how its leading bits `rem` and the sticky rest δ compare with nothing and with half a place. -/
theorem discarded {rem k : ℕ} {δ : ℝ} {sticky : Bool} (hδ0 : 0 ≤ δ) (hδ1 : δ < 1) (hs : sticky = true ↔ δ ≠ 0) :
    ((rem + δ) / 2 ^ (k + 1) = 0 ↔ rem = 0 ∧ sticky = false) ∧ ((rem + δ) / 2 ^ (k + 1) < 1 / 2 ↔ rem < 2 ^ k)
    ∧ ((rem + δ) / 2 ^ (k + 1) = 1 / 2 ↔ rem = 2 ^ k ∧ sticky = false) := by
  have hst : sticky = false ↔ δ = 0 := by cases sticky <;> simp_all
  have hrem0 : (0 : ℝ) ≤ rem := Nat.cast_nonneg rem
  have hpos : (0 : ℝ) < 2 ^ k := by positivity
  have hhalf : (rem + δ) / 2 ^ (k + 1) = (rem + δ) / 2 ^ k / 2 := by rw [pow_succ]; field_simp
  have hint (n : ℕ) : (rem : ℝ) + δ = n ↔ rem = n ∧ δ = 0 := by
    refine ⟨fun h => ?_, fun ⟨hr, hd⟩ => by rw [hr, hd, add_zero]⟩
    have h1 : rem < n + 1 := by exact_mod_cast (show (rem : ℝ) < n + 1 by linarith)
    have h2 : n < rem + 1 := by exact_mod_cast (show (n : ℝ) < rem + 1 by linarith)
    obtain rfl : rem = n := by omega
    exact ⟨rfl, by linarith⟩
  rw [hst]
  refine ⟨?_, ?_, ?_⟩
  · rw [div_eq_zero_iff, or_iff_left (by positivity)]
    simpa using hint 0
  · rw [hhalf, div_lt_div_iff_of_pos_right two_pos, div_lt_one hpos]
    constructor
    · intro h
      exact_mod_cast (show (rem : ℝ) < 2 ^ k by linarith)
    · intro h
      have : (rem : ℝ) + 1 ≤ 2 ^ k := by exact_mod_cast h
      linarith
  · rw [hhalf, div_left_inj' two_ne_zero, div_eq_one_iff_eq hpos.ne']
    simpa using hint (2 ^ k)

/-- Nothing is discarded. -/
theorem rounding_of_multiple (rm : BitVec 3) (neg : Bool) (m k : ℕ) (q : ℤ) :
    rounding rm neg (m * 2 ^ (q + k)) q (m * 2 ^ k, false) := by
  refine ⟨m * 2 ^ k, 0, le_rfl, one_pos, ?_, picksPlace_exact .., by simp⟩
  rw [zpow_add₀ (by norm_num), zpow_natCast]; push_cast; ring

theorem roundAt_rounding {rm : BitVec 3} {neg : Bool} {X : ℝ} {m : ℕ} {e : ℤ} {sticky : Bool} (hX : approx X m e sticky) {q : ℤ}
    (hq : sticky = true → e < q) : rounding rm neg X q (roundAt rm neg m e sticky q) := by
  obtain ⟨δ, hδ0, hδ1, rfl, hs⟩ := hX
  unfold roundAt
  by_cases hle : q ≤ e
  · have hst : sticky = false := Bool.eq_false_iff.2 fun h => absurd (hq h) (by omega)
    have hδ : δ = 0 := by by_contra h; simp [hst] at hs; exact h hs
    obtain ⟨k, rfl⟩ := Int.le.dest hle
    simpa [hδ, hst] using rounding_of_multiple rm neg m k q
  · obtain ⟨k, rfl⟩ : ∃ k : ℕ, q = e + ((k + 1 : ℕ) : ℤ) := ⟨(q - e - 1).toNat, by push_cast; omega⟩
    simp only [if_neg hle, add_sub_cancel_left, Int.toNat_natCast, Nat.add_sub_cancel, Nat.shiftRight_eq_div_pow]
    have hpos : (0 : ℝ) < 2 ^ (k + 1) := by positivity
    have hdm : (m : ℝ) = 2 ^ (k + 1) * (m / 2 ^ (k + 1) : ℕ) + (m % 2 ^ (k + 1) : ℕ) := by
      exact_mod_cast (Nat.div_add_mod m (2 ^ (k + 1))).symm
    have hrem : ((m % 2 ^ (k + 1) : ℕ) : ℝ) + 1 ≤ 2 ^ (k + 1) := by exact_mod_cast Nat.mod_lt m (Nat.two_pow_pos (k + 1))
    generalize m / 2 ^ (k + 1) = hi at *
    generalize m % 2 ^ (k + 1) = rem at *
    obtain ⟨hzero, hlt, heq⟩ := discarded (rem := rem) (k := k) hδ0 hδ1 hs
    have ht : (rem + δ) / 2 ^ (k + 1) * 2 ^ (k + 1) = rem + δ := div_mul_cancel₀ _ hpos.ne'
    have ht0 : 0 ≤ (rem + δ) / 2 ^ (k + 1) := by positivity
    have ht1 : (rem + δ) / 2 ^ (k + 1) < 1 := (div_lt_one hpos).2 (by linarith)
    generalize (rem + δ) / 2 ^ (k + 1) = t at *
    refine ⟨hi, t, ht0, ht1, ?_, ?_, ?_⟩
    · rw [zpow_add₀ (by norm_num), zpow_natCast, hdm]
      linear_combination (2 : ℝ) ^ e * -ht
    · have hiff := roundsUp_iff rm neg hi t (if rem < 2 ^ k then .lt else if rem = 2 ^ k then (if sticky then .gt else .eq) else .gt)
        (rem = 0 && !sticky) (by simp [hzero]) (by rw [hlt]; split_ifs <;> simp_all) (by rw [heq]; split_ifs <;> simp_all; omega)
      refine ⟨fun h => ?_, fun h => ?_⟩
      · rw [if_pos (hiff.2 h)]
      · rw [if_neg fun e => h (hiff.1 e)]
    · rw [ne_eq, hzero]
      cases sticky <;> simp

end Sys2Proof.Machine
end

section
/-!
SUPPORT. The encodings of a format and what they stand for (04 R100), and `FloatFmt.round` (04 R103, R110-R112).
-/

namespace Sys2Proof.Machine

/-! ### Encodings -/

/-- What the four formats have in common. -/
structure FloatFmt.proper (p : FloatFmt) : Prop where
  ew : 2 ≤ p.ew
  fw : 1 ≤ p.fw
  prec : (p.p : ℤ) ≤ p.emax

theorem binary64_proper : binary64.proper := ⟨by decide, by decide, by decide⟩
theorem binary32_proper : binary32.proper := ⟨by decide, by decide, by decide⟩
theorem binary16_proper : binary16.proper := ⟨by decide, by decide, by decide⟩
theorem bfloat16_proper : bfloat16.proper := ⟨by decide, by decide, by decide⟩

section
variable {p : FloatFmt} (hp : p.proper)
include hp

theorem FloatFmt.proper.two_pow_ew : (2 ^ p.ew : ℤ) = 2 * (p.emax + 1) := by
  obtain ⟨k, hk⟩ : ∃ k, p.ew = k + 1 := ⟨p.ew - 1, by have := hp.ew; omega⟩
  simp only [FloatFmt.emax, hk, Nat.add_sub_cancel, pow_succ]
  ring

theorem FloatFmt.proper.emax_pos : 1 ≤ p.emax := by
  have := hp.prec
  simp only [FloatFmt.p] at this
  omega

omit hp in
/-- The fields of an encoding. -/
theorem FloatFmt.fields (p : FloatFmt) (neg : Bool) {E F : ℕ} (hE : E < 2 ^ p.ew) (hF : F < 2 ^ p.fw) :
    let x := p.signBit neg + (E * 2 ^ p.fw + F)
    x % 2 ^ p.fw = F ∧ (x >>> p.fw) % 2 ^ p.ew = E ∧ decide ((x >>> (p.fw + p.ew)) % 2 = 1) = neg ∧ x < 2 ^ p.width := by
  have hEF : E * 2 ^ p.fw + F < 2 ^ (p.fw + p.ew) := by
    rw [pow_add]; nlinarith
  have hx : p.signBit neg + (E * 2 ^ p.fw + F) = (neg.toNat * 2 ^ p.ew + E) * 2 ^ p.fw + F := by
    cases neg <;> simp [FloatFmt.signBit, pow_add]; ring
  have hx' : p.signBit neg + (E * 2 ^ p.fw + F) = neg.toNat * 2 ^ (p.fw + p.ew) + (E * 2 ^ p.fw + F) := by
    cases neg <;> simp [FloatFmt.signBit]
  refine ⟨?_, ?_, ?_, ?_⟩
  · rw [hx, Nat.mul_add_mod_self_right, Nat.mod_eq_of_lt hF]
  · rw [hx, Nat.shiftRight_eq_div_pow, Nat.mul_comm, Nat.mul_add_div (by positivity), Nat.div_eq_of_lt hF, Nat.add_zero,
      Nat.mul_add_mod_self_right, Nat.mod_eq_of_lt hE]
  · rw [hx', Nat.shiftRight_eq_div_pow, Nat.mul_comm neg.toNat, Nat.mul_add_div (by positivity), Nat.div_eq_of_lt hEF]
    cases neg <;> rfl
  · have : 2 ^ p.width = 2 * 2 ^ (p.fw + p.ew) := by simp only [FloatFmt.width, ← pow_succ']; ring_nf
    rw [hx', this]
    cases neg <;> simp <;> omega

omit hp in
theorem FloatFmt.decode_fields (p : FloatFmt) (neg : Bool) {E F : ℕ} (hE : E < 2 ^ p.ew) (hF : F < 2 ^ p.fw) :
    p.decode (p.signBit neg + (E * 2 ^ p.fw + F)) =
      if E = 2 ^ p.ew - 1 then (if F = 0 then .inf neg else .nan (F < 2 ^ (p.fw - 1)))
      else if E = 0 then .fin neg F p.qmin else .fin neg (F + 2 ^ p.fw) (p.qmin + E - 1) := by
  obtain ⟨h1, h2, h3, -⟩ := p.fields neg hE hF
  unfold FloatFmt.decode
  simp only [h1, h2, h3]

omit hp in
theorem FloatFmt.fields_lt (p : FloatFmt) (neg : Bool) {E F : ℕ} (hE : E < 2 ^ p.ew) (hF : F < 2 ^ p.fw) :
    p.signBit neg + (E * 2 ^ p.fw + F) < 2 ^ p.width := (p.fields neg hE hF).2.2.2

omit hp in
theorem FloatFmt.decode_infinity (p : FloatFmt) (neg : Bool) : p.decode (p.infinity neg) = .inf neg ∧ p.infinity neg < 2 ^ p.width := by
  have hE : 2 ^ p.ew - 1 < 2 ^ p.ew := Nat.sub_lt (by positivity) one_pos
  have hF : 0 < 2 ^ p.fw := by positivity
  exact ⟨by simpa [FloatFmt.infinity] using p.decode_fields neg hE hF, by simpa [FloatFmt.infinity] using p.fields_lt neg hE hF⟩

theorem FloatFmt.proper.decode_zero (neg : Bool) : p.decode (p.zero neg) = .fin neg 0 p.qmin ∧ p.zero neg < 2 ^ p.width := by
  have hE : 0 < 2 ^ p.ew := by positivity
  have hF : 0 < 2 ^ p.fw := by positivity
  have hne : ¬0 = 2 ^ p.ew - 1 := by
    have := Nat.pow_le_pow_right (n := 2) (by omega) hp.ew
    omega
  refine ⟨by simpa [FloatFmt.zero, hne] using p.decode_fields neg hE hF, by simpa [FloatFmt.zero] using p.fields_lt neg hE hF⟩

theorem FloatFmt.proper.decode_largest (neg : Bool) :
    p.decode (p.largest neg) = .fin neg (2 ^ p.p - 1) (p.emax - p.fw) ∧ p.largest neg < 2 ^ p.width := by
  have h4 : 2 ^ 2 ≤ 2 ^ p.ew := Nat.pow_le_pow_right (by omega) hp.ew
  have hf : 0 < 2 ^ p.fw := by positivity
  have hx : p.largest neg = p.signBit neg + ((2 ^ p.ew - 2) * 2 ^ p.fw + (2 ^ p.fw - 1)) := by
    obtain ⟨k, hk⟩ : ∃ k, 2 ^ p.ew = k + 2 := ⟨2 ^ p.ew - 2, by omega⟩
    simp only [FloatFmt.largest, hk, Nat.add_sub_cancel, show k + 2 - 1 = k + 1 by omega, Nat.succ_mul]
    omega
  have hE : 2 ^ p.ew - 2 < 2 ^ p.ew := by omega
  have hF : 2 ^ p.fw - 1 < 2 ^ p.fw := by omega
  rw [hx]
  refine ⟨?_, p.fields_lt neg hE hF⟩
  rw [p.decode_fields neg hE hF, if_neg (by omega), if_neg (by omega)]
  have hm : 2 ^ p.fw - 1 + 2 ^ p.fw = 2 ^ p.p - 1 := by simp only [FloatFmt.p, pow_succ]; omega
  have he : p.qmin + ((2 ^ p.ew - 2 : ℕ) : ℤ) - 1 = p.emax - p.fw := by
    have h2 := hp.two_pow_ew
    rw [Nat.cast_sub (by omega)]
    push_cast
    simp only [FloatFmt.qmin, FloatFmt.emin]
    omega
  rw [hm, he]

theorem FloatFmt.proper.decode_defaultNaN : p.decode p.defaultNaN = .nan false ∧ p.defaultNaN < 2 ^ p.width := by
  have hfw := hp.fw
  have hE : 2 ^ p.ew - 1 < 2 ^ p.ew := Nat.sub_lt (by positivity) one_pos
  have hF : 2 ^ (p.fw - 1) < 2 ^ p.fw := Nat.pow_lt_pow_right (by omega) (by omega)
  have h0 : 2 ^ (p.fw - 1) ≠ 0 := by positivity
  exact ⟨by simpa [h0, FloatFmt.signBit, FloatFmt.defaultNaN] using p.decode_fields false hE hF,
    by simpa [FloatFmt.signBit, FloatFmt.defaultNaN] using p.fields_lt false hE hF⟩

/-- The encoding of `r` last places of size 2^q (04 R100). -/
theorem FloatFmt.proper.decode_places (neg : Bool) {r : ℕ} {q : ℤ} (hr : r ≤ 2 ^ p.p) (hq : p.qmin ≤ q) (hsub : r < 2 ^ p.fw → q = p.qmin)
    (hmax : q ≤ p.emax - p.fw) (hcarry : r = 2 ^ p.p → q + 1 ≤ p.emax - p.fw) :
    let x := p.signBit neg + (if r < 2 ^ p.fw then r
      else if r = 2 ^ p.p then ((q + p.fw + p.emax + 1).toNat) * 2 ^ p.fw
      else ((q + p.fw + p.emax).toNat) * 2 ^ p.fw + (r - 2 ^ p.fw))
    x < 2 ^ p.width ∧ ∃ m e, p.decode x = .fin neg m e ∧ (m : ℝ) * 2 ^ e = r * 2 ^ q := by
  have h2 := hp.two_pow_ew
  have hpp : 2 ^ p.p = 2 ^ p.fw + 2 ^ p.fw := by simp only [FloatFmt.p, pow_succ]; omega
  have hqmin : p.qmin = 1 - p.emax - p.fw := rfl
  have hex : ∀ E : ℤ, 1 ≤ E → E ≤ 2 * p.emax → E.toNat < 2 ^ p.ew ∧ E.toNat ≠ 2 ^ p.ew - 1 ∧ E.toNat ≠ 0 ∧ (E.toNat : ℤ) = E := fun E h1 hE => by
    have hlt : E.toNat + 1 < 2 ^ p.ew := by
      have : ((E.toNat + 1 : ℕ) : ℤ) < ((2 ^ p.ew : ℕ) : ℤ) := by push_cast; omega
      exact_mod_cast this
    omega
  dsimp only
  split_ifs with hlt hc
  · have hE : 0 < 2 ^ p.ew := by positivity
    have hne : ¬0 = 2 ^ p.ew - 1 := by
      have := Nat.pow_le_pow_right (n := 2) (by omega) hp.ew
      omega
    have hd := p.decode_fields neg hE hlt
    have hl := p.fields_lt neg hE hlt
    simp only [Nat.zero_mul, Nat.zero_add, hne, if_false, if_true] at hd hl
    exact ⟨hl, r, p.qmin, hd, by rw [hsub hlt]⟩
  · obtain ⟨hE, hE1, hE0, hEc⟩ := hex (q + p.fw + p.emax + 1) (by omega) (by have := hcarry hc; omega)
    have hF : 0 < 2 ^ p.fw := by positivity
    have hd := p.decode_fields neg hE hF
    have hl := p.fields_lt neg hE hF
    simp only [Nat.add_zero, Nat.zero_add, hE1, hE0, if_false, hEc] at hd hl
    refine ⟨hl, _, _, hd, ?_⟩
    rw [hc, show p.qmin + (q + p.fw + p.emax + 1) - 1 = q + 1 by omega, zpow_add_one₀ (by norm_num), FloatFmt.p, pow_succ]
    push_cast; ring
  · obtain ⟨hE, hE1, hE0, hEc⟩ := hex (q + p.fw + p.emax) (by omega) (by omega)
    have hF : r - 2 ^ p.fw < 2 ^ p.fw := by omega
    have hd := p.decode_fields neg hE hF
    have hl := p.fields_lt neg hE hF
    simp only [hE1, hE0, if_false, hEc] at hd
    refine ⟨hl, _, _, hd, ?_⟩
    rw [show p.qmin + (q + p.fw + p.emax) - 1 = q by omega, Nat.sub_add_cancel (by omega)]

end

/-! ### Rounding to the format -/

/-- `r` last places of size 2^q are a number of the format. -/
theorem FloatFmt.reaches_places {p : FloatFmt} {b : Bool} {r : ℕ} {q : ℤ} (hr : r ≤ 2 ^ p.p)
    (hb : b = true → p.qmin ≤ q ∧ q ≤ p.emax - p.fw ∧ (r = 2 ^ p.p → q + 1 ≤ p.emax - p.fw)) : p.reaches b (r * 2 ^ q) := by
  rcases hr.lt_or_eq with hlt | rfl
  · exact ⟨r, q, by simpa using by exact_mod_cast hlt, fun e => ⟨(hb e).1, (hb e).2.1⟩, by push_cast; rfl⟩
  · refine ⟨2 ^ p.fw, q + 1, ?_, fun e => ?_, ?_⟩
    · rw [abs_of_pos (by positivity)]
      exact pow_lt_pow_right₀ (by norm_num) (by simp [FloatFmt.p])
    · obtain ⟨h1, -, h3⟩ := hb e
      exact ⟨by omega, h3 rfl⟩
    · rw [zpow_add_one₀ (by norm_num), FloatFmt.p, pow_succ]; push_cast; ring

/-- The whole places of a value between whole places. -/
theorem places_bounds {X g t : ℝ} {h a b : ℕ} (hg : 0 < g) (ht0 : 0 ≤ t) (ht1 : t < 1) (hX : X = (h + t) * g) :
    (a * g ≤ X → a ≤ h) ∧ (X < b * g → h < b) := by
  subst hX
  constructor
  · intro ha
    have := le_of_mul_le_mul_right ha hg
    exact Nat.lt_succ_iff.1 (by exact_mod_cast (show (a : ℝ) < h + 1 by linarith))
  · intro hb
    have := lt_of_mul_lt_mul_right hb hg.le
    exact_mod_cast (show (h : ℝ) < b by linarith)

theorem picksPlace_cases {rm : BitVec 3} {neg : Bool} {h r : ℕ} {t : ℝ} (hr : picksPlace rm neg h t r) : r = h ∨ r = h + 1 := by
  obtain ⟨h1, h2⟩ := hr
  by_cases e : roundsAway rm neg h t <;> tauto

theorem ratOf_cast (neg : Bool) (m : ℕ) (e : ℤ) : ((ratOf neg m e : ℚ) : ℝ) = signR neg * (m * 2 ^ e) := by
  cases neg <;> simp [ratOf, signR]

theorem abs_signR_mul (neg : Bool) (x : ℝ) : |signR neg * x| = |x| := by cases neg <;> simp [signR]

theorem signR_mul_inj (neg : Bool) {x y : ℝ} : signR neg * x = signR neg * y ↔ x = y := by cases neg <;> simp [signR]

theorem signR_mul_neg_iff (neg : Bool) {x : ℝ} (hx : 0 < x) : signR neg * x < 0 ↔ neg = true := by
  cases neg <;> simp [signR, hx, hx.le]

/-- The value that is to be rounded has its leading bit at p − 1 places of size 2^(e + bitLen m − p). -/
theorem approx.lead {X : ℝ} {m : ℕ} {e : ℤ} {sticky : Bool} (hX : approx X m e sticky) (hm : m ≠ 0) {n : ℕ} (hn : 1 ≤ n) :
    ((2 ^ (n - 1) : ℕ) : ℝ) * 2 ^ (e + bitLen m - n) ≤ X ∧ X < ((2 ^ n : ℕ) : ℝ) * 2 ^ (e + bitLen m - n) := by
  obtain ⟨hlo, hhi, hL1⟩ := bitLen_bounds hm
  obtain ⟨δ, hδ0, hδ1, rfl, -⟩ := hX
  have he := two_zpow_pos e
  have scale (a b : ℕ) (q : ℤ) (hab : (a : ℤ) + q = b + e) : ((2 ^ a : ℕ) : ℝ) * 2 ^ q = ((2 ^ b : ℕ) : ℝ) * 2 ^ e := by
    push_cast
    rw [← zpow_natCast, ← zpow_natCast, ← zpow_add₀ (by norm_num), ← zpow_add₀ (by norm_num), hab]
  have hl : ((2 ^ (bitLen m - 1) : ℕ) : ℝ) ≤ m := by exact_mod_cast hlo
  have hh : (m : ℝ) + 1 ≤ ((2 ^ bitLen m : ℕ) : ℝ) := by exact_mod_cast hhi
  rw [scale (n - 1) (bitLen m - 1) _ (by omega), scale n (bitLen m) _ (by omega)]
  exact ⟨mul_le_mul_of_nonneg_right (by linarith) he.le, mul_lt_mul_of_pos_right (by linarith) he⟩

/-- A number of whole places lies in the binade of its leading bit. -/
theorem places_binade {r : ℕ} (hr : r ≠ 0) (q : ℤ) : (2 : ℝ) ^ (q + bitLen r - 1) ≤ r * 2 ^ q ∧ (r : ℝ) * 2 ^ q < 2 ^ (q + bitLen r) := by
  have h := approx.lead (X := r * 2 ^ q) (e := q) (sticky := false) ⟨0, le_rfl, one_pos, by rw [add_zero], by simp⟩ hr (n := bitLen r)
    (bitLen_bounds hr).2.2
  have hL1 := (bitLen_bounds hr).2.2
  rw [add_sub_cancel_right] at h
  push_cast [← zpow_natCast, ← zpow_add₀ (two_ne_zero : (2 : ℝ) ≠ 0)] at h
  refine ⟨by convert h.1 using 2; omega, by convert h.2 using 2; omega⟩

/-- A number with at most p significant bits is at most Ω, or its leading bit lies beyond emax. -/
theorem FloatFmt.largest_or_beyond (p : FloatFmt) {u : ℝ} (hu : p.reaches false u) :
    u ≤ (2 ^ p.p - 1) * 2 ^ (p.emax - p.fw) ∨ 2 ^ (p.emax + 1) ≤ u := by
  have h1 : 1 ≤ 2 ^ p.p := Nat.one_le_two_pow
  have hh : 2 ^ (p.p - 1) ≤ 2 ^ p.p - 1 := by
    simp only [FloatFmt.p, Nat.add_sub_cancel, pow_succ]
    have := Nat.two_pow_pos p.fw
    omega
  have hgap := p.gapAt_reaches false (2 ^ p.p - 1) (p.emax - p.fw) (.inl hh) u hu
  have htop : (2 : ℝ) ^ (p.emax + 1) = 2 ^ p.p * 2 ^ (p.emax - p.fw) := by
    rw [← zpow_natCast, ← zpow_add₀ (by norm_num)]
    congr 1
    simp only [FloatFmt.p]; push_cast; omega
  push_cast [Nat.cast_sub h1] at hgap
  rw [htop]
  simpa using hgap

/-- Where a rounding of the magnitude to whole places lies. -/
theorem rounding.bounds {rm : BitVec 3} {neg : Bool} {X : ℝ} {q : ℤ} {r : ℕ × Bool} (h : rounding rm neg X q r) {a b : ℕ}
    (ha : a * 2 ^ q ≤ X) (hb : X < b * 2 ^ q) : a ≤ r.1 ∧ r.1 ≤ b := by
  obtain ⟨h, t, ht0, ht1, hX, hr, -⟩ := h
  obtain ⟨hlo, hhi⟩ := places_bounds (two_zpow_pos q) ht0 ht1 hX (a := a) (b := b)
  have := hlo ha
  have := hhi hb
  have := picksPlace_cases hr
  omega

/-- A rounding to whole places, as the rounding among the numbers of the format. -/
theorem FloatFmt.roundsTo_of_rounding (p : FloatFmt) {b : Bool} {rm : BitVec 3} {neg : Bool} {X : ℝ} {q : ℤ} {r : ℕ × Bool} (h : rounding rm neg X q r)
    (hlo : ((2 ^ (p.p - 1) : ℕ) : ℝ) * 2 ^ q ≤ X ∨ b = true ∧ q = p.qmin) (hr : p.reaches b (r.1 * 2 ^ q)) :
    roundsTo rm (p.reaches b) (signR neg * X) (signR neg * (r.1 * 2 ^ q)) := by
  obtain ⟨h, t, ht0, ht1, hX, hpick, -⟩ := h
  have hgap := p.gapAt_reaches b h q (hlo.imp_left (places_bounds (two_zpow_pos q) ht0 ht1 hX (a := 2 ^ (p.p - 1)) (b := 0)).1)
  rw [hX]
  exact roundsTo_of_gap neg (fun _ => FloatFmt.reaches_neg) (two_zpow_pos q) ht0 ht1 hgap hpick hr

theorem rounding.inexact {rm : BitVec 3} {neg : Bool} {X : ℝ} {q : ℤ} {r : ℕ × Bool} (h : rounding rm neg X q r) :
    r.2 = true ↔ (r.1 : ℝ) * 2 ^ q ≠ X := by
  obtain ⟨h, t, ht0, ht1, rfl, hpick, hx⟩ := h
  rw [hx, ne_eq, ne_eq, mul_left_inj' (two_zpow_pos q).ne']
  refine ⟨fun ht e => ?_, fun hne ht => hne ?_⟩
  · rcases picksPlace_cases hpick with hr | hr <;> rw [hr] at e
    · exact ht (by linarith)
    · push_cast at e; linarith
  · subst ht
    rw [hpick.2 fun ⟨h0, _⟩ => h0 rfl, add_zero]

section
variable {p : FloatFmt} (hp : p.proper) {rm : BitVec 3} {neg : Bool} {X : ℝ} {m : ℕ} {e : ℤ} {sticky : Bool} (hm : m ≠ 0)
  (hX : approx X m e sticky) (hs : sticky = true → p.p < bitLen m) {mu : ℕ}
  (hmu : mu = (roundAt rm neg m e sticky (e + bitLen m - p.p)).1)
include hp hm hX hs hmu

/-- The exponent of the last place that `FloatFmt.round` keeps, and what it keeps, are in the range of the format unless it overflows. -/
theorem FloatFmt.proper.places_fit (htop : e + bitLen m - p.p + bitLen mu - 1 ≤ p.emax) :
    let q := max (e + bitLen m - p.p) p.qmin
    let r := (roundAt rm neg m e sticky q).1
    r ≤ 2 ^ p.p ∧ (r < 2 ^ p.fw → q = p.qmin) ∧ q ≤ p.emax - p.fw ∧ (r = 2 ^ p.p → q + 1 ≤ p.emax - p.fw)
    ∧ (((2 ^ (p.p - 1) : ℕ) : ℝ) * 2 ^ q ≤ X ∨ q = p.qmin) := by
  intro q r
  obtain ⟨hXlo, hXhi⟩ := hX.lead hm (n := p.p) (by simp [FloatFmt.p])
  have hround : rounding rm neg X q (roundAt rm neg m e sticky q) := roundAt_rounding hX fun h => by have := hs h; omega
  have hpp : 2 ^ p.p = 2 ^ p.fw + 2 ^ p.fw := by simp only [FloatFmt.p, pow_succ]; omega
  have hpos : 0 < 2 ^ p.fw := by positivity
  have hqmin : p.qmin = 1 - p.emax - p.fw := rfl
  have hpfw : p.p = p.fw + 1 := rfl
  rcases le_or_gt p.qmin (e + bitLen m - p.p) with hle | hlt
  · have hq : q = e + bitLen m - p.p := max_eq_left hle
    have hr : r = mu := by rw [hmu, ← hq]
    rw [hq] at hround
    obtain ⟨hlo, hhi⟩ := hround.bounds hXlo hXhi
    rw [← hmu] at hlo hhi
    rw [hr, hq]
    have hlen := le_bitLen hlo
    rw [hpfw, Nat.add_sub_cancel] at hlo
    refine ⟨hhi, fun h => by omega, by omega, fun h => ?_, .inl hXlo⟩
    have := le_bitLen h.ge
    omega
  · have hq : q = p.qmin := max_eq_right hlt.le
    have hXsub : X < (2 ^ p.fw : ℕ) * 2 ^ p.qmin := by
      refine hXhi.trans_le ?_
      have : ((2 ^ p.p : ℕ) : ℝ) * 2 ^ (e + bitLen m - p.p) = (2 ^ p.fw : ℕ) * 2 ^ (e + bitLen m - p.p + 1) := by
        rw [zpow_add_one₀ (by norm_num), hpfw, pow_succ]; push_cast; ring
      rw [this]
      exact mul_le_mul_of_nonneg_left (zpow_le_zpow_right₀ (by norm_num) (by omega)) (by positivity)
    have hr : r ≤ 2 ^ p.fw := by
      have hX0 : ((0 : ℕ) : ℝ) * 2 ^ q ≤ X := by rw [Nat.cast_zero, zero_mul]; exact le_trans (by positivity) hXlo
      exact (hround.bounds hX0 (by rwa [hq])).2
    have hemax := hp.emax_pos
    rw [hq]
    exact ⟨by omega, fun _ => rfl, by omega, fun h => by omega, .inr rfl⟩

/-- What `FloatFmt.round` delivers when it does not overflow (04 R100, R103, R112). -/
theorem FloatFmt.proper.round_fits (htop : e + bitLen m - p.p + bitLen mu - 1 ≤ p.emax) :
    let x := p.round rm neg m e sticky
    x.val < 2 ^ p.width ∧ ∃ n g, p.decode x.val = .fin neg n g ∧ roundsTo rm (p.reaches true) (signR neg * X) (ratOf neg n g)
      ∧ (ratOf neg n g = signR neg * X → x.flags = 0)
      ∧ (ratOf neg n g ≠ signR neg * X → x.flags = if e + bitLen m - p.p + bitLen mu - 1 < p.emin then 0x18 else 0x10) := by
  obtain ⟨hr, hsub, hmax, hcarry, hgap⟩ := hp.places_fit hm hX hs hmu htop
  have hround : rounding rm neg X (max (e + bitLen m - p.p) p.qmin) (roundAt rm neg m e sticky (max (e + bitLen m - p.p) p.qmin)) :=
    roundAt_rounding hX fun h => by have := hs h; omega
  obtain ⟨hlt, n, g, hd, hval⟩ := hp.decode_places neg hr (le_max_right ..) hsub hmax hcarry
  have hrounds := p.roundsTo_of_rounding hround (hgap.imp_right fun h => ⟨rfl, h⟩)
    (FloatFmt.reaches_places hr fun _ => ⟨le_max_right .., hmax, hcarry⟩)
  have hexact := hround.inexact
  unfold FloatFmt.round
  dsimp only
  rw [← hmu, if_neg (not_lt.2 htop)]
  refine ⟨hlt, n, g, hd, ?_, ?_, ?_⟩ <;> rw [ratOf_cast, hval]
  · exact hrounds
  · rw [signR_mul_inj]
    intro h
    have : (roundAt rm neg m e sticky (max (e + bitLen m - p.p) p.qmin)).2 = false := Bool.eq_false_iff.2 fun e => hexact.1 e h
    simp [this]
  · rw [ne_eq, signR_mul_inj]
    intro h
    rw [hexact.2 h]
    by_cases ht : e + bitLen m - p.p + bitLen mu - 1 < p.emin
    · simp only [ht, decide_true, Bool.and_self, if_true]; rfl
    · simp only [ht, decide_false, Bool.false_and, Bool.false_eq_true, if_false, if_true]; rfl

end

theorem FloatFmt.round_overflows {p : FloatFmt} {rm : BitVec 3} {neg : Bool} {m mu : ℕ} {e : ℤ} {sticky : Bool}
    (hmu : mu = (roundAt rm neg m e sticky (e + bitLen m - p.p)).1) (htop : p.emax < e + bitLen m - p.p + bitLen mu - 1) :
    p.round rm neg m e sticky = ⟨p.overflow rm neg, 0x14⟩ := by
  unfold FloatFmt.round
  dsimp only
  rw [← hmu, if_pos htop]
  rfl

theorem FloatFmt.proper.decode_overflow {p : FloatFmt} (hp : p.proper) (rm : BitVec 3) (neg : Bool) :
    p.overflow rm neg < 2 ^ p.width ∧ p.decode (p.overflow rm neg) =
      if rm = 2 ∨ (rm = 3 ∧ neg = true) ∨ (rm = 4 ∧ neg = false) then .fin neg (2 ^ p.p - 1) (p.emax - p.fw) else .inf neg := by
  simp only [FloatFmt.overflow, Bool.not_eq_true]
  split_ifs with h
  · exact (hp.decode_largest neg).symm
  · exact (p.decode_infinity neg).symm

/-- `FloatFmt.round` delivers a value rounded once, where what it knows of the value goes beyond the precision (04 R103, R111). -/
theorem FloatFmt.proper.round_rounded {p : FloatFmt} (hp : p.proper) {rm : BitVec 3} {neg : Bool} {X : ℝ} {m : ℕ} {e : ℤ} {sticky zeroNeg : Bool}
    (hm : m ≠ 0) (hX : approx X m e sticky) (hs : sticky = true → p.p < bitLen m) :
    p.rounded rm (signR neg * X) zeroNeg (p.round rm neg m e sticky) := by
  have hp1 : 1 ≤ p.p := by simp [FloatFmt.p]
  obtain ⟨hXlo, hXhi⟩ := hX.lead hm hp1
  have hX0 : 0 < X := lt_of_lt_of_le (by positivity) hXlo
  have hround := roundAt_rounding (rm := rm) (neg := neg) hX (q := e + bitLen m - p.p) (fun h => by have := hs h; omega)
  obtain ⟨hmulo, hmuhi⟩ := hround.bounds hXlo hXhi
  have hfits := hp.round_fits (rm := rm) (neg := neg) hm hX hs rfl
  have hoverflows := p.round_overflows (rm := rm) (neg := neg) (m := m) (e := e) (sticky := sticky) rfl
  have hreach := FloatFmt.reaches_places (p := p) (b := false) hmuhi (q := e + bitLen m - p.p) (fun h => absurd h (by decide))
  have hu := p.roundsTo_of_rounding hround (.inl hXlo) hreach
  generalize (roundAt rm neg m e sticky (e + bitLen m - p.p)).1 = mu at *
  have hmu0 : mu ≠ 0 := by have := Nat.two_pow_pos (p.p - 1); omega
  obtain ⟨hblo, hbhi⟩ := places_binade hmu0 (e + bitLen m - p.p)
  have hU0 : (0 : ℝ) ≤ mu * 2 ^ (e + bitLen m - p.p) := by positivity
  have hbeyond := p.largest_or_beyond hreach
  generalize (mu : ℝ) * 2 ^ (e + bitLen m - p.p) = U at *
  generalize htop : e + bitLen m - p.p + bitLen mu - 1 = top at *
  have hbhi : U < 2 ^ (top + 1) := by rwa [← htop, sub_add_cancel]
  have hover : (2 ^ p.p - 1) * 2 ^ (p.emax - p.fw) < U ↔ p.emax < top := by
    constructor
    · intro h
      have h2 : (2 : ℝ) ^ (p.emax + 1) < 2 ^ (top + 1) := (hbeyond.resolve_left (not_le.2 h)).trans_lt hbhi
      have := (zpow_lt_zpow_iff_right₀ (by norm_num)).1 h2
      omega
    · intro h
      refine lt_of_lt_of_le ?_ ((zpow_le_zpow_right₀ (by norm_num) (show p.emax + 1 ≤ top by omega)).trans hblo)
      have : (2 : ℝ) ^ (p.emax + 1) = 2 ^ p.p * 2 ^ (p.emax - p.fw) := by
        rw [← zpow_natCast, ← zpow_add₀ (by norm_num)]
        congr 1
        simp only [FloatFmt.p]; push_cast; omega
      rw [this]
      exact mul_lt_mul_of_pos_right (by linarith) (two_zpow_pos _)
  have htiny : U < 2 ^ p.emin ↔ top < p.emin := by
    constructor
    · intro h
      exact (zpow_lt_zpow_iff_right₀ (by norm_num)).1 (hblo.trans_lt h)
    · intro h
      exact hbhi.trans_le (zpow_le_zpow_right₀ (by norm_num) (by omega))
  have hne : signR neg * X ≠ 0 := by rw [ne_eq, mul_eq_zero]; cases neg <;> simp [signR, hX0.ne']
  have hlt : (p.round rm neg m e sticky).val < 2 ^ p.width := by
    rcases le_or_gt top p.emax with h | h
    · exact (hfits h).1
    · rw [hoverflows h]
      exact (hp.decode_overflow rm neg).1
  refine ⟨hlt, fun h => absurd h hne, fun _ => ⟨neg, signR neg * U, (signR_mul_neg_iff neg hX0).symm, hu, ?_, ?_⟩⟩
  · rw [abs_signR_mul, abs_of_nonneg hU0, hover]
    intro h
    rw [hoverflows h]
    exact ⟨rfl, (hp.decode_overflow rm neg).2⟩
  · rw [abs_signR_mul, abs_of_nonneg hU0, ← not_lt, hover, not_lt]
    intro h
    obtain ⟨-, n, g, hd, hrounds, hexact, hinexact⟩ := hfits h
    refine ⟨n, g, hd, hrounds, hexact, fun hx => ⟨fun ht => ?_, fun ht => ?_⟩⟩
    · rw [hinexact hx, if_pos (htiny.1 ht)]
    · rw [hinexact hx, if_neg fun hc => not_lt.2 ht (htiny.2 hc)]

end Sys2Proof.Machine
end

section
/-!
SUPPORT. The arithmetic of a format: each operation delivers what its row says (04 R103, R108-R112, R119, R122).
-/

namespace Sys2Proof.Machine

/-! ### The four formats -/

/-- One of the formats of the architecture. -/
def FloatFmt.standard (p : FloatFmt) : Prop := p = binary64 ∨ p = binary32 ∨ p = binary16 ∨ p = bfloat16

theorem FloatFmt.standard.proper {p : FloatFmt} (h : p.standard) : p.proper := by
  rcases h with rfl | rfl | rfl | rfl
  exacts [binary64_proper, binary32_proper, binary16_proper, bfloat16_proper]

theorem FloatFmt.standard.quiet {p : FloatFmt} (h : p.standard) : p.defaultNaN = p.quietNaN := by
  rcases h with rfl | rfl | rfl | rfl <;> decide

theorem standard_of_floatOf {ty : ℕ} {p : FloatFmt} (h : floatOf ty = some p) : p.standard := by
  unfold floatOf at h
  split_ifs at h <;> cases h
  exacts [.inl rfl, .inr (.inl rfl), .inr (.inr (.inl rfl)), .inr (.inr (.inr rfl))]

/-! ### Exact results -/

theorem approx_exact (m : ℕ) (e : ℤ) : approx (m * 2 ^ e) m e false := ⟨0, le_rfl, one_pos, by rw [add_zero], by simp⟩

theorem FloatFmt.proper.rounded_zero {p : FloatFmt} (hp : p.proper) (rm : BitVec 3) (zeroNeg : Bool) : p.rounded rm 0 zeroNeg ⟨p.zero zeroNeg, 0⟩ :=
  ⟨(hp.decode_zero zeroNeg).2, fun _ => ⟨(hp.decode_zero zeroNeg).1, rfl⟩, fun h => absurd rfl h⟩

theorem signR_lt_zero_mul (i : ℤ) : signR (decide (i < 0)) * i.natAbs = i := by
  rcases lt_or_ge i 0 with h | h
  · have : ((i.natAbs : ℤ) : ℝ) = -i := by rw [Int.ofNat_natAbs_of_nonpos h.le]; push_cast; rfl
    simp only [h, decide_true, signR, if_true]
    rw [← Int.cast_natCast, this]; ring
  · have : ((i.natAbs : ℤ) : ℝ) = i := by rw [Int.natAbs_of_nonneg h]
    simp only [not_lt.2 h, decide_false, signR, Bool.false_eq_true, if_false]
    rw [← Int.cast_natCast, this]; ring

theorem FloatFmt.proper.roundInt_rounded {p : FloatFmt} (hp : p.proper) (rm : BitVec 3) (i e : ℤ) (zeroNeg : Bool) :
    p.rounded rm (i * 2 ^ e) zeroNeg (p.roundInt rm i e zeroNeg) := by
  unfold FloatFmt.roundInt
  split_ifs with h
  · simpa [h] using hp.rounded_zero rm zeroNeg
  · have := hp.round_rounded (rm := rm) (neg := decide (i < 0)) (zeroNeg := zeroNeg) (Int.natAbs_ne_zero.2 h) (approx_exact i.natAbs e) (by simp)
    rwa [← mul_assoc, signR_lt_zero_mul] at this

theorem FloatFmt.proper.ofVal_rounded {p : FloatFmt} (hp : p.proper) (rm : BitVec 3) (neg : Bool) (m : ℕ) (e : ℤ) :
    p.rounded rm (ratOf neg m e) neg (p.ofVal rm (.fin neg m e)) := by
  rw [ratOf_cast]
  simp only [FloatFmt.ofVal]
  split_ifs with h
  · simpa [h] using hp.rounded_zero rm neg
  · exact hp.round_rounded h (approx_exact m e) (by simp)

theorem scaled_cast {neg : Bool} {m : ℕ} {e e0 : ℤ} (h : e0 ≤ e) : (scaled neg m e e0 : ℝ) * 2 ^ e0 = (ratOf neg m e : ℚ) := by
  obtain ⟨k, rfl⟩ := Int.le.dest h
  rw [ratOf_cast, zpow_add₀ (by norm_num), zpow_natCast]
  cases neg <;> simp [scaled, signR] <;> ring

theorem ratOf_mul (s t : Bool) (m n : ℕ) (e g : ℤ) : ratOf s m e * ratOf t n g = ratOf (s != t) (m * n) (e + g) := by
  simp only [ratOf, zpow_add₀ (two_ne_zero : (2 : ℚ) ≠ 0)]
  cases s <;> cases t <;> simp <;> ring

/-! ### NaNs and infinities -/

theorem FVal.snan_eq (x : FVal) : x.snan = if x = .nan true then 1 else 0 := by
  rcases x with (_ | _) | _ | _ <;> rfl

/-- Two conditions that raise one flag. -/
theorem ite_flag_or (P Q : Prop) [Decidable P] [Decidable Q] :
    ((if P then 1 else 0) ||| (if Q then 1 else 0) : FlagSet) = if P ∨ Q then 1 else 0 := by
  by_cases hP : P <;> by_cases hQ : Q <;> simp [hP, hQ]

section
variable {p : FloatFmt} (hp : p.standard)
include hp

theorem FloatFmt.standard.givesNaN_invalid : p.givesNaN True ⟨p.defaultNaN, flIV⟩ := ⟨hp.quiet, fun _ => rfl, fun h => absurd trivial h⟩

theorem FloatFmt.standard.givesNaN_of {q : Prop} [Decidable q] {fl : FlagSet} (h : fl = if q then 1 else 0) : p.givesNaN q ⟨p.defaultNaN, fl⟩ :=
  ⟨hp.quiet, fun hq => by simp [h, hq], fun hq => by simp [h, hq]⟩

theorem FloatFmt.standard.givesNaN_snan (a b : FVal) : p.givesNaN (a = .nan true ∨ b = .nan true) ⟨p.defaultNaN, a.snan ||| b.snan⟩ := by
  exact hp.givesNaN_of (by rw [a.snan_eq, b.snan_eq, ite_flag_or])

omit hp in
theorem FloatFmt.givesInf_infinity (p : FloatFmt) (neg : Bool) (fl : FlagSet) : p.givesInf neg fl ⟨p.infinity neg, fl⟩ :=
  ⟨(p.decode_infinity neg).2, (p.decode_infinity neg).1, rfl⟩

/-! ### Sums, products and fused operations -/

theorem FloatFmt.standard.addV_sums (rm : BitVec 3) (a b : FVal) : p.sums rm a b (p.addV rm a b) := by
  cases a with
  | nan s => cases b <;> exact hp.givesNaN_snan _ _
  | inf s => cases b with
    | nan t => exact hp.givesNaN_snan _ _
    | inf t =>
      simp only [FloatFmt.sums, FloatFmt.addV]
      split_ifs
      · exact p.givesInf_infinity s 0
      · exact hp.givesNaN_invalid
    | fin t n g => exact p.givesInf_infinity s 0
  | fin s m e => cases b with
    | nan t => exact hp.givesNaN_snan _ _
    | inf t => exact p.givesInf_infinity t 0
    | fin t n g =>
      have h := hp.proper.roundInt_rounded rm (scaled s m e (min e g) + scaled t n g (min e g)) (min e g)
        (if m = 0 ∧ n = 0 ∧ s = t then s else rm = 4)
      rw [Int.cast_add, add_mul, scaled_cast (min_le_left ..), scaled_cast (min_le_right ..)] at h
      simp only [FloatFmt.sums, beq_eq_decide]
      push_cast
      exact h

theorem FloatFmt.standard.mul_multiplies (rm : BitVec 3) (a b : FVal) : p.multiplies rm a b (p.mul rm a b) := by
  have hnan (x y : FVal) : p.givesNaN (x = .nan true ∨ y = .nan true) ⟨p.defaultNaN, 0 ||| (x.snan ||| y.snan)⟩ := by
    simpa using hp.givesNaN_snan x y
  have hinf (s : Bool) : p.givesInf s 0 ⟨p.infinity s, 0 ||| 0⟩ := p.givesInf_infinity s 0
  have hinv : p.givesNaN True ⟨p.defaultNaN, 0 ||| flIV⟩ := hp.givesNaN_invalid
  cases a with
  | nan s => cases b <;> exact hnan _ _
  | inf s => cases b with
    | nan t => exact hnan _ _
    | inf t => exact hinf _
    | fin t n g =>
      simp only [FloatFmt.multiplies, FloatFmt.mul, mulV]
      by_cases h : n = 0
      · simp only [h, if_true]; exact hinv
      · simp only [h, if_false]; exact hinf _
  | fin s m e => cases b with
    | nan t => exact hnan _ _
    | inf t =>
      simp only [FloatFmt.multiplies, FloatFmt.mul, mulV]
      by_cases h : m = 0
      · simp only [h, if_true]; exact hinv
      · simp only [h, if_false]; exact hinf _
    | fin t n g =>
      have hr : p.mul rm (.fin s m e) (.fin t n g) = p.ofVal rm (.fin (s != t) (m * n) (e + g)) := by
        simp [FloatFmt.mul, mulV]
      simp only [FloatFmt.multiplies, ratOf_mul, hr]
      exact hp.proper.ofVal_rounded rm (s != t) (m * n) (e + g)

theorem FloatFmt.standard.fma_fuses (rm : BitVec 3) (a b c : FVal) : p.fuses rm a b c (p.fma rm a b c) := by
  have hnan (x y : FVal) : p.givesNaN (x = .nan true ∨ y = .nan true ∨ c = .nan true) ⟨p.defaultNaN, x.snan ||| y.snan ||| c.snan⟩ := by
    refine hp.givesNaN_of ?_
    rw [x.snan_eq, y.snan_eq, c.snan_eq, ite_flag_or, ite_flag_or]
    exact if_congr (by tauto) rfl rfl
  have hinv : p.givesNaN True ⟨p.defaultNaN, flIV ||| c.snan⟩ := by
    refine hp.givesNaN_of ?_
    rw [c.snan_eq]
    by_cases hc : c = .nan true <;> simp [hc, flIV]
  cases a with
  | nan s => cases b <;> exact hnan _ _
  | inf s => cases b with
    | nan t => exact hnan _ _
    | inf t => exact hp.addV_sums rm _ c
    | fin t n g =>
      simp only [FloatFmt.fuses, FloatFmt.fma, mulV]
      by_cases h : n = 0
      · simp only [h, if_true]; exact hinv
      · simp only [h, if_false]; exact hp.addV_sums rm _ c
  | fin s m e => cases b with
    | nan t => exact hnan _ _
    | inf t =>
      simp only [FloatFmt.fuses, FloatFmt.fma, mulV]
      by_cases h : m = 0
      · simp only [h, if_true]; exact hinv
      · simp only [h, if_false]; exact hp.addV_sums rm _ c
    | fin t n g => exact hp.addV_sums rm _ c

/-! ### Quotients and roots -/

omit hp in
/-- The leading bits of a quotient. -/
theorem approx_quotient (m n k : ℕ) (hn : n ≠ 0) (e g : ℤ) :
    approx (m * 2 ^ e / (n * 2 ^ g)) (m * 2 ^ k / n) (e - g - k) (m * 2 ^ k % n != 0) := by
  have hn0 : (0 : ℝ) < n := by exact_mod_cast Nat.pos_of_ne_zero hn
  have hdm : ((m * 2 ^ k : ℕ) : ℝ) = n * (m * 2 ^ k / n : ℕ) + (m * 2 ^ k % n : ℕ) := by exact_mod_cast (Nat.div_add_mod _ n).symm
  have hmod : ((m * 2 ^ k % n : ℕ) : ℝ) < n := by exact_mod_cast Nat.mod_lt _ (Nat.pos_of_ne_zero hn)
  refine ⟨(m * 2 ^ k % n : ℕ) / n, by positivity, (div_lt_one hn0).2 hmod, ?_, by simp [hn]⟩
  have hq : ((m * 2 ^ k / n : ℕ) : ℝ) + (m * 2 ^ k % n : ℕ) / n = m * 2 ^ k / n := by
    rw [eq_div_iff hn0.ne', add_mul, div_mul_cancel₀ _ hn0.ne']
    push_cast at hdm
    linarith
  rw [hq, zpow_sub₀ (by norm_num), zpow_sub₀ (by norm_num), zpow_natCast]
  field_simp

omit hp in
theorem ne_zero_of_bitLen {a m : ℕ} (h : a < bitLen m) : m ≠ 0 := by
  rintro rfl
  simp [bitLen] at h

omit hp in
/-- A quotient with enough bits of its dividend has more than p bits. -/
theorem bitLen_quotient {m n a : ℕ} (hm : m ≠ 0) (hn : n ≠ 0) : a < bitLen (m * 2 ^ (a + bitLen n) / n) := by
  have hlt := (bitLen_bounds hn).2.1
  refine le_bitLen ((Nat.le_div_iff_mul_le (Nat.pos_of_ne_zero hn)).2 ?_)
  calc 2 ^ a * n ≤ 2 ^ a * 2 ^ bitLen n := Nat.mul_le_mul_left _ hlt.le
    _ = 1 * 2 ^ (a + bitLen n) := by rw [pow_add, one_mul]
    _ ≤ m * 2 ^ (a + bitLen n) := Nat.mul_le_mul_right _ (Nat.pos_of_ne_zero hm)

theorem FloatFmt.standard.div_divides (rm : BitVec 3) (a b : FVal) : p.divides rm a b (p.div rm a b) := by
  cases a with
  | nan s => cases b <;> exact hp.givesNaN_snan _ _
  | inf s => cases b with
    | nan t => exact hp.givesNaN_snan _ _
    | inf t => exact hp.givesNaN_invalid
    | fin t n g => exact p.givesInf_infinity _ 0
  | fin s m e => cases b with
    | nan t => exact hp.givesNaN_snan _ _
    | inf t => exact hp.proper.rounded_zero rm _
    | fin t n g =>
      simp only [FloatFmt.divides, FloatFmt.div]
      by_cases hn : n = 0
      · by_cases hm : m = 0
        · simp only [hn, hm, if_true]; exact hp.givesNaN_invalid
        · simp only [hn, hm, if_true, if_false]; exact p.givesInf_infinity _ 2
      · simp only [hn, if_false]
        push_cast
        rw [ratOf_cast, ratOf_cast]
        by_cases hm : m = 0
        · simp only [hm, if_true]
          simpa using hp.proper.rounded_zero rm (s != t)
        · simp only [hm, if_false]
          have h := hp.proper.round_rounded (rm := rm) (neg := s != t) (zeroNeg := s != t)
            (ne_zero_of_bitLen (bitLen_quotient (a := p.p + 3) hm hn)) (approx_quotient m n (p.p + 3 + bitLen n) hn e g)
            (fun _ => lt_trans (by omega) (bitLen_quotient (a := p.p + 3) hm hn))
          push_cast at h ⊢
          convert h using 1
          cases s <;> cases t <;> simp [signR, neg_div, div_neg]

omit hp in
/-- `isqrtGo` finds the bits of the root below 2^k (04 R109). -/
theorem isqrtGo_bounds (n k r : ℕ) (hlo : r * r ≤ n) (hhi : n < (r + 2 ^ k) * (r + 2 ^ k)) :
    isqrtGo n k r * isqrtGo n k r ≤ n ∧ n < (isqrtGo n k r + 1) * (isqrtGo n k r + 1) := by
  induction k generalizing r with
  | zero => exact ⟨hlo, hhi⟩
  | succ k ih =>
    simp only [isqrtGo]
    split_ifs with h
    · exact ih _ h (by rwa [add_assoc, ← two_mul, ← pow_succ'])
    · exact ih _ hlo (not_le.1 h)

omit hp in
theorem isqrt_bounds (n : ℕ) : isqrt n * isqrt n ≤ n ∧ n < (isqrt n + 1) * (isqrt n + 1) := by
  refine isqrtGo_bounds n _ 0 (by simp) ?_
  rcases eq_or_ne n 0 with rfl | hn
  · simp
  · rw [zero_add, ← pow_add]
    exact (bitLen_bounds hn).2.1.trans_le (Nat.pow_le_pow_right (by omega) (by omega))

omit hp in
/-- The leading bits of a root. -/
theorem approx_root (m k : ℕ) (e f : ℤ) (hf : e = 2 * f + k) :
    approx (√(m * 2 ^ e)) (isqrt (m * 2 ^ k)) f (isqrt (m * 2 ^ k) * isqrt (m * 2 ^ k) != m * 2 ^ k) := by
  obtain ⟨hlo, hhi⟩ := isqrt_bounds (m * 2 ^ k)
  have hroot : √((m : ℝ) * 2 ^ e) = √(m * 2 ^ k : ℕ) * 2 ^ f := by
    have hsq : (m : ℝ) * 2 ^ e = (m * 2 ^ k : ℕ) * (2 ^ f) ^ 2 := by
      rw [hf, zpow_add₀ (by norm_num), zpow_natCast, mul_comm 2 f, zpow_mul]
      push_cast
      rw [zpow_ofNat]
      ring
    rw [hsq, Real.sqrt_mul (by positivity), Real.sqrt_sq (by positivity)]
  generalize m * 2 ^ k = big at *
  have hlo' : (isqrt big : ℝ) ≤ √big := Real.le_sqrt_of_sq_le (by rw [sq]; exact_mod_cast hlo)
  have hhi' : √(big : ℝ) < isqrt big + 1 := (Real.sqrt_lt' (by positivity)).2 (by rw [sq]; exact_mod_cast hhi)
  refine ⟨√big - isqrt big, by linarith, by linarith, by rw [hroot]; ring, ?_⟩
  have hexact : √(big : ℝ) = isqrt big ↔ isqrt big * isqrt big = big := by
    rw [Real.sqrt_eq_iff_mul_self_eq (by positivity) (by positivity)]
    exact_mod_cast eq_comm
  rw [ne_eq, sub_eq_zero, hexact]
  simp

omit hp in
/-- A root of enough bits has more than p bits. -/
theorem bitLen_root {m k a : ℕ} (hm : m ≠ 0) (hk : 2 * a ≤ k) : a < bitLen (isqrt (m * 2 ^ k)) := by
  refine le_bitLen (not_lt.1 fun h => ?_)
  have hhi := (isqrt_bounds (m * 2 ^ k)).2
  have : (isqrt (m * 2 ^ k) + 1) * (isqrt (m * 2 ^ k) + 1) ≤ 2 ^ a * 2 ^ a := Nat.mul_le_mul h h
  have hle : 2 ^ a * 2 ^ a ≤ m * 2 ^ k := by
    rw [← pow_add, ← two_mul]
    exact (Nat.pow_le_pow_right (by omega) hk).trans (Nat.le_mul_of_pos_left _ (Nat.pos_of_ne_zero hm))
  omega

theorem FloatFmt.standard.sqrt_roots (rm : BitVec 3) (a : FVal) : p.roots rm a (p.sqrt rm a) := by
  cases a with
  | nan s => exact hp.givesNaN_of (by cases s <;> rfl)
  | inf s =>
    simp only [FloatFmt.roots, FloatFmt.sqrt]
    split_ifs
    · exact hp.givesNaN_invalid
    · exact p.givesInf_infinity false 0
  | fin s m e =>
    simp only [FloatFmt.roots, FloatFmt.sqrt]
    rw [ratOf_cast]
    by_cases hm : m = 0
    · simpa [hm] using hp.proper.rounded_zero rm s
    cases s with
    | true => simpa [hm] using hp.givesNaN_invalid
    | false =>
      simp only [hm, if_false, Bool.false_eq_true, false_and, signR, one_mul]
      generalize hk : 2 * p.p + 6 + (if (e - (2 * p.p + 6 : ℕ)) % 2 = 0 then 0 else 1) = k
      have hf : e = 2 * ((e - k) / 2) + k := by
        rw [← hk]; split_ifs <;> push_cast at * <;> omega
      have hlen : p.p < bitLen (isqrt (m * 2 ^ k)) := bitLen_root hm (by omega)
      have h := hp.proper.round_rounded (rm := rm) (neg := false) (zeroNeg := false) (ne_zero_of_bitLen hlen)
        (approx_root m k e _ hf) (fun _ => hlen)
      simpa [signR] using h

end

/-! ### Integral values, extrema and comparisons -/

/-- A value that is a number of the set rounds to itself. -/
theorem roundsTo_self {rm : BitVec 3} {S : ℝ → Prop} {v y : ℝ} (hv : S v) (h : roundsTo rm S v y) : y = v := by
  obtain ⟨-, h2, h3, h4, hn⟩ := h
  by_cases e2 : rm = 2
  · obtain ⟨hle, hsign, hmax⟩ := h2 e2
    have habs : |y| = |v| := le_antisymm hle (hmax v hv le_rfl (mul_self_nonneg v))
    rcases abs_eq_abs.1 habs with h | h
    · exact h
    · rw [h] at hsign
      have : v = 0 := by nlinarith [mul_self_nonneg v, mul_self_eq_zero (a := v)]
      simp [h, this]
  by_cases e3 : rm = 3
  · exact le_antisymm ((h3 e3).2 v hv le_rfl) (h3 e3).1
  by_cases e4 : rm = 4
  · exact le_antisymm (h4 e4).1 ((h4 e4).2 v hv le_rfl)
  · have := (hn e2 e3 e4 v hv).1
    rw [sub_self, abs_zero] at this
    exact sub_eq_zero.1 (abs_nonpos_iff.1 this)

/-- A number of the format is delivered as it is. -/
theorem FloatFmt.rounded_exact {p : FloatFmt} {rm : BitVec 3} {v : ℝ} {zeroNeg : Bool} {x : FRes}
    (h : p.rounded rm v zeroNeg x) (hv : v ≠ 0) (hr : p.reaches true v) :
    ∃ neg m e, (neg = true ↔ v < 0) ∧ p.decode x.val = .fin neg m e ∧ ((ratOf neg m e : ℚ) : ℝ) = v := by
  obtain ⟨-, -, h⟩ := h
  obtain ⟨neg, u, hneg, hu, -, hfit⟩ := h hv
  have hr' : p.reaches false v := by
    obtain ⟨m, e, hm, -, rfl⟩ := hr
    exact ⟨m, e, hm, fun h => absurd h (by decide), rfl⟩
  obtain rfl := roundsTo_self hr' hu
  have hle : |u| ≤ (2 ^ p.p - 1) * 2 ^ (p.emax - p.fw) := by
    obtain ⟨m, e, hm, he, rfl⟩ := hr
    obtain ⟨-, he⟩ := he rfl
    have hm' : |(m : ℝ)| ≤ 2 ^ p.p - 1 := by
      have : |m| + 1 ≤ 2 ^ p.p := hm
      have : |(m : ℝ)| + 1 ≤ 2 ^ p.p := by exact_mod_cast this
      linarith
    rw [abs_mul, abs_of_pos (two_zpow_pos e)]
    exact mul_le_mul hm' (zpow_le_zpow_right₀ (by norm_num) he) (two_zpow_pos e).le (le_trans (abs_nonneg _) hm')
  obtain ⟨m, e, hd, hrounds, -⟩ := hfit hle
  exact ⟨neg, m, e, hneg, hd, roundsTo_self hr hrounds⟩

/-- What a finite encoding stands for (04 R100). -/
theorem FloatFmt.decode_fin {p : FloatFmt} {x : ℕ} {s : Bool} {m : ℕ} {e : ℤ} (h : p.decode x = .fin s m e) : m < 2 ^ p.p ∧ p.qmin ≤ e
    ∧ (e = p.qmin ∨ 2 ^ p.fw ≤ m) := by
  have hf : x % 2 ^ p.fw < 2 ^ p.fw := Nat.mod_lt _ (by positivity)
  have hpp : 2 ^ p.p = 2 ^ p.fw + 2 ^ p.fw := by simp only [FloatFmt.p, pow_succ]; omega
  unfold FloatFmt.decode at h
  dsimp only at h
  split_ifs at h with h1 h2 h3 <;> injection h with h4 h5 h6
  · exact ⟨by omega, by omega, .inl h6.symm⟩
  · exact ⟨by omega, by omega, .inr (by omega)⟩

/-- The integers around a value are what it rounds to among them. -/
theorem roundsTo_integral {rm : BitVec 3} {neg : Bool} {X : ℝ} {r : ℕ × Bool} (h : rounding rm neg X 0 r) :
    roundsTo rm (fun y => ∃ i : ℤ, y = i) (signR neg * X) (signR neg * r.1) := by
  obtain ⟨h, t, ht0, ht1, rfl, hr, -⟩ := h
  have := roundsTo_of_gap (S := fun y => ∃ i : ℤ, y = i) neg (fun _ => integral_neg) one_pos ht0 ht1 (gapAt_integers h) hr ⟨r.1, by push_cast; ring⟩
  simpa using this

section
variable {p : FloatFmt} (hp : p.standard)
include hp

theorem FloatFmt.standard.rint_integrates (rm : BitVec 3) {a : ℕ} (ha : a < 2 ^ p.width) : p.integrates rm (p.decode a) (p.rint rm a) := by
  unfold FloatFmt.rint
  rcases hd : p.decode a with s | s | ⟨s, m, e⟩
  · exact hp.givesNaN_of (by cases s <;> rfl)
  · exact ⟨ha, hd, rfl⟩
  simp only [FloatFmt.integrates]
  have hpr := hp.proper
  split_ifs with hint h0
  · refine ⟨rfl, ha, m, e, hd, ?_⟩
    rw [ratOf_cast]
    have hr : ∃ i : ℕ, (m : ℝ) * 2 ^ e = i := by
      rcases hint with rfl | he
      · exact ⟨0, by simp⟩
      · obtain ⟨k, rfl⟩ := Int.eq_ofNat_of_zero_le he
        exact ⟨m * 2 ^ k, by push_cast [zpow_natCast]; rfl⟩
    obtain ⟨i, hi⟩ := hr
    rw [hi]
    exact roundsTo_integral (r := (i, false)) ⟨i, 0, le_rfl, one_pos, by simp, picksPlace_exact .., by simp⟩
  · have hround := roundAt_rounding (rm := rm) (neg := s) (approx_exact m e) (q := 0) (by simp)
    refine ⟨rfl, (hpr.decode_zero s).2, 0, p.qmin, (hpr.decode_zero s).1, ?_⟩
    have := roundsTo_integral hround
    rw [show (roundAt rm s m e false 0).1 = 0 from h0] at this
    rw [ratOf_cast, ratOf_cast]
    simpa using this
  · push Not at hint
    have hround := roundAt_rounding (rm := rm) (neg := s) (approx_exact m e) (q := 0) (by simp)
    change (roundAt rm s m e false 0).1 ≠ 0 at h0
    change _ ∧ (p.round rm s (roundAt rm s m e false 0).1 0 false).val < _ ∧ ∃ n g, p.decode (p.round rm s (roundAt rm s m e false 0).1 0 false).val = _ ∧ _
    have hi := roundsTo_integral hround
    have hle : (roundAt rm s m e false 0).1 ≤ 2 ^ p.p := by
      refine (hround.bounds (a := 0) (by rw [Nat.cast_zero, zero_mul]; positivity) ?_).2
      have hm : (m : ℝ) < 2 ^ p.p := by exact_mod_cast (FloatFmt.decode_fin hd).1
      have he : (2 : ℝ) ^ e ≤ 1 := zpow_le_one_of_nonpos₀ (by norm_num) hint.2.le
      push_cast
      rw [zpow_zero, mul_one]
      nlinarith [two_zpow_pos e]
    generalize (roundAt rm s m e false 0).1 = i at *
    have hrd := hpr.round_rounded (rm := rm) (neg := s) (zeroNeg := s) h0 (approx_exact i 0) (by simp)
    have hi0 : (0 : ℝ) < i := by exact_mod_cast Nat.pos_of_ne_zero h0
    have hprec := hpr.prec
    have hqmin : p.qmin = 1 - p.emax - p.fw := rfl
    have hpfw : p.p = p.fw + 1 := rfl
    obtain ⟨neg, n, g, hneg, hdec, hval⟩ := FloatFmt.rounded_exact hrd (by rw [zpow_zero, mul_one, ne_eq, mul_eq_zero]; cases s <;> simp [signR, hi0.ne'])
      (by
        have := FloatFmt.reaches_places (p := p) (b := true) hle (q := 0) fun _ => ⟨by omega, by omega, fun _ => by omega⟩
        cases s with
        | false => simpa [signR] using this
        | true => simpa [signR] using FloatFmt.reaches_neg this)
    rw [zpow_zero, mul_one, signR_mul_neg_iff s hi0] at hneg
    obtain rfl : neg = s := by cases neg <;> cases s <;> simp_all
    refine ⟨rfl, hrd.1, n, g, hdec, ?_⟩
    rw [hval, ratOf_cast, zpow_zero, mul_one]
    exact hi

end

/-! ### Comparisons -/

theorem ratOf_lt_iff {s t : Bool} {m n : ℕ} {e g : ℤ} :
    ratOf s m e < ratOf t n g ↔ scaled s m e (min e g) < scaled t n g (min e g) := by
  have h1 := scaled_cast (neg := s) (m := m) (min_le_left e g)
  have h2 := scaled_cast (neg := t) (m := n) (min_le_right e g)
  rw [← Rat.cast_lt (K := ℝ), ← h1, ← h2, mul_lt_mul_iff_left₀ (two_zpow_pos _), Int.cast_lt]

theorem ratOf_eq_iff {s t : Bool} {m n : ℕ} {e g : ℤ} :
    ratOf s m e = ratOf t n g ↔ scaled s m e (min e g) = scaled t n g (min e g) := by
  have h1 := scaled_cast (neg := s) (m := m) (min_le_left e g)
  have h2 := scaled_cast (neg := t) (m := n) (min_le_right e g)
  rw [← Rat.cast_inj (α := ℝ), ← h1, ← h2, mul_left_inj' (two_zpow_pos _).ne', Int.cast_inj]

/-- The order that `compareV` finds is that of the values (04 R116). -/
theorem compareV_lt (a b : FVal) : compareV a b = some .lt ↔ a.less b := by
  rcases a with s | s | ⟨s, m, e⟩ <;> rcases b with t | t | ⟨t, n, g⟩ <;> simp only [compareV, FVal.less, FVal.below, reduceCtorEq]
  · cases s <;> cases t <;> simp
  · cases s <;> simp
  · cases t <;> simp
  · rw [Option.some_inj, compare_lt_iff_lt, ratOf_lt_iff]

theorem compareV_gt (a b : FVal) : compareV a b = some .gt ↔ b.less a := by
  rcases a with s | s | ⟨s, m, e⟩ <;> rcases b with t | t | ⟨t, n, g⟩ <;> simp only [compareV, FVal.less, FVal.below, reduceCtorEq]
  · cases s <;> cases t <;> simp
  · cases s <;> simp
  · cases t <;> simp
  · rw [Option.some_inj, compare_gt_iff_gt, ratOf_lt_iff, min_comm]

theorem compareV_eq (a b : FVal) : compareV a b = some .eq ↔ a.same b := by
  rcases a with s | s | ⟨s, m, e⟩ <;> rcases b with t | t | ⟨t, n, g⟩ <;> simp only [compareV, FVal.same, reduceCtorEq]
  · cases s <;> cases t <;> simp
  · cases s <;> simp
  · cases t <;> simp
  · rw [Option.some_inj, compare_eq_iff_eq, ratOf_eq_iff]

theorem ratOf_eq_zero {s : Bool} {m : ℕ} {e : ℤ} : ratOf s m e = 0 ↔ m = 0 := by
  have : (2 : ℚ) ^ e ≠ 0 := zpow_ne_zero e two_ne_zero
  cases s <;> simp [ratOf, this]

theorem ratOf_nonneg (m : ℕ) (e : ℤ) : 0 ≤ ratOf false m e := by
  have : 0 ≤ (m : ℚ) * 2 ^ e := by positivity
  simpa only [ratOf, Bool.false_eq_true, if_false, one_mul]

theorem ratOf_nonpos (m : ℕ) (e : ℤ) : ratOf true m e ≤ 0 := by
  have : 0 ≤ (m : ℚ) * 2 ^ e := by positivity
  simp only [ratOf, if_true, neg_mul, one_mul]
  linarith

/-- The order in which −0 lies below +0 (04 R117). -/
theorem belowNum_iff (a b : FVal) : belowNum a b = true ↔ a.below b := by
  have hlt := compareV_lt a b
  have heq := compareV_eq a b
  rcases a with s | s | ⟨s, m, e⟩ <;> rcases b with t | t | ⟨t, n, g⟩
  case fin.fin =>
    simp only [FVal.less, FVal.same] at hlt heq
    simp only [FVal.below, belowNum]
    rcases hc : compareV (.fin s m e) (.fin t n g) with _ | (_ | _ | _)
    · simp [compareV] at hc
    · simp [hlt.1 hc]
    · have h := heq.1 hc
      simp only [Bool.and_eq_true, Bool.not_eq_true', h, lt_irrefl, false_or]
      refine ⟨fun ⟨hs, ht⟩ => ?_, fun ⟨_, _, hs, ht⟩ => ⟨hs, ht⟩⟩
      subst hs ht
      have h0 : ratOf true m e = 0 := le_antisymm (ratOf_nonpos m e) (h ▸ ratOf_nonneg n g)
      exact ⟨ratOf_eq_zero.1 h0, ratOf_eq_zero.1 (h ▸ h0), rfl, rfl⟩
    · have h1 := mt hlt.2 (by simp [hc])
      have h2 := mt heq.2 (by simp [hc])
      simp only [h1, false_or]
      refine ⟨fun h => by simp at h, fun ⟨hm, hn, _⟩ => absurd ?_ h2⟩
      rw [ratOf_eq_zero.2 hm, ratOf_eq_zero.2 hn]
  all_goals simp only [FVal.below, belowNum, compareV]
  case inf.inf => cases s <;> cases t <;> simp
  case inf.fin => cases s <;> simp
  case fin.inf => cases t <;> simp
  all_goals simp

theorem below_irrefl (a : FVal) : ¬a.below a := by
  rcases a with s | s | ⟨s, m, e⟩ <;> cases s <;> simp [FVal.below]

theorem below_asymm {a b : FVal} (h : a.below b) : ¬b.below a := by
  rcases a with s | s | ⟨s, m, e⟩ <;> rcases b with t | t | ⟨t, n, g⟩ <;> simp only [FVal.below, not_or, not_and] at h ⊢
  · intro h'; simp [h'] at h
  · simp [h]
  · simp [h]
  · rcases h with h | ⟨hm, hn, hs, ht⟩
    · refine ⟨not_lt.2 h.le, fun hn hm => absurd h ?_⟩
      rw [ratOf_eq_zero.2 hn, ratOf_eq_zero.2 hm]
      exact lt_irrefl 0
    · rw [ratOf_eq_zero.2 hm, ratOf_eq_zero.2 hn, hs, ht]
      simp

section
variable {p : FloatFmt} (hp : p.standard)
include hp

theorem FloatFmt.standard.minMax_picks (larger : Bool) (a b : ℕ) : p.picks larger a b (p.minMax larger a b) := by
  have hflags : ∀ x y : FVal, x.snan ||| y.snan = if x = .nan true ∨ y = .nan true then (1 : FlagSet) else 0 := fun x y => by
    rw [x.snan_eq, y.snan_eq, ite_flag_or]
  simp only [FloatFmt.picks, FloatFmt.minMax, hflags, true_and]
  refine ⟨fun h1 h2 => ?_, fun h1 h2 => by simp [h1, h2], fun h1 h2 => by simp [h1, h2], fun h1 h2 => ?_⟩
  · simp [h1, h2, hp.quiet]
  · simp only [h1, h2, Bool.and_self, Bool.false_eq_true, if_false]
    cases larger with
    | true =>
      by_cases hb : belowNum (p.decode a) (p.decode b) = true
      · simp [hb, below_irrefl, below_asymm ((belowNum_iff _ _).1 hb)]
      · simp [hb, below_irrefl, mt (belowNum_iff _ _).2 hb]
    | false =>
      by_cases hb : belowNum (p.decode b) (p.decode a) = true
      · simp [hb, below_irrefl, below_asymm ((belowNum_iff _ _).1 hb)]
      · simp [hb, below_irrefl, mt (belowNum_iff _ _).2 hb]

omit hp in
theorem fcmpHolds_compares (fn : ℕ) (a b : FVal) :
    ((fcmpHolds fn a b).1 = true ↔ compares fn (a.less b) (a.same b) (b.less a) (a.isNaN = true ∨ b.isNaN = true)) := by
  simp only [← compareV_lt a b, ← compareV_eq a b, ← compareV_gt a b]
  rcases fn with _ | _ | _ | _ | _ | _ | _ | fn <;> simp [fcmpHolds, compares, not_or]

omit hp in
theorem fcmpHolds_flags (fn : ℕ) (a b : FVal) :
    (fcmpHolds fn a b).2 = if a = .nan true ∨ b = .nan true ∨ (2 ≤ fn ∧ fn ≤ 5 ∧ (a.isNaN = true ∨ b.isNaN = true)) then 1 else 0 := by
  have hsignals : (decide (2 ≤ fn) && decide (fn ≤ 5) && (a.isNaN || b.isNaN)) =
      decide (2 ≤ fn ∧ fn ≤ 5 ∧ (a.isNaN = true ∨ b.isNaN = true)) := by simp [Bool.and_assoc]
  simp only [fcmpHolds, a.snan_eq, b.snan_eq, hsignals, decide_eq_true_eq, flIV, ite_flag_or]
  exact if_congr (by tauto) rfl rfl

omit hp in
/-- The class code (04 R118). -/
theorem FloatFmt.classCode_classes (p : FloatFmt) (a : ℕ) : p.classes a (p.classCode a) := by
  unfold FloatFmt.classes FloatFmt.classCode
  rcases hd : p.decode a with s | s | ⟨s, m, e⟩
  · cases s <;> rfl
  · rfl
  · obtain ⟨hm, he, hnorm⟩ := FloatFmt.decode_fin hd
    have hval : ratOf false m e = m * 2 ^ e := by simp [ratOf]
    have hemin : (2 : ℚ) ^ p.emin = 2 ^ p.fw * 2 ^ p.qmin := by
      rw [← zpow_natCast, ← zpow_add₀ (by norm_num)]
      congr 1
      simp only [FloatFmt.qmin]; omega
    have hsub : ratOf false m e < 2 ^ p.emin ↔ m < 2 ^ p.fw := by
      rw [hval, hemin]
      rcases hnorm with rfl | hnorm
      · rw [mul_lt_mul_iff_left₀ (by positivity)]
        exact_mod_cast Iff.rfl
      · refine ⟨fun h => absurd h (not_lt.2 ?_), fun h => by omega⟩
        have : (2 : ℚ) ^ p.fw ≤ m := by exact_mod_cast hnorm
        exact mul_le_mul this (zpow_le_zpow_right₀ (by norm_num) he) (by positivity) (by positivity)
    refine ⟨fun h0 => by simp [h0], fun h0 hlt => by simp [h0, hsub.1 hlt], fun hge => ?_⟩
    have hge : ¬m < 2 ^ p.fw := fun h => not_lt.2 hge (hsub.2 h)
    have h0 : m ≠ 0 := by have := Nat.two_pow_pos p.fw; omega
    simp [h0, hge]

end

end Sys2Proof.Machine
end

section
/-!
SUPPORT. Integer elements, bits, conversions and CRC steps (02 R66; 04 R101, R119-R122, R134, R140, R141).
-/

namespace Sys2Proof.Machine

/-! ### Element types -/

/-- An integer type: its signedness and size. -/
theorem intOf_of_isI {ty : ℕ} (h : isI ty = true) : ∃ sg, intOf ty = some (sg, typeBits ty) ∧ floatOf ty = none
    ∧ (typeBits ty = 8 ∨ typeBits ty = 16 ∨ typeBits ty = 32 ∨ typeBits ty = 64) := by
  have : ty = 4 ∨ ty = 5 ∨ ty = 6 ∨ ty = 7 ∨ ty = 8 ∨ ty = 9 := by
    by_contra hn
    simp only [not_or] at hn
    simp [isI, intOf, hn] at h
  rcases this with rfl | rfl | rfl | rfl | rfl | rfl <;> exact ⟨_, rfl, rfl, by decide⟩

theorem floatOf_of_isF {ty : ℕ} (h : isF ty = true) : ∃ p, floatOf ty = some p ∧ typeBits ty = p.width ∧ p.standard := by
  obtain ⟨p, hp⟩ := Option.isSome_iff_exists.1 h
  exact ⟨p, hp, by simp [typeBits, hp], standard_of_floatOf hp⟩

theorem isI_or_isF {ty : ℕ} (h : ty < 10) : isI ty = true ∨ isF ty = true := by
  interval_cases ty <;> decide

theorem typeBits_le (ty : ℕ) : typeBits ty ≤ 64 ∧ 0 < typeBits ty := by
  by_cases h : ty < 10
  · interval_cases ty <;> decide
  · have : typeBits ty = 1 := by
      have hn : ty ≠ 0 ∧ ty ≠ 1 ∧ ty ≠ 2 ∧ ty ≠ 3 ∧ ty ≠ 4 ∧ ty ≠ 5 ∧ ty ≠ 6 ∧ ty ≠ 7 ∧ ty ≠ 8 ∧ ty ≠ 9 := by omega
      simp [typeBits, floatOf, intOf, hn]
    omega

/-! ### Integer elements -/

section
variable {ty : ℕ} (h : isI ty = true)
include h

/-- An element read as a number agrees with its bits and lies in the range of its type. -/
theorem asInt_spec (x : ℕ) : asInt ty x % 2 ^ typeBits ty = (x : ℤ) % 2 ^ typeBits ty
    ∧ (intRange ty).1 ≤ asInt ty x ∧ asInt ty x ≤ (intRange ty).2 := by
  obtain ⟨sg, hi, -, hb⟩ := intOf_of_isI h
  have hpos : 0 < typeBits ty := (typeBits_le ty).2
  have hlt : x % 2 ^ typeBits ty < 2 ^ typeBits ty := Nat.mod_lt _ (by positivity)
  have hhalf : (2 : ℕ) ^ typeBits ty = 2 * 2 ^ (typeBits ty - 1) := by rw [← pow_succ']; congr 1; omega
  have hhalf' : (2 : ℤ) ^ typeBits ty = 2 * 2 ^ (typeBits ty - 1) := by exact_mod_cast hhalf
  have hx : ((x % 2 ^ typeBits ty : ℕ) : ℤ) = (x : ℤ) % 2 ^ typeBits ty := by push_cast; rfl
  have hlt' : (x : ℤ) % 2 ^ typeBits ty < 2 ^ typeBits ty := by rw [← hx]; exact_mod_cast hlt
  have hnn : 0 ≤ (x : ℤ) % 2 ^ typeBits ty := Int.emod_nonneg _ (by positivity)
  cases sg with
  | true =>
    simp only [asInt, intRange, hi]
    split_ifs with hs
    · have hs : (x : ℤ) % 2 ^ typeBits ty < 2 ^ (typeBits ty - 1) := by rw [← hx]; exact_mod_cast hs
      exact ⟨Int.emod_emod_of_dvd _ dvd_rfl, by omega, by omega⟩
    · have hs : ¬(x : ℤ) % 2 ^ typeBits ty < 2 ^ (typeBits ty - 1) := by rw [← hx]; exact_mod_cast hs
      refine ⟨by simp, by omega, by omega⟩
  | false =>
    simp only [asInt, intRange, hi]
    exact ⟨Int.emod_emod_of_dvd _ dvd_rfl, hnn, by omega⟩

/-- A range of numbers that agree modulo its size agree. -/
theorem eq_of_intRange {i j : ℤ} (hm : i % 2 ^ typeBits ty = j % 2 ^ typeBits ty) (hi : (intRange ty).1 ≤ i ∧ i ≤ (intRange ty).2)
    (hj : (intRange ty).1 ≤ j ∧ j ≤ (intRange ty).2) : i = j := by
  obtain ⟨sg, he, -, hb⟩ := intOf_of_isI h
  have hrange : (intRange ty).2 - (intRange ty).1 < 2 ^ typeBits ty := by
    rcases hb with hb | hb | hb | hb <;> cases sg <;> simp [intRange, he, hb]
  have hd : (2 : ℤ) ^ typeBits ty ∣ i - j := Int.ModEq.dvd (Int.ModEq.symm hm)
  have := Int.eq_zero_of_abs_lt_dvd hd (by rw [abs_lt]; omega)
  omega

omit h in
theorem ofInt_lt (ty : ℕ) (i : ℤ) : ofInt ty i < 2 ^ typeBits ty ∧ (ofInt ty i : ℤ) = i % 2 ^ typeBits ty := by
  have hpos : (0 : ℤ) < 2 ^ typeBits ty := by positivity
  have hnn : 0 ≤ i % 2 ^ typeBits ty := Int.emod_nonneg _ hpos.ne'
  have he : (ofInt ty i : ℤ) = i % 2 ^ typeBits ty := Int.toNat_of_nonneg hnn
  refine ⟨?_, he⟩
  have : (ofInt ty i : ℤ) < 2 ^ typeBits ty := by rw [he]; exact Int.emod_lt_of_pos _ hpos
  exact_mod_cast this

theorem asInt_ofInt_emod (i : ℤ) : asInt ty (ofInt ty i) % 2 ^ typeBits ty = i % 2 ^ typeBits ty := by
  rw [(asInt_spec h _).1, (ofInt_lt ty i).2, Int.emod_emod_of_dvd _ dvd_rfl]

theorem asInt_ofInt {i : ℤ} (hi : (intRange ty).1 ≤ i ∧ i ≤ (intRange ty).2) : asInt ty (ofInt ty i) = i :=
  eq_of_intRange h (asInt_ofInt_emod h i) (asInt_spec h _).2 hi

theorem intRange_ordered : (intRange ty).1 ≤ (intRange ty).2 := by
  obtain ⟨h1, h2⟩ := (asInt_spec h 0).2
  omega

end

/-! ### Conversions -/

section
variable {src dst : ℕ} {rm : BitVec 3} {a : ℕ}

theorem convert_floats {p g : FloatFmt} (hs : floatOf src = some p) (hd : floatOf dst = some g) :
    convertsTo rm src dst a (p.convert g rm a) := by
  have hg := standard_of_floatOf hd
  have hbits : typeBits dst = g.width := by simp [typeBits, hd]
  simp only [convertsTo, hs, hd, hbits, FloatFmt.convert]
  rcases p.decode a with s | s | ⟨s, m, e⟩
  · refine ⟨hg.proper.decode_defaultNaN.2, hg.givesNaN_of ?_⟩
    cases s <;> simp [FloatFmt.ofVal, FVal.snan, flIV]
  · refine ⟨(g.decode_infinity s).2, ?_⟩
    simpa [FloatFmt.ofVal, FVal.snan] using g.givesInf_infinity s 0
  · have h := hg.proper.ofVal_rounded rm s m e
    have hx : (⟨(g.ofVal rm (.fin s m e)).val, (g.ofVal rm (.fin s m e)).flags ||| (FVal.fin s m e).snan⟩ : FRes) = g.ofVal rm (.fin s m e) := by
      simp [FVal.snan]
    rw [hx]
    exact ⟨h.1, h⟩

/-- A finite number converts to the integer it rounds to, where the type holds it (04 R120). -/
theorem toInt_fin {p : FloatFmt} {lo hi : ℤ} {s : Bool} {m : ℕ} {e : ℤ} (hd : p.decode a = .fin s m e) :
    ∃ i : ℤ, roundsTo rm (fun y => ∃ j : ℤ, y = j) (ratOf s m e : ℚ) i ∧ p.toInt rm lo hi a =
      if i < lo then (lo, flIV) else if hi < i then (hi, flIV) else (i, if ratOf s m e = i then 0 else flIX) := by
  have hround : rounding rm s (m * 2 ^ e) 0 (integral rm s m e) := roundAt_rounding (approx_exact m e) (by simp)
  have hi : ((if s then -((integral rm s m e).1 : ℤ) else (integral rm s m e).1 : ℤ) : ℝ) = signR s * (integral rm s m e).1 := by
    cases s <;> simp [signR]
  refine ⟨if s then -((integral rm s m e).1 : ℤ) else (integral rm s m e).1, ?_, ?_⟩
  · rw [hi, ratOf_cast]
    exact roundsTo_integral hround
  · have hiff := hround.inexact
    rw [zpow_zero, mul_one, ne_eq, ← signR_mul_inj s, ← hi, ← ratOf_cast, ← Rat.cast_intCast, Rat.cast_inj, @eq_comm ℚ] at hiff
    simp only [FloatFmt.toInt, hd]
    congr 3
    by_cases h : (integral rm s m e).2 = true
    · rw [if_pos h, if_neg (hiff.1 h)]
    · rw [if_neg h, if_pos (not_not.1 (mt hiff.2 h))]

theorem convert_toInt {p : FloatFmt} (hs : floatOf src = some p) (hd : isI dst = true) :
    convertsTo rm src dst a ⟨ofInt dst (p.toInt rm (intRange dst).1 (intRange dst).2 a).1, (p.toInt rm (intRange dst).1 (intRange dst).2 a).2⟩ := by
  obtain ⟨sg, hi, hnf, -⟩ := intOf_of_isI hd
  have hord := intRange_ordered hd
  have hlo := asInt_ofInt hd (i := (intRange dst).1) ⟨le_rfl, hord⟩
  have hhi := asInt_ofInt hd (i := (intRange dst).2) ⟨hord, le_rfl⟩
  simp only [convertsTo, hs, hnf]
  refine ⟨(ofInt_lt dst _).1, ?_⟩
  rcases hdec : p.decode a with s | s | ⟨s, m, e⟩
  · simp only [FloatFmt.toInt, hdec]
    exact ⟨by simp [ofInt], rfl⟩
  · simp only [FloatFmt.toInt, hdec]
    refine ⟨?_, rfl⟩
    cases s <;> simp [hlo, hhi]
  · obtain ⟨i, hrounds, hto⟩ := toInt_fin (rm := rm) (lo := (intRange dst).1) (hi := (intRange dst).2) hdec
    simp only [hto]
    refine ⟨i, hrounds, fun h => ?_, fun h => ?_, fun h1 h2 => ?_⟩
    · simp only [h, if_true, hlo]; exact ⟨trivial, rfl⟩
    · simp only [not_lt.2 (hord.trans h.le), h, if_false, if_true, hhi]; exact ⟨trivial, rfl⟩
    · simp only [not_lt.2 h1, not_lt.2 h2, if_false, asInt_ofInt hd ⟨h1, h2⟩, true_and]
      exact ⟨fun h => if_pos h, fun h => if_neg h⟩

theorem convert_ofInt {g : FloatFmt} (hs : isI src = true) (hd : floatOf dst = some g) : convertsTo rm src dst a (g.ofInt rm (asInt src a)) := by
  obtain ⟨sg, -, hnf, -⟩ := intOf_of_isI hs
  have hbits : typeBits dst = g.width := by simp [typeBits, hd]
  have h := (standard_of_floatOf hd).proper.roundInt_rounded rm (asInt src a) 0 false
  rw [zpow_zero, mul_one] at h
  simp only [convertsTo, hnf, hd, hbits]
  exact ⟨h.1, h⟩

theorem convert_ints (hs : isI src = true) (hd : isI dst = true) : convertsTo rm src dst a
    ⟨ofInt dst (asInt src a), if asInt src a < (intRange dst).1 ∨ (intRange dst).2 < asInt src a then flIO else 0⟩ := by
  obtain ⟨sg, -, hnf, -⟩ := intOf_of_isI hs
  obtain ⟨sg', -, hnf', -⟩ := intOf_of_isI hd
  simp only [convertsTo, hnf, hnf']
  obtain ⟨hlo, hhi⟩ := (asInt_spec hd (ofInt dst (asInt src a))).2
  refine ⟨(ofInt_lt dst _).1, by rw [Int.sub_emod, asInt_ofInt_emod hd, sub_self, Int.zero_emod], fun h => ?_, fun h => ?_⟩
  · rw [if_neg]
    rw [h] at hlo hhi
    omega
  · rw [if_pos]
    · rfl
    · by_contra hc
      exact h (asInt_ofInt hd (by omega))

theorem convertElem_convertsTo (hs : src < 10) (hd : dst < 10) : convertsTo rm src dst a (convertElem rm src dst a) := by
  unfold convertElem
  rcases isI_or_isF hs with hs | hs <;> rcases isI_or_isF hd with hd | hd
  · obtain ⟨-, -, hnf, -⟩ := intOf_of_isI hs
    obtain ⟨-, -, hnf', -⟩ := intOf_of_isI hd
    simp only [hnf, hnf']
    exact convert_ints hs hd
  · obtain ⟨-, -, hnf, -⟩ := intOf_of_isI hs
    obtain ⟨g, hg, -⟩ := floatOf_of_isF hd
    simp only [hnf, hg]
    exact convert_ofInt hs hg
  · obtain ⟨p, hp, -⟩ := floatOf_of_isF hs
    obtain ⟨-, -, hnf', -⟩ := intOf_of_isI hd
    simp only [hp, hnf']
    exact convert_toInt hp hd
  · obtain ⟨p, hp, -⟩ := floatOf_of_isF hs
    obtain ⟨g, hg, -⟩ := floatOf_of_isF hd
    simp only [hp, hg]
    exact convert_floats hp hg

end

end Sys2Proof.Machine
end

section
/-!
SUPPORT. Bits, counts and CRC steps of elements (02 R66; 04 R108, R134, R140, R141).
-/

namespace Sys2Proof.Machine

/-! ### Bits -/

theorem revBits_testBit (n x j : ℕ) : (revBits n x).testBit j = (decide (j < n) && x.testBit (n - 1 - j)) := by
  induction n generalizing x j with
  | zero => simp [revBits]
  | succ n ih =>
    have hlt : revBits n (x / 2) < 2 ^ n := Nat.lt_pow_two_of_testBit _ fun i hi => by simp [ih, not_lt.2 hi]
    have hrev : revBits (n + 1) x = 2 ^ n * (x % 2) + revBits n (x / 2) := by rw [revBits, mul_comm]
    rw [hrev, Nat.testBit_two_pow_mul_add _ hlt, ih]
    by_cases hj : j < n
    · simp [hj, Nat.lt_succ_of_lt hj, show n - j = (n - 1 - j) + 1 by omega, Nat.testBit_succ]
    · obtain ⟨d, rfl⟩ := Nat.exists_eq_add_of_le (not_lt.1 hj)
      cases d with
      | zero => rcases Nat.mod_two_eq_zero_or_one x with h | h <;> simp [h, Nat.testBit_zero]
      | succ d => rcases Nat.mod_two_eq_zero_or_one x with h | h <;> simp [h, Nat.testBit_succ]

theorem popBits_eq (n x : ℕ) : popBits n x = ((List.range n).filter fun j => x.testBit j).length := by
  induction n generalizing x with
  | zero => rfl
  | succ n ih =>
    rw [popBits, ih, List.range_succ_eq_map, List.filter_cons, List.filter_map, Nat.testBit_zero]
    simp only [Function.comp_def, Nat.testBit_succ]
    rcases Nat.mod_two_eq_zero_or_one x with h | h <;> simp [h, add_comm]

theorem leadZeros_spec {n x : ℕ} (hx : x < 2 ^ n) : (x = 0 → leadZeros n x = n)
    ∧ (x ≠ 0 → leadZeros n x < n ∧ x < 2 ^ (n - leadZeros n x) ∧ 2 ^ (n - 1 - leadZeros n x) ≤ x) := by
  rw [leadZeros, Nat.mod_eq_of_lt hx]
  refine ⟨fun h => by simp [h, bitLen], fun h => ?_⟩
  obtain ⟨hlo, hhi, h1⟩ := bitLen_bounds h
  have hle : bitLen x ≤ n := by
    have := (Nat.pow_lt_pow_iff_right (a := 2) (by omega)).1 (hlo.trans_lt hx)
    omega
  refine ⟨by omega, by rwa [Nat.sub_sub_self hle], ?_⟩
  rwa [show n - 1 - (n - bitLen x) = bitLen x - 1 by omega]

/-! ### CRC steps -/

/-- One shift of the reflected register of polynomial `poly` (04 R140). -/
def crcShift (poly c : ℕ) : ℕ := if c % 2 = 1 then (c / 2).xor poly else c / 2

theorem crcByteGo_eq (poly n c : ℕ) : crcByteGo poly n c = (crcShift poly)^[n] c := by
  induction n generalizing c with
  | zero => rfl
  | succ n ih => rw [crcByteGo, ih, Function.iterate_succ_apply]; rfl

theorem crcShift_lt {poly c w : ℕ} (hp : poly < 2 ^ w) (hc : c < 2 ^ w) : crcShift poly c < 2 ^ w := by
  have : c / 2 < 2 ^ w := by omega
  unfold crcShift
  split_ifs
  · exact Nat.xor_lt_two_pow this hp
  · exact this

theorem crcShift_iterate_lt {poly c w : ℕ} (hp : poly < 2 ^ w) (n : ℕ) (hc : c < 2 ^ w) : (crcShift poly)^[n] c < 2 ^ w := by
  induction n generalizing c with
  | zero => exact hc
  | succ n ih => exact ih (crcShift_lt hp hc)

theorem leBytes_toNat (n w : ℕ) : (leBytes n w).map BitVec.toNat = (List.range n).map fun j => w / 256 ^ j % 256 := by
  induction n generalizing w with
  | zero => rfl
  | succ n ih =>
    rw [leBytes, List.map_cons, ih, List.range_succ_eq_map, List.map_cons, List.map_map]
    simp [Nat.div_div_eq_div_mul, pow_succ', Function.comp_def]

theorem crcBytes_eq (wide : Bool) (c : ℕ) (bs : List Byte) : crcBytes wide c bs =
    (bs.map BitVec.toNat).foldl (fun c b => (crcShift (if wide then 0xC96C5795D7870F42 else 0x82F63B78))^[8] (c.xor b)) c := by
  simp only [crcBytes, crcByteGo_eq, List.foldl_map]
  rfl

theorem foldl_lt {w : ℕ} {g : ℕ → ℕ → ℕ} (hg : ∀ c b, c < 2 ^ w → b < 256 → g c b < 2 ^ w) (bs : List ℕ) (hb : ∀ b ∈ bs, b < 256) (c : ℕ)
    (hc : c < 2 ^ w) : bs.foldl g c < 2 ^ w := by
  induction bs generalizing c with
  | nil => exact hc
  | cons b bs ih =>
    obtain ⟨h1, h2⟩ := List.forall_mem_cons.1 hb
    exact ih h2 _ (hg c b hc h1)

/-- A CRC step of a 64-bit register over the bytes of an element (04 R140). -/
theorem crcStep_toNat (wide : Bool) (d : Word64) (n a : ℕ) : (crcStep wide d (leBytes n a)).toNat =
    ((List.range n).map fun j => a / 256 ^ j % 256).foldl (fun c b => (crcShift (if wide then 0xC96C5795D7870F42 else 0x82F63B78))^[8] (c.xor b))
      (if wide then d.toNat else d.toNat % 2 ^ 32) := by
  have hbytes : ∀ b ∈ (List.range n).map fun j => a / 256 ^ j % 256, b < 256 := by
    simp only [List.mem_map]
    rintro b ⟨j, -, rfl⟩
    exact Nat.mod_lt _ (by norm_num)
  have hpoly : (if wide then 0xC96C5795D7870F42 else 0x82F63B78) < 2 ^ 64 := by split_ifs <;> norm_num
  have hc : (if wide then d.toNat else d.toNat % 2 ^ 32) < 2 ^ 64 := by
    have := d.isLt
    split_ifs <;> omega
  rw [crcStep, crcBytes_eq, leBytes_toNat, BitVec.toNat_ofNat, Nat.mod_eq_of_lt]
  exact foldl_lt (fun c b hc hb => crcShift_iterate_lt hpoly 8 (Nat.xor_lt_two_pow hc (by omega))) _ hbytes _ hc

end Sys2Proof.Machine
end

section
/-!
The rows of the vector opcode table, one element at a time, and the obligation that every NaN delivered is the default NaN.
-/

namespace Sys2Proof.Machine

/-! ### What a row claims of an element -/

/-- The row of the opcode table holds of `elemResult`; only a row with two sources asks anything of its second one. -/
def ElemRow.holds (row : ElemRow) : Prop :=
  ∀ (fn : ℕ) (rm : BitVec 3) (td t1 t2 t3 a1 a2 a3 i : ℕ), row.types td t1 t2 t3 → row.fnOk fn → a1 < 2 ^ typeBits t1 →
    (2 ≤ row.srcs → a2 < 2 ^ typeBits t2) → row.gives ⟨fn, rm, td, t1⟩ a1 a2 a3 i (elemResult row.vop fn rm td t1 a1 a2 a3 i)

theorem wraps_of_emod (m : ElemMode) {n : ℤ} {v : ℕ} (h : (v : ℤ) = n % 2 ^ typeBits m.td) : m.wraps false n ⟨v, 0⟩ :=
  ⟨h, fun e => by simp at e, fun _ => rfl⟩

theorem wraps_ofInt (m : ElemMode) (n : ℤ) : m.wraps false n ⟨ofInt m.td n, 0⟩ := wraps_of_emod m (ofInt_lt m.td n).2

theorem wraps_checked (m : ElemMode) (n : ℤ) : m.wraps true n ⟨ofInt m.td n, ioFlag m.td n⟩ := by
  refine ⟨(ofInt_lt m.td n).2, fun _ ⟨b, hb⟩ hn => ?_, fun h => ?_⟩
  · simp only [ioFlag, hb, if_pos hn]; rfl
  · rcases h with h | h | h
    · exact absurd h (by decide)
    · rcases hi : intOf m.td with _ | ⟨_ | _, b⟩
      · simp [ioFlag, hi]
      · simp [ioFlag, hi]
      · exact absurd ⟨b, hi⟩ h
    · rcases hi : intOf m.td with _ | ⟨_ | _, b⟩ <;> simp only [ioFlag, hi]
      rw [if_neg (by omega)]

theorem truth_bit01 {P : Prop} {b : Bool} {fl : FlagSet} (h : b = true ↔ P) : truth P ⟨bit01 b, fl⟩ :=
  ⟨fun hP => by simp [bit01, h.2 hP], fun hP => by simp [bit01, Bool.eq_false_iff.2 (mt h.1 hP)]⟩

theorem isF_of_lt_two {td : ℕ} (h : td < 2) : isF td = true := by interval_cases td <;> rfl

theorem asInt_emod_eq {td a : ℕ} (h : isI td = true) (ha : a < 2 ^ typeBits td) : (a : ℤ) = asInt td a % 2 ^ typeBits td := by
  rw [(asInt_spec h a).1, Int.emod_eq_of_lt (by positivity) (by exact_mod_cast ha)]

theorem bitwise_of {m : ElemMode} {g : ℕ → Bool} {v : ℕ} (hlt : v < 2 ^ typeBits m.td) (hg : ∀ j, j < typeBits m.td → v.testBit j = g j) :
    m.bitwise g ⟨v, 0⟩ := by
  refine ⟨rfl, fun j => ?_⟩
  by_cases hj : j < typeBits m.td
  · simp [hj, hg j hj]
  · simp only [hj, decide_false, Bool.false_and]
    exact Nat.testBit_lt_two_pow (hlt.trans_le (Nat.pow_le_pow_right (by omega) (not_lt.1 hj)))

/-! ### Bit patterns of floating-point elements -/

theorem FloatFmt.abs_testBit (p : FloatFmt) (a j : ℕ) : (p.abs a).testBit j = (decide (j + 1 < p.width) && a.testBit j) := by
  rw [FloatFmt.abs, Nat.testBit_mod_two_pow]
  congr 2
  simp only [FloatFmt.width, eq_iff_iff]
  omega

theorem FloatFmt.abs_lt (p : FloatFmt) (a : ℕ) : p.abs a < 2 ^ p.width :=
  (Nat.mod_lt _ (by positivity)).trans (Nat.pow_lt_pow_right (by omega) (by simp only [FloatFmt.width]; omega))

theorem FloatFmt.negate_lt (p : FloatFmt) (a : ℕ) : p.negate a < 2 ^ p.width := by
  have h2 : 2 ^ p.width = 2 * 2 ^ (p.ew + p.fw) := by rw [← pow_succ', FloatFmt.width]; congr 1; omega
  have := Nat.mod_lt a (show 0 < 2 ^ p.width by positivity)
  simp only [FloatFmt.negate]
  split_ifs <;> omega

theorem FloatFmt.negate_testBit (p : FloatFmt) {a : ℕ} (ha : a < 2 ^ p.width) {j : ℕ} (hj : j < p.width) :
    (p.negate a).testBit j = (decide (j + 1 = p.width) != a.testBit j) := by
  have hw : p.width = p.ew + p.fw + 1 := by simp only [FloatFmt.width]; omega
  simp only [FloatFmt.negate, Nat.mod_eq_of_lt ha]
  rw [hw] at ha hj ⊢
  generalize p.ew + p.fw = n at *
  obtain ⟨b, hb, hab⟩ : ∃ b, b < 2 ^ n ∧ (a = 2 ^ n * 0 + b ∧ ¬2 ^ n ≤ a ∨ a = 2 ^ n * 1 + b ∧ 2 ^ n ≤ a) := by
    rw [pow_succ] at ha
    by_cases h : 2 ^ n ≤ a
    · exact ⟨a - 2 ^ n, by omega, .inr ⟨by omega, h⟩⟩
    · exact ⟨a, by omega, .inl ⟨by omega, h⟩⟩
  have hflip : (if a < 2 ^ n then a + 2 ^ n else a - 2 ^ n) = if 2 ^ n ≤ a then 2 ^ n * 0 + b else 2 ^ n * 1 + b := by
    rcases hab with ⟨ha, h⟩ | ⟨ha, h⟩
    · rw [if_pos (by omega), if_neg h]; omega
    · rw [if_neg (by omega), if_pos h]; omega
  rw [hflip]
  rcases hab with ⟨ha, h⟩ | ⟨ha, h⟩
  all_goals
    simp only [h, if_true, if_false]
    rw [ha, Nat.testBit_two_pow_mul_add _ hb, Nat.testBit_two_pow_mul_add _ hb]
    rcases (Nat.lt_succ_iff.1 hj).lt_or_eq with hj | rfl
    · simp [hj, hj.ne]
    · simp

/-- The arithmetic shift reads the sign by the magnitude (04 R134). -/
theorem lt_half_iff {n a : ℕ} (hn : 0 < n) (ha : a < 2 ^ n) : a < 2 ^ (n - 1) ↔ a.testBit (n - 1) = false := by
  obtain ⟨k, rfl⟩ := Nat.exists_eq_add_of_lt hn
  simp only [Nat.zero_add, Nat.add_sub_cancel] at *
  rw [pow_succ] at ha
  rw [Nat.testBit_eq_decide_div_mod_eq, decide_eq_false_iff_not]
  have hpos : 0 < 2 ^ k := by positivity
  have hd := Nat.div_lt_iff_lt_mul hpos (x := a) (y := 2)
  have hd1 := Nat.div_eq_zero_iff_lt hpos (x := a)
  have hlt : a / 2 ^ k < 2 := hd.2 (by omega)
  rw [← hd1]
  generalize a / 2 ^ k = c at hlt
  omega

/-! ### The rows -/

/-- Every row with a destination delivers at an element what the opcode table says (02 R66). -/
theorem elementRows_hold : ∀ row ∈ Rows.element, row.holds := by
  simp only [Rows.element, List.forall_mem_cons, List.not_mem_nil, false_imp_iff, implies_true, and_true]
  and_intros
  · rintro fn rm td t1 t2 t3 a1 a2 a3 i ⟨-, -, hb⟩ - h1 -
    exact congrArg (FRes.mk · 0) (Nat.mod_eq_of_lt (hb ▸ h1))
  · rintro fn rm td t1 t2 t3 a1 a2 a3 i ⟨hd, hs⟩ - h1 -
    exact convertElem_convertsTo hs hd
  · rintro fn rm td t1 t2 t3 a1 a2 a3 i - - - -
    rfl
  · rintro fn rm td t1 t2 t3 a1 a2 a3 i - - - -
    rfl
  · rintro fn rm td t1 t2 t3 a1 a2 a3 i ⟨-, rfl, rfl, -⟩ - h1 h2
    change FRes.mk (if a3 ≠ 0 then a1 % 2 ^ typeBits t2 else a2 % 2 ^ typeBits t2) 0 = _
    rw [Nat.mod_eq_of_lt h1, Nat.mod_eq_of_lt (h2 (by decide))]
  · rintro fn rm td t1 t2 t3 a1 a2 a3 i ⟨-, rfl, -⟩ - h1 -
    exact congrArg (FRes.mk · 0) (Nat.mod_eq_of_lt h1)
  · rintro fn rm td t1 t2 t3 a1 a2 a3 i ⟨-, rfl, -, -⟩ - - -
    refine bitwise_of (m := ⟨fn, rm, t1, t1⟩) (Nat.lt_pow_two_of_testBit _ fun j hj => ?_) fun j hj => ?_
    · rw [revBits_testBit]
      simp only [ge_iff_le] at hj
      simp [not_lt.2 hj]
    · rw [revBits_testBit]; simp only [hj, decide_true, Bool.true_and]
  -- VFADD to VFNMA
  · rintro fn rm td t1 t2 t3 a1 a2 a3 i ⟨h, rfl, -, -⟩ - - -
    obtain ⟨p, hp, -, hs⟩ := floatOf_of_isF h
    exact ⟨p, hp, by simpa [elemResult, floatArith, hp] using hs.addV_sums rm _ _⟩
  · rintro fn rm td t1 t2 t3 a1 a2 a3 i ⟨h, rfl, -, -⟩ - - -
    obtain ⟨p, hp, -, hs⟩ := floatOf_of_isF h
    exact ⟨p, hp, by simpa [elemResult, floatArith, hp] using hs.addV_sums rm _ _⟩
  · rintro fn rm td t1 t2 t3 a1 a2 a3 i ⟨h, rfl, -, -⟩ - - -
    obtain ⟨p, hp, -, hs⟩ := floatOf_of_isF h
    exact ⟨p, hp, by simpa [elemResult, floatArith, hp] using hs.mul_multiplies rm _ _⟩
  · rintro fn rm td t1 t2 t3 a1 a2 a3 i ⟨h, rfl, -, -⟩ - - -
    obtain ⟨p, hp, -, hs⟩ := floatOf_of_isF (isF_of_lt_two (of_decide_eq_true h))
    exact ⟨p, hp, by simpa [elemResult, floatArith, hp] using hs.div_divides rm _ _⟩
  · rintro fn rm td t1 t2 t3 a1 a2 a3 i ⟨h, rfl, -, -⟩ - - -
    obtain ⟨p, hp, -, hs⟩ := floatOf_of_isF (isF_of_lt_two (of_decide_eq_true h))
    exact ⟨p, hp, by simpa [elemResult, hp] using hs.sqrt_roots rm _⟩
  · rintro fn rm td t1 t2 t3 a1 a2 a3 i ⟨h, rfl, -, -⟩ - - -
    obtain ⟨p, hp, -, hs⟩ := floatOf_of_isF h
    exact ⟨p, hp, by simpa [elemResult, fmaArith, hp] using hs.fma_fuses rm _ _ _⟩
  · rintro fn rm td t1 t2 t3 a1 a2 a3 i ⟨h, rfl, -, -⟩ - - -
    obtain ⟨p, hp, -, hs⟩ := floatOf_of_isF h
    exact ⟨p, hp, by simpa [elemResult, fmaArith, hp] using hs.fma_fuses rm _ _ _⟩
  · rintro fn rm td t1 t2 t3 a1 a2 a3 i ⟨h, rfl, -, -⟩ - - -
    obtain ⟨p, hp, -, hs⟩ := floatOf_of_isF h
    exact ⟨p, hp, by simpa [elemResult, fmaArith, hp] using hs.fma_fuses rm _ _ _⟩
  -- VFMIN, VFMAX, VFABS, VFNEG, VFCMP, VFCLASS, VFRINT, VFMAW
  · rintro fn rm td t1 t2 t3 a1 a2 a3 i ⟨h, rfl, -, -⟩ - - -
    obtain ⟨p, hp, -, hs⟩ := floatOf_of_isF h
    exact ⟨p, hp, by simpa [elemResult, hp] using hs.minMax_picks false a1 a2⟩
  · rintro fn rm td t1 t2 t3 a1 a2 a3 i ⟨h, rfl, -, -⟩ - - -
    obtain ⟨p, hp, -, hs⟩ := floatOf_of_isF h
    exact ⟨p, hp, by simpa [elemResult, hp] using hs.minMax_picks true a1 a2⟩
  · rintro fn rm td t1 t2 t3 a1 a2 a3 i ⟨h, rfl, -, -⟩ - - -
    obtain ⟨p, hp, hb, -⟩ := floatOf_of_isF h
    have hr : elemResult 0x1A fn rm t1 t1 a1 a2 a3 i = ⟨p.abs a1, 0⟩ := by simp [elemResult, hp]
    rw [hr]
    exact bitwise_of (by rw [hb]; exact p.abs_lt a1) fun j _ => by rw [p.abs_testBit, hb]
  · rintro fn rm td t1 t2 t3 a1 a2 a3 i ⟨h, rfl, -, -⟩ - h1 -
    obtain ⟨p, hp, hb, -⟩ := floatOf_of_isF h
    have hr : elemResult 0x1B fn rm t1 t1 a1 a2 a3 i = ⟨p.negate a1, 0⟩ := by simp [elemResult, hp]
    rw [hr]
    exact bitwise_of (by rw [hb]; exact p.negate_lt a1) fun j hj => by rw [p.negate_testBit (hb ▸ h1) (hb ▸ hj), hb]
  · rintro fn rm td t1 t2 t3 a1 a2 a3 i ⟨-, h, -⟩ - - -
    obtain ⟨p, hp, -, -⟩ := floatOf_of_isF h
    have hr : elemResult 0x1C fn rm td t1 a1 a2 a3 i =
        ⟨bit01 (fcmpHolds fn (p.decode a1) (p.decode a2)).1, (fcmpHolds fn (p.decode a1) (p.decode a2)).2⟩ := by simp [elemResult, hp]
    rw [hr]
    refine ⟨p, hp, truth_bit01 (fcmpHolds_compares fn _ _), fun hiv => ?_, fun hiv => ?_⟩
    · exact (fcmpHolds_flags ..).trans (if_pos hiv)
    · exact (fcmpHolds_flags ..).trans (if_neg hiv)
  · rintro fn rm td t1 t2 t3 a1 a2 a3 i ⟨-, h⟩ - - -
    obtain ⟨p, hp, -, -⟩ := floatOf_of_isF h
    have hr : elemResult 0x1D fn rm td t1 a1 a2 a3 i = p.classify a1 := by simp [elemResult, hp]
    rw [hr]
    refine ⟨p, hp, p.classCode_classes a1, fun e => ?_, fun e => ?_⟩
    · exact (FVal.snan_eq _).trans (if_pos e)
    · exact (FVal.snan_eq _).trans (if_neg e)
  · rintro fn rm td t1 t2 t3 a1 a2 a3 i ⟨h, rfl, -, -⟩ - h1 -
    obtain ⟨p, hp, hb, hs⟩ := floatOf_of_isF h
    exact ⟨p, hp, by simpa [elemResult, hp] using hs.rint_integrates rm (hb ▸ h1)⟩
  · rintro fn rm td t1 t2 t3 a1 a2 a3 i ⟨rfl, ht, rfl, rfl⟩ - - -
    have h : isF t2 = true := by rcases ht with rfl | rfl <;> rfl
    obtain ⟨p, hp, -, -⟩ := floatOf_of_isF h
    exact ⟨p, hp, by simpa [elemResult, fmaArith, hp] using (FloatFmt.standard.fma_fuses (.inr (.inl rfl)) rm _ _ _)⟩
  -- VADD to VSUBBO
  · rintro fn rm td t1 t2 t3 a1 a2 a3 i - - - -
    exact wraps_checked ⟨fn, rm, td, t1⟩ _
  · rintro fn rm td t1 t2 t3 a1 a2 a3 i - - - -
    exact wraps_checked ⟨fn, rm, td, t1⟩ _
  · rintro fn rm td t1 t2 t3 a1 a2 a3 i - - - -
    exact wraps_checked ⟨fn, rm, td, t1⟩ _
  · rintro fn rm td t1 t2 t3 a1 a2 a3 i - - - -
    have := wraps_ofInt ⟨fn, rm, td, t1⟩ (asInt td a1 * asInt td a2 / 2 ^ typeBits td)
    simpa [elemResult] using this
  · rintro fn rm td t1 t2 t3 a1 a2 a3 i - - - -
    exact wraps_of_emod _ (by push_cast; rfl)
  · rintro fn rm td t1 t2 t3 a1 a2 a3 i ⟨-, rfl, rfl, -⟩ - h1 h2
    have h2 := h2 (by decide)
    have hlt : (a1 + a2 + a3 % 2) / 2 ^ typeBits t2 < 2 := (Nat.div_lt_iff_lt_mul (by positivity)).2 (by omega)
    refine ⟨rfl, fun h => ?_, fun h => ?_⟩
    · have := (Nat.one_le_div_iff (show 0 < 2 ^ typeBits t2 by positivity)).2 h
      change (a1 + a2 + a3 % 2) / 2 ^ typeBits t2 = 1
      omega
    · exact Nat.div_eq_of_lt (not_le.1 h)
  · rintro fn rm td t1 t2 t3 a1 a2 a3 i - - - -
    exact wraps_ofInt ⟨fn, rm, td, t1⟩ _
  · rintro fn rm td t1 t2 t3 a1 a2 a3 i - - - -
    exact ⟨rfl, truth_bit01 (b := a1 < a2 + a3 % 2) (by simp)⟩
  -- VAND, VOR, VXOR, VANDN, the shifts, VICMP, VIMIN, VIMAX, VPOPC, VCLZ
  · rintro fn rm td t1 t2 t3 a1 a2 a3 i ⟨-, rfl, rfl, -⟩ - h1 h2
    exact bitwise_of (Nat.and_lt_two_pow _ (h2 (by decide))) fun j _ => Nat.testBit_and ..
  · rintro fn rm td t1 t2 t3 a1 a2 a3 i ⟨-, rfl, rfl, -⟩ - h1 h2
    exact bitwise_of (Nat.or_lt_two_pow h1 (h2 (by decide))) fun j _ => Nat.testBit_or ..
  · rintro fn rm td t1 t2 t3 a1 a2 a3 i ⟨-, rfl, rfl, -⟩ - h1 h2
    exact bitwise_of (Nat.xor_lt_two_pow h1 (h2 (by decide))) fun j _ => Nat.testBit_xor ..
  · rintro fn rm td t1 t2 t3 a1 a2 a3 i ⟨-, rfl, rfl, -⟩ - h1 h2
    refine bitwise_of (Nat.and_lt_two_pow _ (by rw [Nat.sub_sub]; exact Nat.sub_lt (by positivity) (by omega))) fun j hj => ?_
    have := Nat.testBit_two_pow_sub_succ (h2 (by decide)) j
    change (a1 &&& (2 ^ typeBits t2 - 1 - a2)).testBit j = _
    rw [Nat.testBit_and, Nat.sub_sub, Nat.add_comm 1, this]
    simp [hj]
  · rintro fn rm td t1 t2 t3 a1 a2 a3 i - - - -
    exact wraps_of_emod _ (by push_cast; rfl)
  · rintro fn rm td t1 t2 t3 a1 a2 a3 i ⟨-, rfl, -, -⟩ - h1 -
    refine wraps_of_emod ⟨fn, rm, t1, t1⟩ (v := a1 / 2 ^ (a2 % typeBits t1)) ?_
    have : a1 / 2 ^ (a2 % typeBits t1) < 2 ^ typeBits t1 := (Nat.div_le_self ..).trans_lt h1
    rw [Int.emod_eq_of_lt (by positivity) (by exact_mod_cast this)]
    push_cast; rfl
  · rintro fn rm td t1 t2 t3 a1 a2 a3 i ⟨h, rfl, -, -⟩ - h1 -
    have hsign := lt_half_iff (typeBits_le t1).2 h1
    have hs : (if a1 < 2 ^ (typeBits t1 - 1) then (a1 : ℤ) else (a1 : ℤ) - (2 ^ typeBits t1 : ℕ)) =
        if a1.testBit (typeBits t1 - 1) then (a1 : ℤ) - 2 ^ typeBits t1 else a1 := by
      cases hb : a1.testBit (typeBits t1 - 1) <;> simp [hsign, hb]
    have := wraps_ofInt ⟨fn, rm, t1, t1⟩ ((if a1 < 2 ^ (typeBits t1 - 1) then (a1 : ℤ) else (a1 : ℤ) - (2 ^ typeBits t1 : ℕ))
      / ((2 ^ (a2 % typeBits t1) : ℕ) : ℤ))
    rw [hs] at this
    push_cast at this
    convert this using 1
    change FRes.mk (ofInt t1 ((if a1 < 2 ^ (typeBits t1 - 1) then (a1 : ℤ) else (a1 : ℤ) - (2 ^ typeBits t1 : ℕ))
      / ((2 : ℕ) ^ (a2 % typeBits t1) : ℤ))) 0 = _
    rw [hs]
    push_cast
    rfl
  · rintro fn rm td t1 t2 t3 a1 a2 a3 i - hfn - -
    refine ⟨rfl, truth_bit01 (b := icmpHolds fn (asInt t1 a1) (asInt t1 a2)) ?_⟩
    have hfn : fn < 6 := hfn
    interval_cases fn <;> simp only [icmpHolds, compares] <;> simp [le_iff_lt_or_eq]
    exact or_congr_right eq_comm
  · rintro fn rm td t1 t2 t3 a1 a2 a3 i ⟨h, rfl, rfl, -⟩ - h1 h2
    refine wraps_of_emod ⟨fn, rm, t2, t2⟩ (v := if asInt t2 a2 < asInt t2 a1 then a2 else a1) ?_
    split_ifs with hlt
    · rw [min_eq_right hlt.le]; exact asInt_emod_eq h (h2 (by decide))
    · rw [min_eq_left (not_lt.1 hlt)]; exact asInt_emod_eq h h1
  · rintro fn rm td t1 t2 t3 a1 a2 a3 i ⟨h, rfl, rfl, -⟩ - h1 h2
    refine wraps_of_emod ⟨fn, rm, t2, t2⟩ (v := if asInt t2 a1 < asInt t2 a2 then a2 else a1) ?_
    split_ifs with hlt
    · rw [max_eq_right hlt.le]; exact asInt_emod_eq h (h2 (by decide))
    · rw [max_eq_left (not_lt.1 hlt)]; exact asInt_emod_eq h h1
  · rintro fn rm td t1 t2 t3 a1 a2 a3 i - - - -
    exact congrArg (FRes.mk · 0) (popBits_eq _ _)
  · rintro fn rm td t1 t2 t3 a1 a2 a3 i ⟨h, rfl, -, -⟩ - h1 -
    exact ⟨rfl, leadZeros_spec h1⟩

/-! ### Reductions -/

/-- A NaN or one of its operands. -/
theorem FloatFmt.standard.minMax_lt {p : FloatFmt} (hp : p.standard) (larger : Bool) {a b : ℕ} (ha : a < 2 ^ p.width) (hb : b < 2 ^ p.width) :
    (p.minMax larger a b).val < 2 ^ p.width := by
  have := hp.proper.decode_defaultNaN.2
  simp only [FloatFmt.minMax]
  split_ifs <;> assumption

theorem reduceInt_range {t : ℕ} (h : isI t = true) (d : Word64) (a : ℕ) : ∃ sg, intOf t = some (sg, typeBits t)
    ∧ reduceInt t d = (if sg then d.toInt else d.toNat) ∧ reduceInt t (BitVec.ofInt 64 (asInt t a)) = asInt t a := by
  obtain ⟨sg, hi, hnf, hb⟩ := intOf_of_isI h
  obtain ⟨hlo, hhi⟩ := (asInt_spec h a).2
  have ht : t = 4 ∨ t = 5 ∨ t = 6 ∨ t = 7 ∨ t = 8 ∨ t = 9 := by
    by_contra hn
    simp only [not_or] at hn
    simp [isI, intOf, hn] at h
  have hsg : (t = 5 ∨ t = 7) ↔ sg = false := by
    rcases ht with rfl | rfl | rfl | rfl | rfl | rfl <;> cases hi <;> decide
  refine ⟨sg, hi, ?_, ?_⟩
  · cases sg <;> simp [reduceInt, hsg]
  · cases sg with
    | true =>
      have hlo' : -2 ^ 63 ≤ asInt t a ∧ asInt t a < 2 ^ 63 := by
        simp only [intRange, hi] at hlo hhi
        rcases hb with hb | hb | hb | hb <;> rw [hb] at hlo hhi <;> omega
      simp only [reduceInt, hsg, Bool.true_eq_false, if_false, BitVec.toInt_ofInt]
      exact Int.bmod_eq_of_le (by omega) (by omega)
    | false =>
      have hlo' : 0 ≤ asInt t a ∧ asInt t a < 2 ^ 64 := by
        simp only [intRange, hi] at hlo hhi
        rcases hb with hb | hb | hb | hb <;> rw [hb] at hhi <;> omega
      simp only [reduceInt, hsg, if_true, BitVec.toNat_ofInt]
      push_cast
      rw [Int.toNat_of_nonneg (Int.emod_nonneg _ (by norm_num))]
      exact Int.emod_eq_of_lt hlo'.1 (by omega)

/-- VFMAXR and VFMINR pick of the register's low bits and the element, and the register holds what they pick (04 R101, R117). -/
theorem reduce_minMax {t : ℕ} (h : isF t = true) (larger : Bool) (d : Word64) {a : ℕ} (ha : a < 2 ^ typeBits t) {r : Word64 × FlagSet}
    (hr : r = (BitVec.ofNat 64 (((floatOf t).getD binary64).minMax larger (d.toNat % 2 ^ ((floatOf t).getD binary64).width) a).val,
      (((floatOf t).getD binary64).minMax larger (d.toNat % 2 ^ ((floatOf t).getD binary64).width) a).flags)) :
    ∃ p, floatOf t = some p ∧ p.picks larger (d.toNat % 2 ^ p.width) a ⟨r.1.toNat, r.2⟩ := by
  obtain ⟨p, hp, hb, hs⟩ := floatOf_of_isF h
  subst hr
  simp only [hp, Option.getD_some]
  have hlt := hs.minMax_lt larger (Nat.mod_lt d.toNat (Nat.two_pow_pos p.width)) (hb ▸ ha)
  have h64 : 2 ^ p.width ≤ 2 ^ 64 := Nat.pow_le_pow_right (by omega) (hb ▸ (typeBits_le t).1)
  rw [BitVec.toNat_ofNat, Nat.mod_eq_of_lt (hlt.trans_le h64)]
  exact ⟨p, rfl, hs.minMax_picks larger _ a⟩

/-- Every reduction makes of the register and an element what its row says (02 R54, R66). -/
theorem reductionRows_hold : ∀ row ∈ Rows.reduction, ∀ (fn t1 a1 : ℕ) (d : Word64), row.types t1 → fn < 2 → a1 < 2 ^ typeBits t1 →
    row.gives fn t1 d a1 (reduceStep row.vop fn t1 d a1).1 (reduceStep row.vop fn t1 d a1).2 := by
  simp only [Rows.reduction, List.forall_mem_cons, List.not_mem_nil, false_imp_iff, implies_true, and_true]
  and_intros
  · intro fn t a d _ _ _
    refine ⟨rfl, ?_⟩
    change ((d + BitVec.ofInt 64 (asInt t a)).toNat : ℤ) = _
    rw [BitVec.toNat_add, BitVec.toNat_ofInt]
    push_cast
    rw [Int.toNat_of_nonneg (Int.emod_nonneg _ (by norm_num)), Int.add_emod_emod]
  · intro fn t a d ht _ _
    obtain ⟨sg, hi, hd, hx⟩ := reduceInt_range ht d a
    have hr : reduceStep 0x53 fn t d a = (if reduceInt t d < asInt t a then BitVec.ofInt 64 (asInt t a) else d, 0) := by
      simp [reduceStep, hi, hd]
    rw [hr]
    refine ⟨rfl, ?_⟩
    simp only
    split_ifs with h
    · rw [hx, max_eq_right h.le]
    · rw [max_eq_left (not_lt.1 h)]
  · intro fn t a d ht _ _
    obtain ⟨sg, hi, hd, hx⟩ := reduceInt_range ht d a
    have hr : reduceStep 0x54 fn t d a = (if asInt t a < reduceInt t d then BitVec.ofInt 64 (asInt t a) else d, 0) := by
      simp [reduceStep, hi, hd]
    rw [hr]
    refine ⟨rfl, ?_⟩
    simp only
    split_ifs with h
    · rw [hx, min_eq_right h.le]
    · rw [min_eq_left (not_lt.1 h)]
  · intro fn t a d ht _ ha
    exact reduce_minMax (isF_of_lt_two ht) true d ha (by simp [reduceStep])
  · intro fn t a d ht _ ha
    exact reduce_minMax (isF_of_lt_two ht) false d ha (by simp [reduceStep])
  · intro fn t a d ht hfn _
    have hbytes : typeBytes t = typeBits t / 8 := by
      have ht : t < 10 := ht
      interval_cases t <;> decide
    have hr : reduceStep 0x57 fn t d a = (crcStep (fn = 1) d (leBytes (typeBytes t) a), 0) := by simp [reduceStep]
    rw [hr]
    have h := fun wide => crcStep_toNat wide d (typeBytes t) a
    rw [hbytes] at h
    rw [hbytes]
    obtain rfl | rfl : fn = 0 ∨ fn = 1 := by omega
    · exact ⟨rfl, h false⟩
    · exact ⟨rfl, h true⟩
  · intro fn t a d _ _ _
    exact ⟨rfl, rfl⟩

/-! ### NaNs -/

/-- `x` is no NaN but the default NaN. -/
def FloatFmt.onlyQuiet (p : FloatFmt) (x : FRes) : Prop := (p.decode x.val).isNaN = true → x.val = p.quietNaN

section
variable {p : FloatFmt} {x : FRes}

theorem FloatFmt.rounded.onlyQuiet {rm : BitVec 3} {v : ℝ} {zn : Bool} (h : p.rounded rm v zn x) : p.onlyQuiet x := by
  obtain ⟨-, h0, hne⟩ := h
  intro hn
  by_cases hv : v = 0
  · rw [(h0 hv).1] at hn
    cases hn
  · obtain ⟨neg, u, -, -, hover, hfit⟩ := hne hv
    rcases lt_or_ge ((2 ^ p.p - 1) * 2 ^ (p.emax - p.fw)) |u| with h | h
    · rw [(hover h).2] at hn
      split_ifs at hn <;> cases hn
    · obtain ⟨m, e, hd, -⟩ := hfit h
      rw [hd] at hn
      cases hn

theorem FloatFmt.givesInf.onlyQuiet {neg : Bool} {fl : FlagSet} (h : p.givesInf neg fl x) : p.onlyQuiet x := by
  obtain ⟨-, hd, -⟩ := h
  intro hn
  rw [hd] at hn
  cases hn

theorem FloatFmt.givesNaN.onlyQuiet {q : Prop} (h : p.givesNaN q x) : p.onlyQuiet x := fun _ => h.1

theorem FloatFmt.sums.onlyQuiet {rm : BitVec 3} {a b : FVal} (h : p.sums rm a b x) : p.onlyQuiet x := by
  rcases a with s | s | ⟨s, m, e⟩ <;> rcases b with t | t | ⟨t, n, g⟩ <;> simp only [FloatFmt.sums] at h
  case inf.inf => split_ifs at h; exacts [h.onlyQuiet, h.onlyQuiet]
  case fin.fin => exact FloatFmt.rounded.onlyQuiet h
  case inf.fin | fin.inf => exact FloatFmt.givesInf.onlyQuiet h
  all_goals exact FloatFmt.givesNaN.onlyQuiet h

theorem FloatFmt.multiplies.onlyQuiet {rm : BitVec 3} {a b : FVal} (h : p.multiplies rm a b x) : p.onlyQuiet x := by
  rcases a with s | s | ⟨s, m, e⟩ <;> rcases b with t | t | ⟨t, n, g⟩ <;> simp only [FloatFmt.multiplies] at h
  case fin.fin => exact FloatFmt.rounded.onlyQuiet h
  case inf.inf => exact FloatFmt.givesInf.onlyQuiet h
  case inf.fin | fin.inf => split_ifs at h; exacts [h.onlyQuiet, h.onlyQuiet]
  all_goals exact FloatFmt.givesNaN.onlyQuiet h

theorem FloatFmt.divides.onlyQuiet {rm : BitVec 3} {a b : FVal} (h : p.divides rm a b x) : p.onlyQuiet x := by
  rcases a with s | s | ⟨s, m, e⟩ <;> rcases b with t | t | ⟨t, n, g⟩ <;> simp only [FloatFmt.divides] at h
  case fin.fin => split_ifs at h; exacts [h.onlyQuiet, h.onlyQuiet, h.onlyQuiet]
  case inf.fin => exact FloatFmt.givesInf.onlyQuiet h
  case fin.inf => exact FloatFmt.rounded.onlyQuiet h
  all_goals exact FloatFmt.givesNaN.onlyQuiet h

theorem FloatFmt.roots.onlyQuiet {rm : BitVec 3} {a : FVal} (h : p.roots rm a x) : p.onlyQuiet x := by
  rcases a with s | s | ⟨s, m, e⟩ <;> simp only [FloatFmt.roots] at h
  · exact FloatFmt.givesNaN.onlyQuiet h
  · split_ifs at h; exacts [h.onlyQuiet, h.onlyQuiet]
  · split_ifs at h; exacts [h.onlyQuiet, h.onlyQuiet]

theorem FloatFmt.fuses.onlyQuiet {rm : BitVec 3} {a b c : FVal} (h : p.fuses rm a b c x) : p.onlyQuiet x := by
  rcases a with s | s | ⟨s, m, e⟩ <;> rcases b with t | t | ⟨t, n, g⟩ <;> simp only [FloatFmt.fuses] at h
  case fin.fin | inf.inf => exact FloatFmt.sums.onlyQuiet h
  case inf.fin | fin.inf =>
    split_ifs at h
    · exact FloatFmt.givesNaN.onlyQuiet h
    · exact FloatFmt.sums.onlyQuiet h
  all_goals exact FloatFmt.givesNaN.onlyQuiet h

theorem FloatFmt.picks.onlyQuiet {larger : Bool} {a b : ℕ} (h : p.picks larger a b x) : p.onlyQuiet x := by
  obtain ⟨-, h2, h1, h1', h0⟩ := h
  intro hn
  rcases ha : (p.decode a).isNaN <;> rcases hb : (p.decode b).isNaN
  · rcases (h0 ha hb).1 with e | e <;> rw [e] at hn
    · rw [ha] at hn; cases hn
    · rw [hb] at hn; cases hn
  · rw [h1' ha hb, ha] at hn; cases hn
  · rw [h1 ha hb, hb] at hn; cases hn
  · exact h2 ha hb

theorem FloatFmt.standard.rint_onlyQuiet (hp : p.standard) (rm : BitVec 3) (a : ℕ) : p.onlyQuiet (p.rint rm a) := by
  unfold FloatFmt.rint
  rcases hd : p.decode a with s | s | ⟨s, m, e⟩
  · exact fun _ => hp.quiet
  · intro hn
    rw [hd] at hn
    cases hn
  · simp only
    split_ifs with h h0
    · intro hn
      rw [hd] at hn
      cases hn
    · intro hn
      rw [(hp.proper.decode_zero s).1] at hn
      cases hn
    · exact (hp.proper.round_rounded (rm := rm) (zeroNeg := s) h0 (approx_exact _ 0) (by simp)).onlyQuiet

end

/-- Settles O13: each operation of a format delivers what its row says, and no row delivers another NaN than the default one; the rows of the
opcode table by `elementRows_hold` and `reductionRows_hold`. -/
theorem everyNaNResultIsTheDefaultNaN : Obligations.EveryNaNResultIsTheDefaultNaN := by
  refine ⟨fun p hp rm a b c => ?_, fun row hr fn rm td t1 t2 t3 a1 a2 a3 i ht hfn h1 h2 =>
    elementRows_hold row hr fn.toNat rm td t1 t2 t3 a1 a2 a3 i ht hfn h1 fun _ => h2, reductionRows_hold⟩
  have hs : p.standard := hp.imp_right .inl
  simp only [List.forall_mem_cons, List.not_mem_nil, false_imp_iff, implies_true, and_true]
  exact ⟨(hs.addV_sums rm _ _).onlyQuiet, (hs.addV_sums rm _ _).onlyQuiet, (hs.mul_multiplies rm _ _).onlyQuiet,
    (hs.div_divides rm _ _).onlyQuiet, (hs.sqrt_roots rm _).onlyQuiet, hs.rint_onlyQuiet rm a, (hs.fma_fuses rm _ _ _).onlyQuiet,
    (hs.fma_fuses rm _ _ _).onlyQuiet, (hs.fma_fuses rm _ _ _).onlyQuiet, (hs.minMax_picks false a b).onlyQuiet,
    (hs.minMax_picks true a b).onlyQuiet⟩

end Sys2Proof.Machine
end

section
/-!
The accumulator rows: instructions that complete or trap, exact sums with their state bits, and the obligation about them.
-/

namespace Sys2Proof.Machine

/-! ### Rows that complete or trap -/

theorem arithTrap_of_disabled {r : Regs} (h : (r.fpcsr >>> 7).truncate 7 = (0 : BitVec 7)) (fl : FlagSet) : arithTrap r fl = none := by
  have : trapOf fl 0 = none := by simp [trapOf]
  simp only [arithTrap, Regs.traps, h, this]

/-- An effect on the registers is known by what it does to the registers at the start. -/
theorem State.afterRegs_congr {s : State} {k : SlotId} {n : ℕ} {g g' : Regs → Regs} (h : g (s.regs k) = g' (s.regs k)) :
    s.afterRegs k n g = s.afterRegs k n g' := by
  have hr : ((s.slot k).completed (s.moreLines k)).regs = s.regs k := Slot.completed_regs ..
  simp only [State.afterRegs, State.after, State.modSlot_eq, hr, h]

section
variable {s : State} {i : StreamId} {k : SlotId} (h : s.ready i k) {f : Info} (he : f.early = none) (hd : (s.slot k).decodeFault f = none)
  (hq : (s.slot k).interlocked f = false) (hs : s.saveQs k f.saves = .ok s)
include h he hd hq hs

theorem State.ready.compute (g : Regs → Regs) (hf : f.soft = 0 := by rfl) : s.compute i f g = .next (s.afterRegs k f.size g) := by
  unfold State.compute
  rw [h.instruction he _ hd hq hs hf]
  have hset : (s.start k).setRegs k (g ((s.start k).regs k)) = (s.start k).modSlot k fun x => { x with regs := g x.regs } := by
    simp [State.setRegs, State.modSlot_eq, State.regs]
  rw [hset]
  exact h.outcome_next f (Slot.Plain.regs g)

/-- A checked body completes with its flags, or traps (04 R114, R115). -/
theorem State.ready.completesOrTraps {c : Instr} {g : Regs → FlagSet × Regs} (hc : exec c s = s.checked i f g) (hsize : f.size = 4) {fl : FlagSet}
    {g' : Regs → Regs} (hfl : (g (s.regs k)).1 = fl) (hg : (g (s.regs k)).2.orFlags fl = g' (s.regs k)) (hf : f.soft = 0 := by rfl) :
    s.completesOrTraps c k fl g' := by
  have hrun : exec c s = s.outcome k f (match arithTrap (s.regs k) fl with
      | some v => .trap v 0 0 fl
      | none => .next ((s.start k).modSlot k fun x => { x with regs := g' (s.regs k) })) := by
    rw [hc, State.checked, h.instruction he _ hd hq hs hf]
    simp only [State.start_regs, hfl, hg, State.setRegs] <;> rfl
  have hnone : arithTrap (s.regs k) fl = none → exec c s = .next (s.afterRegs k 4 g') := fun ht => by
    rw [hrun, ht]
    have := h.outcome_next f (Slot.Plain.regs fun _ => g' (s.regs k))
    rw [hsize] at this
    exact this.trans (congrArg Host.Outcome.next (State.afterRegs_congr (g := fun _ => g' (s.regs k)) rfl))
  refine ⟨fun ht => hnone (arithTrap_of_disabled ht fl), hnone, fun v ht => ?_⟩
  rw [hrun, ht]
  rfl

end

/-! ### Sums -/

/-- IV is raised where the bit of the other infinity is set (04 R128 step 2). -/
theorem infClash_eq : ∀ (st : BitVec 3) (neg : Bool), infClash st neg = if st &&& infBit (!neg) ≠ 0 then flIV else 0 := by decide

theorem addInt_zero (q : QVal) : q.addInt 0 = (q, 0) := by
  have hlo : -2 ^ 4287 ≤ q.n.toInt := by simpa using q.n.le_toInt
  have hhi : q.n.toInt < 2 ^ 4287 := by simpa using q.n.toInt_lt
  simp only [QVal.addInt, add_zero]
  rw [if_neg (by rw [not_or, not_lt, not_le]; exact ⟨hlo, hhi⟩), BitVec.ofInt_toInt]

/-- The flags of a sum: IV where `iv` holds, OF past the range, and IV where the state bit that it then sets meets the other one. -/
def sumFlags (iv past clash : Prop) [Decidable iv] [Decidable past] [Decidable clash] : FlagSet :=
  (if iv then flIV else 0) ||| if past then flOF ||| (if clash then flIV else 0) else 0

theorem sumFlags_bits (iv past clash : Prop) [Decidable iv] [Decidable past] [Decidable clash] :
    (sumFlags iv past clash &&& 4 ≠ 0 ↔ past) ∧ (sumFlags iv past clash &&& 1 ≠ 0 ↔ iv ∨ past ∧ clash) ∧ sumFlags iv past clash &&& ~~~5 = 0 := by
  by_cases h1 : iv <;> by_cases h2 : past <;> by_cases h3 : clash <;> simp [sumFlags, h1, h2, h3, flIV, flOF]

/-- `addInt` adds exactly, and keeps the low 4,288 bits (04 R128, R129). -/
theorem addInt_eq (q : QVal) (i : ℤ) (iv : Prop) [Decidable iv] :
    ((q.addInt i).1, (if iv then flIV else 0) ||| (q.addInt i).2) = (⟨BitVec.ofInt 4288 (q.n.toInt + i),
      if q.n.toInt + i < -2 ^ 4287 ∨ 2 ^ 4287 ≤ q.n.toInt + i then q.st ||| infBit (decide (q.n.toInt + i < 0)) else q.st⟩,
      sumFlags iv (q.n.toInt + i < -2 ^ 4287 ∨ 2 ^ 4287 ≤ q.n.toInt + i) (q.st &&& infBit (!decide (q.n.toInt + i < 0)) ≠ 0)) := by
  simp only [QVal.addInt, sumFlags, infClash_eq]
  split_ifs <;> rfl

/-- Command `c` leaves in accumulator `n` the sum `e`, with the state bits `b` before the addition and IV where `iv` holds already. -/
def State.sumsTo (s : State) (k : SlotId) (n : Fin 4) (c : Instr) (e : ℤ) (b : BitVec 3) (iv : Prop) : Prop :=
  ∃ (b' : BitVec 3) (fl : FlagSet), (e < -2 ^ 4287 ∨ 2 ^ 4287 ≤ e → b' = b ||| infBit (decide (e < 0)))
    ∧ (¬(e < -2 ^ 4287 ∨ 2 ^ 4287 ≤ e) → b' = b) ∧ (fl &&& 4 ≠ 0 ↔ e < -2 ^ 4287 ∨ 2 ^ 4287 ≤ e)
    ∧ (fl &&& 1 ≠ 0 ↔ iv ∨ ((e < -2 ^ 4287 ∨ 2 ^ 4287 ≤ e) ∧ b &&& infBit (!decide (e < 0)) ≠ 0)) ∧ fl &&& ~~~5 = 0
    ∧ s.completesOrTraps c k fl fun r => (((r.setQval n ⟨BitVec.ofInt 4288 e, b'⟩).dirty n).orFlags fl)

theorem State.unguarded.saveQs {s : State} {k : SlotId} {n : BitVec 2} (h : s.unguarded k n) : s.saveQs k [n.toFin] = .ok s := by
  have h : (s.slot k).regs.qg.getLsbD n.toFin.val = false := h
  simp only [State.saveQs, State.saveQ, h, Bool.not_false, if_true]

section
variable {s : State} {i : StreamId} {k : SlotId} (h : s.ready i k) {f : Info} (he : f.early = none) (hd : (s.slot k).decodeFault f = none)
  (hq : (s.slot k).interlocked f = false) (hs : s.saveQs k f.saves = .ok s)
include h he hd hq hs

/-- A checked body that adds `t` to accumulator `n`. -/
theorem State.ready.sumsTo {c : Instr} {g : Regs → FlagSet × Regs} (hc : exec c s = s.checked i f g) (hsize : f.size = 4) {n : Fin 4} {q : QVal} {t e : ℤ}
    {b : BitVec 3} {iv : Prop} [Decidable iv] {res : QVal × FlagSet} (hres : res = ((q.addInt t).1, (if iv then flIV else 0) ||| (q.addInt t).2))
    (hg : g (s.regs k) = (res.2, ((s.regs k).setQval n res.1).dirty n)) (hsum : q.n.toInt + t = e) (hb : q.st = b) (hf : f.soft = 0 := by rfl) :
    s.sumsTo k n c e b iv := by
  rw [addInt_eq, hsum, hb] at hres
  subst hres
  obtain ⟨h4, h1, h5⟩ := sumFlags_bits iv (e < -2 ^ 4287 ∨ 2 ^ 4287 ≤ e) (b &&& infBit (!decide (e < 0)) ≠ 0)
  exact ⟨_, _, fun hp => if_pos hp, fun hp => if_neg hp, h4, h1, h5,
    h.completesOrTraps he hd hq hs hc hsize (by rw [hg]) (by rw [hg]) hf⟩

end

/-! ### The four rows -/

/-- A finite binary64 number is a multiple of 2^−2148 (04 R126). -/
theorem toUnits_of_decode {x : ℕ} {neg : Bool} {m : ℕ} {e : ℤ} (h : binary64.decode x = .fin neg m e) :
    toUnits neg m e = (if neg then -1 else 1) * m * 2 ^ (e + 2148).toNat := by
  have he : (-1074 : ℤ) ≤ e := (FloatFmt.decode_fin h).2.1
  have h0 : 0 ≤ e + 2148 := by omega
  cases neg <;> simp [toUnits, h0]

theorem addTerm_nan (q : QVal) (sg : Bool) : q.addTerm (.nan sg) (FVal.snan (.nan sg)) = (⟨q.n, q.st ||| 4⟩, (if sg = true then flIV else 0) ||| 0) := by
  unfold QVal.addTerm
  cases sg <;> rfl

theorem addTerm_inf (q : QVal) (neg : Bool) : q.addTerm (.inf neg) (FVal.snan (.inf neg)) = (⟨q.n, q.st ||| infBit neg⟩, infClash q.st neg ||| 0) := by
  unfold QVal.addTerm
  simp [FVal.snan]

theorem addTerm_fin (q : QVal) (neg : Bool) (m : ℕ) (e : ℤ) : q.addTerm (.fin neg m e) (FVal.snan (.fin neg m e)) =
    ((q.addInt (toUnits neg m e)).1, (if False then flIV else 0) ||| (q.addInt (toUnits neg m e)).2) := by
  unfold QVal.addTerm
  dsimp only
  generalize q.addInt (toUnits neg m e) = p
  obtain ⟨q', fl⟩ := p
  rfl

/-- P and M come to meet in the sum of two accumulators in neither of which they meet (04 R128 step 4). -/
theorem meets_iff : ∀ a b : BitVec 3, (((a ||| b).getLsbD 0 && (a ||| b).getLsbD 1) && !(a.getLsbD 0 && a.getLsbD 1)
    && !(b.getLsbD 0 && b.getLsbD 1)) = true ↔ (a ||| b) &&& 3 = 3 ∧ ¬a &&& 3 = 3 ∧ ¬b &&& 3 = 3 := by decide

theorem addAcc_eq (q t : QVal) : q.addAcc t = (((QVal.mk q.n (q.st ||| t.st)).addInt t.n.toInt).1,
    (if (q.st ||| t.st) &&& 3 = 3 ∧ ¬q.st &&& 3 = 3 ∧ ¬t.st &&& 3 = 3 then flIV else 0) ||| ((QVal.mk q.n (q.st ||| t.st)).addInt t.n.toInt).2) := by
  unfold QVal.addAcc
  dsimp only
  generalize (QVal.mk q.n (q.st ||| t.st)).addInt t.n.toInt = p
  obtain ⟨q', fl⟩ := p
  exact Prod.ext rfl (congrArg (· ||| fl) (if_congr (meets_iff q.st t.st) rfl rfl))

/-- The decode rules of the accumulator rows (07 R252). -/
def qclrInfo (f : QFmt) : Info :=
  { fieldsOk := f.qm == 0 && f.rd == 0 && f.rnd == 0 && f.rsv == 0, writes := [.q f.qn], saves := [f.qn.toFin] }
def qadddInfo (f : QFmt) : Info :=
  { fieldsOk := f.qm == 0 && f.rnd == 0 && f.rsv == 0, reads := [.q f.qn, .d f.rd, .special 9], writes := [.q f.qn], saves := [f.qn.toFin] }
def qaddqInfo (f : QFmt) : Info :=
  { fieldsOk := f.rd == 0 && f.rnd == 0 && f.rsv == 0, reads := [.q f.qn, .q f.qm, .special 9], writes := [.q f.qn], saves := [f.qn.toFin] }
def qrndInfo (f : QFmt) : Info :=
  { fieldsOk := f.qm == 0 && decide (f.rnd.toNat < 6) && f.rsv == 0, reads := [.q f.qn, .special 9], writes := [.d f.rd] }

/-- The effect of a sum on the registers. -/
def Regs.summed (r : Regs) (n : Fin 4) (res : QVal × FlagSet) : FlagSet × Regs := (res.2, (r.setQval n res.1).dirty n)

section
variable (s : State) (i : StreamId) (f : QFmt)

theorem exec_qclr_eq : exec (.qclr i f) s = s.compute i (qclrInfo f) fun r => (r.setQval f.qn.toFin QVal.zero).dirty f.qn.toFin := by
  rw [exec_qclr, execQclr, qclrInfo]

theorem exec_qaddd_eq : exec (.qaddd i f) s = s.checked i (qadddInfo f) fun r =>
    r.summed f.qn.toFin ((r.qval f.qn.toFin).addValue binary64 (r.getD f.rd).toNat) := by
  rw [exec_qaddd, execQaddd, ← qadddInfo]
  refine congrArg (s.checked i (qadddInfo f)) (funext fun r => ?_)
  generalize (r.qval f.qn.toFin).addValue binary64 (r.getD f.rd).toNat = p
  obtain ⟨q, fl⟩ := p
  rfl

theorem exec_qaddq_eq : exec (.qaddq i f) s = s.checked i (qaddqInfo f) fun r =>
    r.summed f.qn.toFin ((r.qval f.qn.toFin).addAcc (r.qval f.qm.toFin)) := by
  rw [exec_qaddq, execQaddq, ← qaddqInfo]
  refine congrArg (s.checked i (qaddqInfo f)) (funext fun r => ?_)
  generalize (r.qval f.qn.toFin).addAcc (r.qval f.qm.toFin) = p
  obtain ⟨q, fl⟩ := p
  rfl

theorem exec_qrnd_eq : exec (.qrnd i f) s = s.checked i (qrndInfo f) fun r =>
    (((r.qval f.qn.toFin).round (r.rounding f.rnd)).flags, r.setD f.rd (BitVec.ofNat 64 ((r.qval f.qn.toFin).round (r.rounding f.rnd)).val)) := by
  rw [exec_qrnd, execQrnd, ← qrndInfo]

end

section
variable {s : State} {i : StreamId} {k : SlotId} {f : QFmt}

/-- The accumulator rows outside vector work keep every decode rule. -/
theorem State.clear.keepsRules (h : s.clear i k) (hp : (s.slot k).placed 4) {g : Info} (hg : g.anywhere) (hf : g.fieldsOk = true) :
    (s.slot k).decodeFault g = none := by
  obtain ⟨hsize, hwide, -, hslot, hend, hpre, -⟩ := hg
  exact Slot.decodeFault_none h.chain_none (hsize ▸ hp) hslot hend hpre hf fun e => by simp [hwide] at e

theorem State.clear.qclr (h : s.clear i k) (hp : (s.slot k).placed 4) (hrsv : f.rsv = 0) (hu : s.unguarded k f.qn) (hqm : f.qm = 0) (hrd : f.rd = 0)
    (hrnd : f.rnd = 0) : exec (.qclr i f) s = .next (s.afterRegs k 4 fun r => (r.setQval f.qn.toFin QVal.zero).dirty f.qn.toFin) := by
  have hd := h.keepsRules hp (g := qclrInfo f) ⟨rfl, rfl, rfl, rfl, rfl, rfl, rfl⟩ (by simp [qclrInfo, hqm, hrd, hrnd, hrsv])
  rw [exec_qclr_eq]
  exact h.ready.compute rfl hd (h.interlocked _) hu.saveQs _

section
variable (h : s.clear i k) (hp : (s.slot k).placed 4) (hrsv : f.rsv = 0) (hu : s.unguarded k f.qn) (hqm : f.qm = 0) (hrnd : f.rnd = 0)
include h hp hrsv hu hqm hrnd

/-- QADDD of a value whose term is that of the addition of `t` to an accumulator `q'`. -/
theorem State.clear.qaddd {x : FVal} (hx : binary64.decode ((s.regs k).getD f.rd).toNat = x) {q' : QVal} {t e : ℤ} {b : BitVec 3} {iv : Prop} [Decidable iv]
    (hres : ((s.regs k).qval f.qn.toFin).addTerm x x.snan = ((q'.addInt t).1, (if iv then flIV else 0) ||| (q'.addInt t).2))
    (he : q'.n.toInt + t = e) (hb : q'.st = b) : s.sumsTo k f.qn.toFin (.qaddd i f) e b iv := by
  have hd := h.keepsRules hp (g := qadddInfo f) ⟨rfl, rfl, rfl, rfl, rfl, rfl, rfl⟩ (by simp [qadddInfo, hqm, hrnd, hrsv])
  subst hx
  exact h.ready.sumsTo rfl hd (h.interlocked _) hu.saveQs (exec_qaddd_eq s i f) rfl hres rfl he hb

theorem State.clear.qaddd_fin {neg : Bool} {m : ℕ} {e : ℤ} (hx : binary64.decode ((s.regs k).getD f.rd).toNat = .fin neg m e) :
    s.sumsTo k f.qn.toFin (.qaddd i f) ((s.regs k).q[f.qn.toFin].toInt + (if neg then -1 else 1) * m * 2 ^ (e + 2148).toNat)
      (qState (s.regs k).fpcsr f.qn.toFin) False :=
  h.qaddd hp hrsv hu hqm hrnd hx (q' := (s.regs k).qval f.qn.toFin) (addTerm_fin ..) (by rw [toUnits_of_decode hx]; rfl) rfl

theorem State.clear.qaddd_inf {neg : Bool} (hx : binary64.decode ((s.regs k).getD f.rd).toNat = .inf neg) :
    s.sumsTo k f.qn.toFin (.qaddd i f) (s.regs k).q[f.qn.toFin].toInt (qState (s.regs k).fpcsr f.qn.toFin ||| infBit neg)
      (qState (s.regs k).fpcsr f.qn.toFin &&& infBit (!neg) ≠ 0) := by
  refine h.qaddd hp hrsv hu hqm hrnd hx (q' := ⟨(s.regs k).q[f.qn.toFin], qState (s.regs k).fpcsr f.qn.toFin ||| infBit neg⟩) (t := 0) ?_
    (add_zero _) rfl
  rw [addInt_zero, ← infClash_eq, addTerm_inf]
  rfl

theorem State.clear.qaddd_nan {signalling : Bool} (hx : binary64.decode ((s.regs k).getD f.rd).toNat = .nan signalling) :
    s.sumsTo k f.qn.toFin (.qaddd i f) (s.regs k).q[f.qn.toFin].toInt (qState (s.regs k).fpcsr f.qn.toFin ||| 4) (signalling = true) := by
  refine h.qaddd hp hrsv hu hqm hrnd hx (q' := ⟨(s.regs k).q[f.qn.toFin], qState (s.regs k).fpcsr f.qn.toFin ||| 4⟩) (t := 0) ?_
    (add_zero _) rfl
  rw [addInt_zero, addTerm_nan]
  rfl

end

theorem State.clear.qaddq (h : s.clear i k) (hp : (s.slot k).placed 4) (hrsv : f.rsv = 0) (hu : s.unguarded k f.qn) (hrd : f.rd = 0)
    (hrnd : f.rnd = 0) :
    let r := s.regs k
    let a := qState r.fpcsr f.qn.toFin
    let b := qState r.fpcsr f.qm.toFin
    s.sumsTo k f.qn.toFin (.qaddq i f) (r.q[f.qn.toFin].toInt + r.q[f.qm.toFin].toInt) (a ||| b)
      ((a ||| b) &&& 3 = 3 ∧ ¬a &&& 3 = 3 ∧ ¬b &&& 3 = 3) := by
  intro r a b
  have hd := h.keepsRules hp (g := qaddqInfo f) ⟨rfl, rfl, rfl, rfl, rfl, rfl, rfl⟩ (by simp [qaddqInfo, hrd, hrnd, hrsv])
  exact h.ready.sumsTo rfl hd (h.interlocked _) hu.saveQs (exec_qaddq_eq s i f) rfl (addAcc_eq (r.qval f.qn.toFin) (r.qval f.qm.toFin)) rfl rfl rfl

theorem State.clear.qrnd (h : s.clear i k) (hp : (s.slot k).placed 4) (hrsv : f.rsv = 0) (hqm : f.qm = 0) (hrnd : f.rnd.toNat < 6) {x : FRes}
    (hx : ((s.regs k).qval f.qn.toFin).round ((s.regs k).rounding f.rnd) = x) :
    s.completesOrTraps (.qrnd i f) k x.flags fun r => r.withResult f.rd x := by
  subst hx
  have hd := h.keepsRules hp (g := qrndInfo f) ⟨rfl, rfl, rfl, rfl, rfl, rfl, rfl⟩ (by simp [qrndInfo, hqm, hrnd, hrsv])
  exact h.ready.completesOrTraps rfl hd (h.interlocked _) rfl (exec_qrnd_eq s i f) rfl rfl rfl

/-- What QRND makes of an accumulator by its state bits (04 R127, R130). -/
theorem qround_eq (q : QVal) (rm : BitVec 3) :
    (q.st = 0 → binary64.rounded rm (ratOf false 1 (-2148) * q.n.toInt : ℚ) false (q.round rm))
    ∧ (q.st = 1 → q.round rm = ⟨0x7FF0000000000000, 0⟩) ∧ (q.st = 2 → q.round rm = ⟨0xFFF0000000000000, 0⟩)
    ∧ (3 ≤ q.st.toNat → q.round rm = ⟨binary64.quietNaN, 0⟩) := by
  refine ⟨fun h => ?_, fun h => ?_, fun h => ?_, fun h => ?_⟩
  · have hround := binary64_proper.roundInt_rounded rm q.n.toInt (-2148) false
    have hv : (((ratOf false 1 (-2148) * q.n.toInt : ℚ)) : ℝ) = q.n.toInt * 2 ^ (-2148 : ℤ) := by
      push_cast
      rw [ratOf_cast, signR]
      simp [mul_comm]
    rw [hv]
    simpa [QVal.round, h] using hround
  · simp [QVal.round, h, FloatFmt.infinity, FloatFmt.signBit, binary64]
  · simp [QVal.round, h, FloatFmt.infinity, FloatFmt.signBit, binary64]
  · have hnan : ∀ b : BitVec 3, 3 ≤ b.toNat → (b.getLsbD 2 || (b.getLsbD 0 && b.getLsbD 1)) = true := by decide
    simp only [QVal.round, hnan q.st h, if_true]
    rfl

/-- Behind a vector instruction that has Qn as destination each row waits (02 R31). -/
theorem waits_for_accumulator (h : (s.modSlot k fun x => { x with eng := { x.eng with queue := [] } }).clear i k) (hdelay : (s.slot k).delay = none)
    (hstop : (s.slot k).eng.stopped = false)
    (hv : ∃ e ∈ (s.slot k).eng.queue, ∃ v ∈ e.ops, (v.vop = 0x50 ∨ v.vop = 0x51) ∧ v.f.qn = f.qn) {g : Info} (hg : g.anywhere) (hf : g.fieldsOk = true)
    (hreg : Reg.q f.qn ∈ g.reads ++ g.writes) (body : State → SlotId → Done) : s.instruction i g body = .next s := by
  obtain ⟨hr, hc⟩ := State.ready_of_clear_queue h
  obtain ⟨hsize, hwide, he, hslot, hend, hpre, hsoft⟩ := hg
  have hd : (s.slot k).decodeFault g = none :=
    Slot.decodeFault_none hc (.inl hdelay) hslot hend hpre hf fun e => by simp [hwide] at e
  have hq : (s.slot k).interlocked g = true := by
    obtain ⟨e, he, v, hv, hvop, hqn⟩ := hv
    simp only [Slot.interlocked, hstop, Bool.not_false, Bool.true_and, List.any_eq_true]
    refine ⟨.q f.qn, hreg, ?_⟩
    have : (s.slot k).eng.targetsQ f.qn.toFin = true := by
      simp only [Engine.targetsQ, List.any_eq_true]
      exact ⟨e, he, v, hv, by rw [hqn]; simpa using hvop⟩
    simp [Reg.isQ, this]
  exact hr.interlock he body hd hq hdelay

end

/-- Settles O27: the sums by `addInt_eq`, the rounding by `qround_eq`, and the wait behind vector work. -/
theorem accumulatorRowsAddExactly : Obligations.AccumulatorRowsAddExactly := by
  refine ⟨fun s i k f h hp hrsv hu => ⟨fun hqm hrd hrnd => ?_, fun hqm hrnd => ?_, fun hrd hrnd => ?_, fun hqm hrnd => ?_⟩,
    fun s i k f h hdelay hstop hrsv hv => ⟨fun hqm hrd hrnd => ?_, fun hqm hrnd => ?_, fun hrd hrnd => ?_, fun hqm hrnd => ?_⟩⟩
  · rw [h.qclr hp hrsv hu hqm hrd hrnd]
    refine congrArg Host.Outcome.next (State.afterRegs_congr ?_)
    have hst : setQState (s.regs k).fpcsr f.qn.toFin 0 = (s.regs k).fpcsr &&& ~~~(7#32 <<< (20 + 3 * f.qn.toFin.val)) := by simp [setQState]
    simp only [Regs.setQval, Regs.dirty, QVal.zero, hst, BitVec.ofInt_ofNat]
    rfl
  · dsimp only
    generalize hx : binary64.decode ((s.regs k).getD f.rd).toNat = x
    rcases x with signalling | neg | ⟨neg, m, e⟩
    · exact h.qaddd_nan hp hrsv hu hqm hrnd hx
    · exact h.qaddd_inf hp hrsv hu hqm hrnd hx
    · exact h.qaddd_fin hp hrsv hu hqm hrnd hx
  · obtain ⟨b', fl, h1, h2, h3, h4, h5, h6⟩ := h.qaddq hp hrsv hu hrd hrnd
    exact ⟨b', fl, h1, h2, h3, h4, h5, h6⟩
  · have hdone := @State.clear.qrnd s i k f h hp hrsv hqm hrnd
    obtain ⟨h0, h1, h2, h3⟩ := qround_eq ((s.regs k).qval f.qn.toFin) ((s.regs k).rounding f.rnd)
    exact ⟨fun e => ⟨_, h0 e, hdone rfl⟩, fun e => hdone (h1 e), fun e => hdone (h2 e), fun e => hdone (h3 e)⟩
  · rw [exec_qclr_eq]
    exact waits_for_accumulator h hdelay hstop hv ⟨rfl, rfl, rfl, rfl, rfl, rfl, rfl⟩ (by simp [qclrInfo, hqm, hrd, hrnd, hrsv]) (by simp [qclrInfo]) _
  · rw [exec_qaddd_eq]
    exact waits_for_accumulator h hdelay hstop hv ⟨rfl, rfl, rfl, rfl, rfl, rfl, rfl⟩ (by simp [qadddInfo, hqm, hrnd, hrsv]) (by simp [qadddInfo]) _
  · rw [exec_qaddq_eq]
    exact waits_for_accumulator h hdelay hstop hv ⟨rfl, rfl, rfl, rfl, rfl, rfl, rfl⟩ (by simp [qaddqInfo, hrd, hrnd, hrsv]) (by simp [qaddqInfo]) _
  · rw [exec_qrnd_eq]
    exact waits_for_accumulator h hdelay hstop hv ⟨rfl, rfl, rfl, rfl, rfl, rfl, rfl⟩ (by simp [qrndInfo, hqm, hrnd, hrsv]) (by simp [qrndInfo]) _

end Sys2Proof.Machine
end

section
/-!
SUPPORT. The bytes that the vector engine writes, and a state in which some errors have been made good.
-/

namespace Sys2Proof.Machine

/-! ### Error lists -/

/-- The error lists that a write of the engine in slot `k` may shorten. -/
structure ErrorLists where
  bad : List Nat
  soft : List Nat
  deskBad : List Nat
  deskSoft : List Nat

def State.errors (s : State) (k : SlotId) : ErrorLists := ⟨s.mem.bad, s.mem.soft, (s.slot k).desk.bad, (s.slot k).desk.soft⟩

def LocalMem.withErrors (m : LocalMem) (e : ErrorLists) : LocalMem := { m with bad := e.bad, soft := e.soft }

def Slot.withErrors (x : Slot) (e : ErrorLists) : Slot := { x with desk := { x.desk with bad := e.deskBad, soft := e.deskSoft } }

def State.withMem (s : State) (m : LocalMem) : State := { s with mem := m }

/-- `s` with these error lists. -/
def State.withErrors (s : State) (k : SlotId) (e : ErrorLists) : State :=
  (s.withMem (s.mem.withErrors e)).modSlot k fun x => x.withErrors e

theorem State.errorsOf_eq (s s₀ : State) (k : SlotId) : s.errorsOf s₀ k = s.withErrors k (s₀.errors k) := rfl

theorem State.modSlot_congr {s : State} {k : SlotId} {f g : Slot → Slot} (h : f (s.slot k) = g (s.slot k)) : s.modSlot k f = s.modSlot k g := by
  simp only [State.modSlot_eq, h]

theorem State.modSlot_withMem (s : State) (k : SlotId) (f : Slot → Slot) (m : LocalMem) : (s.modSlot k f).withMem m = (s.withMem m).modSlot k f := rfl

theorem State.withMem_withMem (s : State) (m m' : LocalMem) : (s.withMem m).withMem m' = s.withMem m' := rfl

theorem State.withErrors_errors (s : State) (k : SlotId) : s.withErrors k (s.errors k) = s :=
  (State.modSlot_congr (g := id) rfl).trans (State.modSlot_id s k)

theorem State.errors_withErrors (s : State) (k : SlotId) (e : ErrorLists) : (s.withErrors k e).errors k = e := by
  simp only [State.errors, State.withErrors, State.modSlot_slot_same]
  rfl

theorem State.withErrors_bad (s : State) (k : SlotId) (e : ErrorLists) : (s.withErrors k e).mem.bad = e.bad := rfl

theorem State.withErrors_deskBad (s : State) (k : SlotId) (e : ErrorLists) : ((s.withErrors k e).slot k).desk.bad = e.deskBad :=
  congrArg ErrorLists.deskBad (s.errors_withErrors k e)

theorem State.withErrors_withErrors (s : State) (k : SlotId) (e e' : ErrorLists) : (s.withErrors k e).withErrors k e' = s.withErrors k e' := by
  simp only [State.withErrors, State.modSlot_withMem, State.withMem_withMem, State.modSlot_modSlot]
  rfl

theorem State.withErrors_slot_other (s : State) {k j : SlotId} (e : ErrorLists) (h : j ≠ k) : (s.withErrors k e).slot j = s.slot j :=
  State.modSlot_slot_other _ _ _ _ h

theorem State.withErrors_byteAt (s : State) (k : SlotId) (e : ErrorLists) (a : ℕ) : (s.withErrors k e).byteAt k a = s.byteAt k a := by
  simp only [State.byteAt, State.withErrors, State.modSlot_slot_same]
  rfl

theorem State.setRegs_withErrors (s : State) (k : SlotId) (e : ErrorLists) (r : Regs) :
    (s.withErrors k e).setRegs k r = (s.setRegs k r).withErrors k e := by
  simp only [State.setRegs, State.withErrors, State.modSlot_withMem, State.modSlot_modSlot]
  rfl

theorem State.errors_setRegs (s : State) (k : SlotId) (r : Regs) : (s.setRegs k r).errors k = s.errors k := by
  simp only [State.errors, State.setRegs, State.modSlot_slot_same, State.modSlot_mem]

/-! ### Writes of the engine -/

/-- A write that the engine holds or makes: its address, and its bytes or one bit. -/
abbrev EngineWrite := ℕ × (List Byte ⊕ ℕ × Bool)

theorem State.rawWrite_withErrors (s : State) (k : SlotId) (e : ErrorLists) (a : ℕ) (bs : List Byte) :
    (s.withErrors k e).rawWrite k a bs = (s.rawWrite k a bs).withErrors k e := by
  unfold State.rawWrite
  split_ifs
  · simp only [State.withErrors, State.modSlot_withMem, State.modSlot_modSlot]
    rfl
  · rfl

theorem State.errors_rawWrite (s : State) (k : SlotId) (a : ℕ) (bs : List Byte) : (s.rawWrite k a bs).errors k = s.errors k := by
  unfold State.rawWrite
  split_ifs
  · simp only [State.errors, State.modSlot_slot_same, State.modSlot_mem]
  · rfl

/-- `n` bytes at `a` lie on one side of the foot of the desk window. -/
def oneSide (a n : ℕ) : Prop := deskBase ≤ a ∨ a + n ≤ deskBase

theorem State.engineRead_bytes (s : State) (k : SlotId) {a n : ℕ} (h : oneSide a n) : (s.engineRead k a n).1 = s.bytesAt k a n := by
  unfold State.engineRead State.bytesAt State.byteAt
  split_ifs with ha
  · refine (Mem.readBytes_eq _ _ _).trans (List.map_congr_left fun j _ => ?_)
    rw [if_pos (by omega), Nat.sub_add_comm ha]
  · refine (Mem.readBytes_eq _ _ _).trans (List.map_congr_left fun j hj => ?_)
    have := List.mem_range.1 hj
    unfold oneSide at h
    rw [if_neg (by omega)]

/-- The byte that a write of one bit leaves. -/
def bitSet (old : Byte) (j : ℕ) (b : Bool) : Byte := if b then old ||| 1#8 <<< j else old &&& ~~~(1#8 <<< j)

theorem State.applyWrite_bit (s : State) (k : SlotId) (a j : ℕ) (b : Bool) :
    s.applyWrite k (a, .inr (j, b)) = s.rawWrite k a [bitSet (s.byteAt k a) j b] := by
  have h : oneSide a 1 := by unfold oneSide; omega
  simp only [State.applyWrite, State.engineRead_bytes s k h]
  rfl

theorem State.applyWrite_withErrors (s : State) (k : SlotId) (e : ErrorLists) (w : EngineWrite) :
    (s.withErrors k e).applyWrite k w = (s.applyWrite k w).withErrors k e := by
  obtain ⟨a, bs | ⟨j, b⟩⟩ := w
  · exact s.rawWrite_withErrors k e a bs
  · rw [State.applyWrite_bit, State.applyWrite_bit, State.withErrors_byteAt, State.rawWrite_withErrors]

theorem State.errors_applyWrite (s : State) (k : SlotId) (w : EngineWrite) : (s.applyWrite k w).errors k = s.errors k := by
  obtain ⟨a, bs | ⟨j, b⟩⟩ := w
  · exact s.errors_rawWrite k a bs
  · rw [State.applyWrite_bit, State.errors_rawWrite]

/-- Writes in order. -/
def State.written (s : State) (k : SlotId) (ws : List EngineWrite) : State := ws.foldl (fun s w => s.applyWrite k w) s

theorem State.written_append (s : State) (k : SlotId) (ws us : List EngineWrite) : s.written k (ws ++ us) = (s.written k ws).written k us :=
  List.foldl_append ..

theorem State.written_withErrors (s : State) (k : SlotId) (e : ErrorLists) (ws : List EngineWrite) :
    (s.withErrors k e).written k ws = (s.written k ws).withErrors k e := by
  induction ws generalizing s with
  | nil => rfl
  | cons w ws ih => exact (congrArg (State.written · k ws) (s.applyWrite_withErrors k e w)).trans (ih _)

theorem State.errors_written (s : State) (k : SlotId) (ws : List EngineWrite) : (s.written k ws).errors k = s.errors k := by
  induction ws generalizing s with
  | nil => rfl
  | cons w ws ih => exact (ih _).trans (s.errors_applyWrite k w)

/-! ### Registers beside writes -/

theorem State.byteAt_setRegs (s : State) (k : SlotId) (r : Regs) (a : ℕ) : (s.setRegs k r).byteAt k a = s.byteAt k a := by
  simp only [State.byteAt, State.setRegs, State.modSlot_slot_same, State.modSlot_mem]

theorem State.rawWrite_setRegs (s : State) (k : SlotId) (r : Regs) (a : ℕ) (bs : List Byte) :
    (s.setRegs k r).rawWrite k a bs = (s.rawWrite k a bs).setRegs k r := by
  unfold State.rawWrite State.setRegs
  split_ifs
  · simp only [State.modSlot_modSlot]
  · rfl

theorem State.applyWrite_setRegs (s : State) (k : SlotId) (r : Regs) (w : EngineWrite) :
    (s.setRegs k r).applyWrite k w = (s.applyWrite k w).setRegs k r := by
  obtain ⟨a, bs | ⟨j, b⟩⟩ := w
  · exact s.rawWrite_setRegs k r a bs
  · rw [State.applyWrite_bit, State.applyWrite_bit, State.byteAt_setRegs, State.rawWrite_setRegs]

theorem State.written_setRegs (s : State) (k : SlotId) (r : Regs) (ws : List EngineWrite) :
    (s.setRegs k r).written k ws = (s.written k ws).setRegs k r := by
  induction ws generalizing s with
  | nil => rfl
  | cons w ws ih => exact (congrArg (State.written · k ws) (s.applyWrite_setRegs k r w)).trans (ih _)

theorem State.setRegs_setRegs (s : State) (k : SlotId) (r r' : Regs) : (s.setRegs k r).setRegs k r' = s.setRegs k r' := by
  simp only [State.setRegs, State.modSlot_modSlot]

/-! ### Errors made good -/

/-- `t` is `s` but for errors that have gone. -/
def State.mended (s t : State) (k : SlotId) : Prop :=
  ∃ e : ErrorLists, t = s.withErrors k e ∧ e.bad ⊆ s.mem.bad ∧ e.deskBad ⊆ (s.slot k).desk.bad

theorem State.mended.refl (s : State) (k : SlotId) : s.mended s k :=
  ⟨s.errors k, (s.withErrors_errors k).symm, List.Subset.refl _, List.Subset.refl _⟩

theorem State.mended.trans {s t u : State} {k : SlotId} (h : s.mended t k) (h' : t.mended u k) : s.mended u k := by
  obtain ⟨e, rfl, hb, hd⟩ := h
  obtain ⟨e', rfl, hb', hd'⟩ := h'
  rw [State.withErrors_bad] at hb'
  rw [State.withErrors_deskBad] at hd'
  exact ⟨e', s.withErrors_withErrors k e e', List.Subset.trans hb' hb, List.Subset.trans hd' hd⟩

theorem State.mended.written {s t : State} {k : SlotId} (h : s.mended t k) (ws : List EngineWrite) : (s.written k ws).mended (t.written k ws) k := by
  obtain ⟨e, rfl, hb, hd⟩ := h
  have he := s.errors_written k ws
  have hbad : (s.written k ws).mem.bad = s.mem.bad := congrArg ErrorLists.bad he
  have hdesk : ((s.written k ws).slot k).desk.bad = (s.slot k).desk.bad := congrArg ErrorLists.deskBad he
  exact ⟨e, s.written_withErrors k e ws, hbad ▸ hb, hdesk ▸ hd⟩

theorem State.mended.setRegs {s t : State} {k : SlotId} (h : s.mended t k) (r : Regs) : (s.setRegs k r).mended (t.setRegs k r) k := by
  obtain ⟨e, rfl, hb, hd⟩ := h
  have he := s.errors_setRegs k r
  have hbad : (s.setRegs k r).mem.bad = s.mem.bad := congrArg ErrorLists.bad he
  have hdesk : ((s.setRegs k r).slot k).desk.bad = (s.slot k).desk.bad := congrArg ErrorLists.deskBad he
  exact ⟨e, s.setRegs_withErrors k e r, hbad ▸ hb, hdesk ▸ hd⟩

theorem State.mended.regs {s t : State} {k : SlotId} (h : s.mended t k) : t.regs k = s.regs k := by
  obtain ⟨e, rfl, -, -⟩ := h
  simp only [State.regs, State.withErrors, State.modSlot_slot_same]
  rfl

/-- What an error list put back shows is the state that has lost none. -/
theorem State.mended.errorsOf {s t s₀ : State} {k : SlotId} (h : s.mended t k) (hs : s.errors k = s₀.errors k) : t.errorsOf s₀ k = s := by
  obtain ⟨e, rfl, -, -⟩ := h
  rw [State.errorsOf_eq, State.withErrors_withErrors, ← hs, State.withErrors_errors]

theorem State.mended_soundAfter (s : State) (k : SlotId) (ws : List Access1) (w : Access1) : s.mended (s.soundAfter k ws w) k := by
  unfold State.soundAfter
  split_ifs
  · exact .refl s k
  · exact ⟨⟨s.mem.bad, s.mem.soft, _, _⟩, rfl, List.Subset.refl _, List.erase_subset⟩
  · refine ⟨⟨s.mem.bad.erase (w.addr / 64), s.mem.soft.erase (w.addr / 64), (s.slot k).desk.bad, (s.slot k).desk.soft⟩, ?_, List.erase_subset,
      List.Subset.refl _⟩
    exact ((State.modSlot_congr (g := id) rfl).trans (State.modSlot_id _ k)).symm

theorem State.mended_applyWrites (s : State) (k : SlotId) (before new : List Access1) (now : List EngineWrite) :
    (s.written k now).mended (s.applyWrites k before new now) k := by
  have h (ws l : List Access1) (t : State) : t.mended (l.foldl (fun s w => s.soundAfter k ws w) t) k := by
    induction l generalizing t with
    | nil => exact .refl t k
    | cons w l ih => exact (t.mended_soundAfter k ws w).trans (ih _)
  exact h (before ++ new) new _

end Sys2Proof.Machine
end

section
/-!
SUPPORT. Addresses, bytes and errors as the vector engine meets them, and the states in which it still reads what it read at first.
-/

namespace Sys2Proof.Machine

/-! ### What a map decides -/

theorem State.portCount_congr {s t : State} (h : t.repair = s.repair) : t.portCount = s.portCount := by rw [State.portCount, h]; rfl

theorem State.classify_congr {s t : State} (h : t.repair = s.repair) (a : ℤ) : t.classify a = s.classify a := by
  have hv : t.visibleEnd = s.visibleEnd := by rw [State.visibleEnd, State.portCount_congr h, h]; rfl
  unfold State.classify
  rw [hv, State.portCount_congr h]

theorem State.badByte_congr {s t : State} (h : t.repair = s.repair) (a : ℤ) (n : ℕ) : t.badByte a n = s.badByte a n := by
  simp only [State.badByte, State.classify_congr h]

theorem State.homeOf_congr {s t : State} (hp : t.ports = s.ports) (h : t.repair = s.repair) (b : ℕ) : t.homeOf b = s.homeOf b := by
  simp only [State.homeOf, State.mappedHome, State.runningTrip, State.portCount_congr h, State.ports29, h, hp]

theorem State.readFails_eq_none {s : State} {b : ℕ} :
    s.readFails b = none ↔ s.lastFailed b = none ∧ b ∉ s.mem.bad ∧ s.ports[(s.homeOf b).1].gone = false := by
  unfold State.readFails
  rw [Option.or_eq_none_iff]
  refine and_congr_right fun _ => ?_
  have hl : s.blockLost b = false ↔ b ∉ s.mem.bad ∧ s.ports[(s.homeOf b).1].gone = false := by simp [State.blockLost]
  rw [← hl]
  cases s.blockLost b <;> simp

/-- A block that reads well goes on doing so while no error joins the list. -/
theorem State.readFails_none {s t : State} (hp : t.ports = s.ports) (h : t.repair = s.repair) (hf : t.mem.failed = s.mem.failed)
    (hb : t.mem.bad ⊆ s.mem.bad) {b : ℕ} (hs : s.readFails b = none) : t.readFails b = none := by
  rw [State.readFails_eq_none] at hs ⊢
  obtain ⟨hs, hbad, hgone⟩ := hs
  refine ⟨?_, fun hm => hbad (hb hm), ?_⟩
  · rw [State.lastFailed, hf]; exact hs
  · simpa only [State.homeOf_congr hp h, hp] using hgone

/-! ### Bytes after a write -/

/-- The memories that the engine in slot `k` writes are in canonical form. -/
def State.inForm (s : State) (k : SlotId) : Prop := s.mem.mem.wf = true ∧ (s.slot k).desk.mem.wf = true

theorem State.inForm_of_memWf {s : State} (h : s.memWf = true) (k : SlotId) : s.inForm k := by
  simp only [State.memWf, Bool.and_eq_true, List.all_eq_true] at h
  obtain ⟨⟨⟨hm, -⟩, hs⟩, -⟩ := h
  exact ⟨hm, hs _ (by simp [State.slot])⟩

theorem State.inForm_congr {s t : State} {k : SlotId} (hm : t.mem.mem = s.mem.mem) (hd : (t.slot k).desk.mem = (s.slot k).desk.mem) (h : s.inForm k) :
    t.inForm k := ⟨hm ▸ h.1, hd ▸ h.2⟩

theorem State.inForm.rawWrite {s : State} {k : SlotId} (h : s.inForm k) (a : ℕ) (bs : List Byte) : (s.rawWrite k a bs).inForm k := by
  obtain ⟨hm, hd⟩ := h
  unfold State.rawWrite
  split_ifs
  · refine ⟨hm, ?_⟩
    rw [State.modSlot_slot_same]
    exact Mem.writeBytes_wf bs _ _ hd
  · exact ⟨Mem.writeBytes_wf bs _ _ hm, hd⟩

theorem State.byteAt_rawWrite {s : State} {k : SlotId} (h : s.inForm k) {a : ℕ} {bs : List Byte} (hs : oneSide a bs.length) (b : ℕ) :
    (s.rawWrite k a bs).byteAt k b = if a ≤ b ∧ b < a + bs.length then bs.getD (b - a) 0 else s.byteAt k b := by
  obtain ⟨hm, hd⟩ := h
  unfold oneSide at hs
  unfold State.rawWrite State.byteAt
  by_cases ha : deskBase ≤ a
  · simp only [if_pos ha, State.modSlot_slot_same, State.modSlot_mem]
    by_cases hb : deskBase ≤ b
    · rw [if_pos hb, if_pos hb, Mem.read_writeBytes _ _ _ _ hd]
      have h1 : a - deskBase ≤ b - deskBase ∧ b - deskBase < a - deskBase + bs.length ↔ a ≤ b ∧ b < a + bs.length := by omega
      simp only [h1, show b - deskBase - (a - deskBase) = b - a by omega]
    · rw [if_neg hb, if_neg hb, if_neg (by omega)]
  · simp only [if_neg ha]
    by_cases hb : deskBase ≤ b
    · rw [if_pos hb, if_pos hb, if_neg (by omega)]
      rfl
    · rw [if_neg hb, if_neg hb, Mem.read_writeBytes _ _ _ _ hm]

/-- How many bytes a write touches. -/
def EngineWrite.size (w : EngineWrite) : ℕ := match w.2 with | .inl bs => bs.length | .inr _ => 1

theorem State.inForm.applyWrite {s : State} {k : SlotId} (h : s.inForm k) (w : EngineWrite) : (s.applyWrite k w).inForm k := by
  obtain ⟨a, bs | ⟨j, b⟩⟩ := w
  · exact h.rawWrite a bs
  · rw [State.applyWrite_bit]; exact h.rawWrite a _

theorem State.byteAt_applyWrite_other {s : State} {k : SlotId} (h : s.inForm k) {w : EngineWrite} (hs : oneSide w.1 w.size) {b : ℕ}
    (hb : b < w.1 ∨ w.1 + w.size ≤ b) : (s.applyWrite k w).byteAt k b = s.byteAt k b := by
  obtain ⟨a, bs | ⟨j, c⟩⟩ := w
  · exact (State.byteAt_rawWrite h hs b).trans (if_neg (by simp only [EngineWrite.size] at hb; omega))
  · rw [State.applyWrite_bit]
    exact (State.byteAt_rawWrite h hs b).trans (if_neg (by simp only [EngineWrite.size] at hb; simp only [List.length_singleton]; omega))

theorem State.applyWrite_slot_other (s : State) {k j : SlotId} (w : EngineWrite) (hj : j ≠ k) : (s.applyWrite k w).slot j = s.slot j := by
  have h (a : ℕ) (bs : List Byte) : (s.rawWrite k a bs).slot j = s.slot j := by
    unfold State.rawWrite
    split_ifs
    · exact State.modSlot_slot_other _ _ _ _ hj
    · rfl
  obtain ⟨a, bs | ⟨n, c⟩⟩ := w
  · exact h a bs
  · rw [State.applyWrite_bit]; exact h a _

/-- What a write of the engine changes beside bytes: nothing. -/
theorem State.applyWrite_maps (s : State) (k : SlotId) (w : EngineWrite) : (s.applyWrite k w).repair = s.repair ∧ (s.applyWrite k w).ports = s.ports
    ∧ (s.applyWrite k w).mem.failed = s.mem.failed ∧ (s.applyWrite k w).regs k = s.regs k ∧ (s.applyWrite k w).tt = s.tt := by
  have h (a : ℕ) (bs : List Byte) : (s.rawWrite k a bs).repair = s.repair ∧ (s.rawWrite k a bs).ports = s.ports
      ∧ (s.rawWrite k a bs).mem.failed = s.mem.failed ∧ (s.rawWrite k a bs).regs k = s.regs k ∧ (s.rawWrite k a bs).tt = s.tt := by
    unfold State.rawWrite
    split_ifs
    · exact ⟨rfl, rfl, rfl, by simp only [State.regs, State.modSlot_slot_same], rfl⟩
    · exact ⟨rfl, rfl, rfl, rfl, rfl⟩
  obtain ⟨a, bs | ⟨n, c⟩⟩ := w
  · exact h a bs
  · rw [State.applyWrite_bit]; exact h a _

/-- A write to the desk leaves local memory alone. -/
theorem State.applyWrite_mem (s : State) (k : SlotId) {w : EngineWrite} (hw : deskBase ≤ w.1) : (s.applyWrite k w).mem = s.mem := by
  have h (a : ℕ) (bs : List Byte) (ha : deskBase ≤ a) : (s.rawWrite k a bs).mem = s.mem := by
    unfold State.rawWrite
    rw [if_pos ha]; rfl
  obtain ⟨a, bs | ⟨n, c⟩⟩ := w
  · exact h a bs hw
  · rw [State.applyWrite_bit]; exact h a _ hw

/-! ### States that still show the operands -/

/-- To the engine in slot `k`, `t` shows what `s` shows outside the bytes from `lo` up to `hi`: the same map and bytes, and no new error. -/
structure State.shows (s t : State) (k : SlotId) (lo hi : ℤ) : Prop where
  repair : t.repair = s.repair
  ports : t.ports = s.ports
  failed : t.mem.failed = s.mem.failed
  bad : t.mem.bad ⊆ s.mem.bad
  deskBad : (t.slot k).desk.bad ⊆ (s.slot k).desk.bad
  form : t.inForm k
  bytes : ∀ a : ℕ, (a < lo ∨ hi ≤ a) → t.byteAt k a = s.byteAt k a

section
variable {s t : State} {k : SlotId} {lo hi : ℤ}

theorem State.shows.refl (h : s.inForm k) (lo hi : ℤ) : s.shows s k lo hi :=
  ⟨rfl, rfl, rfl, List.Subset.refl _, List.Subset.refl _, h, fun _ _ => rfl⟩

theorem State.shows.mended (h : s.shows t k lo hi) {u : State} (hu : t.mended u k) : s.shows u k lo hi := by
  obtain ⟨e, rfl, hb, hd⟩ := hu
  refine ⟨h.repair, h.ports, h.failed, List.Subset.trans hb h.bad, ?_, ?_, fun a ha => ?_⟩
  · rw [State.withErrors_deskBad]; exact List.Subset.trans hd h.deskBad
  · refine State.inForm_congr (s := t) rfl ?_ h.form
    simp only [State.withErrors, State.modSlot_slot_same]
    rfl
  · rw [State.withErrors_byteAt, h.bytes a ha]

theorem State.shows.setRegs (h : s.shows t k lo hi) (r : Regs) : s.shows (t.setRegs k r) k lo hi := by
  refine ⟨h.repair, h.ports, h.failed, h.bad, ?_, ?_, fun a ha => by rw [State.byteAt_setRegs, h.bytes a ha]⟩
  · rw [State.setRegs_slot_same]; exact h.deskBad
  · exact State.inForm_congr (s := t) rfl (by rw [State.setRegs_slot_same]) h.form

/-- A write touches only bytes from `lo` up to `hi`, on one side of the foot of the desk window. -/
def EngineWrite.within (w : EngineWrite) (lo hi : ℤ) : Prop := oneSide w.1 w.size ∧ lo ≤ w.1 ∧ (w.1 : ℤ) + w.size ≤ hi

theorem State.shows.applyWrite (h : s.shows t k lo hi) {w : EngineWrite} (hw : w.within lo hi) : s.shows (t.applyWrite k w) k lo hi := by
  obtain ⟨hside, hlo, hhi⟩ := hw
  obtain ⟨hr, hp, hf, -, -⟩ := t.applyWrite_maps k w
  have he := t.errors_applyWrite k w
  simp only [State.errors, ErrorLists.mk.injEq] at he
  obtain ⟨hb, -, hd, -⟩ := he
  exact ⟨hr.trans h.repair, hp.trans h.ports, hf.trans h.failed, hb ▸ h.bad, hd ▸ h.deskBad, h.form.applyWrite w,
    fun a ha => (State.byteAt_applyWrite_other h.form hside (by omega)).trans (h.bytes a ha)⟩

theorem State.shows.written (h : s.shows t k lo hi) {ws : List EngineWrite} (hw : ∀ w ∈ ws, w.within lo hi) : s.shows (t.written k ws) k lo hi := by
  induction ws generalizing t with
  | nil => exact h
  | cons w ws ih => exact ih (h.applyWrite (hw w (by simp))) fun u hu => hw u (by simp [hu])

end

/-! ### Addresses -/

theorem State.badByte_eq_none {s : State} {a : ℤ} {n : ℕ} : s.badByte a n = none ↔ ∀ j < n, (s.classify (a + j)).ok = true := by
  simp [State.badByte]

/-- The addresses that no rule rejects. -/
theorem State.classify_ok {s : State} {a : ℤ} (h : (s.classify a).ok = true) : 0 ≤ a ∧ (a < s.visibleEnd ∨ (deskBase ≤ a ∧ a < deskBase + deskBytes)) := by
  unfold State.classify at h
  split_ifs at h <;> simp [AddrClass.ok] at h <;> omega

theorem State.visibleEnd_lt (s : State) : s.visibleEnd < deskBase := by
  unfold State.visibleEnd
  split_ifs <;> decide

/-- A valid access lies wholly in local memory or wholly in the desk window (02 R38). -/
theorem State.badByte_none {s : State} {a : ℤ} {n : ℕ} (hn : 0 < n) (h : s.badByte a n = none) : 0 ≤ a ∧ oneSide a.toNat n := by
  rw [State.badByte_eq_none] at h
  have h0 := (State.classify_ok (h 0 hn)).1
  refine ⟨by omega, ?_⟩
  by_contra hside
  unfold oneSide at hside
  have hv := s.visibleEnd_lt
  obtain ⟨-, hj⟩ := State.classify_ok (h (deskBase - 1 - a.toNat) (by omega))
  omega

theorem State.badByte_byte {s : State} {a : ℤ} {n : ℕ} (h : s.badByte a n = none) {j : ℕ} (hj : j < n) : s.badByte (a + j) 1 = none := by
  rw [State.badByte_eq_none] at h ⊢
  intro i hi
  obtain rfl : i = 0 := by omega
  simpa using h j hj

theorem State.badByte_desk (s : State) {a n : ℕ} (h : inOwnDesk a n = true) : s.badByte a n = none := by
  simp only [inOwnDesk, Bool.and_eq_true, decide_eq_true_eq] at h
  rw [State.badByte_eq_none]
  intro j hj
  have hv := s.visibleEnd_lt
  have hb : (deskBase : ℤ) = 0x3A00000000 := rfl
  have hn : (deskBytes : ℤ) = 0x400000 := rfl
  have hv31 : (visible31 : ℤ) = 0x39AAE10180 := rfl
  unfold State.classify
  split_ifs <;> simp only [AddrClass.ok, Bool.false_eq_true] <;> omega

/-! ### Elements that read well -/

/-- `n` bytes at `a` have a valid address and no uncorrectable error (02 R38, R56). -/
def State.legible (s : State) (k : SlotId) (a : ℤ) (n : ℕ) : Prop := s.badByte a n = none ∧ (s.engineRead k a.toNat n).2 = none

theorem mem_upFrom {a n b : ℕ} : b ∈ upFrom a n ↔ a ≤ b ∧ b < a + n := by
  induction n generalizing a with
  | zero => simp [upFrom]
  | succ n ih => simp only [upFrom, List.mem_cons, ih]; omega

/-- In a desk without errors nothing fails; a block in which every byte reads well does not either. -/
theorem State.legible_of {s : State} {k : SlotId} {a : ℤ} {n : ℕ} (hb : s.badByte a n = none) (hd : (s.slot k).desk.bad = [])
    (hl : ∀ j < n, (a + j).toNat < deskBase → s.readFails ((a + j).toNat / 64) = none) : s.legible k a n := by
  refine ⟨hb, ?_⟩
  unfold State.engineRead
  split_ifs with h
  · simp [hd]
  · rcases Nat.eq_zero_or_pos n with rfl | hn
    · rfl
    · obtain ⟨h0, hside⟩ := State.badByte_none hn hb
      simp only [List.findSome?_eq_none_iff, blocksOf, if_neg hn.ne', mem_upFrom]
      intro b ⟨hb1, hb2⟩
      unfold oneSide at hside
      obtain ⟨j, hj, hjb⟩ : ∃ j < n, (a.toNat + j) / 64 = b := by
        rcases Nat.lt_or_ge (64 * b) a.toNat with hlt | hge
        · exact ⟨0, hn, by omega⟩
        · exact ⟨64 * b - a.toNat, by omega, by omega⟩
      have := hl j hj (by omega)
      rwa [show (a + j).toNat = a.toNat + j by omega, hjb] at this

/-- What reads well, and lies outside the bytes written, goes on reading as it did. -/
theorem State.shows.legible {s t : State} {k : SlotId} {lo hi : ℤ} (h : s.shows t k lo hi) {a : ℤ} {n : ℕ} (hl : s.legible k a n) : t.legible k a n := by
  obtain ⟨hb, hr⟩ := hl
  refine ⟨(State.badByte_congr h.repair a n).trans hb, ?_⟩
  unfold State.engineRead at hr ⊢
  split_ifs at hr ⊢ with ha
  · simp only [ite_eq_right_iff, reduceCtorEq, imp_false, Bool.not_eq_true, List.any_eq_false, List.contains_iff_mem] at hr ⊢
    exact fun w hw hm => hr w hw (h.deskBad hm)
  · simp only [List.findSome?_eq_none_iff] at hr ⊢
    exact fun b hb => State.readFails_none h.ports h.repair h.failed h.bad (hr b hb)

theorem State.shows.bytesAt {s t : State} {k : SlotId} {lo hi : ℤ} (h : s.shows t k lo hi) {a n : ℕ} (ha : (a + n : ℤ) ≤ lo ∨ hi ≤ a) :
    t.bytesAt k a n = s.bytesAt k a n :=
  List.map_congr_left fun j hj => h.bytes _ (by have := List.mem_range.1 hj; omega)

end Sys2Proof.Machine
end

section
/-!
SUPPORT. Stream descriptors: what the engine reads out of four words that spell a stream (02 R33-R39).
-/

namespace Sys2Proof.Machine

/-! ### Words of the desk -/

theorem leNat_lt : (bs : List Byte) → leNat bs < 256 ^ bs.length
  | [] => by simp [leNat]
  | b :: bs => by
    have := leNat_lt bs
    have hb := b.isLt
    rw [leNat, List.length_cons, pow_succ]
    omega

theorem Slot.deskWord_lt (x : Slot) (o : ℕ) : x.deskWord o < 2 ^ 64 :=
  (leNat_lt _).trans_eq (by simp)

theorem Slot.read64_toNat (x : Slot) (o : ℕ) : (x.desk.mem.read64 o).toNat = x.deskWord o := by
  have h : leNat (x.desk.mem.readBytes o 8) = x.deskWord o := congrArg leNat (Mem.readBytes_eq 8 _ o)
  rw [Mem.read64, h, BitVec.toNat_ofNat, Nat.mod_eq_of_lt (x.deskWord_lt o)]

theorem bits_eq {w : ℕ} (x : BitVec w) (hi lo : ℕ) : bits x hi lo = x.toNat / 2 ^ lo % 2 ^ (hi + 1 - lo) := by
  rw [bits, Nat.shiftRight_eq_div_pow]

theorem getLsbD_eq {w : ℕ} (x : BitVec w) (i : ℕ) : x.getLsbD i = decide (x.toNat / 2 ^ i % 2 = 1) := by
  rw [BitVec.getLsbD, Nat.testBit_eq_decide_div_mod_eq]

/-! ### A descriptor that spells a stream -/

/-- What descriptor `d` says, in the terms of a stream. -/
structure Desc.says (d : Desc) (v : VStream) : Prop where
  base : d.base = v.base
  stride : d.stride = v.stride
  trans : d.trans = false
  brw : d.brw = v.brw
  masken : d.masken = v.mask.isSome
  mask : ∀ p inv, v.mask = some (p, inv) → d.maskptr = p ∧ d.maskinv = inv
  zero : d.zero = v.zero
  mode : d.mode = v.mode
  type : d.type = v.ty
  idxptr : d.idxptr = v.idx

/-- Its fields outside those of a stream keep their rules (02 R34). -/
structure Desc.tidy (d : Desc) : Prop where
  w0 : bits d.w0 63 42 = 0
  w1 : bits d.w1 63 40 = if d.w1.getLsbD 39 then 0xFFFFFF else 0
  w2 : bits d.w2 27 0 = 0 ∧ bits d.w2 36 34 = 0 ∧ bits d.w2 45 40 = 0 ∧ bits d.w2 63 56 = 0
  link : d.link = 0
  mask : d.masken = false → d.maskinv = false ∧ d.maskptr = 0

section
variable {d : Desc} {v : VStream} (hv : v.keepsRules) (h0 : d.w0.toNat = v.base) (h1 : d.w1.toNat = (v.stride % 2 ^ 64).toNat)
include hv

section
include h0
theorem Desc.base_eq : d.base = v.base ∧ bits d.w0 63 42 = 0 := by
  obtain ⟨hb, -⟩ := hv
  rw [Desc.base, bits_eq, bits_eq, h0]
  omega
end

include h1 in
theorem Desc.stride_eq : d.stride = v.stride ∧ bits d.w1 63 40 = if d.w1.getLsbD 39 then 0xFFFFFF else 0 := by
  obtain ⟨-, hlo, hhi, -⟩ := hv
  rw [Desc.stride, bits_eq, getLsbD_eq, h1, BitVec.toInt_eq_toNat_bmod, BitVec.truncate, BitVec.toNat_setWidth, h1]
  constructor
  · rw [Int.bmod_def]
    split_ifs <;> omega
  · split_ifs with h <;> simp only [decide_eq_true_eq] at h <;> omega

end

/-- The third word of a stream, in parts. -/
theorem Desc.says_of_words {d : Desc} {v : VStream} (hv : v.keepsRules) (hw : [d.w0.toNat, d.w1.toNat, d.w2.toNat, d.w3.toNat] = v.words) :
    d.says v ∧ d.tidy := by
  have hrules := hv
  obtain ⟨-, -, -, hmode, hty, -, -, hbrw, -, -, -, hidx, hmask⟩ := hv
  simp only [VStream.words, List.cons.injEq, and_true] at hw
  obtain ⟨h0, h1, h2, h3⟩ := hw
  obtain ⟨hbase, hw0⟩ := Desc.base_eq hrules h0
  obtain ⟨hstride, hw1⟩ := Desc.stride_eq hrules h1
  have hbrw : v.brw ≤ 32 := by split_ifs at hbrw <;> omega
  have hz : v.zero.toNat ≤ 1 ∧ v.zero = decide (v.zero.toNat = 1) := by cases v.zero <;> decide
  obtain ⟨hz1, hz⟩ := hz
  rcases hm : v.mask with _ | ⟨p, inv⟩
  all_goals simp only [hm] at h2 h3
  · have hn : d.masken = false := by rw [Desc.masken, getLsbD_eq, h2]; simp only [decide_eq_false_iff_not]; omega
    refine ⟨⟨hbase, hstride, ?_, ?_, by rw [hn, hm]; rfl, by simp [hm], ?_, ?_, ?_, ?_⟩, ⟨hw0, hw1, ?_, ?_, fun _ => ⟨?_, ?_⟩⟩⟩
    all_goals simp only [Desc.trans, Desc.brw, Desc.zero, Desc.mode, Desc.type, Desc.idxptr, Desc.link, Desc.maskptr, Desc.maskinv, bits_eq, getLsbD_eq,
      h2, h3, decide_eq_false_iff_not]
    case refine_3 => exact (decide_eq_decide.2 (by omega)).trans hz.symm
    all_goals omega
  · obtain ⟨hp32, hp⟩ := hmask p inv hm
    have hi : inv.toNat ≤ 1 ∧ inv = decide (inv.toNat = 1) := by cases inv <;> decide
    obtain ⟨hi1, hi⟩ := hi
    have hn : d.masken = true := by rw [Desc.masken, getLsbD_eq, h2]; simp only [decide_eq_true_eq]; omega
    refine ⟨⟨hbase, hstride, ?_, ?_, by rw [hn, hm]; rfl, ?_, ?_, ?_, ?_, ?_⟩, ⟨hw0, hw1, ?_, ?_, fun hf => by rw [hn] at hf; cases hf⟩⟩
    case refine_3 =>
      rintro p' inv' h'
      rw [hm] at h'
      obtain ⟨rfl, rfl⟩ := Prod.mk.inj (Option.some.inj h')
      refine ⟨?_, ?_⟩
      · rw [Desc.maskptr, bits_eq, h3]; omega
      · rw [Desc.maskinv, getLsbD_eq, h2]; exact (decide_eq_decide.2 (by omega)).trans hi.symm
    all_goals simp only [Desc.trans, Desc.brw, Desc.zero, Desc.mode, Desc.type, Desc.idxptr, Desc.link, bits_eq, getLsbD_eq, h2, h3,
      decide_eq_false_iff_not]
    case refine_4 => exact (decide_eq_decide.2 (by omega)).trans hz.symm
    all_goals omega

/-! ### The rules that a descriptor keeps -/

theorem Desc.says.rsvFault {d : Desc} {v : VStream} (hs : d.says v) (ht : d.tidy) (hv : v.keepsRules) {part : Part} {allowed : Bool}
    (hdata : part = .data → allowed = true ∨ v.mask = none) (hplain : part ≠ .data → v.mask = none ∧ v.mode ≤ 1 ∧ (part = .mask → v.mode = 0)) :
    d.rsvFault part allowed = none := by
  obtain ⟨-, -, -, hmode, hty, hty10, -, hbrw, hstride, hidx, -, -, -⟩ := hv
  obtain ⟨hw0, hw1, ⟨hw2, hw3, hw4, hw5⟩, hlink, hmask⟩ := ht
  have on_false {b : Bool} {o : ℕ} {l : List ℕ} (hb : b = false) (hl : l = []) : (if b then [o] else []) ++ l = [] := by simp [hb, hl]
  suffices h : d.offending part allowed = [] by rw [Desc.rsvFault, h]; rfl
  unfold Desc.offending
  simp only [List.append_assoc]
  refine on_false ?_ <| on_false ?_ <| on_false ?_ <| on_false ?_ <| on_false ?_ <| on_false ?_ <| on_false ?_ <| on_false ?_ <| on_false ?_ <|
    on_false ?_ <| on_false ?_ <| on_false ?_ <| on_false ?_ <| on_false ?_ <| on_false ?_ <| on_false ?_ <| on_false ?_ <| on_false ?_ <| on_false ?_ <|
    ?_
  · rw [hw0]; rfl
  · rw [hw1]; exact bne_self_eq_false _
  · rw [hw2]; rfl
  · rw [hs.type]; exact decide_eq_false (by omega)
  · rw [hw3]; rfl
  · rw [hw4]; rfl
  · rw [hw5]; rfl
  · rw [hlink, hs.trans]; rfl
  · rw [hs.mode, hs.brw]
    split_ifs at hbrw ⊢ <;> simp <;> omega
  · rcases hm : d.masken with _ | _
    · rw [(hmask hm).1]; rfl
    · rfl
  · rcases hm : d.masken with _ | _
    · rw [(hmask hm).2]; rfl
    · rfl
  · rw [hs.mode, hs.idxptr]; simp only [Bool.and_eq_false_iff, bne_eq_false_iff_eq]; exact or_iff_not_imp_left.2 hidx
  · rw [hs.mode, hs.stride]
    by_cases h : v.mode = 0 ∨ v.mode = 2
    · rw [hstride h]; exact Bool.and_false _
    · simp [not_or.1 h]
  · rw [hs.mode, hs.stride]
    by_cases h : v.mode = 3
    · rw [if_pos h] at hbrw; simp [hbrw.2.2]
    · simp [h]
  iterate 5 rw [hs.trans]; rfl
  have hnone (h : v.mask = none) : d.masken = false ∧ d.maskptr = 0 := by
    have hm : d.masken = false := by rw [hs.masken, h]; rfl
    exact ⟨hm, (hmask hm).2⟩
  rcases part with _ | _ | _
  · refine List.append_eq_nil_iff.2 ⟨?_, ?_⟩
    · rw [hs.type, hs.trans, hs.mode]
      by_cases h : v.ty = 10
      · simp [hty10 h]
      · simp [h]
    · rcases hdata rfl with rfl | h
      · rfl
      · rw [(hnone h).1]; simp
  · obtain ⟨hm, hle, -⟩ := hplain (by simp)
    obtain ⟨hm, hp⟩ := hnone hm
    have hi : d.idxptr = 0 := hs.idxptr.trans (hidx (by omega))
    rw [hm, hp, hi, hs.trans, hs.mode]
    have : v.mode = 0 ∨ v.mode = 1 := by omega
    rcases this with h | h <;> rw [h] <;> rfl
  · obtain ⟨hm, -, h0⟩ := hplain (by simp)
    obtain ⟨hm, hp⟩ := hnone hm
    have hi : d.idxptr = 0 := hs.idxptr.trans (hidx (by rw [h0 rfl]; decide))
    rw [hm, hp, hi, hs.trans, hs.mode, h0 rfl]; rfl

theorem revBits_eq_sum (n x : ℕ) : revBits n x = ((List.range n).map fun b => if x.testBit b then 2 ^ (n - 1 - b) else 0).sum := by
  induction n generalizing x with
  | zero => rfl
  | succ n ih =>
    rw [List.range_succ_eq_map, List.map_cons, List.sum_cons, List.map_map, revBits, ih]
    congr 1
    · rw [Nat.testBit_zero]
      rcases Nat.mod_two_eq_zero_or_one x with h | h <;> simp [h]
    · refine congrArg List.sum (List.map_congr_left fun b _ => ?_)
      simp only [Function.comp_apply, Nat.testBit_succ, show n + 1 - 1 - b.succ = n - 1 - b by omega]

theorem Desc.says.elemAddr {d : Desc} {v : VStream} (hs : d.says v) (i : ℕ) (x : ℤ) : d.elemAddr i x = v.addr i x := by
  simp only [Desc.elemAddr, VStream.addr, revIndex, revBits_eq_sum, hs.base, hs.stride, hs.brw, hs.mode, hs.type]

/-! ### Descriptors in the desk -/

/-- The four words of a descriptor. -/
theorem Slot.four_words (x : Slot) (o : ℕ) : (List.range 4).map (fun n => x.deskWord (o + 8 * n)) =
    [x.deskWord o, x.deskWord (o + 8), x.deskWord (o + 16), x.deskWord (o + 24)] := by
  have h (f : ℕ → ℕ) : (List.range 4).map f = [f 0, f 1, f 2, f 3] := rfl
  simp only [h, Nat.mul_zero, Nat.add_zero, Nat.mul_one, Nat.reduceMul]

theorem Slot.holds.says {x : Slot} {a : ℕ} {v : VStream} (h : x.holds a v) : (x.readDesc (a - deskBase)).says v ∧ (x.readDesc (a - deskBase)).tidy := by
  obtain ⟨-, -, hw, hv⟩ := h
  refine Desc.says_of_words hv (Eq.trans ?_ hw)
  simp only [Slot.readDesc, Slot.read64_toNat, Slot.four_words]

/-- A contiguous stream without a mask. -/
def plainStream (base ty : ℕ) : VStream := ⟨base, 0, 0, none, false, 0, ty, 0⟩

theorem Slot.plainDesc.holds {x : Slot} {v : Word64} {ty base n : ℕ} (h : x.plainDesc v ty base n) : x.holds v.toNat (plainStream base ty) := by
  obtain ⟨halign, hdesk, h0, h1, h2, h3, hty, hbase, hin⟩ := h
  refine ⟨halign, hdesk, ?_, ?_⟩
  · rw [Slot.four_words, h0, h1, h2, h3]
    simp [VStream.words, plainStream]
  · have hb : base < 2 ^ 42 := by
      simp only [inOwnDesk, Bool.and_eq_true, decide_eq_true_eq] at hin
      have : deskBase + deskBytes < 2 ^ 42 := by decide
      omega
    refine ⟨hb, ?_, ?_, ?_, hty.le, fun _ => rfl, hbase, ?_, fun _ => rfl, fun _ => rfl, ?_, ?_, ?_⟩
    all_goals simp [plainStream]

/-- The descriptor of link `l` for elements of type `ty`. -/
def linkWords (ty l : ℕ) : Desc := ⟨0, 0, BitVec.ofNat 64 (ty * 2 ^ 28 + l * 2 ^ 52 + 2 ^ 55), 0⟩

theorem Slot.linkDesc.readDesc {x : Slot} {v : Word64} {ty l : ℕ} (h : x.linkDesc v ty l) : x.readDesc (v.toNat - deskBase) = linkWords ty l := by
  obtain ⟨-, -, h0, h1, h2, h3, -, -⟩ := h
  have hw (o n : ℕ) (hn : x.deskWord o = n) : x.desk.mem.read64 o = BitVec.ofNat 64 n :=
    BitVec.eq_of_toNat_eq (by rw [Slot.read64_toNat, hn, BitVec.toNat_ofNat, ← hn, Nat.mod_eq_of_lt (x.deskWord_lt o)])
  rw [Slot.readDesc, hw _ _ h0, hw _ _ h1, hw _ _ h2, hw _ _ h3]
  rfl

/-- A link descriptor is transient, contiguous and without a mask, and breaks no rule. -/
theorem linkWords_spec : ∀ (ty : Fin 10) (l : Fin 8) (allowed : Bool), (linkWords ty l).trans = true ∧ (linkWords ty l).link = l ∧ (linkWords ty l).type = ty
    ∧ (linkWords ty l).masken = false ∧ (linkWords ty l).mode = 0 ∧ (linkWords ty l).rsvFault .data allowed = none := by decide +kernel

end Sys2Proof.Machine
end

section
/-!
SUPPORT. The descriptor references of an operation: which there are, and how they are looked up (02 R33, R42, R55).
-/

namespace Sys2Proof.Machine

/-! ### Operands that an operation names -/

/-- The address register of operand `n`: AD, AS1, AS2, AS3. -/
def VOp.operand (v : VOp) (n : Fin 4) : Word64 := [v.aAd, v.a1, v.a2, v.a3].getD n.val 0

/-- Whether the row names operand `n` (02 R66). -/
def VOp.uses (v : VOp) (n : Fin 4) : Bool :=
  (vrow v.vop.toNat).any fun r => [r.ad, r.as1, r.as2 && v.f.scl == 0, r.as3].getD n.val false

theorem VOp.named_eq (v : VOp) : v.named = ((List.finRange 4).filter v.uses).map fun n => (n.val, v.operand n) := by
  have hr : List.finRange 4 = [0, 1, 2, 3] := rfl
  unfold VOp.named VOp.uses
  rcases vrow v.vop.toNat with _ | ⟨ad, as1, as2, as3, _, _, _, _, _⟩
  · rfl
  · generalize hc : (as2 && v.f.scl == 0) = c
    simp only [Option.any_some, hr, hc]
    cases ad <;> cases as1 <;> cases c <;> cases as3 <;> rfl

/-- The operand that may bear a mask: the first (02 R42). -/
def VOp.bearer (v : VOp) : ℕ := (v.named.head?.map Prod.fst).getD 0

/-! ### The references -/

/-- The descriptor of operand `n`, in the desk of slot `x`. -/
def Slot.desc (x : Slot) (v : VOp) (n : Fin 4) : Desc := x.readDesc ((v.operand n).toNat - deskBase)

def Slot.mainRef (x : Slot) (pos : ℕ) (v : VOp) (n : Fin 4) : DRef :=
  ⟨pos, 3 * n, n, v.operand n, some ((v.operand n).toNat - deskBase), .data, n.val == v.bearer, x.desc v n⟩

def Slot.indexRef (x : Slot) (pos : ℕ) (v : VOp) (n : Fin 4) : DRef :=
  ⟨pos, 3 * n + 1, 4 + n, BitVec.ofNat 64 (x.desc v n).idxptr, some (x.desc v n).idxptr, .index, true, x.readDesc (x.desc v n).idxptr⟩

def Slot.maskRef (x : Slot) (pos : ℕ) (v : VOp) (n : Fin 4) : DRef :=
  ⟨pos, 3 * n + 2, 8, BitVec.ofNat 64 (x.desc v n).maskptr, some (x.desc v n).maskptr, .mask, true, x.readDesc (x.desc v n).maskptr⟩

/-- The engine finds every descriptor that the operation names. -/
structure Slot.finds (x : Slot) (v : VOp) : Prop where
  bad : x.desk.bad = []
  place : ∀ n, v.uses n = true → (v.operand n).toNat % 32 = 0 ∧ inOwnDesk (v.operand n).toNat 32 = true
  index : ∀ n, v.uses n = true → (x.desc v n).mode = 2 → ptrOk (x.desc v n).idxptr = true
  mask : ∀ n, v.uses n = true → (x.desc v n).masken = true → ptrOk (x.desc v n).maskptr = true

/-- The operation in place `pos` of its entry, with its references. -/
def Slot.op (x : Slot) (pos : ℕ) (v : VOp) : ROp := ⟨pos, v, x.refsOf pos v⟩

section
variable {x : Slot} {v : VOp} (h : x.finds v) (pos : ℕ)
include h

theorem Slot.finds.refsOf : x.refsOf pos v = ((List.finRange 4).filter v.uses).flatMap fun n =>
    [x.mainRef pos v n] ++ (if (x.desc v n).mode = 2 then [x.indexRef pos v n] else []) ++ if (x.desc v n).masken then [x.maskRef pos v n] else [] := by
  have hbad (l : List ℕ) : (l.any fun w => x.desk.bad.contains w) = false := by simp [h.bad]
  have hbearer : (v.named.head?.map Prod.fst).getD 0 = v.bearer := rfl
  unfold Slot.refsOf
  dsimp only
  rw [hbearer, VOp.named_eq, List.flatMap_map]
  refine List.flatMap_congr fun n hn => ?_
  have hu := (List.mem_filter.1 hn).2
  have hi := h.index n hu
  have hm := h.mask n hu
  have hd : x.readDesc ((v.operand n).toNat - deskBase) = x.desc v n := rfl
  dsimp only
  rw [if_pos (h.place n hu), hbad, if_neg Bool.false_ne_true, hd]
  unfold Slot.mainRef Slot.indexRef Slot.maskRef
  generalize x.desc v n = d at *
  have himp (c : Prop) [Decidable c] (l l' : List DRef) (hl : c → l = l') : (if c then l else []) = if c then l' else [] := by
    by_cases hc : c
    · rw [if_pos hc, if_pos hc, hl hc]
    · rw [if_neg hc, if_neg hc]
  refine congrArg₂ (· ++ ·) (congrArg _ (himp _ _ _ fun hmode => ?_)) (himp _ _ _ fun hmask => ?_)
  · rw [hi hmode]; rfl
  · rw [hm hmask]; rfl

/-- Every reference is one of an operand that is named: its own, its index stream's or its mask's. -/
theorem Slot.finds.mem_refsOf {r : DRef} : r ∈ x.refsOf pos v ↔ ∃ n, v.uses n = true ∧
    (r = x.mainRef pos v n ∨ ((x.desc v n).mode = 2 ∧ r = x.indexRef pos v n) ∨ ((x.desc v n).masken = true ∧ r = x.maskRef pos v n)) := by
  simp only [h.refsOf, List.mem_flatMap, List.mem_filter, List.mem_finRange, true_and, List.mem_append, List.mem_singleton, List.mem_ite_nil_right,
    or_assoc]

/-- A reference is the only one of its place in the operand order. -/
theorem Slot.finds.ref_eq {r : DRef} (hr : r ∈ x.refsOf pos v) : (x.op pos v).ref r.ord = some r := by
  obtain ⟨r', hr'⟩ := Option.isSome_iff_exists.1 (List.find?_isSome (p := fun q => q.ord == r.ord) |>.2 ⟨r, hr, beq_self_eq_true r.ord⟩)
  have hord : r'.ord = r.ord := by simpa using List.find?_some hr'
  have hmem := List.mem_of_find?_eq_some hr'
  suffices he : r' = r by rw [← he]; rw [← he] at hr'; exact hr'
  rw [h.mem_refsOf] at hr hmem
  obtain ⟨n, -, hn⟩ := hr
  obtain ⟨n', -, hn'⟩ := hmem
  obtain rfl : n' = n := Fin.ext <| by
    rcases hn with rfl | ⟨-, rfl⟩ | ⟨-, rfl⟩ <;> rcases hn' with rfl | ⟨-, rfl⟩ | ⟨-, rfl⟩ <;>
      simp only [Slot.mainRef, Slot.indexRef, Slot.maskRef] at hord <;> omega
  rcases hn with rfl | ⟨-, rfl⟩ | ⟨-, rfl⟩ <;> rcases hn' with rfl | ⟨-, rfl⟩ | ⟨-, rfl⟩ <;>
    simp [Slot.mainRef, Slot.indexRef, Slot.maskRef] at hord ⊢

theorem Slot.finds.ref_main {n : Fin 4} (hn : v.uses n = true) : (x.op pos v).ref (3 * n) = some (x.mainRef pos v n) :=
  h.ref_eq pos ((h.mem_refsOf pos).2 ⟨n, hn, .inl rfl⟩)

theorem Slot.finds.ref_index {n : Fin 4} (hn : v.uses n = true) (hm : (x.desc v n).mode = 2) :
    (x.op pos v).ref (3 * n + 1) = some (x.indexRef pos v n) :=
  h.ref_eq pos ((h.mem_refsOf pos).2 ⟨n, hn, .inr (.inl ⟨hm, rfl⟩)⟩)

theorem Slot.finds.ref_none {c : ℕ} (hc : ∀ n, v.uses n = true → (n.val = c / 3 → c % 3 = 0 → False) ∧
    (n.val = c / 3 → c % 3 = 1 → (x.desc v n).mode ≠ 2) ∧ (c % 3 ≠ 2)) : (x.op pos v).ref c = none := by
  refine List.find?_eq_none.2 fun r hr => ?_
  obtain ⟨n, hn, hr⟩ := (h.mem_refsOf pos).1 hr
  obtain ⟨h0, h1, h2⟩ := hc n hn
  simp only [beq_iff_eq]
  rcases hr with rfl | ⟨hm, rfl⟩ | ⟨-, rfl⟩ <;> simp only [Slot.mainRef, Slot.indexRef, Slot.maskRef] <;> intro he
  · exact h0 (by omega) (by omega)
  · exact h1 (by omega) (by omega) hm
  · omega

theorem Slot.finds.ref_main_none {n : Fin 4} (hn : v.uses n = false) : (x.op pos v).ref (3 * n) = none := by
  refine h.ref_none pos fun m hm => ⟨fun he _ => ?_, fun _ hc => by omega, by omega⟩
  rw [show m = n from Fin.ext (by omega)] at hm
  simp [hn] at hm

theorem Slot.finds.ref_index_none {n : Fin 4} (hn : v.uses n = true → (x.desc v n).mode ≠ 2) : (x.op pos v).ref (3 * n + 1) = none := by
  refine h.ref_none pos fun m hm => ⟨fun _ hc => by omega, fun he _ => ?_, by omega⟩
  obtain rfl : m = n := Fin.ext (by omega)
  exact hn hm

theorem Slot.finds.mask_none (hn : ∀ n, v.uses n = true → (x.desc v n).masken = false) : (x.op pos v).mask = none := by
  refine List.find?_eq_none.2 fun r hr => ?_
  obtain ⟨n, hu, hr⟩ := (h.mem_refsOf pos).1 hr
  rcases hr with rfl | ⟨-, rfl⟩ | ⟨hm, rfl⟩
  · exact Bool.false_ne_true
  · exact Bool.false_ne_true
  · rw [hn n hu] at hm; cases hm

theorem Slot.finds.mask_some {b : Fin 4} (hb : v.uses b = true) (hm : (x.desc v b).masken = true)
    (hn : ∀ n, v.uses n = true → n ≠ b → (x.desc v n).masken = false) : (x.op pos v).mask = some (x.maskRef pos v b) := by
  have hmem : x.maskRef pos v b ∈ x.refsOf pos v := (h.mem_refsOf pos).2 ⟨b, hb, .inr (.inr ⟨hm, rfl⟩)⟩
  obtain ⟨r, hr⟩ := Option.isSome_iff_exists.1 (List.find?_isSome (p := fun q => q.part == .mask) |>.2 ⟨_, hmem, rfl⟩)
  have hpart : r.part = .mask := by simpa using List.find?_some hr
  obtain ⟨n, hu, hn'⟩ := (h.mem_refsOf pos).1 (List.mem_of_find?_eq_some hr)
  rcases hn' with rfl | ⟨-, rfl⟩ | ⟨hm', rfl⟩
  · cases hpart
  · cases hpart
  · by_cases e : n = b
    · rw [e] at hr; exact hr
    · rw [hn n hu e] at hm'; cases hm'

end

end Sys2Proof.Machine
end

section
/-!
SUPPORT. An operation whose descriptors spell streams, and the checks that precede all elements (02 R34-R51, R55).
-/

namespace Sys2Proof.Machine

/-! ### Operations over streams -/

/-- The operands of `v` in slot `x` are the streams `g`, of types that its row permits; nothing in the desk is uncorrectable. -/
structure Slot.operates (x : Slot) (g : VecArgs) (v : VOp) (named : Fin 4 → Prop) (b : Fin 4) : Prop where
  uses : ∀ n, v.uses n = true ↔ named n
  bearer : v.bearer = b
  first : named b
  bad : x.desk.bad = []
  names : x.names g v named b
  type : ∀ n prev, named n → (∀ j : Fin 4, j.val ≤ 1 → j < n → named j → prev j.val = some (g.main j).ty) →
    typeOk v.vop.toNat n (g.main n).ty prev = true

section
variable {x : Slot} {g : VecArgs} {v : VOp} {named : Fin 4 → Prop} {b : Fin 4} (h : x.operates g v named b)
include h

theorem Slot.operates.main {n : Fin 4} (hn : named n) : x.holds (v.operand n).toNat (g.main n) := (h.names n hn).1

theorem Slot.operates.says {n : Fin 4} (hn : named n) : (x.desc v n).says (g.main n) ∧ (x.desc v n).tidy := (h.main hn).says

theorem Slot.operates.masked {n : Fin 4} (hn : named n) : (x.desc v n).masken = (g.main n).mask.isSome := (h.says hn).1.masken

theorem Slot.operates.mode {n : Fin 4} (hn : named n) : (x.desc v n).mode = (g.main n).mode := (h.says hn).1.mode

/-- Where the index stream of operand `n` is described, and how. -/
theorem Slot.operates.index {n : Fin 4} (hn : named n) (hm : (g.main n).mode = 2) : ptrOk (x.desc v n).idxptr = true
    ∧ (x.readDesc (x.desc v n).idxptr).says (g.index n) ∧ (x.readDesc (x.desc v n).idxptr).tidy ∧ (g.index n).keepsRules
    ∧ (g.index n).mask = none ∧ (g.index n).mode ≤ 1 ∧ ((g.index n).ty = 4 ∨ (g.index n).ty = 6) := by
  obtain ⟨⟨-, -, -, hrules⟩, -, hidx, -⟩ := h.names n hn
  obtain ⟨hholds, ⟨hmask, -, hmode⟩, hty⟩ := hidx hm
  obtain ⟨-, -, -, -, -, -, -, -, -, -, halign, hlt, -⟩ := hrules
  have hs := hholds.says
  rw [Nat.add_sub_cancel_left] at hs
  rw [(h.says hn).1.idxptr]
  refine ⟨?_, hs.1, hs.2, hholds.2.2.2, hmask, hmode, hty⟩
  simp only [ptrOk, Bool.and_eq_true, beq_iff_eq]
  exact ⟨halign, decide_eq_true hlt⟩

theorem Slot.operates.mask {n : Fin 4} (hn : named n) (hm : (g.main n).mask ≠ none) : n = b ∧ ptrOk (x.desc v n).maskptr = true
    ∧ (x.readDesc (x.desc v n).maskptr).says g.mask ∧ (x.readDesc (x.desc v n).maskptr).tidy ∧ g.mask.keepsRules
    ∧ g.mask.mask = none ∧ g.mask.mode = 0 ∧ g.mask.ty = 10 := by
  obtain ⟨⟨p, inv⟩, hpi⟩ := Option.ne_none_iff_exists'.1 hm
  obtain ⟨⟨-, -, -, hrules⟩, hb, -, hmask⟩ := h.names n hn
  obtain ⟨hholds, ⟨hmask, -, -⟩, hty⟩ := hmask p inv hpi
  obtain ⟨-, -, -, -, -, -, -, -, -, -, -, -, hptr⟩ := hrules
  obtain ⟨halign, hlt⟩ := hptr p inv hpi
  have hs := hholds.says
  rw [Nat.add_sub_cancel_left] at hs
  rw [((h.says hn).1.mask p inv hpi).1]
  have hrules := hholds.2.2.2
  have hmode : g.mask.ty = 10 → g.mask.mode = 0 := hrules.2.2.2.2.2.1
  refine ⟨by_contra fun hne => hm (hb hne), ?_, hs.1, hs.2, hrules, hmask, hmode hty, hty⟩
  simp only [ptrOk, Bool.and_eq_true, beq_iff_eq]
  exact ⟨halign, decide_eq_true hlt⟩

theorem Slot.operates.finds : x.finds v where
  bad := h.bad
  place n hn := by
    obtain ⟨ha, hd, -⟩ := h.main ((h.uses n).1 hn)
    exact ⟨ha, hd⟩
  index n hn hm := (h.index ((h.uses n).1 hn) (h.mode ((h.uses n).1 hn) ▸ hm)).1
  mask n hn hm := by
    have hn := (h.uses n).1 hn
    rw [h.masked hn, Option.isSome_iff_ne_none] at hm
    exact (h.mask hn hm).2.1

/-- The streams that references describe, and the addresses of their elements that do not depend on an index. -/
def VecArgs.describes (g : VecArgs) (named : Fin 4 → Prop) (b : Fin 4) (r : DRef) (d : VStream) : Prop :=
  (∃ n, named n ∧ r.part = .data ∧ r.ord = 3 * n.val ∧ d = g.main n)
  ∨ (∃ n, named n ∧ (g.main n).mode = 2 ∧ r.part = .index ∧ r.ord = 3 * n.val + 1 ∧ d = g.index n)
  ∨ ((g.main b).mask ≠ none ∧ r.part = .mask ∧ r.ord = 3 * b.val + 2 ∧ d = g.mask)

/-- Every reference describes a stream of `g`, keeps the rules of its part and names a place in the desk. -/
theorem Slot.operates.reference {pos : ℕ} {r : DRef} (hr : r ∈ x.refsOf pos v) : ∃ d, g.describes named b r d ∧ r.d.says d ∧ d.keepsRules
    ∧ r.off.isNone = false ∧ r.d.rsvFault r.part r.maskAllowed = none ∧ r.pos = pos := by
  obtain ⟨n, hn, hr⟩ := (h.finds.mem_refsOf pos).1 hr
  have hn := (h.uses n).1 hn
  have hmain := h.main hn
  rcases hr with rfl | ⟨hm, rfl⟩ | ⟨hm, rfl⟩
  · obtain ⟨hs, ht⟩ := h.says hn
    refine ⟨g.main n, .inl ⟨n, hn, rfl, rfl, rfl⟩, hs, hmain.2.2.2, rfl, hs.rsvFault ht hmain.2.2.2 (fun _ => ?_) fun hne => absurd rfl hne, rfl⟩
    by_cases e : n = b
    · exact .inl (by simp [Slot.mainRef, h.bearer, e])
    · exact .inr ((h.names n hn).2.1 e)
  · rw [h.mode hn] at hm
    obtain ⟨-, hs, ht, hrules, hmask, hmode, -⟩ := h.index hn hm
    exact ⟨g.index n, .inr (.inl ⟨n, hn, hm, rfl, rfl, rfl⟩), hs, hrules, rfl,
      hs.rsvFault ht hrules (by simp [Slot.indexRef]) fun _ => ⟨hmask, hmode, by simp [Slot.indexRef]⟩, rfl⟩
  · rw [h.masked hn, Option.isSome_iff_ne_none] at hm
    obtain ⟨rfl, -, hs, ht, hrules, hmask, hmode, -⟩ := h.mask hn hm
    exact ⟨g.mask, .inr (.inr ⟨hm, rfl, rfl, rfl⟩), hs, hrules, rfl,
      hs.rsvFault ht hrules (by simp [Slot.maskRef]) fun _ => ⟨hmask, by rw [hmode]; decide, fun _ => hmode⟩, rfl⟩

theorem Slot.operates.opType {pos : ℕ} (n : Fin 4) (hn : named n) : (x.op pos v).type n = some (g.main n).ty := by
  rw [ROp.type, h.finds.ref_main pos ((h.uses n).2 hn)]
  exact congrArg some (h.says hn).1.type

theorem Slot.operates.opType_none {pos : ℕ} (n : Fin 4) (hn : ¬named n) : (x.op pos v).type n = none := by
  rw [ROp.type, h.finds.ref_main_none pos (by simpa using mt (h.uses n).1 hn)]
  rfl

theorem Slot.operates.typeFails {pos : ℕ} {r : DRef} (hr : r ∈ x.refsOf pos v) : (x.op pos v).typeFails r = false := by
  obtain ⟨n, hn, hr⟩ := (h.finds.mem_refsOf pos).1 hr
  have hn := (h.uses n).1 hn
  rcases hr with rfl | ⟨hm, rfl⟩ | ⟨hm, rfl⟩
  · have hk : (x.mainRef pos v n).k = n := by simp [DRef.k, Slot.mainRef]
    simp only [ROp.typeFails, Slot.mainRef, Bool.not_eq_false']
    change typeOk v.vop.toNat (x.mainRef pos v n).k (x.desc v n).type (fun j => if j < (x.mainRef pos v n).k then (x.op pos v).type j else none) = true
    rw [hk, (h.says hn).1.type]
    exact h.type n _ hn fun j _ hj hnj => by rw [if_pos (by exact hj), h.opType j hnj]
  · rw [h.mode hn] at hm
    obtain ⟨-, hs, -, -, -, -, hty⟩ := h.index hn hm
    simp only [ROp.typeFails, Slot.indexRef, hs.type]
    rcases hty with hty | hty <;> rw [hty] <;> rfl
  · rw [h.masked hn, Option.isSome_iff_ne_none] at hm
    obtain ⟨-, -, hs, -, -, -, -, hty⟩ := h.mask hn hm
    simp only [ROp.typeFails, Slot.maskRef, hs.type, hty]
    rfl

end

/-! ### Footprints (02 R50) -/

/-- What a choice between two picks in the end stands in the list. -/
theorem foldl_mem {f : ℤ → ℤ → ℤ} (hf : ∀ a b, f a b = a ∨ f a b = b) (a : ℤ) (l : List ℤ) : l.foldl f a ∈ a :: l := by
  induction l generalizing a with
  | nil => simp
  | cons b l ih =>
    rcases List.mem_cons.1 (ih (f a b)) with h | h
    · rw [List.foldl_cons, h]
      rcases hf a b with e | e <;> simp [e]
    · exact List.mem_cons_of_mem _ (List.mem_cons_of_mem _ h)

/-- A hull begins and ends with elements. -/
theorem Desc.hull_ends {d : Desc} {v : VStream} (hs : d.says v) {vx vl : ℕ} {l u : ℤ} (hh : d.hull vx vl = some (l, u)) :
    (∃ j, vx ≤ j ∧ j < vl ∧ l = v.addr j 0) ∧ ∃ j, vx ≤ j ∧ j < vl ∧ u = v.addr j 0 + typeBytes v.ty - 1 := by
  have hall : ∀ a ∈ (upFrom vx (vl - vx)).map fun i => d.elemAddr i 0, ∃ j, vx ≤ j ∧ j < vl ∧ a = v.addr j 0 := by
    intro a ha
    obtain ⟨j, hj, rfl⟩ := List.mem_map.1 ha
    rw [mem_upFrom] at hj
    exact ⟨j, hj.1, by omega, hs.elemAddr j 0⟩
  unfold Desc.hull at hh
  split_ifs at hh
  generalize (upFrom vx (vl - vx)).map (fun i => d.elemAddr i 0) = as at *
  rcases as with _ | ⟨a, as⟩
  · cases hh
  · obtain ⟨rfl, rfl⟩ := Prod.mk.inj (Option.some.inj hh)
    refine ⟨hall _ (foldl_mem min_choice a as), ?_⟩
    obtain ⟨j, h1, h2, h3⟩ := hall _ (foldl_mem max_choice a as)
    exact ⟨j, h1, h2, by rw [h3, hs.type]; omega⟩

theorem hullsMeet_apart {o p : Option (ℤ × ℤ)} (h : ∀ l u l' u', o = some (l, u) → p = some (l', u') → u' < l ∨ u < l') : hullsMeet o p = false := by
  rcases o with _ | ⟨l, u⟩
  · rfl
  · rcases p with _ | ⟨l', u'⟩
    · rfl
    · have := h l u l' u' rfl rfl
      simp only [hullsMeet, Bool.and_eq_false_iff, decide_eq_false_iff_not]
      omega

theorem Desc.hull_indexed {d : Desc} {vx vl : ℕ} (h : d.mode = 2) : d.hull vx vl = none := by rw [Desc.hull, if_pos (by simp [h])]

/-! ### The checks of one operation -/

/-- The elements of the destination lie from `lo` up to `hi`, and every stream that the operation reads, in the element groups from that of `vx` on, lies on
one side of them. -/
def State.apart (s : State) (k : SlotId) (g : VecArgs) (named : Fin 4 → Prop) (b : Fin 4) (vx vl : ℕ) (lo hi : ℤ) : Prop :=
  (∀ j, vx ≤ j → j < vl → lo ≤ g.addr s k 0 j ∧ g.addr s k 0 j + typeBytes (g.main 0).ty ≤ hi)
  ∧ ∀ d at_, g.reads s k named b d at_ →
    (∀ j, 64 * (vx / 64) ≤ j → j < vl → at_ j + typeBytes d.ty ≤ lo) ∨ (∀ j, 64 * (vx / 64) ≤ j → j < vl → hi ≤ at_ j)

theorem VecArgs.addr_direct (g : VecArgs) (s : State) (k : SlotId) {n : Fin 4} (hm : (g.main n).mode ≠ 2) (j : ℕ) :
    g.addr s k n j = (g.main n).addr j 0 := by rw [VecArgs.addr, VecArgs.indexAt, if_neg hm]

theorem readRefs_mem {o : ROp} {r : DRef} (hr : r ∈ o.readRefs) : r ∈ o.refs := (List.mem_filter.1 hr).1

section
variable {x : Slot} {g : VecArgs} {v : VOp} {named : Fin 4 → Prop} {b : Fin 4} (h : x.operates g v named b) {vx vl : ℕ}
include h

/-- A stream that is read does not meet the destination. -/
theorem Slot.operates.hull_apart {s : State} {k : SlotId} {lo hi : ℤ} (ha : s.apart k g named b vx vl lo hi) (h0 : named 0) {pos : ℕ} {r : DRef}
    (hr : r ∈ x.refsOf pos v) (hdst : r.isDst = false) : hullsMeet ((x.desc v 0).hull vx vl) (r.d.hull vx vl) = false := by
  obtain ⟨d, hd, hs, -, -, -, -⟩ := h.reference hr
  have hs0 := (h.says h0).1
  refine hullsMeet_apart fun l u l' u' ho hp => ?_
  obtain ⟨⟨j, hj, hj', rfl⟩, ⟨i, hi, hi', rfl⟩⟩ := Desc.hull_ends hs0 ho
  obtain ⟨⟨j₁, hj₁, hj₁', rfl⟩, ⟨i₁, hi₁, hi₁', rfl⟩⟩ := Desc.hull_ends hs hp
  have hm0 : (g.main 0).mode ≠ 2 := fun e => by rw [Desc.hull_indexed (hs0.mode.trans e)] at ho; cases ho
  have hm : r.d.mode ≠ 2 := fun e => by rw [Desc.hull_indexed e] at hp; cases hp
  obtain ⟨at_, hreads, hat⟩ : ∃ at_, g.reads s k named b d at_ ∧ ∀ j, at_ j = d.addr j 0 := by
    rcases hd with ⟨n, hn, -, ho, rfl⟩ | ⟨n, hn, hmode, -, -, rfl⟩ | ⟨hmask, -, -, rfl⟩
    · refine ⟨_, .inl ⟨n, ?_, hn, rfl, rfl⟩, fun j => g.addr_direct s k (hs.mode ▸ hm) j⟩
      rintro rfl
      simp [DRef.isDst, ho] at hdst
    · exact ⟨_, .inr (.inl ⟨n, hn, hmode, rfl, rfl⟩), fun j => rfl⟩
    · exact ⟨_, .inr (.inr ⟨hmask, rfl, rfl⟩), fun j => rfl⟩
  have hlo := (ha.1 j hj hj').1
  have hhi := (ha.1 i hi hi').2
  rw [g.addr_direct s k hm0] at hlo hhi
  rcases ha.2 d at_ hreads with hr | hr
  · have := hr i₁ (by omega) hi₁'
    rw [hat] at this
    exact .inl (by omega)
  · have := hr j₁ (by omega) hj₁'
    rw [hat] at this
    exact .inr (by omega)

/-- No destination of the operation overlaps (02 R40, R50). -/
theorem Slot.operates.overlap {s : State} {k : SlotId} {lo hi : ℤ} (ha : named 0 → s.apart k g named b vx vl lo hi)
    (hmoves : named 0 → (g.main 0).mode = 1 → (g.main 0).stride ≠ 0) (pos : ℕ) : checkOverlap vx vl [x.op pos v] = none := by
  refine List.findSome?_eq_none_iff.2 fun r hr => if_neg (Bool.not_eq_true _ ▸ ?_)
  have hr : r ∈ x.refsOf pos v := readRefs_mem (by simpa using hr)
  unfold overlapFails
  by_cases hd : r.isDst = true
  · obtain ⟨n, hn, hc⟩ := (h.finds.mem_refsOf pos).1 hr
    have hord : r.ord = 0 := by simpa [DRef.isDst] using hd
    obtain ⟨rfl, rfl⟩ : n = 0 ∧ r = x.mainRef pos v 0 := by
      rcases hc with rfl | ⟨-, rfl⟩ | ⟨-, rfl⟩
      · obtain rfl : n = 0 := Fin.ext (by simpa [Slot.mainRef] using hord)
        exact ⟨rfl, rfl⟩
      · cases hord
      · cases hord
    have h0 := (h.uses 0).1 hn
    have hs := (h.says h0).1
    have hstill : ((x.desc v 0).mode == 1 && (x.desc v 0).stride == 0 && decide (1 < vl - vx)) = false := by
      rw [hs.mode, hs.stride]
      by_cases hm : (g.main 0).mode = 1
      · simp [hmoves h0 hm]
      · simp [hm]
    have hany : ([x.op pos v].flatMap ROp.readRefs).any (fun q => hullsMeet ((x.desc v 0).hull vx vl) (q.d.hull vx vl)
        && (if q.isDst then decide (q.pos < pos) else !exactIdentity (x.mainRef pos v 0) q)) = false := by
      refine List.any_eq_false.2 fun q hq => Bool.not_eq_true _ ▸ ?_
      have hq : q ∈ x.refsOf pos v := readRefs_mem (by simpa using hq)
      rcases hqd : q.isDst with _ | _
      · rw [h.hull_apart (ha h0) h0 hq hqd]; rfl
      · obtain ⟨-, -, -, -, -, -, hp⟩ := h.reference hq
        rw [hp]; simp
    have hdesc : (x.mainRef pos v 0).d = x.desc v 0 := rfl
    have hpos : (x.mainRef pos v 0).pos = pos := rfl
    rw [hdesc, hpos, hd, hs.trans, hstill, hany]
    rfl
  · rw [Bool.not_eq_true] at hd
    rw [hd]; rfl

/-- Nothing precedes the elements but VL < VX (02 R55). -/
theorem Slot.operates.checkEntry (pos : ℕ) (hov : checkOverlap vx vl [x.op pos v] = none) :
    checkEntry x false [x.op pos v] vx vl = if vl < vx then some ⟨0, 7, 0, 9, 0, 0, 0⟩ else none := by
  have hread {r : DRef} (hr : r ∈ [x.op pos v].flatMap ROp.readRefs) : r ∈ x.refsOf pos v := readRefs_mem (by simpa using hr)
  have haddr : checkAddr [x.op pos v] = none := by
    refine List.findSome?_eq_none_iff.2 fun r hr => ?_
    obtain ⟨d, -, -, -, ho, -⟩ := h.reference (pos := pos) (r := r) (by simpa [allRefs, Slot.op] using hr)
    rw [ho]; rfl
  have hbad : checkRead x [x.op pos v] = none := by
    refine List.findSome?_eq_none_iff.2 fun r _ => ?_
    cases r.off <;> simp [h.bad]
  have hrsv : checkRsv [x.op pos v] = none := by
    refine List.findSome?_eq_none_iff.2 fun r hr => ?_
    obtain ⟨d, -, -, -, -, ho, -⟩ := h.reference (hread hr)
    rw [ho]; rfl
  have htype : checkType [x.op pos v] = none := by
    simp only [checkType, List.findSome?_eq_none_iff, List.mem_singleton]
    rintro o rfl r hr
    rw [h.typeFails (readRefs_mem hr)]; rfl
  have hlink : checkLink false [x.op pos v] = none := by
    have : ([x.op pos v].findSome? fun o => o.readRefs.findSome? fun r =>
        if linkFails false [x.op pos v] o r then some (⟨0, 4, 0, r.opnd, r.pos, 0, 0⟩ : VStop) else none) = none := by
      simp only [List.findSome?_eq_none_iff, List.mem_singleton]
      rintro o rfl r hr
      obtain ⟨d, -, hs, -⟩ := h.reference (readRefs_mem hr)
      rw [linkFails, hs.trans]; rfl
    unfold checkLink
    rw [this]; rfl
  have halign : checkAlign [x.op pos v] = none := by
    refine List.findSome?_eq_none_iff.2 fun r hr => ?_
    obtain ⟨d, -, hs, ⟨-, -, -, -, -, -, hd, -⟩, -⟩ := h.reference (hread hr)
    rw [hs.base, hs.type, hd]; simp
  unfold Machine.checkEntry
  rw [haddr, hbad, hrsv, htype, hlink, halign, hov]
  split_ifs <;> rfl

end

end Sys2Proof.Machine
end

section
/-!
SUPPORT. What the engine reads at one element: masks, indexes and sources (02 R37, R38, R43, R48).
-/

namespace Sys2Proof.Machine

/-! ### One element -/

/-- A read that gave `v` and met no fault; where `D` holds it stayed in the desk. -/
structure ERead.gives (e : ERead) (v : ℕ) (D : Prop) : Prop where
  val : e.val = some v
  faults : e.faults = []
  desk : D → ∀ w ∈ e.acc, w.desk = true

/-- A read that met one fault and gave nothing. -/
structure ERead.fails (e : ERead) (f : EFault) (D : Prop) : Prop where
  val : e.val = none
  faults : e.faults = [f]
  desk : D → ∀ w ∈ e.acc, w.desk = true

/-- `n` bytes at `a` read well, lie apart from the bytes from `lo` up to `up` and, where `D` holds, in the desk. -/
structure State.readable (s : State) (k : SlotId) (lo up : ℤ) (D : Prop) (a : ℤ) (n : ℕ) : Prop where
  legible : s.legible k a n
  apart : a + n ≤ lo ∨ up ≤ a
  desk : D → (deskBase : ℤ) ≤ a

theorem typeBytes_pos (ty : ℕ) : 0 < typeBytes ty := by have := (typeBits_le ty).2; unfold typeBytes; omega

section
variable {s t : State} {k : SlotId} {lo up : ℤ} {D : Prop} (hst : s.shows t k lo up) {r : DRef} {d : VStream} (hs : r.d.says d) (link : LinkFn)
include hst hs

theorem State.shows.readElem_gives {i : ℕ} {y a : ℤ} (ha : d.addr i y = a) (hr : s.readable k lo up D a (typeBytes d.ty)) (ra rb : ℕ) :
    (readElem t k link r ra rb i y).gives (s.elemAt k d a i) D := by
  obtain ⟨hbad, hread⟩ := hst.legible hr.legible
  obtain ⟨h0, hside⟩ := State.badByte_none (typeBytes_pos d.ty) hbad
  have hbytes : (t.engineRead k a.toNat (typeBytes d.ty)).1 = s.bytesAt k a.toNat (typeBytes d.ty) := by
    rw [State.engineRead_bytes t k hside, hst.bytesAt]
    have := hr.apart
    omega
  have hpair : t.engineRead k a.toNat (typeBytes d.ty) = (s.bytesAt k a.toNat (typeBytes d.ty), none) := Prod.ext hbytes hread
  unfold readElem
  simp only [hs.trans, hs.type, hs.elemAddr, ha, hbad, hpair]
  refine ⟨rfl, rfl, fun hd w hw => ?_⟩
  obtain rfl := List.mem_singleton.1 hw
  have := hr.desk hd
  exact decide_eq_true (by omega)

theorem State.shows.readElem_fails {i : ℕ} {y a b : ℤ} (ha : d.addr i y = a) (hb : s.badByte a (typeBytes d.ty) = some b) (ra rb : ℕ) :
    (readElem t k link r ra rb i y).fails ⟨ra, r.pos, r.ord, ⟨0, 8, addrSub (s.classify b), r.opnd, r.pos, BitVec.ofInt 64 a, 0⟩⟩ D := by
  unfold readElem
  simp only [hs.trans, hs.type, hs.elemAddr, ha, State.badByte_congr hst.repair, hb, State.classify_congr hst.repair]
  exact ⟨rfl, rfl, by simp⟩

end

/-! ### The operands of an operation -/

/-- In the element groups from that of `vx` on, every index, mask and source element of valid address reads well and apart from the destination. -/
structure State.feeds (s : State) (k : SlotId) (g : VecArgs) (named : Fin 4 → Prop) (b : Fin 4) (vx vl : ℕ) (lo up : ℤ) (D : Prop) : Prop where
  index : ∀ n i, named n → (g.main n).mode = 2 → 64 * (vx / 64) ≤ i → i < vl → s.readable k lo up D ((g.index n).addr i 0) (typeBytes (g.index n).ty)
  mask : ∀ i, (g.main b).mask ≠ none → 64 * (vx / 64) ≤ i → i < vl → s.readable k lo up D (g.mask.addr i 0) (typeBytes g.mask.ty)
  source : ∀ n i, n ≠ 0 → named n → 64 * (vx / 64) ≤ i → i < vl → g.valid s k n i →
    s.readable k lo up D (g.addr s k n i) (typeBytes (g.main n).ty)

section
variable {s t : State} {k : SlotId} {lo up : ℤ} {D : Prop} {g : VecArgs} {v : VOp} {named : Fin 4 → Prop} {b : Fin 4} {vx vl pos : ℕ}
  (h : (s.slot k).operates g v named b) (hst : s.shows t k lo up) (hf : s.feeds k g named b vx vl lo up D) (link : LinkFn)
  {i : ℕ} (hi : 64 * (vx / 64) ≤ i) (hi' : i < vl)
include h hst hf hi hi'

theorem Slot.operates.readIndex_eq (n : Fin 4) (hn : named n) : ∃ e, readIndex t k link ((s.slot k).op pos v) n i = (some (g.indexAt s k n i), e)
    ∧ e.faults = [] ∧ (D → ∀ w ∈ e.acc, w.desk = true) := by
  unfold readIndex
  by_cases hm : (g.main n).mode = 2
  · obtain ⟨-, hs, -, -, -, -, -⟩ := h.index hn hm
    rw [h.finds.ref_index pos ((h.uses n).2 hn) ((h.mode hn).trans hm)]
    obtain ⟨hval, hfault, hdesk⟩ := hst.readElem_gives (r := (s.slot k).indexRef pos v n) hs link rfl (hf.index n i hn hm hi hi') 2 2
    refine ⟨_, ?_, hfault, hdesk⟩
    simp only [hval, Option.map_some, VecArgs.indexAt, if_pos hm]
    exact congrArg (fun ty => (some (asInt ty _), _)) hs.type
  · rw [h.finds.ref_index_none pos fun _ e => hm ((h.mode hn).symm.trans e), VecArgs.indexAt, if_neg hm]
    exact ⟨_, rfl, rfl, by simp⟩

theorem Slot.operates.readSource_gives (n : Fin 4) (h0 : n ≠ 0) (hn : named n) (hv : g.valid s k n i) :
    (readSource t k link ((s.slot k).op pos v) n i).gives (g.elem s k n i) D := by
  obtain ⟨e, he, hfault, hdesk⟩ := h.readIndex_eq hst hf link hi hi' (pos := pos) n hn
  obtain ⟨hval, hfault', hdesk'⟩ := hst.readElem_gives (r := (s.slot k).mainRef pos v n) (h.says hn).1 link rfl (hf.source n i h0 hn hi hi' hv) 3 4
  unfold readSource
  rw [h.finds.ref_main pos ((h.uses n).2 hn)]
  simp only [he]
  refine ⟨hval, by rw [hfault, hfault']; rfl, fun hd w hw => ?_⟩
  exact (List.mem_append.1 hw).elim (hdesk hd w) (hdesk' hd w)

theorem Slot.operates.readSource_fails (n : Fin 4) (hn : named n) {a : ℤ} (hv : s.badByte (g.addr s k n i) (typeBytes (g.main n).ty) = some a) :
    (readSource t k link ((s.slot k).op pos v) n i).fails
      ⟨3, pos, 3 * n, ⟨0, 8, addrSub (s.classify a), n, pos, BitVec.ofInt 64 (g.addr s k n i), 0⟩⟩ D := by
  obtain ⟨e, he, hfault, hdesk⟩ := h.readIndex_eq hst hf link hi hi' (pos := pos) n hn
  obtain ⟨hval, hfault', hdesk'⟩ := hst.readElem_fails (D := D) (r := (s.slot k).mainRef pos v n) (h.says hn).1 link rfl hv 3 4
  unfold readSource
  rw [h.finds.ref_main pos ((h.uses n).2 hn)]
  simp only [he]
  refine ⟨hval, by rw [hfault, hfault']; rfl, fun hd w hw => ?_⟩
  exact (List.mem_append.1 hw).elim (hdesk hd w) (hdesk' hd w)

omit hst hf hi hi' in
theorem Slot.operates.readSource_unnamed (n : Fin 4) (hn : ¬named n) : readSource t k link ((s.slot k).op pos v) n i = ⟨some 0, [], []⟩ := by
  unfold readSource
  rw [h.finds.ref_main_none pos (by simpa using mt (h.uses n).1 hn)]

theorem Slot.operates.readMask_eq : ∃ e, readMask t k link ((s.slot k).op pos v) i = (some (g.active s k b i), e) ∧ e.faults = []
    ∧ (D → ∀ w ∈ e.acc, w.desk = true) := by
  have hnone (n : Fin 4) (hn : (s.slot k).desk.bad = [] ∧ v.uses n = true) (hne : n ≠ b) : ((s.slot k).desc v n).masken = false := by
    have hn := (h.uses n).1 hn.2
    rw [h.masked hn, (h.names n hn).2.1 hne]; rfl
  unfold readMask VecArgs.active
  rcases hm : (g.main b).mask with _ | ⟨p, inv⟩
  · rw [h.finds.mask_none pos fun n hn => ?_]
    · exact ⟨_, rfl, rfl, by simp⟩
    · by_cases e : n = b
      · rw [e, h.masked h.first, hm]; rfl
      · exact hnone n ⟨h.bad, hn⟩ e
  · have hne : (g.main b).mask ≠ none := by simp [hm]
    obtain ⟨-, -, hs, -⟩ := h.mask h.first hne
    have hb := (h.uses b).2 h.first
    rw [h.finds.mask_some pos hb (by rw [h.masked h.first, hm]; rfl) fun n hn e => hnone n ⟨h.bad, hn⟩ e]
    obtain ⟨hval, hfault, hdesk⟩ := hst.readElem_gives (r := (s.slot k).maskRef pos v b) hs link rfl (hf.mask i hne hi hi') 1 1
    have hinv : (((s.slot k).op pos v).ref (((s.slot k).maskRef pos v b).ord - 2)).any (fun r => r.d.maskinv) = inv := by
      rw [show ((s.slot k).maskRef pos v b).ord - 2 = 3 * b from rfl, h.finds.ref_main pos hb]
      exact ((h.says h.first).1.mask p inv hm).2
    refine ⟨_, ?_, hfault, hdesk⟩
    simp only [hval, Option.map_some, hinv]

end

end Sys2Proof.Machine
end

section
/-!
SUPPORT. What one operation of streams does at one element: its sources, its value, its write or its fault (02 R43, R53, R55; 04 R114).
-/

namespace Sys2Proof.Machine

/-! ### Sources of an element -/

/-- Source `n` at element `i`; 0 where the row has none. -/
def VecArgs.source (g : VecArgs) (s : State) (k : SlotId) (v : VOp) (n : Fin 4) (i : ℕ) : ℕ := if v.uses n then g.elem s k n i else 0

/-- The second source, or the scalar `sc` that replaces it (02 R65). -/
def VecArgs.second (g : VecArgs) (s : State) (k : SlotId) (v : VOp) (sc i : ℕ) : ℕ := if v.f.scl = 1 then sc else g.source s k v 2 i

/-- The element that VPERM selects (02 R66). -/
def VecArgs.selected (g : VecArgs) (s : State) (k : SlotId) (v : VOp) (sc i : ℕ) : ℕ := 64 * (i / 64) + g.second s k v sc i % 64

/-- The first source: the selected element of VPERM, the scalar of VFILL, or element `i`. -/
def VecArgs.initial (g : VecArgs) (s : State) (k : SlotId) (v : VOp) (sc vl i : ℕ) : ℕ :=
  if v.vop = 0x05 then if g.selected s k v sc i < vl then g.source s k v 1 (g.selected s k v sc i) else 0
  else if v.vop = 0x02 then v.scalar.toNat else g.source s k v 1 i

/-- The address of source `n` that element `i` reads is valid (02 R38). -/
def VecArgs.fits (g : VecArgs) (s : State) (k : SlotId) (v : VOp) (sc vl : ℕ) (n : Fin 4) (i : ℕ) : Prop :=
  if v.vop = 0x05 ∧ n = 1 then g.selected s k v sc i < vl → g.valid s k 1 (g.selected s k v sc i) else g.valid s k n i

/-- The index element of the destination. -/
def VecArgs.place (g : VecArgs) (s : State) (k : SlotId) (v : VOp) (i : ℕ) : ℤ := if v.uses 0 then g.indexAt s k 0 i else 0

section
variable {s t : State} {k : SlotId} {lo up : ℤ} {D : Prop} {g : VecArgs} {v : VOp} {named : Fin 4 → Prop} {b : Fin 4} {vx vl pos : ℕ}
  (h : (s.slot k).operates g v named b) (hst : s.shows t k lo up) (hf : s.feeds k g named b vx vl lo up D) (link : LinkFn)
  {i : ℕ} (hi : 64 * (vx / 64) ≤ i) (hi' : i < vl)
include h hst hf hi hi'

theorem Slot.operates.source_gives (n : Fin 4) (h0 : n ≠ 0) (hv : named n → g.valid s k n i) :
    (readSource t k link ((s.slot k).op pos v) n i).gives (g.source s k v n i) D := by
  unfold VecArgs.source
  by_cases hn : named n
  · rw [if_pos ((h.uses n).2 hn)]
    exact h.readSource_gives hst hf link hi hi' n h0 hn (hv hn)
  · rw [if_neg (mt (h.uses n).1 hn), h.readSource_unnamed link n hn]
    exact ⟨rfl, rfl, by simp⟩

theorem Slot.operates.place_eq : ∃ e, readIndex t k link ((s.slot k).op pos v) 0 i = (some (g.place s k v i), e) ∧ e.faults = []
    ∧ (D → ∀ w ∈ e.acc, w.desk = true) := by
  unfold VecArgs.place
  by_cases hn : named 0
  · rw [if_pos ((h.uses 0).2 hn)]
    exact h.readIndex_eq hst hf link hi hi' 0 hn
  · rw [if_neg (mt (h.uses 0).1 hn)]
    unfold readIndex
    have := h.finds.ref_index_none pos (n := 0) fun e => absurd ((h.uses 0).1 e) hn
    simp only [Fin.val_zero] at this
    rw [this]
    exact ⟨_, rfl, rfl, by simp⟩

/-- The second source is read, or is the scalar. -/
theorem Slot.operates.second_gives (hv : named 2 → v.f.scl ≠ 1 → g.valid s k 2 i) :
    (if v.f.scl = 1 then (⟨some ((s.slot k).op pos v).scalar, [], []⟩ : ERead) else readSource t k link ((s.slot k).op pos v) 2 i).gives
      (g.second s k v ((s.slot k).op pos v).scalar i) D := by
  unfold VecArgs.second
  split_ifs with hc
  · exact ⟨rfl, rfl, by simp⟩
  · exact h.source_gives hst hf link hi hi' 2 (by decide) fun hn => hv hn hc

/-- An element that its mask leaves inactive reads nothing but its mask (02 R43). -/
theorem Slot.operates.evalReads_inactive (hon : g.active s k b i = false)
    (hz : (((s.slot k).op pos v).ref 0).any (fun r => !r.d.trans && r.d.zero) = false) :
    ∃ acc, evalReads t k link vl ((s.slot k).op pos v) i = ⟨[], false, none, 0, acc⟩ ∧ (D → ∀ w ∈ acc, w.desk = true) := by
  obtain ⟨e, he, hfault, hdesk⟩ := h.readMask_eq hst hf link hi hi' (pos := pos)
  unfold evalReads
  rw [he, hon]
  simp only [hz, hfault]
  exact ⟨_, rfl, hdesk⟩

/-- Under ZERO it writes 0 (02 R43). -/
theorem Slot.operates.evalReads_zeroed (hon : g.active s k b i = false)
    (hz : (((s.slot k).op pos v).ref 0).any (fun r => !r.d.trans && r.d.zero) = true) :
    ∃ acc, evalReads t k link vl ((s.slot k).op pos v) i = ⟨[], false, some (0, 0, 0), g.place s k v i, acc⟩ ∧ (D → ∀ w ∈ acc, w.desk = true) := by
  obtain ⟨e, he, hfault, hdesk⟩ := h.readMask_eq hst hf link hi hi' (pos := pos)
  obtain ⟨e', he', -, hdesk'⟩ := h.place_eq hst hf link hi hi' (pos := pos)
  unfold evalReads
  rw [he, hon]
  simp only [hz, hfault, he', if_true]
  exact ⟨_, rfl, fun hd w hw => (List.mem_append.1 hw).elim (hdesk hd w) (hdesk' hd w)⟩

/-- The first source of an element, as the engine reads it with second source `a`. -/
def ROp.firstRead (o : ROp) (t : State) (k : SlotId) (link : LinkFn) (vl i : ℕ) (a : Option ℕ) : ERead :=
  if o.v.vop = 0x05 then
    match a with
    | none => ⟨none, [], []⟩
    | some a2 => if 64 * (i / 64) + a2 % 64 < vl then readSource t k link o 1 (64 * (i / 64) + a2 % 64) else ⟨some 0, [], []⟩
  else if o.v.vop = 0x02 then ⟨some o.v.scalar.toNat, [], []⟩
  else readSource t k link o 1 i

theorem Slot.operates.firstRead_gives (hv : named 1 → g.fits s k v ((s.slot k).op pos v).scalar vl 1 i) :
    (((s.slot k).op pos v).firstRead t k link vl i (some (g.second s k v ((s.slot k).op pos v).scalar i))).gives
      (g.initial s k v ((s.slot k).op pos v).scalar vl i) D := by
  have hvop : ((s.slot k).op pos v).v = v := rfl
  unfold ROp.firstRead VecArgs.initial
  rw [hvop]
  by_cases h5 : v.vop = 0x05
  · simp only [if_pos h5]
    change (if g.selected s k v ((s.slot k).op pos v).scalar i < vl then readSource t k link ((s.slot k).op pos v) 1
      (g.selected s k v ((s.slot k).op pos v).scalar i) else ⟨some 0, [], []⟩ : ERead).gives _ D
    split_ifs with hj
    · have hj' : 64 * (vx / 64) ≤ g.selected s k v ((s.slot k).op pos v).scalar i := by unfold VecArgs.selected; omega
      refine h.source_gives hst hf link hj' hj 1 (by decide) fun hn => ?_
      have := hv hn
      rw [VecArgs.fits, if_pos ⟨h5, rfl⟩] at this
      exact this hj
    · exact ⟨rfl, rfl, by simp⟩
  · simp only [if_neg h5]
    split_ifs with h2
    · exact ⟨rfl, rfl, by simp⟩
    · refine h.source_gives hst hf link hi hi' 1 (by decide) fun hn => ?_
      have := hv hn
      rwa [VecArgs.fits, if_neg fun e => h5 e.1] at this

omit h hst hf hi hi' in
/-- The reads of an active element, source by source. -/
theorem evalReads_of_active {o : ROp} {me xe e2 : ERead} {x : ℤ} (hm : readMask t k link o i = (some true, me)) (hx : readIndex t k link o 0 i = (some x, xe))
    (h2 : (if o.v.f.scl = 1 then (⟨some o.scalar, [], []⟩ : ERead) else readSource t k link o 2 i) = e2) :
    evalReads t k link vl o i =
      ⟨me.faults ++ xe.faults ++ (o.firstRead t k link vl i e2.val).faults ++ e2.faults ++ (readSource t k link o 3 i).faults, true,
        match (o.firstRead t k link vl i e2.val).val, e2.val, (readSource t k link o 3 i).val with
          | some a1, some a2, some a3 => some (a1, a2, a3)
          | _, _, _ => none,
        match (o.firstRead t k link vl i e2.val).val, e2.val, (readSource t k link o 3 i).val with
          | some _, some _, some _ => x
          | _, _, _ => 0,
        me.acc ++ xe.acc ++ (o.firstRead t k link vl i e2.val).acc ++ e2.acc ++ (readSource t k link o 3 i).acc⟩ := by
  unfold evalReads
  rw [hm, hx]
  dsimp only
  rw [h2]
  generalize hr : o.firstRead t k link vl i e2.val = e1
  generalize readSource t k link o 3 i = e3
  unfold ROp.firstRead at hr
  rcases e1 with ⟨_ | a1, f1, c1⟩ <;> rcases e2 with ⟨_ | a2, f2, c2⟩ <;> rcases e3 with ⟨_ | a3, f3, c3⟩
  all_goals
    dsimp only at hr ⊢
    rw [hr]

/-- An active element whose addresses are valid reads its sources. -/
theorem Slot.operates.evalReads_active (hon : g.active s k b i = true)
    (hv : ∀ n, n ≠ 0 → named n → g.fits s k v ((s.slot k).op pos v).scalar vl n i) :
    ∃ acc, evalReads t k link vl ((s.slot k).op pos v) i =
      ⟨[], true, some (g.initial s k v ((s.slot k).op pos v).scalar vl i, g.second s k v ((s.slot k).op pos v).scalar i, g.source s k v 3 i),
        g.place s k v i, acc⟩ ∧ (D → ∀ w ∈ acc, w.desk = true) := by
  obtain ⟨me, hm, hmf, hmd⟩ := h.readMask_eq hst hf link hi hi' (pos := pos)
  obtain ⟨xe, hx, hxf, hxd⟩ := h.place_eq hst hf link hi hi' (pos := pos)
  obtain ⟨h2v, h2f, h2d⟩ := h.second_gives hst hf link hi hi' (pos := pos) fun hn _ => by simpa [VecArgs.fits] using hv 2 (by decide) hn
  obtain ⟨h1v, h1f, h1d⟩ := h.firstRead_gives hst hf link hi hi' fun hn => hv 1 (by decide) hn
  have h3 : (readSource t k link ((s.slot k).op pos v) 3 i).gives _ D :=
    h.source_gives hst hf link hi hi' (pos := pos) 3 (by decide) fun hn => by simpa [VecArgs.fits] using hv 3 (by decide) hn
  obtain ⟨h3v, h3f, h3d⟩ := h3
  rw [hon] at hm
  have hop : ((s.slot k).op pos v).v = v := rfl
  have := evalReads_of_active link (vl := vl) hm hx rfl
  rw [hop, h2v, h1v, h3v, hmf, hxf, h1f, h2f, h3f] at this
  refine ⟨_, this, fun hd w hw => ?_⟩
  simp only [List.mem_append] at hw
  rcases hw with (((hw | hw) | hw) | hw) | hw
  exacts [hmd hd w hw, hxd hd w hw, h1d hd w hw, h2d hd w hw, h3d hd w hw]

/-- The fault of source `n` whose address `a` is not valid. -/
def addrFault (s : State) (pos n : ℕ) (a b : ℤ) : EFault := ⟨3, pos, 3 * n, ⟨0, 8, addrSub (s.classify b), n, pos, BitVec.ofInt 64 a, 0⟩⟩

/-- A read that ended: with a value and no fault, or with one fault of source `n` and no value. -/
def ERead.settles (e : ERead) (pos n : ℕ) (D : Prop) : Prop :=
  (D → ∀ w ∈ e.acc, w.desk = true)
  ∧ ((e.val.isSome = true ∧ e.faults = []) ∨ (e.val = none ∧ ∃ st, e.faults = [⟨3, pos, 3 * n, st⟩]))

omit h hst hf hi hi' in
theorem ERead.gives.settles {e : ERead} {a : ℕ} (he : e.gives a D) (n : ℕ) : e.settles pos n D :=
  ⟨he.desk, .inl ⟨by rw [he.val]; rfl, he.faults⟩⟩

theorem Slot.operates.source_settles (n : Fin 4) (h0 : n ≠ 0) : (readSource t k link ((s.slot k).op pos v) n i).settles pos n D := by
  by_cases hn : named n
  · rcases hb : s.badByte (g.addr s k n i) (typeBytes (g.main n).ty) with _ | a
    · exact (h.readSource_gives hst hf link hi hi' (pos := pos) n h0 hn hb).settles n
    · obtain ⟨h1, h2, h3⟩ := h.readSource_fails hst hf link hi hi' (pos := pos) n hn hb
      exact ⟨h3, .inr ⟨h1, _, h2⟩⟩
  · exact (h.source_gives hst hf link hi hi' (pos := pos) n h0 fun e => absurd e hn).settles n

end

/-! ### The fault that comes first (02 R55) -/

/-- Fault `f` ranks before fault `g`. -/
def EFault.before (f g : EFault) : Prop := f.rank < g.rank ∨ (f.rank = g.rank ∧ (f.pos < g.pos ∨ (f.pos = g.pos ∧ f.ord < g.ord)))

theorem firstFault_mem : (fs : List EFault) → ∀ {f}, firstFault fs = some f → f ∈ fs
  | [], f, h => by cases h
  | g :: fs, f, h => by
    unfold firstFault at h
    rcases hg : firstFault fs with _ | g'
    · rw [hg] at h; cases h; simp
    · have := firstFault_mem fs hg
      rw [hg] at h
      dsimp only at h
      split_ifs at h <;> cases h <;> simp [this]

theorem firstFault_least {f : EFault} {fs : List EFault} (h : ∀ g ∈ fs, f.before g) : firstFault (f :: fs) = some f := by
  unfold firstFault
  rcases hg : firstFault fs with _ | g
  · rfl
  · dsimp only
    split_ifs with h1 h2
    · rfl
    · rfl
    · exact absurd (h g (firstFault_mem fs hg)) h2

section
variable {s t : State} {k : SlotId} {lo up : ℤ} {D : Prop} {g : VecArgs} {v : VOp} {named : Fin 4 → Prop} {b : Fin 4} {vx vl pos : ℕ}
  (h : (s.slot k).operates g v named b) (hst : s.shows t k lo up) (hf : s.feeds k g named b vx vl lo up D) (link : LinkFn)
  {i : ℕ} (hi : 64 * (vx / 64) ≤ i) (hi' : i < vl)
include h hst hf hi hi'

omit h hst hf hi hi' in
theorem ERead.settles.fault {e : ERead} {n : ℕ} (he : e.settles pos n D) {f : EFault} (hf : f ∈ e.faults) :
    f.rank = 3 ∧ f.pos = pos ∧ f.ord = 3 * n ∧ e.val = none := by
  obtain ⟨-, ⟨-, h0⟩ | ⟨hv, st, h1⟩⟩ := he
  · rw [h0] at hf; cases hf
  · rw [h1] at hf
    obtain rfl := List.mem_singleton.1 hf
    exact ⟨rfl, rfl, rfl, hv⟩

omit h hst hf hi hi' in
/-- Of three reads the faults of the lowest failing one come first. -/
theorem firstFault_settled {e1 e2 e3 : ERead} (h1 : e1.settles pos 1 D) (h2 : e2.settles pos 2 D) (h3 : e3.settles pos 3 D) {n : ℕ} {F : EFault}
    (hF : n = 1 ∧ e1.faults = [F] ∨ n = 2 ∧ e1.faults = [] ∧ e2.faults = [F] ∨ n = 3 ∧ e1.faults = [] ∧ e2.faults = [] ∧ e3.faults = [F]) :
    firstFault (e1.faults ++ e2.faults ++ e3.faults) = some F ∧ (e1.val = none ∨ e2.val = none ∨ e3.val = none) := by
  rcases hF with ⟨-, f1⟩ | ⟨-, f1, f2⟩ | ⟨-, f1, f2, f3⟩
  · obtain ⟨hr, hp, ho, hv⟩ := h1.fault (f := F) (by simp [f1])
    refine ⟨?_, .inl hv⟩
    rw [f1, List.append_assoc, List.singleton_append]
    refine firstFault_least fun f hf => .inr ?_
    rcases List.mem_append.1 hf with hf | hf
    · obtain ⟨hr', hp', ho', -⟩ := h2.fault hf
      exact ⟨hr.trans hr'.symm, .inr ⟨hp.trans hp'.symm, by omega⟩⟩
    · obtain ⟨hr', hp', ho', -⟩ := h3.fault hf
      exact ⟨hr.trans hr'.symm, .inr ⟨hp.trans hp'.symm, by omega⟩⟩
  · obtain ⟨hr, hp, ho, hv⟩ := h2.fault (f := F) (by simp [f2])
    refine ⟨?_, .inr (.inl hv)⟩
    rw [f1, f2, List.nil_append, List.singleton_append]
    refine firstFault_least fun f hf => .inr ?_
    obtain ⟨hr', hp', ho', -⟩ := h3.fault hf
    exact ⟨hr.trans hr'.symm, .inr ⟨hp.trans hp'.symm, by omega⟩⟩
  · obtain ⟨-, -, -, hv⟩ := h3.fault (f := F) (by simp [f3])
    refine ⟨?_, .inr (.inr hv)⟩
    rw [f1, f2, f3, List.nil_append]
    exact firstFault_least (by simp)

/-- The lowest source of invalid address stops an active element (02 R38, R55). -/
theorem Slot.operates.evalReads_fails (hon : g.active s k b i = true) (h5 : v.vop ≠ 0x05) (hscl : named 2 → v.f.scl ≠ 1) (hfill : named 1 → v.vop ≠ 0x02)
    {n : Fin 4} (h0 : n ≠ 0) (hn : named n)
    (hlow : ∀ n' < n, n' ≠ 0 → named n' → g.valid s k n' i) {a : ℤ} (ha : s.badByte (g.addr s k n i) (typeBytes (g.main n).ty) = some a) :
    ∃ fs acc, evalReads t k link vl ((s.slot k).op pos v) i = ⟨fs, true, none, 0, acc⟩ ∧ (D → ∀ w ∈ acc, w.desk = true)
      ∧ firstFault fs = some (addrFault s pos n (g.addr s k n i) a) := by
  obtain ⟨me, hm, hmf, hmd⟩ := h.readMask_eq hst hf link hi hi' (pos := pos)
  obtain ⟨xe, hx, hxf, hxd⟩ := h.place_eq hst hf link hi hi' (pos := pos)
  rw [hon] at hm
  have hop : ((s.slot k).op pos v).v = v := rfl
  have hev := evalReads_of_active link (vl := vl) hm hx rfl
  have hread (m : Fin 4) (hm0 : m ≠ 0) := h.source_settles hst hf link hi hi' (pos := pos) m hm0
  have hclean (m : Fin 4) (hm0 : m ≠ 0) (hmn : m < n) : (readSource t k link ((s.slot k).op pos v) m i).faults = [] :=
    (h.source_gives hst hf link hi hi' (pos := pos) m hm0 (hlow m hmn hm0)).faults
  have hbad := (h.readSource_fails hst hf link hi hi' (pos := pos) n hn ha).faults
  have hfirst : ((s.slot k).op pos v).firstRead t k link vl i = fun _ =>
      if v.vop = 0x02 then ⟨some v.scalar.toNat, [], []⟩ else readSource t k link ((s.slot k).op pos v) 1 i := by
    funext a'
    unfold ROp.firstRead
    rw [hop, if_neg h5]
  have h1 : (if v.vop = 0x02 then (⟨some v.scalar.toNat, [], []⟩ : ERead) else readSource t k link ((s.slot k).op pos v) 1 i).settles pos 1 D := by
    split_ifs
    · exact ⟨by simp, .inl ⟨rfl, rfl⟩⟩
    · exact hread 1 (by decide)
  have h2 : (if v.f.scl = 1 then (⟨some ((s.slot k).op pos v).scalar, [], []⟩ : ERead)
      else readSource t k link ((s.slot k).op pos v) 2 i).settles pos 2 D := by
    split_ifs
    · exact ⟨by simp, .inl ⟨rfl, rfl⟩⟩
    · exact hread 2 (by decide)
  have h1c (hlt : 1 < n) : (if v.vop = 0x02 then (⟨some v.scalar.toNat, [], []⟩ : ERead)
      else readSource t k link ((s.slot k).op pos v) 1 i).faults = [] := by
    split_ifs
    · rfl
    · exact hclean 1 (by decide) hlt
  have h2c (hlt : 2 < n) : (if v.f.scl = 1 then (⟨some ((s.slot k).op pos v).scalar, [], []⟩ : ERead)
      else readSource t k link ((s.slot k).op pos v) 2 i).faults = [] := by
    split_ifs
    · rfl
    · exact hclean 2 (by decide) hlt
  obtain ⟨hfault, hval⟩ := firstFault_settled h1 h2 (hread 3 (by decide)) (n := n) (F := addrFault s pos n (g.addr s k n i) a) <| by
    obtain rfl | rfl | rfl : n = 1 ∨ n = 2 ∨ n = 3 := by omega
    · exact .inl ⟨rfl, by rw [if_neg (hfill hn)]; exact hbad⟩
    · exact .inr (.inl ⟨rfl, h1c (by decide), by rw [if_neg (hscl hn)]; exact hbad⟩)
    · exact .inr (.inr ⟨rfl, h1c (by decide), h2c (by decide), hbad⟩)
  rw [hop, hfirst] at hev
  have h3 : (readSource t k link ((s.slot k).op pos v) 3 i).settles pos 3 D := hread 3 (by decide)
  change firstFault (_ ++ _ ++ (readSource t k link ((s.slot k).op pos v) 3 i).faults) = _ at hfault
  change _ ∨ _ ∨ (readSource t k link ((s.slot k).op pos v) 3 i).val = none at hval
  generalize (if v.vop = 0x02 then (⟨some v.scalar.toNat, [], []⟩ : ERead) else readSource t k link ((s.slot k).op pos v) 1 i) = e1 at *
  generalize (if v.f.scl = 1 then (⟨some ((s.slot k).op pos v).scalar, [], []⟩ : ERead)
    else readSource t k link ((s.slot k).op pos v) 2 i) = e2 at *
  generalize readSource t k link ((s.slot k).op pos v) 3 i = e3 at *
  have hdesk : D → ∀ w ∈ me.acc ++ xe.acc ++ e1.acc ++ e2.acc ++ e3.acc, w.desk = true := fun hd w hw => by
    simp only [List.mem_append] at hw
    rcases hw with (((hw | hw) | hw) | hw) | hw
    exacts [hmd hd w hw, hxd hd w hw, h1.1 hd w hw, h2.1 hd w hw, h3.1 hd w hw]
  refine ⟨_, _, ?_, hdesk, hfault⟩
  rw [hev, hmf, hxf]
  rcases e1 with ⟨_ | a1, f1, c1⟩ <;> rcases e2 with ⟨_ | a2, f2, c2⟩ <;> rcases e3 with ⟨_ | a3, f3, c3⟩ <;>
    simp at hval ⊢

end

end Sys2Proof.Machine
end

section
/-!
SUPPORT. One element of an entry: it passes, with its registers and writes, or stops the entry (02 R43, R53; 04 R113, R114).
-/

namespace Sys2Proof.Machine

/-! ### Traps -/

theorem trapOf_none {fl : FlagSet} {en : BitVec 7} (h : fl &&& en.truncate 6 = 0) : trapOf fl en = none := by simp [trapOf, h]

theorem trapOf_some {fl : FlagSet} {en : BitVec 7} {cause sub : ℕ} (h : trapCode fl (en.truncate 6) cause sub) : trapOf fl en = some (cause, sub) := by
  obtain ⟨b, hb, ht, hlow, rfl, rfl⟩ := h
  unfold trapOf
  generalize fl &&& en.truncate 6 = t at *
  interval_cases b <;> simp (disch := decide) only [hlow, ht, Bool.false_eq_true, if_false, if_true] <;> rfl

/-! ### How an element ends -/

/-- What an element starts from. -/
def Step1.start (r : Regs) (links : List (ℕ × ℕ × Option ℕ)) (live : List ℕ) : Step1 := ⟨r, [], links, [], [], 0, live⟩

/-- The element ends without a fault, with the registers `r` and the writes `ws`. -/
structure Step1.passes (a : Step1) (r : Regs) (ws : List EngineWrite) (D : Prop) : Prop where
  faults : a.faults = []
  regs : a.regs.orFlags a.flags = r
  writes : a.writes = ws
  desk : D → ∀ w ∈ a.acc, w.desk = true

/-- The element stops the entry as `st` says; the operations in places `L` are not inactive at it. -/
structure Step1.stops (a : Step1) (st : VStop) (L : List ℕ) (D : Prop) : Prop where
  fault : (firstFault a.faults).map EFault.stop = some st
  live : L ⊆ a.live
  desk : D → ∀ w ∈ a.acc, w.desk = true

theorem Regs.orFlags_zero (r : Regs) : r.orFlags 0 = r := by
  simp [Regs.orFlags]

/-- What the operation delivers from its sources. -/
def ROp.result (o : ROp) (a : ℕ × ℕ × ℕ) (i : ℕ) : FRes :=
  elemResult o.v.vop.toNat o.v.f.fn.toNat o.v.rm ((o.type 0).getD 0) ((o.type 1).getD 0) a.1 a.2.1 a.2.2 i

/-- The write of `v` as element `i` of a stream, at address `a`. -/
def VStream.write (d : VStream) (i : ℕ) (a : ℤ) (v : ℕ) : EngineWrite :=
  if d.ty = 10 then (a.toNat, .inr (i % 8, v % 2 == 1)) else (a.toNat, .inl (leBytes (typeBytes d.ty) v))

theorem Desc.says.elemWrite {d : Desc} {w : VStream} (h : d.says w) (i : ℕ) (a : ℤ) (v : ℕ) : elemWrite d i a.toNat v = w.write i a v := by
  rw [Machine.elemWrite, VStream.write, h.type]

theorem mem_insertNat {x y : ℕ} {l : List ℕ} : y ∈ insertNat x l ↔ y = x ∨ y ∈ l := by
  induction l with
  | nil => simp [insertNat]
  | cons z l ih =>
    unfold insertNat
    split_ifs with h1 h2
    · simp
    · subst h2; simp
    · simp [ih]; tauto

/-- What `elemStep` makes of the reads of an operation with a destination in memory. -/
theorem elemStep_dst {t : State} {k : SlotId} {vl : ℕ} {ops : List ROp} {i : ℕ} {a : Step1} {o : ROp} {d : DRef} (hd : o.ref 0 = some d)
    (htrans : d.d.trans = false) {out : EOut}
    (hout : evalReads t k (fun l j => linkValue t k vl ops a.links (ops.length + 1) l j) vl o i = out) :
    ∃ live, a.live ⊆ live ∧ elemStep t k vl ops i a o = (
      let fl := match o.value out i with | some r => r.flags | none => 0
      let a' : Step1 := match trapOf fl o.v.traps with
        | some (c, sub) => { a with live := live, acc := a.acc ++ out.acc, faults := a.faults ++ out.faults ++ [⟨5, o.pos, 99, ⟨0, c, sub, 9, o.pos, 0, fl⟩⟩] }
        | none => { a with live := live, acc := a.acc ++ out.acc, faults := a.faults ++ out.faults, flags := a.flags ||| fl }
      match out.vals, o.value out i with
      | some _, some r =>
        match t.badByte (d.d.elemAddr i out.dstIdx) (typeBytes d.d.type) with
        | some b => { a' with faults := a'.faults ++
            [⟨6, o.pos, 0, ⟨0, 8, addrSub (t.classify b), 0, o.pos, BitVec.ofInt 64 (d.d.elemAddr i out.dstIdx), 0⟩⟩] }
        | none => { a' with
            writes := a'.writes ++ [elemWrite d.d i (d.d.elemAddr i out.dstIdx).toNat r.val]
            acc := a'.acc ++ [mkAccess d (d.d.elemAddr i out.dstIdx).toNat i true false] }
      | _, _ => a') := by
  refine ⟨if o.liveAt t k (fun l j => linkValue t k vl ops a.links (ops.length + 1) l j) i then insertNat o.pos a.live else a.live, ?_, ?_⟩
  · split_ifs
    · exact fun y hy => mem_insertNat.2 (.inr hy)
    · exact List.Subset.refl _
  · unfold elemStep
    simp only [hout, hd, htrans, Bool.false_eq_true, if_false] <;> rcases trapOf _ _ with _ | ⟨c, sub⟩ <;> rfl

/-! ### An element of an operation with a destination -/

/-- What the operation delivers at element `i`: 0 where its mask leaves it inactive (02 R43). -/
def VecArgs.result (g : VecArgs) (s : State) (k : SlotId) (v : VOp) (b : Fin 4) (o : ROp) (vl i : ℕ) : FRes :=
  if g.active s k b i then o.result (g.initial s k v o.scalar vl i, g.second s k v o.scalar i, g.source s k v 3 i) i else ⟨0, 0⟩

/-- Element `i` is written. -/
def VecArgs.writes (g : VecArgs) (s : State) (k : SlotId) (b : Fin 4) (i : ℕ) : Bool := g.active s k b i || (g.main 0).zero

theorem trapOf_zero (en : BitVec 7) : trapOf 0 en = none := trapOf_none (BitVec.zero_and)

section
variable {s t : State} {k : SlotId} {lo up : ℤ} {D : Prop} {g : VecArgs} {v : VOp} {named : Fin 4 → Prop} {b : Fin 4} {vx vl pos : ℕ}
  (h : (s.slot k).operates g v named b) (hst : s.shows t k lo up) (hf : s.feeds k g named b vx vl lo up D) (h0 : named 0) {ops : List ROp}
  {i : ℕ} (hi : 64 * (vx / 64) ≤ i) (hi' : i < vl) (r : Regs) (links : List (ℕ × ℕ × Option ℕ)) (live : List ℕ)
include h hst hf h0 hi hi'

omit hst hf hi hi' in
theorem Slot.operates.ref_dst : ((s.slot k).op pos v).ref 0 = some ((s.slot k).mainRef pos v 0) := h.finds.ref_main pos ((h.uses 0).2 h0)

omit hst hf hi hi' in
theorem Slot.operates.zeroes : (((s.slot k).op pos v).ref 0).any (fun r => !r.d.trans && r.d.zero) = (g.main 0).zero := by
  rw [h.ref_dst h0]
  change (!((s.slot k).desc v 0).trans && ((s.slot k).desc v 0).zero) = _
  rw [(h.says h0).1.trans, (h.says h0).1.zero]
  rfl

/-- An element that is neither active nor zeroed does nothing. -/
theorem Slot.operates.elemStep_quiet (hw : g.writes s k b i = false) :
    (elemStep t k vl ops i (Step1.start r links live) ((s.slot k).op pos v)).passes r [] D := by
  obtain ⟨hon, hz⟩ := Bool.or_eq_false_iff.1 hw
  obtain ⟨acc, hev, hdesk⟩ := h.evalReads_inactive hst hf (fun l j => linkValue t k vl ops links (ops.length + 1) l j) hi hi' (pos := pos) hon
    ((h.zeroes h0).trans hz)
  obtain ⟨live', -, hstep⟩ := elemStep_dst (a := Step1.start r links live) (h.ref_dst h0) (h.says h0).1.trans hev
  rw [hstep]
  simp only [ROp.value, trapOf_zero]
  refine ⟨rfl, ?_, rfl, hdesk⟩
  exact (congrArg r.orFlags (BitVec.or_zero (x := (0 : FlagSet)))).trans r.orFlags_zero

/-- The reads of an element that is written, and the value that it delivers. -/
theorem Slot.operates.evalReads_writes (hw : g.writes s k b i = true)
    (hv : g.active s k b i = true → ∀ n, n ≠ 0 → named n → g.fits s k v ((s.slot k).op pos v).scalar vl n i) (link : LinkFn) :
    ∃ out, evalReads t k link vl ((s.slot k).op pos v) i = out ∧ out.faults = [] ∧ out.vals.isSome = true ∧ out.dstIdx = g.indexAt s k 0 i
      ∧ ((s.slot k).op pos v).value out i = some (g.result s k v b ((s.slot k).op pos v) vl i) ∧ (D → ∀ w ∈ out.acc, w.desk = true) := by
  have hplace : g.place s k v i = g.indexAt s k 0 i := if_pos ((h.uses 0).2 h0)
  rcases hon : g.active s k b i with _ | _
  · have hz : (g.main 0).zero = true := by simpa [VecArgs.writes, hon] using hw
    obtain ⟨acc, hev, hdesk⟩ := h.evalReads_zeroed hst hf link hi hi' (pos := pos) hon ((h.zeroes h0).trans hz)
    refine ⟨_, hev, rfl, rfl, hplace, ?_, hdesk⟩
    rw [VecArgs.result, hon]; rfl
  · obtain ⟨acc, hev, hdesk⟩ := h.evalReads_active hst hf link hi hi' (pos := pos) hon (hv hon)
    refine ⟨_, hev, rfl, rfl, hplace, ?_, hdesk⟩
    rw [VecArgs.result, hon]; rfl

/-- An element that is written: it passes if no condition traps and its address is valid. -/
theorem Slot.operates.elemStep_writes (hw : g.writes s k b i = true)
    (hv : g.active s k b i = true → ∀ n, n ≠ 0 → named n → g.fits s k v ((s.slot k).op pos v).scalar vl n i)
    (hfl : (g.result s k v b ((s.slot k).op pos v) vl i).flags &&& v.traps.truncate 6 = 0) (hd : g.valid s k 0 i)
    (hdesk : D → (deskBase : ℤ) ≤ g.addr s k 0 i) :
    (elemStep t k vl ops i (Step1.start r links live) ((s.slot k).op pos v)).passes
      (r.orFlags (g.result s k v b ((s.slot k).op pos v) vl i).flags)
      [(g.main 0).write i (g.addr s k 0 i) (g.result s k v b ((s.slot k).op pos v) vl i).val] D := by
  obtain ⟨out, hev, hfault, hvals, hidx, hval, hacc⟩ := h.evalReads_writes hst hf h0 hi hi' hw hv
    (fun l j => linkValue t k vl ops links (ops.length + 1) l j)
  obtain ⟨live', -, hstep⟩ := elemStep_dst (a := Step1.start r links live) (h.ref_dst h0) (h.says h0).1.trans hev
  obtain ⟨p, hp⟩ := Option.isSome_iff_exists.1 hvals
  have hs := (h.says h0).1
  have haddr : ((s.slot k).mainRef pos v 0).d.elemAddr i (g.indexAt s k 0 i) = g.addr s k 0 i := hs.elemAddr i _
  have htype : ((s.slot k).mainRef pos v 0).d.type = (g.main 0).ty := hs.type
  have htrap : trapOf (g.result s k v b ((s.slot k).op pos v) vl i).flags ((s.slot k).op pos v).v.traps = none := trapOf_none hfl
  have hbad : t.badByte (g.addr s k 0 i) (typeBytes (g.main 0).ty) = none := (State.badByte_congr hst.repair _ _).trans hd
  rw [hstep]
  simp only [hp, hval, htrap, hidx, haddr, htype, hbad, hfault]
  refine ⟨rfl, ?_, ?_, fun hD w hw => ?_⟩
  · simp [Step1.start]
  · exact congrArg (fun w => [w]) (hs.elemWrite i (g.addr s k 0 i) _)
  · rcases List.mem_append.1 hw with hw | hw
    · exact hacc hD w hw
    · obtain rfl := List.mem_singleton.1 hw
      have := hdesk hD
      exact decide_eq_true (by omega)

/-- A condition that is enabled stops the entry at the element, before its write (04 R114). -/
theorem Slot.operates.elemStep_traps (hon : g.active s k b i = true)
    (hv : ∀ n, n ≠ 0 → named n → g.fits s k v ((s.slot k).op pos v).scalar vl n i) {cause sub : ℕ}
    (htrap : trapCode (g.result s k v b ((s.slot k).op pos v) vl i).flags (v.traps.truncate 6) cause sub) (hdesk : D → (deskBase : ℤ) ≤ g.addr s k 0 i) :
    (elemStep t k vl ops i (Step1.start r links live) ((s.slot k).op pos v)).stops
      ⟨0, cause, sub, 9, pos, 0, (g.result s k v b ((s.slot k).op pos v) vl i).flags⟩ [] D := by
  obtain ⟨out, hev, hfault, hvals, hidx, hval, hacc⟩ := h.evalReads_writes hst hf h0 hi hi' (by simp [VecArgs.writes, hon]) (fun _ => hv)
    (fun l j => linkValue t k vl ops links (ops.length + 1) l j)
  obtain ⟨live', -, hstep⟩ := elemStep_dst (a := Step1.start r links live) (h.ref_dst h0) (h.says h0).1.trans hev
  obtain ⟨p, hp⟩ := Option.isSome_iff_exists.1 hvals
  have haddr : ((s.slot k).mainRef pos v 0).d.elemAddr i (g.indexAt s k 0 i) = g.addr s k 0 i := (h.says h0).1.elemAddr i _
  have htrap : trapOf (g.result s k v b ((s.slot k).op pos v) vl i).flags ((s.slot k).op pos v).v.traps = some (cause, sub) := trapOf_some htrap
  rw [hstep]
  simp only [hp, hval, htrap, hidx, haddr, hfault]
  rcases t.badByte (g.addr s k 0 i) (typeBytes ((s.slot k).mainRef pos v 0).d.type) with _ | a
  · refine ⟨rfl, List.nil_subset _, fun hD w hw => ?_⟩
    rcases List.mem_append.1 hw with hw | hw
    · exact hacc hD w hw
    · obtain rfl := List.mem_singleton.1 hw
      have := hdesk hD
      exact decide_eq_true (by omega)
  · refine ⟨?_, List.nil_subset _, fun hD w hw => hacc hD w hw⟩
    change Option.map EFault.stop (firstFault (_ :: [_])) = _
    rw [firstFault_least]
    · rfl
    · intro f hf
      obtain rfl := List.mem_singleton.1 hf
      exact .inl (Nat.lt_succ_self 5)

/-- A destination address that is not valid stops the entry at the element (02 R38). -/
theorem Slot.operates.elemStep_dst_fails (hw : g.writes s k b i = true)
    (hv : g.active s k b i = true → ∀ n, n ≠ 0 → named n → g.fits s k v ((s.slot k).op pos v).scalar vl n i)
    (hfl : (g.result s k v b ((s.slot k).op pos v) vl i).flags &&& v.traps.truncate 6 = 0) {a : ℤ}
    (hd : s.badByte (g.addr s k 0 i) (typeBytes (g.main 0).ty) = some a) :
    (elemStep t k vl ops i (Step1.start r links live) ((s.slot k).op pos v)).stops
      ⟨0, 8, addrSub (s.classify a), 0, pos, BitVec.ofInt 64 (g.addr s k 0 i), 0⟩ [] D := by
  obtain ⟨out, hev, hfault, hvals, hidx, hval, hacc⟩ := h.evalReads_writes hst hf h0 hi hi' hw hv
    (fun l j => linkValue t k vl ops links (ops.length + 1) l j)
  obtain ⟨live', -, hstep⟩ := elemStep_dst (a := Step1.start r links live) (h.ref_dst h0) (h.says h0).1.trans hev
  obtain ⟨p, hp⟩ := Option.isSome_iff_exists.1 hvals
  have hs := (h.says h0).1
  have haddr : ((s.slot k).mainRef pos v 0).d.elemAddr i (g.indexAt s k 0 i) = g.addr s k 0 i := hs.elemAddr i _
  have htype : ((s.slot k).mainRef pos v 0).d.type = (g.main 0).ty := hs.type
  have htrap : trapOf (g.result s k v b ((s.slot k).op pos v) vl i).flags ((s.slot k).op pos v).v.traps = none := trapOf_none hfl
  have hbad : t.badByte (g.addr s k 0 i) (typeBytes (g.main 0).ty) = some a := (State.badByte_congr hst.repair _ _).trans hd
  rw [hstep]
  simp only [hp, hval, htrap, hidx, haddr, htype, hbad, hfault, State.classify_congr hst.repair]
  exact ⟨rfl, List.nil_subset _, hacc⟩

/-- A source address that is not valid stops the entry at the element (02 R38). -/
theorem Slot.operates.elemStep_src_fails (hon : g.active s k b i = true) (h5 : v.vop ≠ 0x05) (hscl : named 2 → v.f.scl ≠ 1) (hfill : named 1 → v.vop ≠ 0x02)
    {n : Fin 4} (hn0 : n ≠ 0) (hn : named n) (hlow : ∀ n' < n, n' ≠ 0 → named n' → g.valid s k n' i) {a : ℤ}
    (ha : s.badByte (g.addr s k n i) (typeBytes (g.main n).ty) = some a) :
    (elemStep t k vl ops i (Step1.start r links live) ((s.slot k).op pos v)).stops
      ⟨0, 8, addrSub (s.classify a), n, pos, BitVec.ofInt 64 (g.addr s k n i), 0⟩ [] D := by
  obtain ⟨fs, acc, hev, hacc, hfirst⟩ := h.evalReads_fails hst hf (fun l j => linkValue t k vl ops links (ops.length + 1) l j) hi hi' (pos := pos)
    hon h5 hscl hfill hn0 hn hlow ha
  obtain ⟨live', -, hstep⟩ := elemStep_dst (a := Step1.start r links live) (h.ref_dst h0) (h.says h0).1.trans hev
  rw [hstep]
  simp only [ROp.value, trapOf_zero]
  exact ⟨congrArg (Option.map EFault.stop) hfirst, List.nil_subset _, hacc⟩

end

/-! ### An element of a reduction -/

/-- What `elemStep` makes of the reads of an operation without a destination in memory. -/
theorem elemStep_reduce {t : State} {k : SlotId} {vl : ℕ} {ops : List ROp} {i : ℕ} {a : Step1} {o : ROp} (hd : o.ref 0 = none) {out : EOut}
    (hout : evalReads t k (fun l j => linkValue t k vl ops a.links (ops.length + 1) l j) vl o i = out) :
    ∃ live, live = (if o.liveAt t k (fun l j => linkValue t k vl ops a.links (ops.length + 1) l j) i then insertNat o.pos a.live else a.live)
      ∧ elemStep t k vl ops i a o = (
        let a' : Step1 := { a with live := live, acc := a.acc ++ out.acc, faults := a.faults ++ out.faults }
        match out.active, out.vals with
        | true, some v =>
          match trapOf (o.computeReduce a.regs v).2 o.v.traps with
          | some (c, sub) => { a' with faults := a'.faults ++ [⟨5, o.pos, 99, ⟨0, c, sub, 9, o.pos, 0, (o.computeReduce a.regs v).2⟩⟩] }
          | none => { a' with regs := (o.computeReduce a.regs v).1, flags := a'.flags ||| (o.computeReduce a.regs v).2 }
        | _, _ => a') := by
  refine ⟨_, rfl, ?_⟩
  unfold elemStep
  simp only [hout, hd] <;> rcases out with ⟨fs, _ | _, _ | vals, x, acc⟩ <;> rfl

section
variable {s t : State} {k : SlotId} {lo up : ℤ} {D : Prop} {g : VecArgs} {v : VOp} {named : Fin 4 → Prop} {b : Fin 4} {vx vl pos : ℕ}
  (h : (s.slot k).operates g v named b) (hst : s.shows t k lo up) (hf : s.feeds k g named b vx vl lo up D) (h0 : ¬named 0) {ops : List ROp}
  {i : ℕ} (hi : 64 * (vx / 64) ≤ i) (hi' : i < vl) (r : Regs) (links : List (ℕ × ℕ × Option ℕ)) (live : List ℕ)
include h hst hf h0 hi hi'

omit hst hf hi hi' in
theorem Slot.operates.ref_dst_none : ((s.slot k).op pos v).ref 0 = none :=
  h.finds.ref_main_none pos (n := 0) (by simpa using mt (h.uses 0).1 h0)

omit h0 in
theorem Slot.operates.liveAt (link : LinkFn) : ((s.slot k).op pos v).liveAt t k link i = g.active s k b i := by
  obtain ⟨e, he, -, -⟩ := h.readMask_eq hst hf link hi hi' (pos := pos)
  rw [ROp.liveAt, he]
  cases g.active s k b i <;> rfl

theorem Slot.operates.elemStep_skips (hon : g.active s k b i = false) :
    (elemStep t k vl ops i (Step1.start r links live) ((s.slot k).op pos v)).passes r [] D := by
  obtain ⟨acc, hev, hdesk⟩ := h.evalReads_inactive hst hf (fun l j => linkValue t k vl ops links (ops.length + 1) l j) hi hi' (pos := pos) hon
    (by rw [h.ref_dst_none h0]; rfl)
  obtain ⟨live', -, hstep⟩ := elemStep_reduce (a := Step1.start r links live) (h.ref_dst_none h0) hev
  rw [hstep]
  exact ⟨rfl, r.orFlags_zero, rfl, hdesk⟩

/-- The sources of an active element of a reduction. -/
abbrev VecArgs.args (g : VecArgs) (s : State) (k : SlotId) (v : VOp) (o : ROp) (vl i : ℕ) : ℕ × ℕ × ℕ :=
  (g.initial s k v o.scalar vl i, g.second s k v o.scalar i, g.source s k v 3 i)

theorem Slot.operates.elemStep_folds (hon : g.active s k b i = true) (hv : ∀ n, n ≠ 0 → named n → g.fits s k v ((s.slot k).op pos v).scalar vl n i)
    {r' : Regs} {fl : FlagSet} (hc : ((s.slot k).op pos v).computeReduce r (g.args s k v ((s.slot k).op pos v) vl i) = (r', fl))
    (hfl : fl &&& v.traps.truncate 6 = 0) :
    (elemStep t k vl ops i (Step1.start r links live) ((s.slot k).op pos v)).passes (r'.orFlags fl) [] D := by
  obtain ⟨acc, hev, hdesk⟩ := h.evalReads_active hst hf (fun l j => linkValue t k vl ops links (ops.length + 1) l j) hi hi' (pos := pos) hon hv
  obtain ⟨live', -, hstep⟩ := elemStep_reduce (a := Step1.start r links live) (h.ref_dst_none h0) hev
  have hc : ((s.slot k).op pos v).computeReduce (Step1.start r links live).regs (g.args s k v ((s.slot k).op pos v) vl i) = (r', fl) := hc
  have htrap : trapOf fl ((s.slot k).op pos v).v.traps = none := trapOf_none hfl
  rw [hstep]
  simp only [hc, htrap]
  exact ⟨rfl, by simp [Step1.start], rfl, hdesk⟩

theorem Slot.operates.elemStep_fold_traps (hon : g.active s k b i = true)
    (hv : ∀ n, n ≠ 0 → named n → g.fits s k v ((s.slot k).op pos v).scalar vl n i)
    {r' : Regs} {fl : FlagSet} (hc : ((s.slot k).op pos v).computeReduce r (g.args s k v ((s.slot k).op pos v) vl i) = (r', fl)) {cause sub : ℕ}
    (htrap : trapCode fl (v.traps.truncate 6) cause sub) :
    (elemStep t k vl ops i (Step1.start r links live) ((s.slot k).op pos v)).stops ⟨0, cause, sub, 9, pos, 0, fl⟩ [pos] D := by
  obtain ⟨acc, hev, hdesk⟩ := h.evalReads_active hst hf (fun l j => linkValue t k vl ops links (ops.length + 1) l j) hi hi' (pos := pos) hon hv
  obtain ⟨live', hlive, hstep⟩ := elemStep_reduce (a := Step1.start r links live) (h.ref_dst_none h0) hev
  have hc : ((s.slot k).op pos v).computeReduce (Step1.start r links live).regs (g.args s k v ((s.slot k).op pos v) vl i) = (r', fl) := hc
  have htrap : trapOf fl ((s.slot k).op pos v).v.traps = some (cause, sub) := trapOf_some htrap
  rw [h.liveAt hst hf hi hi', hon, if_pos rfl] at hlive
  rw [hstep]
  simp only [hc, htrap]
  exact ⟨rfl, by rw [hlive]; exact fun p hp => mem_insertNat.2 (.inl (List.mem_singleton.1 hp)), hdesk⟩

theorem Slot.operates.elemStep_fold_fails (hon : g.active s k b i = true) (h5 : v.vop ≠ 0x05) (hscl : named 2 → v.f.scl ≠ 1)
    (hfill : named 1 → v.vop ≠ 0x02) {n : Fin 4} (hn0 : n ≠ 0) (hn : named n) (hlow : ∀ n' < n, n' ≠ 0 → named n' → g.valid s k n' i) {a : ℤ}
    (ha : s.badByte (g.addr s k n i) (typeBytes (g.main n).ty) = some a) :
    (elemStep t k vl ops i (Step1.start r links live) ((s.slot k).op pos v)).stops
      ⟨0, 8, addrSub (s.classify a), n, pos, BitVec.ofInt 64 (g.addr s k n i), 0⟩ [pos] D := by
  obtain ⟨fs, acc, hev, hacc, hfirst⟩ := h.evalReads_fails hst hf (fun l j => linkValue t k vl ops links (ops.length + 1) l j) hi hi' (pos := pos)
    hon h5 hscl hfill hn0 hn hlow ha
  obtain ⟨live', hlive, hstep⟩ := elemStep_reduce (a := Step1.start r links live) (h.ref_dst_none h0) hev
  rw [h.liveAt hst hf hi hi', hon, if_pos rfl] at hlive
  rw [hstep]
  exact ⟨congrArg (Option.map EFault.stop) hfirst, by rw [hlive]; exact fun p hp => mem_insertNat.2 (.inl (List.mem_singleton.1 hp)), hacc⟩

end

end Sys2Proof.Machine
end

section
/-!
SUPPORT. A run over elements: what it has done when its elements pass, and where it stops (02 R47, R48, R53; 03 R80).
-/

namespace Sys2Proof.Machine

/-! ### The course of a run -/

/-- The registers before each element of a run, and the writes that each element makes. -/
structure Course where
  regs : ℕ → Regs
  writes : ℕ → List EngineWrite

/-- The writes of elements `x` to `j` − 1. -/
def Course.made (c : Course) (x j : ℕ) : List EngineWrite := (List.range' x (j - x)).flatMap c.writes

/-- The state when elements `x` to `j` − 1 have passed. -/
def Course.state (c : Course) (s : State) (k : SlotId) (x j : ℕ) : State := (s.setRegs k (c.regs j)).written k (c.made x j)

theorem Course.made_self (c : Course) (x : ℕ) : c.made x x = [] := by simp [Course.made]

theorem Course.made_succ (c : Course) {x j : ℕ} (h : x ≤ j) : c.made x (j + 1) = c.made x j ++ c.writes j := by
  rw [Course.made, Nat.sub_add_comm h, List.range'_1_concat, List.flatMap_append, Nat.add_sub_cancel' h]
  simp [Course.made]

theorem Course.state_succ (c : Course) (s : State) (k : SlotId) {x j : ℕ} (h : x ≤ j) :
    c.state s k x (j + 1) = ((c.state s k x j).setRegs k (c.regs (j + 1))).written k (c.writes j) := by
  rw [Course.state, c.made_succ h, State.written_append, Course.state, ← State.written_setRegs, State.setRegs_setRegs]

/-- Element `i` of `ops` passes along the course, whatever state still shows the operands. -/
def Course.passes (c : Course) (s : State) (k : SlotId) (lo up : ℤ) (vl : ℕ) (ops : List ROp) (D : Prop) (i : ℕ) : Prop :=
  (∀ w ∈ c.writes i, w.within lo up) ∧ ∀ t links live, s.shows t k lo up →
    (ops.foldl (elemStep t k vl ops i) (Step1.start (c.regs i) links live)).passes (c.regs (i + 1)) (c.writes i) D

/-- Element `i` of `ops` stops the course. -/
def Course.stops (c : Course) (s : State) (k : SlotId) (lo up : ℤ) (vl : ℕ) (ops : List ROp) (D : Prop) (st : VStop) (L : List ℕ) (i : ℕ) : Prop :=
  ∀ t links live, s.shows t k lo up → (ops.foldl (elemStep t k vl ops i) (Step1.start (c.regs i) links live)).stops st L D

/-! ### Runs -/

section
variable {c : Course} {s s₁ : State} {k : SlotId} {lo up : ℤ} {vl x : ℕ} {ops : List ROp} {indexed : Bool} {D : Prop} {st : VStop} {L : List ℕ} {n : ℕ}

/-- The run stands before element `j`, its writes made or held. -/
structure VRun.before (v : VRun) (c : Course) (s s₁ : State) (k : SlotId) (lo up : ℤ) (x : ℕ) (indexed : Bool) (D : Prop) (j : ℕ) : Prop where
  first : x ≤ j
  stop : v.stop = none
  pre : v.pre = []
  held : indexed = false → v.held = []
  within : ∀ w ∈ v.held, EngineWrite.within w lo up
  regs : v.s.regs k = c.regs j
  shows : s.shows v.s k lo up
  state : (c.state s₁ k x j).mended (v.s.written k v.held) k
  desk : D → ∀ w ∈ v.acc, w.desk = true

/-- The run has stopped at element `m`, its writes made or held. -/
structure VRun.stopped (v : VRun) (c : Course) (s₁ : State) (k : SlotId) (x : ℕ) (D : Prop) (st : VStop) (L : List ℕ) (m : ℕ) : Prop where
  stop : v.stop = some { st with at_ := m }
  live : L ⊆ v.live
  state : (c.state s₁ k x m).mended (v.s.written k v.held) k
  desk : D → ∀ w ∈ v.acc, w.desk = true

theorem mem_append_desk {l l' : List Access1} (h : D → ∀ w ∈ l, w.desk = true) (h' : D → ∀ w ∈ l', w.desk = true) :
    D → ∀ w ∈ l ++ l', w.desk = true :=
  fun hd w hw => (List.mem_append.1 hw).elim (h hd w) (h' hd w)

theorem elemRun_pass {v : VRun} {i : ℕ} {snap : State} {a : Step1}
    (ha : ops.foldl (elemStep (if indexed then snap else v.s) k vl ops i) (Step1.start (v.s.regs k) v.links v.live) = a)
    (hpre : v.pre = []) (hfault : a.faults = []) : elemRun k vl ops indexed snap v i =
      if indexed then { v with
        live := a.live
        flags := v.flags ||| a.flags
        s := v.s.setRegs k (a.regs.orFlags a.flags)
        links := a.links
        acc := v.acc ++ a.acc
        held := v.held ++ a.writes }
      else { v with
        live := a.live
        flags := v.flags ||| a.flags
        s := (v.s.setRegs k (a.regs.orFlags a.flags)).applyWrites k v.acc a.acc a.writes
        links := a.links
        acc := v.acc ++ a.acc } := by
  have hnone : firstFault (v.pre ++ a.faults) = none := by rw [hpre, hfault]; rfl
  subst ha
  unfold elemRun
  unfold Step1.start at hnone
  dsimp only
  rw [hnone]
  rfl

theorem elemRun_stop {v : VRun} {i : ℕ} {snap : State} {a : Step1} {f : EFault}
    (ha : ops.foldl (elemStep (if indexed then snap else v.s) k vl ops i) (Step1.start (v.s.regs k) v.links v.live) = a)
    (hpre : v.pre = []) (hfault : firstFault a.faults = some f) : elemRun k vl ops indexed snap v i =
      { v with live := a.live, acc := v.acc ++ a.acc.filter (fun w => !w.write), stop := some { f.stop with at_ := i } } := by
  have hsome : firstFault (v.pre ++ a.faults) = some f := by rw [hpre]; exact hfault
  subst ha
  unfold elemRun
  unfold Step1.start at hsome
  dsimp only
  rw [hsome]
  rfl

theorem State.written_regs (s : State) (k : SlotId) (ws : List EngineWrite) : (s.written k ws).regs k = s.regs k := by
  induction ws generalizing s with
  | nil => rfl
  | cons w ws ih => exact (ih _).trans (s.applyWrite_maps k w).2.2.2.1

theorem VRun.before.elemRun_passes {v : VRun} {i : ℕ} (h : v.before c s s₁ k lo up x indexed D i) (hp : c.passes s k lo up vl ops D i) {snap : State}
    (hsnap : s.shows snap k lo up) : (elemRun k vl ops indexed snap v i).before c s s₁ k lo up x indexed D (i + 1) := by
  obtain ⟨hwithin, hp⟩ := hp
  have hp := hp (if indexed then snap else v.s) v.links v.live (by split_ifs; exacts [hsnap, h.shows])
  rw [← h.regs] at hp
  generalize ha : ops.foldl (elemStep (if indexed then snap else v.s) k vl ops i) (Step1.start (v.s.regs k) v.links v.live) = a at hp
  obtain ⟨hfault, hregs, hwrites, hdesk⟩ := hp
  have hstate : (c.state s₁ k x (i + 1)).mended (((v.s.written k v.held).setRegs k (c.regs (i + 1))).written k (c.writes i)) k := by
    rw [c.state_succ s₁ k h.first]
    exact (h.state.setRegs _).written _
  rw [elemRun_pass ha h.pre hfault, hregs, hwrites]
  rcases hi : indexed with _ | _
  · have hheld := h.held hi
    rw [hheld] at hstate
    have hmend := State.mended_applyWrites (v.s.setRegs k (c.regs (i + 1))) k v.acc a.acc (c.writes i)
    refine ⟨Nat.le_succ_of_le h.first, h.stop, h.pre, fun _ => hheld, h.within, ?_, ((h.shows.setRegs _).written hwithin).mended hmend, ?_,
      mem_append_desk h.desk hdesk⟩
    · exact hmend.regs.trans ((State.written_regs _ k _).trans (State.setRegs_regs ..))
    · refine hstate.trans ?_
      rw [if_neg Bool.false_ne_true, hheld]
      exact hmend
  · refine ⟨Nat.le_succ_of_le h.first, h.stop, h.pre, fun e => by simp at e,
      fun w hw => (List.mem_append.1 hw).elim (h.within w) (hwithin w), State.setRegs_regs .., h.shows.setRegs _, ?_,
      mem_append_desk h.desk hdesk⟩
    rw [if_pos rfl, State.written_append, State.written_setRegs]
    exact hstate

theorem VRun.before.elemRun_stops {v : VRun} {i : ℕ} (h : v.before c s s₁ k lo up x indexed D i) (hp : c.stops s k lo up vl ops D st L i) {snap : State}
    (hsnap : s.shows snap k lo up) : (elemRun k vl ops indexed snap v i).stopped c s₁ k x D st L i := by
  have hp := hp (if indexed then snap else v.s) v.links v.live (by split_ifs; exacts [hsnap, h.shows])
  rw [← h.regs] at hp
  generalize ha : ops.foldl (elemStep (if indexed then snap else v.s) k vl ops i) (Step1.start (v.s.regs k) v.links v.live) = a at hp
  obtain ⟨hfault, hlive, hdesk⟩ := hp
  obtain ⟨f, hf, rfl⟩ := Option.map_eq_some_iff.1 hfault
  rw [elemRun_stop ha h.pre hf]
  exact ⟨rfl, hlive, h.state, mem_append_desk h.desk fun hd w hw => hdesk hd w (List.mem_filter.1 hw).1⟩

theorem elemRun_pre (snap : State) (v : VRun) (i : ℕ) : (elemRun k vl ops indexed snap v i).pre = v.pre := by
  unfold elemRun
  dsimp only
  rcases firstFault _ with _ | f
  · cases indexed <;> rfl
  · rfl

theorem elemsRun_succ {v : VRun} (hpre : v.pre = []) (snap : State) (n i : ℕ) : elemsRun k vl ops indexed snap (n + 1) i v =
    if (elemRun k vl ops indexed snap v i).stop.isSome then elemRun k vl ops indexed snap v i
    else elemsRun k vl ops indexed snap n (i + 1) (elemRun k vl ops indexed snap v i) := by
  have h : ({ elemRun k vl ops indexed snap v i with pre := [] } : VRun) = elemRun k vl ops indexed snap v i := by
    rw [← hpre, ← elemRun_pre snap v i]
  rw [elemsRun, h]

/-- Elements of one group that all pass. -/
theorem VRun.before.elemsRun_passes {snap : State} (hsnap : s.shows snap k lo up) : ∀ (n i : ℕ) {v : VRun}, v.before c s s₁ k lo up x indexed D i →
    (∀ j, i ≤ j → j < i + n → c.passes s k lo up vl ops D j) → (elemsRun k vl ops indexed snap n i v).before c s s₁ k lo up x indexed D (i + n)
  | 0, _, _, h, _ => h
  | n + 1, i, v, h, hp => by
    have h1 := h.elemRun_passes (hp i (by omega) (by omega)) hsnap
    rw [elemsRun_succ h.pre, h1.stop]
    have := h1.elemsRun_passes hsnap n (i + 1) fun j h1 h2 => hp j (by omega) (by omega)
    rwa [show i + 1 + n = i + (n + 1) by omega] at this

/-- Elements of one group, of which one stops the run. -/
theorem VRun.before.elemsRun_stops {snap : State} (hsnap : s.shows snap k lo up) {m : ℕ} (hm : c.stops s k lo up vl ops D st L m) :
    ∀ (n i : ℕ) {v : VRun}, v.before c s s₁ k lo up x indexed D i → i ≤ m → m < i + n → (∀ j, i ≤ j → j < m → c.passes s k lo up vl ops D j) →
      (elemsRun k vl ops indexed snap n i v).stopped c s₁ k x D st L m
  | 0, _, _, _, h1, h2, _ => by omega
  | n + 1, i, v, h, h1, h2, hp => by
    rw [elemsRun_succ h.pre]
    rcases h1.eq_or_lt with rfl | hlt
    · have hs := h.elemRun_stops hm hsnap
      rw [hs.stop]
      exact hs
    · have h1 := h.elemRun_passes (hp i le_rfl hlt) hsnap
      rw [h1.stop]
      exact h1.elemsRun_stops hsnap hm n (i + 1) (by omega) (by omega) fun j h1 h2 => hp j (by omega) h2

/-! ### Groups of elements -/

/-- Links below the first element of a group matter only to an entry that writes links and starts within a group. -/
theorem linksBelow_none (h : (∀ o ∈ ops, o.writesLink = none) ∨ n = 0) (i : ℕ) (v : VRun) : linksBelow k vl ops n i v = v := by
  induction n generalizing i v with
  | zero => rfl
  | succ n ih =>
    have h := h.resolve_right n.succ_ne_zero
    have hfold : ∀ (l : List ROp) (f : VRun → ROp → VRun), (∀ o ∈ l, ∀ v, f v o = v) → ∀ v, l.foldl f v = v := by
      intro l f hf
      induction l with
      | nil => exact fun _ => rfl
      | cons o l ihl =>
        intro v
        rw [List.foldl_cons, hf o (by simp)]
        exact ihl (fun o' ho' => hf o' (by simp [ho'])) v
    unfold linksBelow
    dsimp only
    rw [hfold ops _ fun o ho v => by rw [h o ho]]
    exact ih (.inl h) (i + 1) v

/-- A run that has come to element `m` of a run to `lim`: to its end, or to the stop there. -/
structure VRun.reached (v : VRun) (c : Course) (s₁ : State) (k : SlotId) (x lim : ℕ) (D : Prop) (st : VStop) (L : List ℕ) (m : ℕ) : Prop where
  stop : v.stop = if m = lim then none else some { st with at_ := m }
  live : m ≠ lim → L ⊆ v.live
  state : (c.state s₁ k x m).mended v.s k
  desk : D → ∀ w ∈ v.acc, w.desk = true

/-- The writes that a group has held are made at its end (02 R48). -/
def VRun.closed (v : VRun) (k : SlotId) : VRun := { v with s := v.s.applyWrites k [] v.acc v.held, held := [] }

theorem VRun.before.closed {v : VRun} {j : ℕ} (h : v.before c s s₁ k lo up x indexed D j) : (v.closed k).before c s s₁ k lo up x false D j := by
  have hmend := State.mended_applyWrites v.s k [] v.acc v.held
  exact ⟨h.first, h.stop, h.pre, fun _ => rfl, by simp [VRun.closed], hmend.regs.trans ((State.written_regs _ k _).trans h.regs),
    (h.shows.written h.within).mended hmend, h.state.trans hmend, h.desk⟩

theorem VRun.stopped.closed {v : VRun} {m lim : ℕ} (h : v.stopped c s₁ k x D st L m) (hm : m ≠ lim) :
    (v.closed k).reached c s₁ k x lim D st L m :=
  ⟨by rw [if_neg hm]; exact h.stop, fun _ => h.live, h.state.trans (State.mended_applyWrites v.s k [] v.acc v.held), h.desk⟩

/-- One group of a run. -/
theorem VRun.before.group {lim g : ℕ} {v : VRun} (hbelow : (∀ o ∈ ops, o.writesLink = none) ∨ x = 0) {j : ℕ} (h : v.before c s s₁ k lo up x false D j)
    (n : ℕ) : ∃ v₀ : VRun, v₀.before c s s₁ k lo up x indexed D j ∧ groupsRun k x vl lim ops indexed (n + 1) g v =
      (let w := (elemsRun k vl ops indexed v₀.s (min lim (64 * g + 64) - max x (64 * g)) (max x (64 * g)) v₀).closed k
       if w.stop.isSome then w else groupsRun k x vl lim ops indexed n (g + 1) w) := by
  have hbelow' : (∀ o ∈ ops, o.writesLink = none) ∨ max x (64 * g) - 64 * g = 0 := hbelow.imp_right fun h => by omega
  have hheld := h.held rfl
  have hb : ∀ l, ({ v with links := [], held := [], pre := [], live := l } : VRun).before c s s₁ k lo up x indexed D j := fun l =>
    ⟨h.first, h.stop, rfl, fun _ => rfl, by simp, h.regs, h.shows, by have := h.state; rwa [hheld] at this, h.desk⟩
  rw [groupsRun]
  dsimp only
  rw [linksBelow_none hbelow']
  rcases indexed with _ | _
  · simp only [Bool.false_eq_true, if_false]
    exact ⟨{ v with links := [], held := [], pre := [], live := v.live }, hb v.live, rfl⟩
  · simp only [if_true]
    exact ⟨{ v with
        links := []
        held := []
        pre := []
        live := (v.s.liveOps k vl ops (max x (64 * g)) (min vl (64 * g + 64))).foldl (fun l p => insertNat p l) v.live }, hb _, rfl⟩

theorem VRun.before.groupsRun {lim m : ℕ} (hbelow : (∀ o ∈ ops, o.writesLink = none) ∨ x = 0) (hm : m ≤ lim)
    (hp : ∀ j, x ≤ j → j < m → c.passes s k lo up vl ops D j) (hs : m < lim → c.stops s k lo up vl ops D st L m) :
    ∀ (n g : ℕ) {v : VRun}, v.before c s s₁ k lo up x false D (min lim (max x (64 * g))) → min lim (max x (64 * g)) ≤ m → x < 64 * g + 64 →
      n = (lim + 63) / 64 - g → (Machine.groupsRun k x vl lim ops indexed n g v).reached c s₁ k x lim D st L m
  | 0, g, v, h, h1, h2, hn => by
    have hlim : m = lim := by omega
    have hheld := h.held rfl
    have hstate := h.state
    rw [hheld] at hstate
    rw [show min lim (max x (64 * g)) = m by omega] at hstate
    exact ⟨by rw [if_pos hlim]; exact h.stop, fun e => absurd hlim e, hstate, h.desk⟩
  | n + 1, g, v, h, h1, h2, hn => by
    obtain ⟨v₀, hv₀, hgroup⟩ := h.group (vl := vl) (ops := ops) (indexed := indexed) (lim := lim) (g := g) hbelow n
    rw [hgroup]
    dsimp only
    rcases Nat.lt_or_ge lim x with hx | hx
    · have := h.first
      omega
    rw [show min lim (max x (64 * g)) = max x (64 * g) by omega] at hv₀ h1
    by_cases hin : m < min lim (64 * g + 64)
    · have hw := (hv₀.elemsRun_stops hv₀.shows (hs (by omega)) (min lim (64 * g + 64) - max x (64 * g)) _ h1 (by omega)
        fun j hj hj' => hp j (by omega) hj').closed (lim := lim) (by omega)
      rw [hw.stop.trans (if_neg (by omega))]
      exact hw
    · have hw := (hv₀.elemsRun_passes hv₀.shows (min lim (64 * g + 64) - max x (64 * g)) _ fun j hj hj' => hp j (by omega) (by omega)).closed
      rw [show max x (64 * g) + (min lim (64 * g + 64) - max x (64 * g)) = min lim (max x (64 * (g + 1))) by omega] at hw
      rw [hw.stop]
      exact hw.groupsRun hbelow hm hp hs n (g + 1) (by omega) (by omega) (by omega)

/-- A run over the elements below `lim`, of which those before `m` pass. -/
theorem runElements_reached {e : VEntry} {lim m : ℕ} (hx : e.vx.toNat ≤ m) (hm : m ≤ lim)
    (hbelow : (∀ o ∈ ops, o.writesLink = none) ∨ e.vx.toNat = 0) (hs : s.shows s₁ k lo up) (hregs : s₁.regs k = c.regs e.vx.toNat)
    (hp : ∀ j, e.vx.toNat ≤ j → j < m → c.passes s k lo up e.vl.toNat ops D j) (hstop : m < lim → c.stops s k lo up e.vl.toNat ops D st L m) :
    (s₁.runElements k e ops lim).reached c s₁ k e.vx.toNat lim D st L m := by
  have hinit : (⟨s₁, [], [], none, [], [], 0, []⟩ : VRun).before c s s₁ k lo up e.vx.toNat false D e.vx.toNat := by
    refine ⟨le_rfl, rfl, rfl, fun _ => rfl, by simp, hregs, hs, ?_, by simp⟩
    rw [Course.state, Course.made_self, ← hregs]
    have : s₁.setRegs k (s₁.regs k) = s₁ := (State.modSlot_congr (g := id) rfl).trans (State.modSlot_id s₁ k)
    rw [this]
    exact .refl _ k
  unfold State.runElements
  dsimp only
  split_ifs with hlt
  · refine VRun.before.groupsRun hbelow hm hp hstop _ _ ?_ ?_ ?_ rfl
    · rw [show min lim (max e.vx.toNat (64 * (e.vx.toNat / 64))) = e.vx.toNat by omega]; exact hinit
    all_goals omega
  · obtain rfl : m = e.vx.toNat := by omega
    refine ⟨by rw [if_pos (by omega)]; rfl, fun hne => absurd (by omega) hne, hinit.state, hinit.desk⟩

end

end Sys2Proof.Machine
end

section
/-!
SUPPORT. What an entry settles when its elements are over, and how it ends: counts and errors touch no byte, no register and no queue (02 R46, R53, R57).
-/

namespace Sys2Proof.Machine

/-! ### Counts and errors of an entry -/

theorem State.agrees.clearLocalResv (s : State) (b : ℕ) : s.agrees (s.clearLocalResv b) := by
  unfold State.clearLocalResv
  split_ifs
  · exact .of_map rfl (fun x => by split_ifs <;> exact ⟨rfl, rfl, rfl⟩) rfl rfl rfl rfl
  · exact .refl s

theorem State.agrees.writeBlockState (s : State) (b : ℕ) (whole : Bool) : s.agrees (s.writeBlockState b whole) := by
  have hmem (t : State) (m : LocalMem) (h : m.mem = t.mem.mem) : t.agrees { t with mem := m } := .of_slots rfl h rfl rfl rfl
  have h0 : s.agrees { s.clearLocalResv b with mem := s.mem.dropWriteBack b } :=
    (State.agrees.clearLocalResv s b).trans (hmem _ _ (State.agrees.clearLocalResv s b).mem.symm)
  have h1 (t : State) : t.agrees (if (t.lastFailed b).isSome then t.deliverFailure b else t) := by
    split_ifs
    exacts [.deliverFailure t b, .refl t]
  have h2 (u : State) (failed : Bool) : u.agrees (if u.ports[(u.homeOf b).1].gone then
        ({ u with mem := { u.mem with bad := insertNat b u.mem.bad, soft := u.mem.soft.erase b } }).notePoisonedWrite b
      else if whole then { u with mem := { u.mem with bad := u.mem.bad.erase b, soft := u.mem.soft.erase b } }
      else if failed then { u with mem := { u.mem with bad := insertNat b u.mem.bad, soft := u.mem.soft.erase b } }
      else if u.mem.bad.contains b then u.noteUncorrectable b
      else if u.mem.soft.contains b then ({ u with mem := { u.mem with soft := u.mem.soft.erase b } }).noteCorrected b
      else u) := by
    split_ifs
    · exact (hmem u { u.mem with bad := insertNat b u.mem.bad, soft := u.mem.soft.erase b } rfl).trans (.notePoisonedWrite _ b)
    · exact hmem u _ rfl
    · exact hmem u _ rfl
    · exact .noteUncorrectable u b
    · exact (hmem u { u.mem with soft := u.mem.soft.erase b } rfl).trans (.noteCorrected _ b)
    · exact .refl u
  exact h0.trans ((h1 _).trans (h2 _ _))

/-- Only slot `k` and what lies outside memory may differ. -/
structure State.confined (s t : State) (k : SlotId) : Prop where
  mem : t.mem = s.mem
  others : ∀ j, j ≠ k → t.slot j = s.slot j

section
variable {s t u : State} {k : SlotId}

theorem State.confined.refl (s : State) (k : SlotId) : s.confined s k := ⟨rfl, fun _ _ => rfl⟩

theorem State.confined.trans (h : s.confined t k) (h' : t.confined u k) : s.confined u k :=
  ⟨h'.mem.trans h.mem, fun j hj => (h'.others j hj).trans (h.others j hj)⟩

theorem State.confined.modSlot (s : State) (k : SlotId) (f : Slot → Slot) : s.confined (s.modSlot k f) k :=
  ⟨rfl, fun _ hj => State.modSlot_slot_other _ _ _ _ hj⟩

theorem State.confined.meterStream (s : State) (k : SlotId) (n : ℕ) : s.confined (s.meterStream k n) k := by
  unfold State.meterStream; split <;> exact ⟨rfl, fun _ _ => rfl⟩

theorem State.confined.meterOnlyStream (s : State) (k : SlotId) (n : ℕ) : s.confined (s.meterOnlyStream k n) k := by
  unfold State.meterOnlyStream; split <;> exact ⟨rfl, fun _ _ => rfl⟩

theorem State.confined.foldl {α : Type} {f : State → α → State} (l : List α) (hf : ∀ (s : State) a, a ∈ l → s.confined (f s a) k) (s : State) :
    s.confined (l.foldl f s) k := by
  induction l generalizing s with
  | nil => exact .refl s k
  | cons a l ih => exact (hf s a (by simp)).trans (ih (fun s a ha => hf s a (by simp [ha])) _)

theorem filter_local {l : List Access1} (h : ∀ w ∈ l, w.desk = true) : (l.filter fun w => !w.desk) = [] :=
  List.filter_eq_nil_iff.2 fun w hw => by simp [h w hw]

/-- Reads of the desk count in its own slot alone. -/
theorem State.settleReads_desk (s : State) (k : SlotId) {rs : List Access1} (h : ∀ w ∈ rs, w.desk = true) : ∃ f : Slot → Slot, s.settleReads k rs = s.modSlot k f
    ∧ (f (s.slot k)).desk.bad = (s.slot k).desk.bad := by
  have hl : ((rs.filter fun w => w.err).filter fun w => !w.desk) = [] := filter_local fun w hw => h w (List.mem_filter.1 hw).1
  unfold State.settleReads
  dsimp only
  rw [hl]
  exact ⟨_, rfl, rfl⟩

/-- The effect of written words on a desk. -/
theorem State.agrees.settleWrites (s : State) (k : SlotId) (ws : List Access1) : s.agrees (s.settleWrites k ws) := by
  unfold State.settleWrites
  refine State.agrees.foldl (fun s key => ?_) _ s
  dsimp only
  refine State.agrees.trans (State.agrees.foldl (fun s b => .writeBlockState s b _) _ s) (State.agrees.foldl (fun s w => ?_) _ _)
  refine State.agrees.modSlot k ?_ ?_ ?_ <;> unfold Slot.clearDeskResv <;> dsimp only <;> split_ifs <;> split <;> (try split_ifs) <;> rfl

theorem State.confined.settleWrites (s : State) (k : SlotId) {ws : List Access1} (h : ∀ w ∈ ws, w.desk = true) : s.confined (s.settleWrites k ws) k := by
  unfold State.settleWrites
  refine State.confined.foldl _ (fun s key _ => ?_) s
  dsimp only
  rw [filter_local fun w hw => h w (List.mem_filter.1 hw).1]
  exact State.confined.foldl _ (fun s w _ => .modSlot s k _) _

end

/-! ### The end of an entry -/

/-- What an entry counts and takes when its elements are over (05 R154, R166; 06 R196; 08 R269). -/
def State.accounted (s : State) (k : SlotId) (fresh ws : List Access1) (a b : ℕ) (idle : ℕ) (fl : FlagSet) : State :=
  ((((s.settleReads k fresh).settleWrites k ws).meterStream k a).meterOnlyStream k b).modSlot k fun x => (if idle = 0 then x else x.progress).keepFlags fl

theorem State.agrees.accounted (s : State) (k : SlotId) (fresh ws : List Access1) (a b : ℕ) (idle : ℕ) (fl : FlagSet) :
    s.agrees (s.accounted k fresh ws a b idle fl) := by
  refine (State.agrees.settleReads s k fresh).trans <| (State.agrees.settleWrites _ k ws).trans <| (State.agrees.meterStream _ k a).trans <|
    (State.agrees.meterOnlyStream _ k b).trans (State.agrees.modSlot k ?_ ?_ ?_)
  all_goals
    rw [Slot.progress_eq]
    split_ifs <;> rfl

theorem State.confined.accounted (s : State) (k : SlotId) {fresh ws : List Access1} (hf : ∀ w ∈ fresh, w.desk = true) (hw : ∀ w ∈ ws, w.desk = true)
    (a b : ℕ) (idle : ℕ) (fl : FlagSet) : s.confined (s.accounted k fresh ws a b idle fl) k := by
  obtain ⟨f, hf, -⟩ := s.settleReads_desk k hf
  unfold State.accounted
  rw [hf]
  exact (State.confined.modSlot s k f).trans <| (State.confined.settleWrites _ k hw).trans <| (State.confined.meterStream _ k a).trans <|
    (State.confined.meterOnlyStream _ k b).trans (.modSlot _ k _)

/-- The registers of a reduction that stops: the upper word of a binary32 target is cleared unless no element was active (04 R101). -/
def Regs.halted (r : Regs) (ops : List ROp) (inactive : List Bool) : Regs := (ops.zip inactive).foldl (fun r o => if o.2 then r else o.1.clearUpper r) r

/-- How an entry whose checks pass ends: stopped at an element, suspended at `stopAt`, or over. -/
theorem runEntry_ends {s s₁ : State} {k : SlotId} {e : VEntry} {lim : Option ℕ} {ops : List ROp} (hops : resolve (s.slot k) e.ops = ops)
    (hs₁ : s.noteDescriptors k (meterFresh (s.descriptorReads k ops) (s.keptReads k e)) = s₁)
    (hcheck : checkEntry (s.slot k) e.group ops e.vx.toNat e.vl.toNat = none) {stopAt : ℕ} (hlim : (lim.map fun l => min l e.vl.toNat).getD e.vl.toNat = stopAt)
    {v : VRun} (hv : (if stopAt < e.vl.toNat then s₁.runSuspended k e ops stopAt else s₁.runElements k e ops stopAt) = v)
    (hw : (s₁.weightless k && v.acc.any fun w => !w.desk) = false) :
    ∃ (fresh ws : List Access1) (a b : ℕ) (idle : ℕ) (inactive : List Bool),
      (∀ w ∈ fresh, w ∈ v.acc) ∧ (∀ w ∈ ws, w ∈ v.acc)
      ∧ (∃ next, inactive = ops.map fun o => o.allInactive v k ops next e.vl.toNat)
      ∧ s.runEntry k e lim = (
        let t := (v.s.errorsOf s₁ k).accounted k fresh ws a b idle v.flags
        let h := t.setRegs k ((t.regs k).halted ops inactive)
        match v.stop with
        | some st => h.engineStop k e st (BitVec.ofNat 32 st.at_)
        | none => if stopAt < e.vl.toNat then h.engineStop k e suspendedStop (BitVec.ofNat 32 stopAt) else t.modSlot k Slot.nextEntry) := by
  unfold State.runEntry
  dsimp only
  rw [hops, hs₁, hcheck]
  subst hlim
  rcases lim with _ | l
  all_goals
    dsimp only [Option.map_some, Option.map_none, Option.getD_some, Option.getD_none] at hv ⊢
    rw [hv, hw]
    simp only [Bool.false_eq_true, if_false]
    refine ⟨_, _, _, _, _, _, ?_, ?_, ⟨_, rfl⟩, rfl⟩
  all_goals exact fun w hw => (List.mem_filter.1 hw).1

/-! ### What the descriptors count -/

theorem State.weightless_congr {s t : State} {k : SlotId} (hr : t.repair = s.repair) (ht : t.tt = s.tt) : t.weightless k = s.weightless k := by
  rw [State.weightless, State.streamOf_congr hr, ht]; rfl

theorem State.weightless_meterStream (s : State) (k : SlotId) (n : ℕ) : (s.meterStream k n).weightless k = s.weightless k := by
  have hr : (s.meterStream k n).repair = s.repair := (State.agrees.meterStream s k n).repair
  unfold State.weightless
  rw [State.streamOf_congr hr]
  rcases hs : s.streamOf k with _ | i
  · rfl
  · unfold State.meterStream
    rw [hs]
    have hset (c : ClientState) : (s.tt.streams.set i c)[i] = c := by simp
    simp only [hset]
    unfold ClientState.meter
    rcases hrun : s.tt.streams[i].run with _ | r
    · simp only [hrun]
    · rfl

/-- Descriptor reads count in the desk, and change nothing that the elements depend on. -/
structure State.opens (s t : State) (k : SlotId) : Prop where
  agrees : s.agrees t
  confined : s.confined t k
  ports : t.ports = s.ports
  deskBad : (t.slot k).desk.bad = (s.slot k).desk.bad
  weightless : t.weightless k = s.weightless k

theorem State.opens.trans {s t u : State} {k : SlotId} (h : s.opens t k) (h' : t.opens u k) : s.opens u k :=
  ⟨h.agrees.trans h'.agrees, h.confined.trans h'.confined, h'.ports.trans h.ports, h'.deskBad.trans h.deskBad, h'.weightless.trans h.weightless⟩

theorem State.opens_noteDescriptors (s : State) (k : SlotId) {ds : List Access1} (h : ∀ w ∈ ds, w.desk = true) : s.opens (s.noteDescriptors k ds) k := by
  have hone (t : State) {d : Access1} (hd : d.desk = true) : t.opens (t.settleReads k [d]) k := by
    have hagrees := State.agrees.settleReads t k [d]
    obtain ⟨f, hf, hbad⟩ := t.settleReads_desk k (rs := [d]) (by simpa using hd)
    rw [hf] at hagrees ⊢
    exact ⟨hagrees, .modSlot t k f, rfl, by rw [State.modSlot_slot_same, hbad], State.weightless_congr hagrees.repair rfl⟩
  have hall (l : List Access1) (hl : ∀ w ∈ l, w.desk = true) (t : State) : t.opens (l.foldl (fun s d => s.settleReads k [d]) t) k := by
    induction l generalizing t with
    | nil => exact ⟨.refl t, .refl t k, rfl, rfl, rfl⟩
    | cons d l ih => exact (hone t (hl d (by simp))).trans (ih (fun w hw => hl w (by simp [hw])) _)
  have hmeter (t : State) (n : ℕ) : t.opens (t.meterStream k n) k := by
    refine ⟨.meterStream t k n, .meterStream t k n, ?_, ?_, State.weightless_meterStream t k n⟩
    all_goals unfold State.meterStream; split <;> rfl
  exact (hall ds h s).trans (hmeter _ _)

theorem meterFresh_subset : ∀ (l kept : List Access1), meterFresh l kept ⊆ l
  | [], _ => List.nil_subset _
  | w :: l, kept => by
    unfold meterFresh
    split
    · exact fun x hx => List.mem_cons_of_mem _ (meterFresh_subset l _ hx)
    · exact List.cons_subset_cons _ (meterFresh_subset l _)

/-- The state in which the elements of an entry start. -/
theorem State.opens_entry (s : State) (k : SlotId) (e : VEntry) (ops : List ROp) :
    s.opens (s.noteDescriptors k (meterFresh (s.descriptorReads k ops) (s.keptReads k e))) k := by
  refine s.opens_noteDescriptors k fun w hw => ?_
  have hw := meterFresh_subset _ _ hw
  unfold State.descriptorReads at hw
  obtain ⟨r, -, hr⟩ := List.mem_filterMap.1 hw
  obtain ⟨o, -, rfl⟩ := Option.map_eq_some_iff.1 hr
  rfl

theorem State.opens.shows {s t : State} {k : SlotId} (h : s.opens t k) (hf : s.inForm k) (lo up : ℤ) : s.shows t k lo up := by
  refine ⟨h.agrees.repair, h.ports, by rw [h.confined.mem], by rw [h.confined.mem]; exact List.Subset.refl _,
    by rw [h.deskBad]; exact List.Subset.refl _, State.inForm_congr (s := s) h.agrees.mem (h.agrees.desk k) hf, fun a _ => ?_⟩
  unfold State.byteAt
  rw [h.agrees.desk, h.agrees.mem]

/-! ### The engine when an entry has ended -/

/-- `t` has the bytes of `s` (02 R53, R57: a stop writes none). -/
structure State.sameMemories (s t : State) : Prop where
  mem : t.mem.mem = s.mem.mem
  desk : ∀ j, (t.slot j).desk.mem = (s.slot j).desk.mem
  sqMem : t.host.sqMem = s.host.sqMem
  dbg : t.dbg = s.dbg

theorem State.agrees.sameMemories {s t : State} (h : s.agrees t) : s.sameMemories t := ⟨h.mem, h.desk, h.sqMem, h.dbg⟩

theorem State.sameMemories.trans {s t u : State} (h : s.sameMemories t) (h' : t.sameMemories u) : s.sameMemories u :=
  ⟨h'.mem.trans h.mem, fun j => (h'.desk j).trans (h.desk j), h'.sqMem.trans h.sqMem, h'.dbg.trans h.dbg⟩

theorem State.sameMemories.modSlot (s : State) (k : SlotId) {f : Slot → Slot} (hf : (f (s.slot k)).desk.mem = (s.slot k).desk.mem) :
    s.sameMemories (s.modSlot k f) := by
  refine ⟨rfl, fun j => ?_, rfl, rfl⟩
  by_cases e : j = k
  · rw [e, State.modSlot_slot_same, hf]
  · rw [State.modSlot_slot_other _ _ _ _ e]

theorem State.sameMemories.sameBytes {s t : State} (h : s.sameMemories t) : s.sameBytes t :=
  ⟨fun a => by rw [h.mem], fun k a => by rw [h.desk], fun a => by rw [h.sqMem], fun i a => by rw [h.dbg]⟩

theorem State.sameMemories.byteAt {s t : State} (h : s.sameMemories t) (k : SlotId) (a : ℕ) : t.byteAt k a = s.byteAt k a := by
  unfold State.byteAt
  rw [h.desk, h.mem]

/-- The engine of slot `k` has stopped as `st` says, with `vx` in VX. -/
structure State.halts (s t : State) (k : SlotId) (e : VEntry) (st : VStop) (vx : Word32) : Prop where
  memories : s.sameMemories t
  regs : t.regs k = { s.regs k with vx := vx }
  queue : (t.slot k).eng.queue = (s.slot k).eng.queue
  stopped : (t.slot k).eng.stopped = true
  suspend : (t.slot k).eng.suspend = false
  cause : (t.slot k).eng.cause = ⟨true, BitVec.ofNat 4 st.opnd, BitVec.ofNat 4 st.gop, BitVec.ofNat 8 st.cause, BitVec.ofNat 8 st.sub⟩
  vfaddr : (t.slot k).eng.vfaddr = st.addr
  veflags : (t.slot k).eng.veflags = st.flags
  vfvl : (t.slot k).eng.vfvl = e.vl

theorem State.halts_engineStop (s : State) (k : SlotId) (e : VEntry) (st : VStop) (vx : Word32) : s.halts (s.engineStop k e st vx) k e st vx := by
  unfold State.engineStop
  dsimp only
  have h := State.agrees.raiseStream (s.modSlot k fun x => { x with
    regs := { x.regs with vx := vx }
    parity := x.parity.erase 0x43
    eng := { x.eng with
      stopped := true
      suspend := false
      cause := ⟨true, BitVec.ofNat 4 st.opnd, BitVec.ofNat 4 st.gop, BitVec.ofNat 8 st.cause, BitVec.ofNat 8 st.sub⟩
      vfaddr := st.addr
      vfinsn := (e.ops[st.gop]?.map VOp.word).getD 0
      vfvl := e.vl
      veflags := st.flags
      raDropped := x.eng.raDropped.add x.eng.raHeld
      raHeld := 0
      raLines := 0
      raFront := 0
      raFrontLines := 0 } }) k 0
  have heng := h.eng k
  rw [State.modSlot_slot_same] at heng
  refine ⟨(State.sameMemories.modSlot s k rfl).trans h.sameMemories, (h.regs k).trans ?_, ?_, ?_, ?_, ?_, ?_, ?_, ?_⟩
  · rw [State.modSlot_slot_same]; rfl
  all_goals rw [heng]

/-- An entry that is over leaves the queue, with VX 0. -/
theorem State.over_nextEntry (s : State) (k : SlotId) : s.sameMemories (s.modSlot k Slot.nextEntry)
    ∧ ((s.modSlot k Slot.nextEntry).slot k).eng.queue = (s.slot k).eng.queue.drop 1
    ∧ ((s.modSlot k Slot.nextEntry).slot k).eng.stopped = (s.slot k).eng.stopped
    ∧ (s.modSlot k Slot.nextEntry).regs k = { s.regs k with vx := 0 } := by
  refine ⟨.modSlot s k rfl, ?_, ?_, ?_⟩
  · rw [State.modSlot_slot_same]; rfl
  · rw [State.modSlot_slot_same]; rfl
  · rw [State.regs, State.modSlot_slot_same]; rfl

end Sys2Proof.Machine
end

section
/-!
SUPPORT. An entry along a course: what VECTOR_ENTRY_EXECUTE leaves when all elements pass, and when one of them stops it.
-/

namespace Sys2Proof.Machine

/-! ### Entries -/

/-- The state after a course has the engines, the errors and, where it writes only to the desk, all else as before. -/
theorem Course.state_eng (c : Course) (s : State) (k : SlotId) (x j : ℕ) : ((c.state s k x j).slot k).eng = (s.slot k).eng := by
  have hraw (t : State) (a : ℕ) (bs : List Byte) : ((t.rawWrite k a bs).slot k).eng = (t.slot k).eng := by
    unfold State.rawWrite
    split_ifs
    · rw [State.modSlot_slot_same]
    · rfl
  have hone (t : State) (w : EngineWrite) : ((t.applyWrite k w).slot k).eng = (t.slot k).eng := by
    obtain ⟨a, bs | ⟨n, b⟩⟩ := w
    · exact hraw t a bs
    · rw [State.applyWrite_bit]; exact hraw t a _
  have hall (ws : List EngineWrite) (t : State) : ((t.written k ws).slot k).eng = (t.slot k).eng := by
    induction ws generalizing t with
    | nil => rfl
    | cons w ws ih => exact (ih _).trans (hone t w)
  rw [Course.state, hall, State.setRegs_slot_same]

theorem Course.state_regs (c : Course) (s : State) (k : SlotId) (x j : ℕ) : (c.state s k x j).regs k = c.regs j := by
  rw [Course.state, State.written_regs, State.setRegs_regs]

theorem Course.state_errors (c : Course) (s : State) (k : SlotId) (x j : ℕ) : (c.state s k x j).errors k = s.errors k := by
  rw [Course.state, State.errors_written, State.errors_setRegs]

theorem State.confined.written {s : State} {k : SlotId} {ws : List EngineWrite} (h : ∀ w ∈ ws, deskBase ≤ w.1) : s.confined (s.written k ws) k :=
  State.confined.foldl ws (fun s w hw => ⟨s.applyWrite_mem k (h w hw), fun _ hj => s.applyWrite_slot_other w hj⟩) s

theorem Course.state_confined {c : Course} {s : State} {k : SlotId} {x j : ℕ} (h : ∀ w ∈ c.made x j, deskBase ≤ w.1) :
    s.confined (c.state s k x j) k :=
  (State.confined.modSlot s k _).trans (.written h)

/-- A run whose accesses are all in the desk, or whose lesson has a WEIGHT, is not held back (06 R190). -/
theorem not_held {s₁ : State} {k : SlotId} {D : Prop} {v : VRun} (hdesk : D → ∀ w ∈ v.acc, w.desk = true) (hw : D ∨ s₁.weightless k = false) :
    (s₁.weightless k && v.acc.any fun w => !w.desk) = false := by
  rcases hw with hD | hw
  · rw [Bool.and_eq_false_iff]
    exact .inr (List.any_eq_false.2 fun w hw => by simp [hdesk hD w hw])
  · rw [hw]; rfl

theorem State.sameMemories.symm {s t : State} (h : s.sameMemories t) : t.sameMemories s :=
  ⟨h.mem.symm, fun j => (h.desk j).symm, h.sqMem.symm, h.dbg.symm⟩

theorem State.sameMemories.setRegs (s : State) (k : SlotId) (r : Regs) : s.sameMemories (s.setRegs k r) := .modSlot s k rfl

theorem State.sameMemories.swap {s t : State} (k : SlotId) (r r' : Regs) (h : s.sameMemories t) : (s.setRegs k r).sameMemories (t.setRegs k r') :=
  (State.sameMemories.setRegs s k r).symm.trans (h.trans (.setRegs t k r'))

theorem State.sameMemories.refl (s : State) : s.sameMemories s := ⟨rfl, fun _ => rfl, rfl, rfl⟩

/-- Writes make the same bytes of the same bytes. -/
theorem State.sameMemories.written {s t : State} (h : s.sameMemories t) (k : SlotId) (ws : List EngineWrite) :
    (s.written k ws).sameMemories (t.written k ws) := by
  have hraw {s t : State} (h : s.sameMemories t) (a : ℕ) (bs : List Byte) : (s.rawWrite k a bs).sameMemories (t.rawWrite k a bs) := by
    unfold State.rawWrite
    split_ifs
    · refine ⟨h.mem, fun j => ?_, h.sqMem, h.dbg⟩
      by_cases e : j = k
      · rw [e, State.modSlot_slot_same, State.modSlot_slot_same]
        exact congrArg (fun m : Mem => m.writeBytes (a - deskBase) bs) (h.desk k)
      · rw [State.modSlot_slot_other _ _ _ _ e, State.modSlot_slot_other _ _ _ _ e, h.desk]
    · exact ⟨congrArg (fun m : Mem => m.writeBytes a bs) h.mem, h.desk, h.sqMem, h.dbg⟩
  induction ws generalizing s t with
  | nil => exact h
  | cons w ws ih =>
    refine ih ?_
    obtain ⟨a, bs | ⟨j, b⟩⟩ := w
    · exact hraw h a bs
    · change (s.applyWrite k _).sameMemories (t.applyWrite k _)
      rw [State.applyWrite_bit, State.applyWrite_bit, h.byteAt]
      exact hraw h a _

/-- `t` is the state in which the engine of slot `k` has completed the front entry of `s`: it has made the writes `ws` and left the registers `r`. -/
structure State.completes (s t : State) (k : SlotId) (ws : List EngineWrite) (r : Regs) (D : Prop) : Prop where
  memories : (s.written k ws).sameMemories t
  queue : (t.slot k).eng.queue = (s.slot k).eng.queue.drop 1
  stopped : (t.slot k).eng.stopped = (s.slot k).eng.stopped
  regs : t.regs k = { r with vx := 0 }
  confined : D → (∀ w ∈ ws, deskBase ≤ w.1) → s.confined t k

/-- `t` is the state in which it has stopped at element `m` of the front entry `e`, as `st` says. -/
structure State.stopsAt (s t : State) (k : SlotId) (e : VEntry) (ws : List EngineWrite) (r : Regs) (st : VStop) (vx : Word32) : Prop where
  memories : (s.written k ws).sameMemories t
  queue : (t.slot k).eng.queue = (s.slot k).eng.queue
  stopped : (t.slot k).eng.stopped = true
  suspend : (t.slot k).eng.suspend = false
  regs : t.regs k = { r with vx := vx }
  cause : (t.slot k).eng.cause = ⟨true, BitVec.ofNat 4 st.opnd, BitVec.ofNat 4 st.gop, BitVec.ofNat 8 st.cause, BitVec.ofNat 8 st.sub⟩
  vfaddr : (t.slot k).eng.vfaddr = st.addr
  veflags : (t.slot k).eng.veflags = st.flags
  vfvl : (t.slot k).eng.vfvl = e.vl

theorem State.halts.stopsAt {s₀ s t : State} {k : SlotId} {e : VEntry} {st : VStop} {vx : Word32} (h : s.halts t k e st vx) {ws : List EngineWrite}
    {r : Regs} (hmem : (s₀.written k ws).sameMemories s) (hr : s.regs k = r) (hq : (s.slot k).eng.queue = (s₀.slot k).eng.queue) :
    s₀.stopsAt t k e ws r st vx :=
  ⟨hmem.trans h.memories, h.queue.trans hq, h.stopped, h.suspend, hr ▸ h.regs, h.cause, h.vfaddr, h.veflags, h.vfvl⟩

/-- The bytes after a course do not depend on what the descriptors counted. -/
theorem Course.state_memories (c : Course) {s s₁ : State} {k : SlotId} (h : s.sameMemories s₁) (x m : ℕ) :
    (s.written k (c.made x m)).sameMemories (c.state s₁ k x m) :=
  State.sameMemories.written (h.trans (.setRegs s₁ k _)) k _

section
variable {s : State} {k : SlotId} {e : VEntry} {ops : List ROp} {c : Course} {lo up : ℤ} {D : Prop} {m : ℕ}
  (hops : resolve (s.slot k) e.ops = ops) (hcheck : checkEntry (s.slot k) e.group ops e.vx.toNat e.vl.toNat = none) (hform : s.inForm k)
  (hx : e.vx.toNat ≤ m) (hbelow : (∀ o ∈ ops, o.writesLink = none) ∨ e.vx.toNat = 0)
  (hregs : s.regs k = c.regs e.vx.toNat) (hp : ∀ j, e.vx.toNat ≤ j → j < m → c.passes s k lo up e.vl.toNat ops D j)
  (hweight : D ∨ s.weightless k = false)

omit hops hcheck hform hx hbelow hregs hp hweight in
/-- A check that precedes the elements stops an entry before them (02 R55). -/
theorem entry_checked (s : State) (k : SlotId) {st : VStop} (hcheck : checkEntry (s.slot k) e.group (resolve (s.slot k) e.ops) e.vx.toNat e.vl.toNat = some st) :
    s.stopsAt (s.runEntry k e none) k e [] (s.regs k) st e.vx := by
  have hopens := s.opens_entry k e (resolve (s.slot k) e.ops)
  unfold State.runEntry
  dsimp only
  generalize s.noteDescriptors k _ = s₁ at hopens
  rw [hcheck]
  dsimp only
  refine (State.halts_engineStop _ k e st e.vx).stopsAt (hopens.agrees.sameMemories.trans (.modSlot s₁ k rfl)) ?_ ?_
  · rw [State.regs, State.modSlot_slot_same]
    exact hopens.agrees.regs k
  · rw [State.modSlot_slot_same]
    have hq : (s₁.slot k).eng.queue = (s.slot k).eng.queue := congrArg Engine.queue (hopens.agrees.eng k)
    exact hq

include hops hcheck hform hx hbelow hregs hp hweight

/-- An entry whose elements all pass is over (02 R46). -/
theorem entry_completes (hm : m = e.vl.toNat) : s.completes (s.runEntry k e none) k (c.made e.vx.toNat m) (c.regs m) D := by
  have hopens := s.opens_entry k e ops
  generalize hs₁ : s.noteDescriptors k (meterFresh (s.descriptorReads k ops) (s.keptReads k e)) = s₁ at hopens
  have hregs₁ : s₁.regs k = c.regs e.vx.toNat := (hopens.agrees.regs k).trans hregs
  obtain ⟨hstop, -, hstate, hdesk⟩ := runElements_reached (D := D) (st := suspendedStop) (L := []) hx hm.le hbelow (hopens.shows hform lo up) hregs₁ hp
    fun h => absurd h (by omega)
  generalize hv : s₁.runElements k e ops e.vl.toNat = v at hstop hstate hdesk
  rw [if_pos hm] at hstop
  obtain ⟨fresh, ws, a, b, idle, inactive, hf, hw, -, hrun⟩ := runEntry_ends (lim := none) (stopAt := e.vl.toNat) hops hs₁ hcheck rfl
    ((if_neg (lt_irrefl _)).trans hv) (not_held hdesk (hweight.imp_right fun h => hopens.weightless.trans h))
  rw [hstop] at hrun
  simp only [lt_irrefl, if_false] at hrun
  rw [hstate.errorsOf (c.state_errors s₁ k _ _)] at hrun
  have hacc := State.agrees.accounted (c.state s₁ k e.vx.toNat m) k fresh ws a b idle v.flags
  obtain ⟨hmem, hq, hst, hr⟩ := State.over_nextEntry ((c.state s₁ k e.vx.toNat m).accounted k fresh ws a b idle v.flags) k
  rw [hrun]
  refine ⟨((c.state_memories hopens.agrees.sameMemories _ _).trans hacc.sameMemories).trans hmem, ?_, ?_, ?_, fun hD hws => ?_⟩
  · rw [hq, hacc.eng, c.state_eng, hopens.agrees.eng]
  · rw [hst, hacc.eng, c.state_eng, hopens.agrees.eng]
  · rw [hr]
    exact congrArg (fun r : Regs => { r with vx := 0 }) ((hacc.regs k).trans (c.state_regs s₁ k _ _))
  · have hconf := State.confined.accounted (c.state s₁ k e.vx.toNat m) k (fun w h => hdesk hD w (hf w h)) (fun w h => hdesk hD w (hw w h))
      a b idle v.flags
    exact ((hopens.confined.trans (c.state_confined hws)).trans hconf).trans (.modSlot _ k _)

/-- An entry that an element stops keeps its place in the queue, with the cause noted (02 R53, R57). -/
theorem entry_stops {st : VStop} {L : List ℕ} (hm : m < e.vl.toNat) (hstop : c.stops s k lo up e.vl.toNat ops D st L m) :
    ∃ f : ROp → Bool, (∀ o, o.pos ∈ L → f o = false)
      ∧ s.stopsAt (s.runEntry k e none) k e (c.made e.vx.toNat m) ((c.regs m).halted ops (ops.map f)) { st with at_ := m } (BitVec.ofNat 32 m) := by
  have hopens := s.opens_entry k e ops
  generalize hs₁ : s.noteDescriptors k (meterFresh (s.descriptorReads k ops) (s.keptReads k e)) = s₁ at hopens
  have hregs₁ : s₁.regs k = c.regs e.vx.toNat := (hopens.agrees.regs k).trans hregs
  obtain ⟨hst, hlive, hstate, hdesk⟩ := runElements_reached (D := D) hx hm.le hbelow (hopens.shows hform lo up) hregs₁ hp fun _ => hstop
  generalize hv : s₁.runElements k e ops e.vl.toNat = v at hst hlive hstate hdesk
  rw [if_neg hm.ne] at hst
  obtain ⟨fresh, ws, a, b, idle, inactive, hf, hw, ⟨next, hinactive⟩, hrun⟩ := runEntry_ends (lim := none) (stopAt := e.vl.toNat) hops hs₁ hcheck rfl
    ((if_neg (lt_irrefl _)).trans hv) (not_held hdesk (hweight.imp_right fun h => hopens.weightless.trans h))
  rw [hst] at hrun
  simp only at hrun
  rw [hstate.errorsOf (c.state_errors s₁ k _ _)] at hrun
  have hacc := State.agrees.accounted (c.state s₁ k e.vx.toNat m) k fresh ws a b idle v.flags
  have hreg : ((c.state s₁ k e.vx.toNat m).accounted k fresh ws a b idle v.flags).regs k = c.regs m := (hacc.regs k).trans (c.state_regs s₁ k _ _)
  refine ⟨fun o => o.allInactive v k ops next e.vl.toNat, fun o ho => ?_, ?_⟩
  · have := hlive hm.ne ho
    simp [ROp.allInactive, this]
  · rw [hrun, hreg, ← hinactive]
    refine (State.halts_engineStop _ k e _ _).stopsAt (((c.state_memories hopens.agrees.sameMemories _ _).trans hacc.sameMemories).trans (.setRegs _ k _))
      (State.setRegs_regs ..) ?_
    rw [State.setRegs_slot_same]
    refine (congrArg Engine.queue (hacc.eng k)).trans ?_
    rw [c.state_eng, hopens.agrees.eng]

/-- An entry that is suspended at element `m` (02 R60). -/
theorem entry_suspends (hm : m < e.vl.toNat) (hnext : c.passes s k lo up e.vl.toNat ops D m) :
    ∃ f : ROp → Bool, s.stopsAt (s.runEntry k e (some m)) k e (c.made e.vx.toNat m) ((c.regs m).halted ops (ops.map f)) suspendedStop (BitVec.ofNat 32 m) := by
  have hopens := s.opens_entry k e ops
  generalize hs₁ : s.noteDescriptors k (meterFresh (s.descriptorReads k ops) (s.keptReads k e)) = s₁ at hopens
  have hregs₁ : s₁.regs k = c.regs e.vx.toNat := (hopens.agrees.regs k).trans hregs
  obtain ⟨hfar, -, -, -⟩ := runElements_reached (D := D) (lim := m + 1) (st := suspendedStop) (L := []) (Nat.le_succ_of_le hx) le_rfl hbelow
    (hopens.shows hform lo up) hregs₁ (fun j h1 h2 => (Nat.lt_succ_iff_lt_or_eq.1 h2).elim (hp j h1) fun e => e ▸ hnext) fun h => absurd h (lt_irrefl _)
  obtain ⟨hst, -, hstate, hdesk⟩ := runElements_reached (D := D) (lim := m) (st := suspendedStop) (L := []) hx le_rfl hbelow
    (hopens.shows hform lo up) hregs₁ hp fun h => absurd h (lt_irrefl _)
  rw [if_pos rfl] at hfar hst
  have hv : (if m < e.vl.toNat then s₁.runSuspended k e ops m else s₁.runElements k e ops m) = s₁.runElements k e ops m := by
    rw [if_pos hm, State.runSuspended]
    simp only [hfar, Option.isSome_none, Bool.false_eq_true, if_false]
  generalize hrunm : s₁.runElements k e ops m = v at hst hstate hdesk
  obtain ⟨fresh, ws, a, b, idle, inactive, hf, hw, ⟨next, hinactive⟩, hrun⟩ := runEntry_ends (lim := some m) (stopAt := m) hops hs₁ hcheck
    (Nat.min_eq_left hm.le) (hv.trans hrunm) (not_held hdesk (hweight.imp_right fun h => hopens.weightless.trans h))
  rw [hst] at hrun
  simp only [if_pos hm] at hrun
  rw [hstate.errorsOf (c.state_errors s₁ k _ _)] at hrun
  have hacc := State.agrees.accounted (c.state s₁ k e.vx.toNat m) k fresh ws a b idle v.flags
  have hreg : ((c.state s₁ k e.vx.toNat m).accounted k fresh ws a b idle v.flags).regs k = c.regs m := (hacc.regs k).trans (c.state_regs s₁ k _ _)
  refine ⟨fun o => o.allInactive v k ops next e.vl.toNat, ?_⟩
  rw [hrun, hreg, ← hinactive]
  refine (State.halts_engineStop _ k e _ _).stopsAt (((c.state_memories hopens.agrees.sameMemories _ _).trans hacc.sameMemories).trans (.setRegs _ k _))
    (State.setRegs_regs ..) ?_
  rw [State.setRegs_slot_same]
  refine (congrArg Engine.queue (hacc.eng k)).trans ?_
  rw [c.state_eng, hopens.agrees.eng]

end

end Sys2Proof.Machine
end

section
/-!
SUPPORT. The rows of the opcode table as the engine finds them: operands, types, scalars, and the size of what they deliver (02 R63-R66).
-/

namespace Sys2Proof.Machine

/-! ### Operands and types of the rows -/

/-- The operands that a row names: AD, AS1, AS2 and AS3. -/
def VRow.operands (r : VRow) : Bool × Bool × Bool × Bool := (r.ad, r.as1, r.as2, r.as3)

theorem vrow_element : ∀ row ∈ Rows.element, row.vop < 256 ∧ row.srcs ≤ 3 ∧ row.vop ≠ 0x57
    ∧ (vrow row.vop).map VRow.operands = some (true, decide (1 ≤ row.srcs), decide (2 ≤ row.srcs), decide (3 ≤ row.srcs)) := by decide

theorem vrow_reduction : ∀ row ∈ Rows.reduction, row.vop < 256 ∧ row.vop ≠ 0x05 ∧ row.vop ≠ 0x02 ∧ row.vop ≠ 0x50 ∧ row.vop ≠ 0x51
    ∧ (vrow row.vop).map VRow.operands = some (false, true, false, false) := by decide

theorem typeOk_element : ∀ row ∈ Rows.element, ∀ (td t1 t2 t3 : ℕ) (prev : ℕ → Option ℕ), row.types td t1 t2 t3 →
    typeOk row.vop 0 td prev = true ∧ (1 ≤ row.srcs → prev 0 = some td → typeOk row.vop 1 t1 prev = true)
    ∧ (2 ≤ row.srcs → prev 0 = some td → prev 1 = some t1 → typeOk row.vop 2 t2 prev = true)
    ∧ (3 ≤ row.srcs → prev 0 = some td → prev 1 = some t1 → typeOk row.vop 3 t3 prev = true) := by
  have hany {t : ℕ} (h : t < 10) : isF t = true ∨ isI t = true := (isI_or_isF h).symm
  have hwide {t : ℕ} (h : t < 2) : t = 0 ∨ t = 1 := by omega
  simp only [Rows.element, List.forall_mem_cons, List.not_mem_nil, false_imp_iff, implies_true, and_true]
  and_intros
  all_goals
    intro td t1 t2 t3 prev
    simp +contextual [typeOk, sameTypes, hwide, hany, isM]

theorem typeOk_reduction : ∀ row ∈ Rows.reduction, ∀ (t : ℕ) (prev : ℕ → Option ℕ), row.types t → typeOk row.vop 1 t prev = true := by
  have hany {t : ℕ} (h : t < 10) : isF t = true ∨ isI t = true := (isI_or_isF h).symm
  have hwide {t : ℕ} (h : t < 2) : t = 0 ∨ t = 1 := by omega
  simp only [Rows.reduction, List.forall_mem_cons, List.not_mem_nil, false_imp_iff, implies_true, and_true]
  and_intros
  all_goals
    intro t prev
    simp +contextual [typeOk, hwide, hany, isM]

/-- In the rows with a scalar form the scalar has the type of the operand that it replaces (02 R65). -/
theorem scalar_type : ∀ row ∈ Rows.element, ∀ (f : VFmt) (td t1 t2 t3 : ℕ), keepsRow row.vop f → row.types td t1 t2 t3 → f.scl = 1 →
    2 ≤ row.srcs ∧ (if row.vop = 0x04 then td else t1) = t2 := by
  simp only [Rows.element, List.forall_mem_cons, List.not_mem_nil, false_imp_iff, implies_true, and_true]
  and_intros
  all_goals
    intro f td t1 t2 t3
    simp +contextual [sameTypes]

/-- FN keeps the table of a row with a destination. -/
theorem ElemRow.fnOk_of_keepsRow : ∀ row ∈ Rows.element, ∀ f : VFmt, keepsRow row.vop f → row.fnOk f.fn.toNat := by
  rintro row hrow f ⟨-, -, -, -, -, -, -, -, hfn, -⟩
  rw [if_neg (vrow_element row hrow).2.2.1] at hfn
  exact hfn

/-- A row without sources takes no type of AS1. -/
theorem type_of_no_source : ∀ row ∈ Rows.element, ∀ td t1 t2 t3 : ℕ, row.types td t1 t2 t3 → row.srcs = 0 → t1 = 0 := by
  simp only [Rows.element, List.forall_mem_cons, List.not_mem_nil, false_imp_iff, implies_true, and_true]
  and_intros
  all_goals
    intro td t1 t2 t3
    simp +contextual

/-- Sources beyond those of its row do not enter an element. -/
theorem elemResult_unused : ∀ row ∈ Rows.element, ∀ (fn : ℕ) (rm : BitVec 3) (td t1 a1 a2 a2' a3 a3' i : ℕ), (2 ≤ row.srcs → a2 = a2') →
    (3 ≤ row.srcs → a3 = a3') → elemResult row.vop fn rm td t1 a1 a2 a3 i = elemResult row.vop fn rm td t1 a1 a2' a3' i := by
  simp only [Rows.element, List.forall_mem_cons, List.not_mem_nil, false_imp_iff, implies_true, and_true]
  and_intros
  all_goals
    intro fn rm td t1 a1 a2 a2' a3 a3' i
    simp +contextual [elemResult]

end Sys2Proof.Machine
end

section
/-!
SUPPORT. What a row delivers fits the elements of its destination (02 R66).
-/

namespace Sys2Proof.Machine

section
variable {p : FloatFmt} {x : FRes}

/-- `x` is a rounded number, an infinity or the default NaN. -/
def FloatFmt.delivers (p : FloatFmt) (x : FRes) : Prop :=
  (∃ rm v zeroNeg, p.rounded rm v zeroNeg x) ∨ (∃ neg fl, p.givesInf neg fl x) ∨ ∃ iv, p.givesNaN iv x

theorem FloatFmt.rounded.delivers {rm : BitVec 3} {v : ℝ} {zn : Bool} (h : p.rounded rm v zn x) : p.delivers x := .inl ⟨rm, v, zn, h⟩

theorem FloatFmt.givesInf.delivers {neg : Bool} {fl : FlagSet} (h : p.givesInf neg fl x) : p.delivers x := .inr (.inl ⟨neg, fl, h⟩)

theorem FloatFmt.givesNaN.delivers {q : Prop} (h : p.givesNaN q x) : p.delivers x := .inr (.inr ⟨q, h⟩)

theorem FloatFmt.sums.delivers {rm : BitVec 3} {a b : FVal} (h : p.sums rm a b x) : p.delivers x := by
  rcases a with s | s | ⟨s, m, e⟩ <;> rcases b with t | t | ⟨t, n, g⟩ <;> simp only [FloatFmt.sums] at h
  case inf.inf => split_ifs at h; exacts [h.delivers, h.delivers]
  case fin.fin => exact FloatFmt.rounded.delivers h
  case inf.fin | fin.inf => exact FloatFmt.givesInf.delivers h
  all_goals exact FloatFmt.givesNaN.delivers h

theorem FloatFmt.multiplies.delivers {rm : BitVec 3} {a b : FVal} (h : p.multiplies rm a b x) : p.delivers x := by
  rcases a with s | s | ⟨s, m, e⟩ <;> rcases b with t | t | ⟨t, n, g⟩ <;> simp only [FloatFmt.multiplies] at h
  case fin.fin => exact FloatFmt.rounded.delivers h
  case inf.inf => exact FloatFmt.givesInf.delivers h
  case inf.fin | fin.inf => split_ifs at h; exacts [h.delivers, h.delivers]
  all_goals exact FloatFmt.givesNaN.delivers h

theorem FloatFmt.divides.delivers {rm : BitVec 3} {a b : FVal} (h : p.divides rm a b x) : p.delivers x := by
  rcases a with s | s | ⟨s, m, e⟩ <;> rcases b with t | t | ⟨t, n, g⟩ <;> simp only [FloatFmt.divides] at h
  case fin.fin => split_ifs at h; exacts [h.delivers, h.delivers, h.delivers]
  case inf.fin => exact FloatFmt.givesInf.delivers h
  case fin.inf => exact FloatFmt.rounded.delivers h
  all_goals exact FloatFmt.givesNaN.delivers h

theorem FloatFmt.roots.delivers {rm : BitVec 3} {a : FVal} (h : p.roots rm a x) : p.delivers x := by
  rcases a with s | s | ⟨s, m, e⟩ <;> simp only [FloatFmt.roots] at h
  · exact FloatFmt.givesNaN.delivers h
  · split_ifs at h; exacts [h.delivers, h.delivers]
  · split_ifs at h; exacts [h.delivers, h.delivers]

theorem FloatFmt.fuses.delivers {rm : BitVec 3} {a b c : FVal} (h : p.fuses rm a b c x) : p.delivers x := by
  rcases a with s | s | ⟨s, m, e⟩ <;> rcases b with t | t | ⟨t, n, g⟩ <;> simp only [FloatFmt.fuses] at h
  case fin.fin | inf.inf => exact FloatFmt.sums.delivers h
  case inf.fin | fin.inf =>
    split_ifs at h
    · exact FloatFmt.givesNaN.delivers h
    · exact FloatFmt.sums.delivers h
  all_goals exact FloatFmt.givesNaN.delivers h

section
variable (hp : p.standard)
include hp

theorem FloatFmt.standard.quietNaN_lt : p.quietNaN < 2 ^ p.width := hp.quiet ▸ hp.proper.decode_defaultNaN.2

theorem FloatFmt.delivers.lt (h : p.delivers x) : x.val < 2 ^ p.width := by
  rcases h with ⟨rm, v, zn, h⟩ | ⟨neg, fl, h⟩ | ⟨iv, h⟩
  · exact h.1
  · exact h.1
  · exact h.1 ▸ hp.quietNaN_lt

theorem FloatFmt.integrates.lt {rm : BitVec 3} {a : FVal} (h : p.integrates rm a x) : x.val < 2 ^ p.width := by
  rcases a with s | s | ⟨s, m, e⟩
  · exact FloatFmt.delivers.lt hp (FloatFmt.givesNaN.delivers h)
  · exact FloatFmt.delivers.lt hp (FloatFmt.givesInf.delivers h)
  · exact h.2.1

theorem FloatFmt.picks.lt {larger : Bool} {a b : ℕ} (h : p.picks larger a b x) (ha : a < 2 ^ p.width) (hb : b < 2 ^ p.width) : x.val < 2 ^ p.width := by
  obtain ⟨-, h2, h1, h1', h0⟩ := h
  rcases hna : (p.decode a).isNaN <;> rcases hnb : (p.decode b).isNaN
  · rcases (h0 hna hnb).1 with e | e <;> rw [e] <;> assumption
  · rw [h1' hna hnb]; exact ha
  · rw [h1 hna hnb]; exact hb
  · rw [h2 hna hnb]; exact hp.quietNaN_lt

end

theorem FloatFmt.classes.lt {a v : ℕ} (h : p.classes a v) : v < 10 := by
  unfold FloatFmt.classes at h
  generalize p.decode a = d at h
  rcases d with s | s | ⟨s, n, e⟩ <;> dsimp only at h
  · split_ifs at h <;> omega
  · split_ifs at h <;> omega
  · obtain ⟨hz, hsub, hnorm⟩ := h
    have hb {c : Prop} [Decidable c] {i j : ℕ} (hi : i < 10) (hj : j < 10) : (if c then i else j) < 10 := by split_ifs <;> assumption
    by_cases h0 : n = 0
    · rw [hz h0]; exact hb (by decide) (by decide)
    · rcases lt_or_ge (ratOf false n e) (2 ^ p.emin) with h | h
      · rw [hsub h0 h]; exact hb (by decide) (by decide)
      · rw [hnorm h]; exact hb (by decide) (by decide)

end

section
variable {m : ElemMode} {x : FRes}

theorem truth.lt {P : Prop} (h : truth P x) (ty : ℕ) : x.val < 2 ^ typeBits ty := by
  have : 1 < 2 ^ typeBits ty := Nat.one_lt_two_pow (typeBits_le ty).2.ne'
  by_cases hP : P
  · rw [h.1 hP]; exact this
  · rw [h.2 hP]; omega

theorem ElemMode.wraps.lt {checked : Bool} {n : ℤ} (h : m.wraps checked n x) : x.val < 2 ^ typeBits m.td := by
  have := Int.emod_lt_of_pos n (b := 2 ^ typeBits m.td) (by positivity)
  rw [← h.1] at this
  exact_mod_cast this

theorem ElemMode.bitwise.lt {g : ℕ → Bool} (h : m.bitwise g x) : x.val < 2 ^ typeBits m.td :=
  Nat.lt_pow_two_of_testBit _ fun j hj => by rw [h.2 j, decide_eq_false (by omega)]; rfl

theorem ElemMode.float.lt {g : FloatFmt → FVal → FVal → FVal → FRes → Prop} {a1 a2 a3 : ℕ} (h : m.float g a1 a2 a3 x) {td : ℕ} (ht : m.t1 = td)
    (hg : ∀ p, p.standard → ∀ a b c, g p a b c x → x.val < 2 ^ p.width) : x.val < 2 ^ typeBits td := by
  obtain ⟨p, hp, hx⟩ := h
  obtain ⟨q, hq, hw, hs⟩ := floatOf_of_isF (ty := td) (by rw [← ht, isF, hp]; rfl)
  rw [← ht, hp] at hq
  cases hq
  rw [hw]
  exact hg _ hs _ _ _ hx

theorem picks_lt {larger : Bool} {t a1 a2 : ℕ} (h : ∃ p, floatOf t = some p ∧ p.picks larger a1 a2 x) (h1 : a1 < 2 ^ typeBits t) (h2 : a2 < 2 ^ typeBits t) :
    x.val < 2 ^ typeBits t := by
  obtain ⟨p, hp, hx⟩ := h
  have hw : typeBits t = p.width := by simp [typeBits, hp]
  rw [hw] at h1 h2 ⊢
  exact hx.lt (standard_of_floatOf hp) h1 h2

end

theorem small_lt {ty v : ℕ} (h : isI ty = true) (hv : v < 256) : v < 2 ^ typeBits ty := by
  obtain ⟨-, -, -, hb⟩ := intOf_of_isI h
  rcases hb with hb | hb | hb | hb <;> rw [hb] <;> omega

/-- A row delivers an element of the type of its destination. -/
theorem ElemRow.gives_lt : ∀ row ∈ Rows.element, ∀ (m : ElemMode) (t2 t3 a1 a2 a3 i : ℕ) (x : FRes), row.types m.td m.t1 t2 t3 →
    a1 < 2 ^ typeBits m.t1 → (2 ≤ row.srcs → a2 < 2 ^ typeBits t2) → row.gives m a1 a2 a3 i x → x.val < 2 ^ typeBits m.td := by
  simp only [Rows.element, List.forall_mem_cons, List.not_mem_nil, false_imp_iff, implies_true, and_true]
  and_intros
  · rintro m t2 t3 a1 a2 a3 i x ⟨-, -, hb⟩ h1 - rfl
    rw [hb]; exact h1
  · rintro m t2 t3 a1 a2 a3 i x - - - hx
    exact hx.1
  iterate 2
    · rintro m t2 t3 a1 a2 a3 i x - - - rfl
      exact Nat.mod_lt _ (Nat.two_pow_pos _)
  · rintro m t2 t3 a1 a2 a3 i x ⟨-, ht1, rfl, -⟩ h1 h2 rfl
    rw [ht1] at h1
    dsimp only
    split_ifs
    exacts [h1, h2 (by decide)]
  · rintro m t2 t3 a1 a2 a3 i x ⟨-, ht1, -⟩ h1 - rfl
    rw [ht1] at h1; exact h1
  · rintro m t2 t3 a1 a2 a3 i x - - - hx
    exact hx.lt
  -- VFADD to VFNMA
  iterate 8
    · rintro m t2 t3 a1 a2 a3 i x ⟨-, ht, -⟩ - - hx
      exact hx.lt ht fun p hp a b c h => h.delivers.lt hp
  -- VFMIN to VFMAW
  iterate 2
    · rintro m t2 t3 a1 a2 a3 i x ⟨-, ht, ht2, -⟩ h1 h2 hx
      rw [← ht]; exact picks_lt hx h1 (ht ▸ ht2 ▸ h2 (by decide))
  iterate 2
    · rintro m t2 t3 a1 a2 a3 i x - - - hx
      exact hx.lt
  · rintro m t2 t3 a1 a2 a3 i x - - - ⟨p, -, hx, -⟩
    exact hx.lt _
  · rintro m t2 t3 a1 a2 a3 i x ⟨ht, -⟩ - - ⟨p, -, hx, -⟩
    exact small_lt ht (by have := hx.lt; omega)
  · rintro m t2 t3 a1 a2 a3 i x ⟨-, ht, -⟩ - - hx
    exact hx.lt ht fun p hp a b c h => h.lt hp
  · rintro m t2 t3 a1 a2 a3 i x ⟨ht, -⟩ - - ⟨p, -, hx⟩
    rw [ht]
    exact hx.delivers.lt (standard_of_floatOf (ty := 1) rfl)
  -- VADD to VSUBBO
  iterate 5
    · rintro m t2 t3 a1 a2 a3 i x - - - hx
      exact hx.lt
  · rintro m t2 t3 a1 a2 a3 i x - - - ⟨-, hx⟩
    exact hx.lt _
  · rintro m t2 t3 a1 a2 a3 i x - - - hx
    exact hx.lt
  · rintro m t2 t3 a1 a2 a3 i x - - - ⟨-, hx⟩
    exact hx.lt _
  -- VAND to VIMAX
  iterate 7
    · rintro m t2 t3 a1 a2 a3 i x - - - hx
      exact hx.lt
  · rintro m t2 t3 a1 a2 a3 i x - - - ⟨-, hx⟩
    exact hx.lt _
  iterate 2
    · rintro m t2 t3 a1 a2 a3 i x - - - hx
      exact hx.lt
  -- VPOPC and VCLZ
  · rintro m t2 t3 a1 a2 a3 i x ⟨ht, -⟩ - - rfl
    refine small_lt ht ?_
    have := List.length_filter_le (fun j => a1.testBit j) (List.range (typeBits m.td))
    have hb := (typeBits_le m.td).1
    rw [List.length_range] at this
    dsimp only
    omega
  · rintro m t2 t3 a1 a2 a3 i x ⟨ht, -⟩ - - ⟨-, hz, hnz⟩
    have hb := (typeBits_le m.td).1
    refine small_lt ht ?_
    by_cases h : a1 = 0
    · have := hz h; omega
    · have := (hnz h).1; omega

end Sys2Proof.Machine
end

section
/-!
SUPPORT. The bytes and bits that a run of element writes leaves (02 R37, R43, R49).
-/

namespace Sys2Proof.Machine

/-! ### Bytes of an element -/

theorem leBytes_length (n w : ℕ) : (leBytes n w).length = n := by
  induction n generalizing w with
  | zero => rfl
  | succ n ih => simp [leBytes, ih]

theorem leNat_leBytes (n w : ℕ) : leNat (leBytes n w) = w % 256 ^ n := by
  induction n generalizing w with
  | zero => simp [leBytes, leNat, Nat.mod_one]
  | succ n ih =>
    rw [leBytes, leNat, ih, BitVec.toNat_ofNat, pow_succ' 256 n]
    exact Nat.mod_mul.symm

/-- Elements but mask bits fill their bytes. -/
theorem typeBits_of_lt {ty : ℕ} (h : ty < 10) : 2 ^ typeBits ty = 256 ^ typeBytes ty := by
  interval_cases ty <;> decide +kernel

theorem typeBytes_mask : typeBytes 10 = 1 := by decide

section
variable (d : VStream) (i : ℕ) (a : ℤ) (v : ℕ)

theorem VStream.write_addr : (d.write i a v).1 = a.toNat := by
  unfold VStream.write; split_ifs <;> rfl

theorem VStream.write_size : (d.write i a v).size = typeBytes d.ty := by
  unfold VStream.write
  split_ifs with h
  · rw [h]; exact typeBytes_mask.symm
  · exact leBytes_length _ _

end

theorem bitSet_getLsbD (old : Byte) {n j : ℕ} (hn : n < 8) (hj : j < 8) (b : Bool) :
    (bitSet old n b).getLsbD j = if j = n then b else old.getLsbD j := by
  unfold bitSet
  by_cases h : j = n
  · subst h
    cases b <;> simp [hj]
  · have hsub : j < n ∨ (n ≤ j ∧ j - n ≠ 0) := by omega
    cases b <;> rcases hsub with h1 | ⟨h1, h2⟩ <;> simp [h, hj, h1] <;> omega

/-- An element whose bits are the same reads the same. -/
theorem State.elemAt_congr {s t : State} {k : SlotId} {d : VStream} {a : ℤ} {i : ℕ} (h0 : 0 ≤ a)
    (h : ∀ b j, j < 8 → d.covers a i b j → (t.byteAt k b).getLsbD j = (s.byteAt k b).getLsbD j) : t.elemAt k d a i = s.elemAt k d a i := by
  unfold State.elemAt
  by_cases hty : d.ty = 10
  · have hone (u : State) : leNat (u.bytesAt k a.toNat (typeBytes d.ty)) = (u.byteAt k a.toNat).toNat := by
      rw [hty, typeBytes_mask]
      simp [State.bytesAt, leNat]
    have hbit := h a.toNat (i % 8) (by omega) ⟨by omega, by rw [hty, typeBytes_mask]; omega, fun _ => rfl⟩
    rw [BitVec.getLsbD, BitVec.getLsbD, Nat.testBit_eq_decide_div_mod_eq, Nat.testBit_eq_decide_div_mod_eq, decide_eq_decide] at hbit
    simp only [hone, if_pos hty]
    omega
  · have hbytes : t.bytesAt k a.toNat (typeBytes d.ty) = s.bytesAt k a.toNat (typeBytes d.ty) := by
      refine List.map_congr_left fun j hj => BitVec.eq_of_getLsbD_eq fun b hb => h _ b hb ⟨by omega, ?_, fun e => absurd e hty⟩
      have := List.mem_range.1 hj
      omega
    rw [hbytes]

section
variable {s : State} {k : SlotId} {d : VStream} {a : ℤ} {i v : ℕ} (hs : s.inForm k) (ha : s.badByte a (typeBytes d.ty) = none)
include hs ha

theorem State.byteAt_write (b : ℕ) (hty : d.ty ≠ 10) : (s.applyWrite k (d.write i a v)).byteAt k b =
    if a.toNat ≤ b ∧ b < a.toNat + typeBytes d.ty then (leBytes (typeBytes d.ty) v).getD (b - a.toNat) 0 else s.byteAt k b := by
  have hside := (State.badByte_none (typeBytes_pos d.ty) ha).2
  rw [VStream.write, if_neg hty]
  refine (State.byteAt_rawWrite hs (by rwa [leBytes_length]) b).trans ?_
  rw [leBytes_length]

theorem State.byteAt_writeBit (b : ℕ) (hty : d.ty = 10) : (s.applyWrite k (d.write i a v)).byteAt k b =
    if b = a.toNat then bitSet (s.byteAt k a.toNat) (i % 8) (v % 2 == 1) else s.byteAt k b := by
  have hside := (State.badByte_none (typeBytes_pos d.ty) ha).2
  rw [hty, typeBytes_mask] at hside
  rw [VStream.write, if_pos hty, State.applyWrite_bit, State.byteAt_rawWrite hs hside]
  by_cases h : b = a.toNat
  · subst h; simp
  · rw [if_neg h, if_neg (by simp only [List.length_singleton]; omega)]

/-- A write leaves the bits outside its element (02 R49). -/
theorem State.bit_write_other {b j : ℕ} (hj : j < 8) (h : ¬d.covers a i b j) :
    ((s.applyWrite k (d.write i a v)).byteAt k b).getLsbD j = (s.byteAt k b).getLsbD j := by
  have h0 := (State.badByte_none (typeBytes_pos d.ty) ha).1
  unfold VStream.covers at h
  by_cases hty : d.ty = 10
  · rw [State.byteAt_writeBit hs ha b hty]
    rw [hty, typeBytes_mask] at h
    split_ifs with hb
    · subst hb
      rw [bitSet_getLsbD _ (by omega) hj, if_neg fun e => h ⟨by omega, by omega, fun _ => e⟩]
    · rfl
  · rw [State.byteAt_write hs ha b hty, if_neg fun e => h ⟨by omega, by omega, fun e => absurd e hty⟩]

/-- The element written reads as the value. -/
theorem State.elemAt_write_same (hd : d.ty ≤ 10) (hv : v < 2 ^ typeBits d.ty) : (s.applyWrite k (d.write i a v)).elemAt k d a i = v := by
  unfold State.elemAt
  by_cases hty : d.ty = 10
  · have hone (u : State) : leNat (u.bytesAt k a.toNat (typeBytes d.ty)) = (u.byteAt k a.toNat).toNat := by
      rw [hty, typeBytes_mask]
      simp [State.bytesAt, leNat]
    have hv : v < 2 := by rw [hty] at hv; exact hv
    have hbit := bitSet_getLsbD (s.byteAt k a.toNat) (n := i % 8) (j := i % 8) (by omega) (by omega) (v % 2 == 1)
    rw [if_pos rfl, BitVec.getLsbD, Nat.testBit_eq_decide_div_mod_eq] at hbit
    simp only [hone, if_pos hty, State.byteAt_writeBit hs ha _ hty, if_true]
    have hb : (v % 2 == 1) = decide (v = 1) := by rw [Nat.mod_eq_of_lt hv]; rfl
    rw [hb, decide_eq_decide] at hbit
    rw [hb]
    omega
  · have hbytes : (s.applyWrite k (d.write i a v)).bytesAt k a.toNat (typeBytes d.ty) = leBytes (typeBytes d.ty) v := by
      refine List.ext_getElem (by simp [State.bytesAt, leBytes_length]) fun j h1 h2 => ?_
      rw [leBytes_length] at h2
      simp only [State.bytesAt, List.getElem_map, List.getElem_range, State.byteAt_write hs ha _ hty]
      rw [if_pos (by omega), Nat.add_sub_cancel_left, List.getD_eq_getElem]
    simp only [hbytes, if_neg hty, leNat_leBytes, ← typeBits_of_lt (show d.ty < 10 by omega)]
    exact Nat.mod_eq_of_lt hv

end

/-! ### Elements of one stream -/

/-- Every element lies at a multiple of its size from 0 (02 R39). -/
theorem VStream.addr_aligned {d : VStream} (hd : d.keepsRules) (hty : d.ty ≠ 10) (i : ℕ) (x : ℤ) : (typeBytes d.ty : ℤ) ∣ d.addr i x := by
  obtain ⟨-, -, -, -, -, -, halign, -⟩ := hd
  have hb : (typeBytes d.ty : ℤ) ∣ d.base := Int.natCast_dvd_natCast.2 (Nat.dvd_of_mod_eq_zero halign)
  unfold VStream.addr
  simp only [if_neg hty]
  split_ifs <;> exact hb.add (Dvd.intro_left _ rfl)

/-- Elements of one stream share no bit, but for those at one address. -/
theorem VStream.covers_apart {d : VStream} (hd : d.keepsRules) {i m : ℕ} {x y : ℤ} (hne : i ≠ m) (haddr : d.ty ≠ 10 → d.addr i x ≠ d.addr m y) {b j : ℕ}
    (hi : d.covers (d.addr i x) i b j) : ¬d.covers (d.addr m y) m b j := by
  intro hm
  obtain ⟨hi1, hi2, hi3⟩ := hi
  obtain ⟨hm1, hm2, hm3⟩ := hm
  by_cases hty : d.ty = 10
  · have ha (n : ℕ) (z : ℤ) : d.addr n z = d.base + (n / 8 : ℕ) := by
      unfold VStream.addr
      rw [if_pos hty]; norm_cast
    rw [ha] at hi1 hi2 hm1 hm2
    rw [hty, typeBytes_mask] at hi2 hm2
    have := hi3 hty
    have := hm3 hty
    omega
  · obtain ⟨p, hp⟩ := VStream.addr_aligned hd hty i x
    obtain ⟨q, hq⟩ := VStream.addr_aligned hd hty m y
    have hne := haddr hty
    rw [hp, hq] at hne
    rw [hp] at hi1 hi2
    rw [hq] at hm1 hm2
    have hpos : (0 : ℤ) < typeBytes d.ty := by exact_mod_cast typeBytes_pos d.ty
    have hpq : p ≠ q := fun e => hne (by rw [e])
    rcases lt_or_gt_of_ne hpq with h | h
    · have : (typeBytes d.ty : ℤ) * (p + 1) ≤ typeBytes d.ty * q := by gcongr; omega
      rw [mul_add, mul_one] at this
      omega
    · have : (typeBytes d.ty : ℤ) * (q + 1) ≤ typeBytes d.ty * p := by gcongr; omega
      rw [mul_add, mul_one] at this
      omega

/-! ### Runs of writes -/

/-- The writes of the elements of `d` that `w` names, each at its address and with its value. -/
def VStream.writesOf (d : VStream) (at_ : ℕ → ℤ) (w : ℕ → Bool) (val : ℕ → ℕ) (i : ℕ) : List EngineWrite :=
  if w i then [d.write i (at_ i) (val i)] else []

theorem State.inForm.written {s : State} {k : SlotId} (h : s.inForm k) (ws : List EngineWrite) : (s.written k ws).inForm k := by
  induction ws generalizing s with
  | nil => exact h
  | cons w ws ih => exact ih (h.applyWrite w)

theorem State.written_repair (s : State) (k : SlotId) (ws : List EngineWrite) : (s.written k ws).repair = s.repair := by
  induction ws generalizing s with
  | nil => rfl
  | cons w ws ih => exact (ih _).trans (s.applyWrite_maps k w).1

theorem State.written_slot_other (s : State) {k k' : SlotId} (h : k' ≠ k) (ws : List EngineWrite) : (s.written k ws).slot k' = s.slot k' := by
  induction ws generalizing s with
  | nil => rfl
  | cons w ws ih => exact (ih _).trans (s.applyWrite_slot_other w h)

/-- One more element written (02 R49). -/
theorem State.wrote.step {s u : State} {k : SlotId} {d : VStream} (hd : d.keepsRules) {at_ idx : ℕ → ℤ} (haddr : ∀ i, at_ i = d.addr i (idx i))
    {P Q : ℕ → Prop} {val : ℕ → ℕ} {m : ℕ} (h : s.wrote u k d at_ P val) (hu : u.inForm k) (hP : ∀ i, P i → i < m ∧ 0 ≤ at_ i)
    (hm : u.badByte (at_ m) (typeBytes d.ty) = none) (hv : val m < 2 ^ typeBits d.ty) (hQ : ∀ i, Q i ↔ P i ∨ i = m) :
    s.wrote (u.applyWrite k (d.write m (at_ m) (val m))) k d at_ Q val := by
  obtain ⟨hvals, hbits, hother⟩ := h
  refine ⟨fun i hi hlast => ?_, fun a j hj hn => ?_, fun k' hk' b => by rw [u.applyWrite_slot_other _ hk', hother k' hk']⟩
  · rcases (hQ i).1 hi with hi | rfl
    · obtain ⟨him, h0⟩ := hP i hi
      have hne := hlast m him ((hQ m).2 (.inr rfl))
      rw [State.elemAt_congr h0 fun b j hj hc => State.bit_write_other hu hm hj ?_]
      · exact hvals i hi fun i' h1 h2 => hlast i' h1 ((hQ i').2 (.inl h2))
      · rw [haddr] at hc ⊢
        exact VStream.covers_apart hd him.ne (fun h => by rw [← haddr, ← haddr]; exact (hne h).symm) hc
    · exact State.elemAt_write_same hu hm hd.2.2.2.2.1 hv
  · rw [State.bit_write_other hu hm hj (hn m ((hQ m).2 (.inr rfl)))]
    exact hbits a j hj fun i hi => hn i ((hQ i).2 (.inl hi))

/-- A run of writes to valid addresses writes the elements that it names, and no other bit. -/
theorem State.wrote_written {s : State} {k : SlotId} {d : VStream} (hd : d.keepsRules) (hs : s.inForm k) {at_ idx : ℕ → ℤ} {w : ℕ → Bool} {val : ℕ → ℕ}
    (haddr : ∀ i, at_ i = d.addr i (idx i)) {x m : ℕ} (hx : x ≤ m)
    (hvalid : ∀ i, x ≤ i → i < m → w i = true → s.badByte (at_ i) (typeBytes d.ty) = none ∧ val i < 2 ^ typeBits d.ty) :
    s.wrote (s.written k ((List.range' x (m - x)).flatMap (d.writesOf at_ w val))) k d at_ (fun i => x ≤ i ∧ i < m ∧ w i = true) val := by
  induction m, hx using Nat.le_induction with
  | base =>
    rw [Nat.sub_self]
    exact ⟨fun i hi => by omega, fun _ _ _ _ => rfl, fun _ _ _ => rfl⟩
  | succ m hx ih =>
    specialize ih fun i h1 h2 => hvalid i h1 (by omega)
    rw [Nat.sub_add_comm hx, List.range'_1_concat, List.flatMap_append, Nat.add_sub_cancel' hx, State.written_append, List.flatMap_singleton]
    have hu := hs.written ((List.range' x (m - x)).flatMap (d.writesOf at_ w val))
    have hmap := s.written_repair k ((List.range' x (m - x)).flatMap (d.writesOf at_ w val))
    generalize s.written k ((List.range' x (m - x)).flatMap (d.writesOf at_ w val)) = u at ih hu hmap
    have hlast (i : ℕ) : (x ≤ i ∧ i < m + 1 ∧ w i = true) ↔ (x ≤ i ∧ i < m ∧ w i = true) ∨ (i = m ∧ w m = true) := by
      constructor
      · rintro ⟨h1, h2, h3⟩
        rcases Nat.lt_succ_iff_lt_or_eq.1 h2 with h | rfl
        exacts [.inl ⟨h1, h, h3⟩, .inr ⟨rfl, h3⟩]
      · rintro (⟨h1, h2, h3⟩ | ⟨rfl, h3⟩)
        exacts [⟨h1, by omega, h3⟩, ⟨hx, by omega, h3⟩]
    rcases hw : w m with _ | _
    · rw [VStream.writesOf, if_neg (by simp [hw])]
      rw [hw] at hlast
      rwa [show (fun i => x ≤ i ∧ i < m + 1 ∧ w i = true) = fun i => x ≤ i ∧ i < m ∧ w i = true from funext fun i =>
        propext ((hlast i).trans (or_iff_left fun h => absurd h.2 Bool.false_ne_true))]
    · obtain ⟨hbad, hval⟩ := hvalid m hx (by omega) hw
      rw [VStream.writesOf, if_pos hw]
      exact ih.step hd haddr hu (fun i hi => ⟨hi.2.1, (State.badByte_none (typeBytes_pos d.ty) (hvalid i hi.1 (by omega) hi.2.2).1).1⟩)
        ((State.badByte_congr hmap _ _).trans hbad) hval fun i => by rw [hlast, hw]; simp

/-- What has been written depends on the bytes alone. -/
theorem State.wrote.sameMemories {s t u : State} {k : SlotId} {d : VStream} {at_ : ℕ → ℤ} {P : ℕ → Prop} {val : ℕ → ℕ} (h : s.wrote t k d at_ P val)
    (hu : t.sameMemories u) : s.wrote u k d at_ P val := by
  obtain ⟨hvals, hbits, hother⟩ := h
  have helem (a : ℤ) (i : ℕ) : u.elemAt k d a i = t.elemAt k d a i := by
    simp only [State.elemAt, State.bytesAt, hu.byteAt]
  exact ⟨fun i hi hl => (helem _ _).trans (hvals i hi hl), fun a j hj hn => by rw [hu.byteAt]; exact hbits a j hj hn,
    fun k' hk' b => by rw [hu.desk]; exact hother k' hk' b⟩

/-- Nothing outside the elements named has changed. -/
theorem State.wrote.congr {s t : State} {k : SlotId} {d : VStream} {at_ : ℕ → ℤ} {P Q : ℕ → Prop} {val val' : ℕ → ℕ} (h : s.wrote t k d at_ P val)
    (hPQ : ∀ i, P i ↔ Q i) (hval : ∀ i, P i → val i = val' i) : s.wrote t k d at_ Q val' := by
  obtain rfl : P = Q := funext fun i => propext (hPQ i)
  exact ⟨fun i hi hl => (h.1 i hi hl).trans (hval i hi), h.2⟩

end Sys2Proof.Machine
end

section
/-!
SUPPORT. One operation of a row of the opcode table over streams: its operands, its sources and what it delivers (02 R63-R66).
-/

namespace Sys2Proof.Machine

/-! ### The engine at its front entry -/

/-- VECTOR_ENTRY_EXECUTE without residue mismatches runs the front entry of an engine that runs (log 11). -/
theorem exec_front {s : State} {i : StreamId} {k : SlotId} {e : VEntry} {es : List VEntry} (hk : s.slotOf i = some k)
    (hq : (s.slot k).eng.queue = e :: es) (hstop : (s.slot k).eng.stopped = false) (hsus : (s.slot k).eng.suspend = false) :
    exec (.vectorEntryExecute ⟨i, [], true⟩) s = .next (s.runEntry k e none) := by
  have hmiss : s.noteMisses i k e [] = s := by
    unfold State.noteMisses
    dsimp only
    split_ifs <;> rfl
  rw [exec_vectorEntryExecute, execVectorEntryExecute]
  simp only [hk, hq, hstop, hsus, hmiss]
  rfl

theorem resolve_single (x : Slot) (v : VOp) : resolve x [v] = [x.op 0 v] := rfl

/-! ### Elements by their types -/

/-- An element fits its type. -/
theorem State.elemAt_lt (s : State) (k : SlotId) {d : VStream} (hd : d.ty ≤ 10) (a : ℤ) (i : ℕ) : s.elemAt k d a i < 2 ^ typeBits d.ty := by
  unfold State.elemAt
  by_cases hty : d.ty = 10
  · rw [if_pos hty, hty]
    exact Nat.mod_lt _ two_pos
  · rw [if_neg hty, typeBits_of_lt (by omega)]
    exact (leNat_lt _).trans_eq (by simp [State.bytesAt])

/-! ### Operands of a row -/

theorem VOp.uses_of {v : VOp} {c0 c1 c2 c3 : Bool} (h : (vrow v.vop.toNat).map VRow.operands = some (c0, c1, c2, c3)) (n : Fin 4) :
    v.uses n = [c0, c1, c2 && v.f.scl == 0, c3].getD n.val false := by
  obtain ⟨r, hr, ho⟩ := Option.map_eq_some_iff.1 h
  obtain ⟨rfl, rfl, rfl, rfl⟩ : r.ad = c0 ∧ r.as1 = c1 ∧ r.as2 = c2 ∧ r.as3 = c3 := by simpa [VRow.operands] using ho
  rw [VOp.uses, hr]
  rfl

theorem VOp.bearer_of_uses {v : VOp} (h : v.uses 0 = true) : v.bearer = 0 := by
  have hr : List.finRange 4 = [0, 1, 2, 3] := rfl
  rw [VOp.bearer, VOp.named_eq, hr, List.filter_cons, if_pos h]
  rfl

theorem VOp.bearer_of_not_uses {v : VOp} (h : v.uses 0 = false) (h1 : v.uses 1 = true) : v.bearer = 1 := by
  have hr : List.finRange 4 = [0, 1, 2, 3] := rfl
  rw [VOp.bearer, VOp.named_eq, hr, List.filter_cons, if_neg (by simp [h]), List.filter_cons, if_pos h1]
  rfl

/-- The operands that a row with a destination names. -/
def ElemRow.named (row : ElemRow) (v : VOp) (o : Fin 4) : Prop := o.val ≤ row.srcs ∧ (o = 2 → v.f.scl = 0)

section
variable {row : ElemRow} (hrow : row ∈ Rows.element) {v : VOp} (hvop : v.vop = BitVec.ofNat 8 row.vop)
include hrow hvop

theorem ElemRow.vop_toNat : v.vop.toNat = row.vop := by
  rw [hvop, BitVec.toNat_ofNat]
  exact Nat.mod_eq_of_lt (vrow_element row hrow).1

theorem ElemRow.vop_eq {n : ℕ} (hn : n < 256) : v.vop = BitVec.ofNat 8 n ↔ row.vop = n := by
  rw [← BitVec.toNat_inj, ElemRow.vop_toNat hrow hvop, BitVec.toNat_ofNat, Nat.mod_eq_of_lt hn]

theorem ElemRow.uses_iff (o : Fin 4) : v.uses o = true ↔ row.named v o := by
  obtain ⟨-, -, -, hr⟩ := vrow_element row hrow
  rw [← ElemRow.vop_toNat hrow hvop] at hr
  rw [VOp.uses_of hr, ElemRow.named]
  fin_cases o <;> simp

/-- An operation whose descriptors spell streams of the types of its row. -/
theorem ElemRow.operates {x : Slot} {g : VecArgs} (hbad : x.desk.bad = []) (hnames : x.names g v (row.named v) 0)
    (htypes : row.types (g.main 0).ty (g.main 1).ty (g.main 2).ty (g.main 3).ty) : x.operates g v (row.named v) 0 := by
  have h0 : row.named v 0 := ⟨Nat.zero_le _, fun e => by cases e⟩
  refine ⟨ElemRow.uses_iff hrow hvop, VOp.bearer_of_uses ((ElemRow.uses_iff hrow hvop 0).2 h0), h0, hbad, hnames, fun n prev hn hprev => ?_⟩
  obtain ⟨t0, t1, t2, t3⟩ := typeOk_element row hrow _ _ _ _ prev htypes
  rw [ElemRow.vop_toNat hrow hvop]
  have hp0 (hlt : 0 < n) : prev 0 = some (g.main 0).ty := hprev 0 (Nat.zero_le _) hlt h0
  have hp1 (hlt : 1 < n) (hs : 1 ≤ row.srcs) : prev 1 = some (g.main 1).ty := hprev 1 le_rfl hlt ⟨hs, fun e => by cases e⟩
  have hsrc : n.val ≤ row.srcs := hn.1
  match n with
  | 0 => exact t0
  | 1 => exact t1 hsrc (hp0 (by decide))
  | 2 => exact t2 hsrc (hp0 (by decide)) (hp1 (by decide) (by simp at hsrc; omega))
  | 3 => exact t3 hsrc (hp0 (by decide)) (hp1 (by decide) (by simp at hsrc; omega))

end

/-! ### Sources of a row -/

/-- Source 2 at element `j`: the scalar in the type of the operand that it replaces, or the element (02 R65). -/
def VecArgs.a2 (g : VecArgs) (s : State) (k : SlotId) (v : VOp) (j : ℕ) : ℕ :=
  if v.f.scl = 1 then v.scalar.toNat % 2 ^ typeBits (g.main 2).ty else g.elem s k 2 j

/-- The element that VPERM picks. -/
def VecArgs.picked (g : VecArgs) (s : State) (k : SlotId) (v : VOp) (j : ℕ) : ℕ := 64 * (j / 64) + g.a2 s k v j % 64

/-- Source 1 of a row. -/
def ElemRow.a1 (row : ElemRow) (g : VecArgs) (s : State) (k : SlotId) (v : VOp) (n j : ℕ) : ℕ :=
  if row.vop = 0x02 then v.scalar.toNat else if row.srcs = 0 then 0
  else if row.vop = 0x05 then (if g.picked s k v j < n then g.elem s k 1 (g.picked s k v j) else 0) else g.elem s k 1 j

/-- VPERM has two sources, and VFILL none. -/
theorem fixed_sources : ∀ row ∈ Rows.element, (row.vop = 0x05 → row.srcs = 2) ∧ (row.vop = 0x02 → row.srcs = 0) := by decide

/-- What the row delivers at an active element. -/
def ElemRow.delivers (row : ElemRow) (g : VecArgs) (s : State) (k : SlotId) (v : VOp) (n j : ℕ) : FRes :=
  elemResult row.vop v.f.fn.toNat v.rm (g.main 0).ty (g.main 1).ty (row.a1 g s k v n j) (g.a2 s k v j) (g.elem s k 3 j) j

/-- The address of source `o` of element `j` is valid. -/
def ElemRow.fits (row : ElemRow) (g : VecArgs) (s : State) (k : SlotId) (v : VOp) (n : ℕ) (o : Fin 4) (j : ℕ) : Prop :=
  if row.vop = 0x05 ∧ o = 1 then g.picked s k v j < n → g.valid s k 1 (g.picked s k v j) else g.valid s k o j

section
variable {row : ElemRow} (hrow : row ∈ Rows.element) {v : VOp} (hvop : v.vop = BitVec.ofNat 8 row.vop) {s : State} {k : SlotId} {g : VecArgs}
  (h : (s.slot k).operates g v (row.named v) 0) (hkeeps : v.f.scl = 1 → 2 ≤ row.srcs ∧ (if row.vop = 0x04 then (g.main 0).ty else (g.main 1).ty) = (g.main 2).ty)
  (htypes : row.types (g.main 0).ty (g.main 1).ty (g.main 2).ty (g.main 3).ty) {pos : ℕ}
include hrow hvop h

omit hrow hvop in
theorem Slot.operates.elem_lt {n : Fin 4} (hn : row.named v n) (j : ℕ) : g.elem s k n j < 2 ^ typeBits (g.main n).ty :=
  State.elemAt_lt s k (h.main hn).2.2.2.2.2.2.2.1 _ _

include hkeeps in
theorem ElemRow.scalar_eq (hs : v.f.scl = 1) : ((s.slot k).op pos v).scalar = v.scalar.toNat % 2 ^ typeBits (g.main 2).ty := by
  obtain ⟨hsrc, hty⟩ := hkeeps hs
  have h0 : row.named v 0 := h.first
  have h1 : row.named v 1 := ⟨by simp; omega, fun e => by cases e⟩
  have hop : ((s.slot k).op pos v).v = v := rfl
  have hty0 := h.opType (pos := pos) 0 h0
  have hty1 := h.opType (pos := pos) 1 h1
  simp only [Fin.val_zero, Fin.val_one] at hty0 hty1
  rw [ROp.scalar, hop, hty0, hty1, ← hty]
  have h4 : v.vop = 0x04 ↔ row.vop = 0x04 := ElemRow.vop_eq hrow hvop (by decide)
  simp only [h4]
  split_ifs <;> rfl

include hkeeps in
theorem ElemRow.second_eq (hsrc : 2 ≤ row.srcs) (j : ℕ) : g.second s k v ((s.slot k).op pos v).scalar j = g.a2 s k v j := by
  unfold VecArgs.second VecArgs.a2
  split_ifs with hs
  · exact ElemRow.scalar_eq hrow hvop h hkeeps hs
  · have hscl : v.f.scl = 0 := by revert hs; generalize v.f.scl = c; revert c; decide
    rw [VecArgs.source, if_pos ((h.uses 2).2 ⟨hsrc, fun _ => hscl⟩)]

include hkeeps in
theorem ElemRow.initial_eq (n j : ℕ) : g.initial s k v ((s.slot k).op pos v).scalar n j = row.a1 g s k v n j := by
  have h5 : v.vop = 0x05 ↔ row.vop = 0x05 := ElemRow.vop_eq hrow hvop (by decide)
  have h2 : v.vop = 0x02 ↔ row.vop = 0x02 := ElemRow.vop_eq hrow hvop (by decide)
  have hperm := (fixed_sources row hrow).1
  have hsource (j : ℕ) : g.source s k v 1 j = if row.srcs = 0 then 0 else g.elem s k 1 j := by
    have h1 : v.uses 1 = true ↔ row.srcs ≠ 0 := (h.uses 1).trans ⟨fun h => by have := h.1; simp at this; omega, fun h => ⟨by simp; omega, fun e => by cases e⟩⟩
    unfold VecArgs.source
    by_cases h0 : row.srcs = 0
    · rw [if_pos h0, if_neg (by rw [h1]; exact not_not.2 h0)]
    · rw [if_neg h0, if_pos (h1.2 h0)]
  unfold VecArgs.initial ElemRow.a1
  simp only [h5, h2, hsource]
  by_cases hv5 : row.vop = 0x05
  · have hsrc := hperm hv5
    simp only [if_pos hv5, VecArgs.selected, VecArgs.picked, ElemRow.second_eq hrow hvop h hkeeps hsrc.ge]
    have h2 : row.vop ≠ 0x02 := by omega
    have h0 : row.srcs ≠ 0 := by omega
    simp only [if_neg h2, if_neg h0] <;> rfl
  · simp only [if_neg hv5]

include hkeeps in
theorem ElemRow.fits_iff (n : ℕ) (o : Fin 4) (j : ℕ) : g.fits s k v ((s.slot k).op pos v).scalar n o j ↔ row.fits g s k v n o j := by
  have h5 : v.vop = 0x05 ↔ row.vop = 0x05 := ElemRow.vop_eq hrow hvop (by decide)
  have hperm := (fixed_sources row hrow).1
  unfold VecArgs.fits ElemRow.fits
  by_cases hv5 : row.vop = 0x05
  · simp only [h5, VecArgs.selected, VecArgs.picked, ElemRow.second_eq hrow hvop h hkeeps (hperm hv5).ge]
  · simp only [h5, hv5, false_and, if_false]

include hkeeps htypes in
/-- What the engine makes of the sources of an active element. -/
theorem ElemRow.result_eq (n j : ℕ) : ((s.slot k).op pos v).result (g.args s k v ((s.slot k).op pos v) n j) j = row.delivers g s k v n j := by
  have h0 := h.opType (pos := pos) 0 h.first
  have h1 : (((s.slot k).op pos v).type 1).getD 0 = (g.main 1).ty := by
    by_cases hsrc : row.srcs = 0
    · have := h.opType_none (pos := pos) 1 fun e => by have := e.1; simp at this; omega
      simp only [Fin.val_one] at this
      rw [this, type_of_no_source row hrow _ _ _ _ htypes hsrc]; rfl
    · have := h.opType (pos := pos) 1 ⟨by simp; omega, fun e => by cases e⟩
      simp only [Fin.val_one] at this
      rw [this]; rfl
  simp only [Fin.val_zero] at h0
  have hop : ((s.slot k).op pos v).v = v := rfl
  rw [ROp.result, ElemRow.delivers, hop, h0, h1, ElemRow.vop_toNat hrow hvop]
  simp only [ElemRow.initial_eq hrow hvop h hkeeps, Option.getD_some]
  refine elemResult_unused row hrow _ _ _ _ _ _ _ _ _ _ (fun hs => ElemRow.second_eq hrow hvop h hkeeps hs j) fun hs => ?_
  rw [VecArgs.source, if_pos ((h.uses 3).2 ⟨hs, fun e => by cases e⟩)]

omit hvop in
include htypes in
theorem ElemRow.a1_lt (n j : ℕ) : row.a1 g s k v n j < 2 ^ typeBits (g.main 1).ty := by
  have hfill := (fixed_sources row hrow).2
  have hpos := Nat.two_pow_pos (typeBits (g.main 1).ty)
  unfold ElemRow.a1
  by_cases hsrc : row.srcs = 0
  · have h64 : typeBits (g.main 1).ty = 64 := by rw [type_of_no_source row hrow _ _ _ _ htypes hsrc]; rfl
    rw [if_pos hsrc]
    split_ifs
    · rw [h64]; exact v.scalar.isLt
    · exact hpos
  · rw [if_neg fun e => hsrc (hfill e), if_neg hsrc]
    have hn : row.named v 1 := ⟨by simp; omega, fun e => by cases e⟩
    split_ifs
    exacts [h.elem_lt hn _, hpos, h.elem_lt hn _]

omit hvop hrow in
theorem ElemRow.a2_lt (hsrc : 2 ≤ row.srcs) (j : ℕ) : g.a2 s k v j < 2 ^ typeBits (g.main 2).ty := by
  unfold VecArgs.a2
  split_ifs with hs
  · exact Nat.mod_lt _ (Nat.two_pow_pos _)
  · have hscl : v.f.scl = 0 := by revert hs; generalize v.f.scl = c; revert c; decide
    exact h.elem_lt ⟨hsrc, fun _ => hscl⟩ j

omit hvop in
include htypes in
theorem ElemRow.delivers_gives (hfn : row.fnOk v.f.fn.toNat) (n j : ℕ) : row.gives ⟨v.f.fn.toNat, v.rm, (g.main 0).ty, (g.main 1).ty⟩
    (row.a1 g s k v n j) (g.a2 s k v j) (g.elem s k 3 j) j (row.delivers g s k v n j) :=
  elementRows_hold row hrow _ _ _ _ _ _ _ _ _ _ htypes hfn (ElemRow.a1_lt hrow h htypes n j) fun hs => ElemRow.a2_lt h hs j

omit hvop in
include htypes in
theorem ElemRow.delivers_lt (hfn : row.fnOk v.f.fn.toNat) (n j : ℕ) : (row.delivers g s k v n j).val < 2 ^ typeBits (g.main 0).ty :=
  ElemRow.gives_lt row hrow _ _ _ _ _ _ _ _ htypes (ElemRow.a1_lt hrow h htypes n j) (fun hs => ElemRow.a2_lt h hs j)
    (ElemRow.delivers_gives hrow h htypes hfn n j)

end

end Sys2Proof.Machine
end

section
/-!
SUPPORT. An entry of one row with a destination, from its first element to its end or its stop (02 R43, R46, R53, R57; 04 R114).
-/

namespace Sys2Proof.Machine

/-! ### Sticky bits along a run -/

/-- The registers before element `j` of a run from `x` on, in which the elements that `on` names raise the flags `fl`. -/
def Regs.raising (r : Regs) (x : ℕ) (on : ℕ → Bool) (fl : ℕ → FlagSet) (j : ℕ) : Regs :=
  { r with fpcsr := sticky r.fpcsr (((List.range j).filter fun i => decide (x ≤ i) && on i).map fl) }

theorem Regs.raising_start (r : Regs) (x : ℕ) (on : ℕ → Bool) (fl : ℕ → FlagSet) : r.raising x on fl x = r := by
  have : (List.range x).filter (fun i => decide (x ≤ i) && on i) = [] :=
    List.filter_eq_nil_iff.2 fun i hi => by have := List.mem_range.1 hi; simp [this]
  rw [Regs.raising, this]
  rfl

theorem sticky_append (f : Word32) (fls : List FlagSet) (fl : FlagSet) : sticky f (fls ++ [fl]) = sticky f fls ||| fl.zeroExtend 32 :=
  List.foldl_append ..

theorem Regs.raising_succ (r : Regs) {x j : ℕ} (hx : x ≤ j) (on : ℕ → Bool) (fl : ℕ → FlagSet) :
    r.raising x on fl (j + 1) = if on j then (r.raising x on fl j).orFlags (fl j) else r.raising x on fl j := by
  unfold Regs.raising
  rw [List.range_succ, List.filter_append, List.map_append]
  rcases hon : on j with _ | _
  · simp [hon]
  · rw [List.filter_singleton, hon, decide_eq_true hx]
    simp only [Bool.and_true, if_true, cond_true, List.map_singleton, sticky_append]
    rfl

/-! ### The course of a row -/

/-- The course of a row with a destination over the elements from `x` up to `n`. -/
def ElemRow.course (row : ElemRow) (g : VecArgs) (s : State) (k : SlotId) (v : VOp) (n x : ℕ) : Course where
  regs := (s.regs k).raising x (g.active s k 0) fun j => (row.delivers g s k v n j).flags
  writes := (g.main 0).writesOf (g.addr s k 0) (g.writes s k 0) fun j => if g.active s k 0 j then (row.delivers g s k v n j).val else 0

theorem addrCode_addrSub {s : State} {a : ℤ} {n sub : ℕ} (h : s.addrCode a n sub) : ∃ b, s.badByte a n = some b ∧ sub = addrSub (s.classify b) := by
  obtain ⟨b, hb, rfl⟩ := h
  refine ⟨b, hb, ?_⟩
  unfold addrSub
  generalize s.classify b = c
  cases c <;> rfl

/-- A row with a destination whose operands are the streams `g`, read over the elements from `x` up to `n`, with the destination from `lo` up to `up`. -/
structure ElemRow.ready (row : ElemRow) (s : State) (k : SlotId) (g : VecArgs) (v : VOp) (n x : ℕ) (lo up : ℤ) (D : Prop) : Prop where
  mem : row ∈ Rows.element
  vop : v.vop = BitVec.ofNat 8 row.vop
  fits : ∀ j, (row.delivers g s k v n j).val < 2 ^ typeBits (g.main 0).ty
  scalar : v.f.scl = 1 → 2 ≤ row.srcs ∧ (if row.vop = 0x04 then (g.main 0).ty else (g.main 1).ty) = (g.main 2).ty
  types : row.types (g.main 0).ty (g.main 1).ty (g.main 2).ty (g.main 3).ty
  operates : (s.slot k).operates g v (row.named v) 0
  feeds : s.feeds k g (row.named v) 0 x n lo up D
  apart : s.apart k g (row.named v) 0 x n lo up
  moves : (g.main 0).mode = 1 → (g.main 0).stride ≠ 0
  desk : D → ∀ j, x ≤ j → j < n → (deskBase : ℤ) ≤ g.addr s k 0 j

section
variable {row : ElemRow} {s : State} {k : SlotId} {g : VecArgs} {v : VOp} {n x : ℕ} {lo up : ℤ} {D : Prop} (h : row.ready s k g v n x lo up D)
  {j : ℕ} (hx : x ≤ j) (hj : j < n)
include h hx hj

omit hx hj in
theorem ElemRow.ready.result (hon : g.active s k 0 j = true) : g.result s k v 0 ((s.slot k).op 0 v) n j = row.delivers g s k v n j := by
  rw [VecArgs.result, if_pos hon]
  exact ElemRow.result_eq h.mem h.vop h.operates h.scalar h.types n j

omit hx hj in
theorem ElemRow.ready.reads (hfit : ∀ o, o ≠ 0 → row.named v o → row.fits g s k v n o j) (o : Fin 4) (h0 : o ≠ 0) (ho : row.named v o) :
    g.fits s k v ((s.slot k).op 0 v).scalar n o j :=
  (ElemRow.fits_iff h.mem h.vop h.operates h.scalar n o j).2 (hfit o h0 ho)

theorem ElemRow.ready.passes
    (hon : g.active s k 0 j = true → (∀ o, o ≠ 0 → row.named v o → row.fits g s k v n o j)
      ∧ (row.delivers g s k v n j).flags &&& v.traps.truncate 6 = 0)
    (hw : g.writes s k 0 j = true → g.valid s k 0 j) : (row.course g s k v n x).passes s k lo up n [(s.slot k).op 0 v] D j := by
  have hgroup : 64 * (x / 64) ≤ j := by omega
  refine ⟨fun w hmem => ?_, fun t links live hst => ?_⟩
  · rcases hwj : g.writes s k 0 j with _ | _
    · simp [ElemRow.course, VStream.writesOf, hwj] at hmem
    · have hval := hw hwj
      obtain ⟨h0, hside⟩ := State.badByte_none (typeBytes_pos _) hval
      obtain ⟨hlo, hup⟩ := h.apart.1 j hx hj
      simp only [ElemRow.course, VStream.writesOf, hwj, if_true, List.mem_singleton] at hmem
      subst hmem
      refine ⟨?_, ?_, ?_⟩
      all_goals rw [VStream.write_addr]
      · rw [VStream.write_size]; exact hside
      · omega
      · rw [VStream.write_size]; omega
  · have hregs : (row.course g s k v n x).regs (j + 1) = if g.active s k 0 j then
        ((row.course g s k v n x).regs j).orFlags (row.delivers g s k v n j).flags else (row.course g s k v n x).regs j :=
      Regs.raising_succ _ hx _ _
    have hwrites : (row.course g s k v n x).writes j = if g.writes s k 0 j then [(g.main 0).write j (g.addr s k 0 j)
      (if g.active s k 0 j then (row.delivers g s k v n j).val else 0)] else [] := rfl
    rw [hregs, hwrites]
    rcases hwj : g.writes s k 0 j with _ | _
    · have hoff : g.active s k 0 j = false := (Bool.or_eq_false_iff.1 hwj).1
      rw [hoff]
      exact h.operates.elemStep_quiet hst h.feeds h.operates.first hgroup hj _ links live hwj
    · have hres : g.result s k v 0 ((s.slot k).op 0 v) n j = if g.active s k 0 j then row.delivers g s k v n j else ⟨0, 0⟩ := by
        rcases hact : g.active s k 0 j with _ | _
        · rw [VecArgs.result, hact]; rfl
        · rw [h.result hact]; rfl
      have := h.operates.elemStep_writes hst h.feeds h.operates.first (ops := [(s.slot k).op 0 v]) (pos := 0) hgroup hj ((row.course g s k v n x).regs j) links live hwj
        (fun hact => h.reads (hon hact).1) ?_ (hw hwj) fun hD => h.desk hD j hx hj
      · rw [hres] at this
        rcases hact : g.active s k 0 j with _ | _
        · rw [hact] at this
          simp only [Bool.false_eq_true, if_false, Regs.orFlags_zero] at this
          exact this
        · rw [hact] at this
          exact this
      · rw [hres]
        rcases hact : g.active s k 0 j with _ | _
        · exact BitVec.zero_and
        · exact (hon hact).2

theorem ElemRow.ready.stops_source (hon : g.active s k 0 j = true) (h5 : row.vop ≠ 0x05) {o : Fin 4} (h0 : o ≠ 0) (ho : row.named v o)
    (hlow : ∀ o' < o, o' ≠ 0 → row.named v o' → g.valid s k o' j) {sub : ℕ} (hc : s.addrCode (g.addr s k o j) (typeBytes (g.main o).ty) sub) :
    (row.course g s k v n x).stops s k lo up n [(s.slot k).op 0 v] D ⟨0, 8, sub, o, 0, BitVec.ofInt 64 (g.addr s k o j), 0⟩ [] j := by
  obtain ⟨b, hb, rfl⟩ := addrCode_addrSub hc
  refine fun t links live hst => h.operates.elemStep_src_fails hst h.feeds h.operates.first (by omega) hj _ links live hon ?_ ?_ ?_ h0 ho hlow hb
  · exact mt (ElemRow.vop_eq h.mem h.vop (by decide)).1 h5
  · intro hn hs
    rw [hn.2 rfl] at hs
    exact absurd hs (by decide)
  · intro hn h2
    have := (fixed_sources row h.mem).2 ((ElemRow.vop_eq h.mem h.vop (by decide)).1 h2)
    have := hn.1
    simp at this
    omega

theorem ElemRow.ready.stops_trap (hon : g.active s k 0 j = true) (hfit : ∀ o, o ≠ 0 → row.named v o → row.fits g s k v n o j) {cause sub : ℕ}
    (ht : trapCode (row.delivers g s k v n j).flags (v.traps.truncate 6) cause sub) :
    (row.course g s k v n x).stops s k lo up n [(s.slot k).op 0 v] D ⟨0, cause, sub, 9, 0, 0, (row.delivers g s k v n j).flags⟩ [] j := by
  rw [← h.result hon] at ht ⊢
  exact fun t links live hst => h.operates.elemStep_traps hst h.feeds h.operates.first (by omega) hj _ links live hon (h.reads hfit) ht
    fun hD => h.desk hD j hx hj

theorem ElemRow.ready.stops_destination (hw : g.writes s k 0 j = true)
    (hon : g.active s k 0 j = true → (∀ o, o ≠ 0 → row.named v o → row.fits g s k v n o j)
      ∧ (row.delivers g s k v n j).flags &&& v.traps.truncate 6 = 0) {sub : ℕ} (hc : s.addrCode (g.addr s k 0 j) (typeBytes (g.main 0).ty) sub) :
    (row.course g s k v n x).stops s k lo up n [(s.slot k).op 0 v] D ⟨0, 8, sub, 0, 0, BitVec.ofInt 64 (g.addr s k 0 j), 0⟩ [] j := by
  obtain ⟨b, hb, rfl⟩ := addrCode_addrSub hc
  refine fun t links live hst => h.operates.elemStep_dst_fails hst h.feeds h.operates.first (by omega) hj _ links live hw (fun hact => h.reads (hon hact).1)
    ?_ hb
  rcases hact : g.active s k 0 j with _ | _
  · rw [VecArgs.result, hact]; exact BitVec.zero_and
  · rw [h.result hact]; exact (hon hact).2

omit hx hj in
theorem ElemRow.ready.links : ∀ o ∈ [(s.slot k).op 0 v], o.writesLink = none := by
  simp only [List.mem_singleton, forall_eq]
  rw [ROp.writesLink, h.operates.ref_dst h.operates.first]
  have : ((s.slot k).mainRef 0 v 0).d.trans = false := (h.operates.says h.operates.first).1.trans
  simp [this]

omit hx hj in
theorem ElemRow.ready.check (hxn : x ≤ n) : checkEntry (s.slot k) false [(s.slot k).op 0 v] x n = none := by
  rw [h.operates.checkEntry 0 (h.operates.overlap (fun _ => h.apart) (fun _ => h.moves) 0), if_neg (by omega)]

omit hx hj in
/-- What the run has written when it comes to element `m`. -/
theorem ElemRow.ready.wrote {m : ℕ} (hs : s.inForm k) (hxm : x ≤ m)
    (hvalid : ∀ j, x ≤ j → j < m → g.writes s k 0 j = true → g.valid s k 0 j) :
    s.wrote (s.written k ((row.course g s k v n x).made x m)) k (g.main 0) (g.addr s k 0) (fun j => x ≤ j ∧ j < m ∧ g.writes s k 0 j = true)
      fun j => if g.active s k 0 j then (row.delivers g s k v n j).val else 0 := by
  refine State.wrote_written (h.operates.main h.operates.first).2.2.2 hs (fun _ => rfl) hxm fun j h1 h2 hw => ⟨hvalid j h1 h2 hw, ?_⟩
  rcases g.active s k 0 j with _ | _
  · exact Nat.two_pow_pos _
  · exact h.fits j

end

end Sys2Proof.Machine
end

section
/-!
SUPPORT. Rows with a destination over streams in local memory and in the desk, and descriptor addresses that name none (02 R38, R55-R57).
-/

namespace Sys2Proof.Machine

/-! ### What a lesson may read -/

section
variable {s : State} {k : SlotId} {g : VecArgs} {named : Fin 4 → Prop} {b : Fin 4} {x n : ℕ} (h : s.mayCompute k g named b x n)
include h

/-- A valid address reads well where all that may be read is sound. -/
theorem State.mayCompute.legible {a : ℤ} {m : ℕ} (ha : s.badByte a m = none) : s.legible k a m := by
  obtain ⟨-, -, hbad, hsound, -⟩ := h
  refine State.legible_of ha hbad fun j hj hlow => ?_
  have hbyte := State.badByte_byte ha hj
  have h0 := (State.badByte_none (by omega) hbyte).1
  have := hsound (a + j).toNat (by rwa [Int.toNat_of_nonneg h0])
  rw [State.sound, if_neg (by omega)] at this
  obtain ⟨h1, -, h2, h3⟩ := this ((a + j).toNat / 64) (by rw [blocksOf, if_neg (by omega), mem_upFrom]; omega)
  rw [State.readFails_eq_none]
  refine ⟨?_, h1, h3⟩
  rw [State.lastFailed, Option.map_eq_none_iff, List.find?_eq_none]
  exact fun f hf => by simpa using h2 f hf

/-- What the rows read, apart from what they write. -/
theorem State.mayCompute.feeds {lo up : ℤ}
    (ha : ∀ d at_, g.reads s k named b d at_ → ∀ j, 64 * (x / 64) ≤ j → j < n → 0 ≤ at_ j → at_ j + typeBytes d.ty ≤ lo ∨ up ≤ at_ j) :
    s.feeds k g named b x n lo up False := by
  have hread {d : VStream} {at_ : ℕ → ℤ} (hd : g.reads s k named b d at_) {j : ℕ} (h1 : 64 * (x / 64) ≤ j) (h2 : j < n)
      (hv : s.badByte (at_ j) (typeBytes d.ty) = none) : s.readable k lo up False (at_ j) (typeBytes d.ty) :=
    ⟨h.legible hv, ha d at_ hd j h1 h2 (State.badByte_none (typeBytes_pos _) hv).1, False.elim⟩
  obtain ⟨hidx, hmask, -, -, -⟩ := h
  exact ⟨fun m i hm hmode h1 h2 => hread (.inr (.inl ⟨m, hm, hmode, rfl, rfl⟩)) h1 h2 (hidx m hm hmode i h1 h2),
    fun i hm h1 h2 => hread (.inr (.inr ⟨hm, rfl, rfl⟩)) h1 h2 (hmask hm i h1 h2),
    fun m i hm0 hm h1 h2 hv => hread (.inl ⟨m, hm0, hm, rfl, rfl⟩) h1 h2 hv⟩

theorem State.mayCompute.weighs : s.weightless k = false := by
  obtain ⟨-, -, -, -, hw⟩ := h
  unfold State.weightless
  rcases hs : s.streamOf k with _ | i
  · rfl
  · simp only
    rcases hr : s.tt.streams[i].run with _ | r
    · rfl
    · exact beq_eq_false_iff_ne.2 (hw i r hs hr)

end

/-! ### How the obligation says that an entry ended -/

theorem State.completes.vecDone {s t : State} {k : SlotId} {ws : List EngineWrite} {r : Regs} {D : Prop} (h : s.completes t k ws r D) {e : VEntry}
    {es : List VEntry} (hq : (s.slot k).eng.queue = e :: es) (hstop : (s.slot k).eng.stopped = false) : t.vecDone k es r :=
  ⟨by rw [h.queue, hq]; rfl, h.stopped.trans hstop, h.regs⟩

theorem State.stopsAt.vecStopped {s t : State} {k : SlotId} {e : VEntry} {ws : List EngineWrite} {r : Regs} {st : VStop} {vx : Word32}
    (h : s.stopsAt t k e ws r st vx) {es : List VEntry} (hq : (s.slot k).eng.queue = e :: es) (hgop : st.gop = 0) {m : ℕ}
    (hm : vx = BitVec.ofNat 32 m) : s.vecStopped t k r m st.cause st.sub st.opnd st.addr st.flags :=
  ⟨h.queue, h.stopped, hm ▸ h.regs, by rw [h.cause, hgop]; rfl, h.vfaddr, h.veflags, by rw [hq, h.vfvl]; rfl⟩

theorem ofNat_toNat (w : Word32) : w = BitVec.ofNat 32 w.toNat := by simp

/-! ### Descriptors that are not found -/

theorem List.findSome?_head {α β : Type} {f : α → Option β} {a : α} {l : List α} {y : β} (h : f a = some y) : (a :: l).findSome? f = some y := by
  rw [List.findSome?_cons, h]

/-- An address in AD that names no descriptor stops the entry before its elements (02 R33, R57). -/
theorem ElemRow.checkEntry_misplaced {row : ElemRow} (hrow : row ∈ Rows.element) {v : VOp} (hvop : v.vop = BitVec.ofNat 8 row.vop) (x : Slot)
    (hbad : v.aAd.toNat % 32 ≠ 0 ∨ inOwnDesk v.aAd.toNat 32 = false) (vx vl : ℕ) :
    checkEntry x false [x.op 0 v] vx vl = some ⟨0, 1, 0, 0, 0, v.aAd, 0⟩ := by
  have huse : v.uses 0 = true := (ElemRow.uses_iff hrow hvop 0).2 ⟨Nat.zero_le _, fun e => by cases e⟩
  have hr : List.finRange 4 = [0, 1, 2, 3] := rfl
  have hnamed : v.named = (0, v.aAd) :: (([1, 2, 3] : List (Fin 4)).filter v.uses).map fun n => (n.val, v.operand n) := by
    rw [VOp.named_eq, hr, List.filter_cons, if_pos huse]; rfl
  have hplace : ¬(v.aAd.toNat % 32 = 0 ∧ inOwnDesk v.aAd.toNat 32 = true) := by
    rintro ⟨h1, h2⟩
    rcases hbad with h | h
    · exact h h1
    · rw [h2] at h; cases h
  have hrefs : ∃ l, x.refsOf 0 v = ⟨0, 3 * 0, 0, v.aAd, none, .data, 0 == (v.named.head?.map Prod.fst).getD 0, ⟨0, 0, 0, 0⟩⟩ :: l := by
    unfold Slot.refsOf
    dsimp only
    generalize (v.named.head?.map Prod.fst).getD 0 = bearer
    rw [hnamed, List.flatMap_cons]
    dsimp only
    rw [if_neg hplace]
    exact ⟨_, rfl⟩
  obtain ⟨l, hl⟩ := hrefs
  have hall : allRefs [x.op 0 v] = x.refsOf 0 v := List.append_nil _
  have haddr : checkAddr [x.op 0 v] = some ⟨0, 1, 0, 0, 0, v.aAd, 0⟩ := by
    rw [checkAddr, hall, hl]
    exact List.findSome?_head rfl
  rw [checkEntry, haddr]
  rfl

/-- Clause 3: no byte is written, and the fault names AD. -/
theorem ElemRow.misplaced_stops {row : ElemRow} (hrow : row ∈ Rows.element) {s : State} {i : StreamId} {k : SlotId} {v : VOp} {es : List VEntry}
    {vl vx : Word32} (hk : s.slotOf i = some k) (hvop : v.vop = BitVec.ofNat 8 row.vop) (hq : (s.slot k).eng.queue = ⟨[v], 1, vl, vx⟩ :: es)
    (hstop : (s.slot k).eng.stopped = false) (hsus : (s.slot k).eng.suspend = false)
    (hbad : v.aAd.toNat % 32 ≠ 0 ∨ inOwnDesk v.aAd.toNat 32 = false) :
    ∃ t, exec (.vectorEntryExecute ⟨i, [], true⟩) s = .next t ∧ s.sameBytes t ∧ s.vecStopped t k (s.regs k) vx.toNat 1 0 0 v.aAd 0 := by
  have h := entry_checked (e := ⟨[v], 1, vl, vx⟩) s k (ElemRow.checkEntry_misplaced hrow hvop (s.slot k) hbad vx.toNat vl.toNat)
  exact ⟨_, exec_front hk hq hstop hsus, h.memories.sameBytes, h.vecStopped hq rfl (ofNat_toNat vx)⟩

/-! ### Rows with a destination -/

/-- A reduction into a binary32 register alone clears an upper word (04 R101). -/
theorem halted_element {r : Regs} {o : ROp} (h : o.v.vop ≠ 0x55 ∧ o.v.vop ≠ 0x56) (f : ROp → Bool) : r.halted [o] ([o].map f) = r := by
  have hc : o.clearUpper r = r := by rw [ROp.clearUpper, if_neg fun e => e.1.elim h.1 h.2]
  simp only [Regs.halted, List.map_cons, List.map_nil, List.zip_cons_cons, List.zip_nil_right, List.foldl_cons, List.foldl_nil, hc, ite_self]

theorem clears_not : ∀ row ∈ Rows.element, row.vop ≠ 0x55 ∧ row.vop ≠ 0x56 := by decide

theorem ElemRow.ready.halted {row : ElemRow} {s : State} {k : SlotId} {g : VecArgs} {v : VOp} {n x : ℕ} {lo up : ℤ} {D : Prop}
    (h : row.ready s k g v n x lo up D) (r : Regs) (f : ROp → Bool) : r.halted [(s.slot k).op 0 v] ([(s.slot k).op 0 v].map f) = r := by
  obtain ⟨h1, h2⟩ := clears_not row h.mem
  exact halted_element ⟨mt (ElemRow.vop_eq h.mem h.vop (by decide)).1 h1, mt (ElemRow.vop_eq h.mem h.vop (by decide)).1 h2⟩ f

section
variable {row : ElemRow} {s : State} {i : StreamId} {k : SlotId} {v : VOp} {es : List VEntry} {vl vx : Word32} {g : VecArgs} {lo up : ℤ} {D : Prop}
  (h : row.ready s k g v vl.toNat vx.toNat lo up D) (hform : s.inForm k) (hk : s.slotOf i = some k)
  (hq : (s.slot k).eng.queue = ⟨[v], 1, vl, vx⟩ :: es) (hstop : (s.slot k).eng.stopped = false) (hsus : (s.slot k).eng.suspend = false)
  (hweight : D ∨ s.weightless k = false) {m : ℕ} (hx : vx.toNat ≤ m) (hm : m ≤ vl.toNat)
  (hok : ∀ j, vx.toNat ≤ j → j < m → (g.active s k 0 j = true → (∀ o, o ≠ 0 → row.named v o → row.fits g s k v vl.toNat o j)
    ∧ (row.delivers g s k v vl.toNat j).flags &&& v.traps.truncate 6 = 0) ∧ (g.writes s k 0 j = true → g.valid s k 0 j))
include h hform hk hq hstop hsus hweight hx hok

/-- The elements that a row writes up to `m`, after a run that came to it. -/
def ElemRow.wroteTo (row : ElemRow) (s t : State) (k : SlotId) (g : VecArgs) (v : VOp) (n x m : ℕ) : Prop :=
  s.wrote t k (g.main 0) (g.addr s k 0) (fun j => x ≤ j ∧ j < m ∧ g.writes s k 0 j = true)
    fun j => if g.active s k 0 j then (row.delivers g s k v n j).val else 0

/-- A row whose elements all pass (02 R43, R46). -/
theorem ElemRow.ready.runs_whole (he : m = vl.toNat) :
    exec (.vectorEntryExecute ⟨i, [], true⟩) s = .next (s.runEntry k ⟨[v], 1, vl, vx⟩ none)
    ∧ s.completes (s.runEntry k ⟨[v], 1, vl, vx⟩ none) k ((row.course g s k v vl.toNat vx.toNat).made vx.toNat m)
      ((row.course g s k v vl.toNat vx.toNat).regs m) D
    ∧ row.wroteTo s (s.runEntry k ⟨[v], 1, vl, vx⟩ none) k g v vl.toNat vx.toNat m := by
  have hdone := entry_completes (e := ⟨[v], 1, vl, vx⟩) (resolve_single (s.slot k) v) (h.check (by omega)) hform hx (.inl h.links)
    (Regs.raising_start _ _ _ _).symm (fun j h1 h2 => h.passes h1 (by omega) (hok j h1 h2).1 (hok j h1 h2).2) hweight he
  exact ⟨exec_front hk hq hstop hsus, hdone, (h.wrote hform hx fun j h1 h2 hw => (hok j h1 h2).2 hw).sameMemories hdone.memories⟩

/-- A row that stops at element `m` (02 R43, R53, R57). -/
theorem ElemRow.ready.runs_to_stop {st : VStop} (hlt : m < vl.toNat)
    (hc : (row.course g s k v vl.toNat vx.toNat).stops s k lo up vl.toNat [(s.slot k).op 0 v] D st [] m) (hgop : st.gop = 0) :
    ∃ t, exec (.vectorEntryExecute ⟨i, [], true⟩) s = .next t ∧ row.wroteTo s t k g v vl.toNat vx.toNat m
      ∧ s.vecStopped t k ((row.course g s k v vl.toNat vx.toNat).regs m) m st.cause st.sub st.opnd st.addr st.flags := by
  obtain ⟨f, -, hst⟩ := entry_stops (e := ⟨[v], 1, vl, vx⟩) (resolve_single (s.slot k) v) (h.check (by omega)) hform hx (.inl h.links)
    (Regs.raising_start _ _ _ _).symm (fun j h1 h2 => h.passes h1 (by omega) (hok j h1 h2).1 (hok j h1 h2).2) hweight hlt hc
  rw [h.halted] at hst
  exact ⟨_, exec_front hk hq hstop hsus, (h.wrote hform hx fun j h1 h2 hw => (hok j h1 h2).2 hw).sameMemories hst.memories, hst.vecStopped hq hgop rfl⟩

end

end Sys2Proof.Machine
end

section
/-!
SUPPORT. An entry of one reduction into D[DS] (02 R54, R66, R68; 04 R101, R117, R140).
-/

namespace Sys2Proof.Machine

/-! ### The register of a reduction -/

/-- D[DS] before element `j`. -/
def ReduceRow.fold (row : ReduceRow) (g : VecArgs) (s : State) (k : SlotId) (v : VOp) (x : ℕ) : ℕ → Word64
  | 0 => (s.regs k).getD v.f.ds
  | j + 1 => if x ≤ j ∧ g.active s k 1 j = true then
      (reduceStep row.vop v.f.fn.toNat (g.main 1).ty (row.fold g s k v x j) (g.elem s k 1 j)).1 else row.fold g s k v x j

/-- The flags that element `j` raises. -/
def ReduceRow.flags (row : ReduceRow) (g : VecArgs) (s : State) (k : SlotId) (v : VOp) (x j : ℕ) : FlagSet :=
  if g.active s k 1 j then (reduceStep row.vop v.f.fn.toNat (g.main 1).ty (row.fold g s k v x j) (g.elem s k 1 j)).2 else 0

/-- The registers with `d` in D[DS] when the elements before `j` have raised their flags. -/
def ReduceRow.upTo (row : ReduceRow) (g : VecArgs) (s : State) (k : SlotId) (v : VOp) (x j : ℕ) (d : Word64) : Regs :=
  { (s.regs k).setD v.f.ds d with fpcsr := sticky (s.regs k).fpcsr (((List.range j).filter fun i => decide (x ≤ i)).map (row.flags g s k v x)) }

def ReduceRow.course (row : ReduceRow) (g : VecArgs) (s : State) (k : SlotId) (v : VOp) (x : ℕ) : Course where
  regs j := row.upTo g s k v x j (row.fold g s k v x j)
  writes _ := []

theorem Course.made_nil {c : Course} (h : ∀ j, c.writes j = []) (x m : ℕ) : c.made x m = [] :=
  List.flatMap_eq_nil_iff.2 fun j _ => h j

section
variable (row : ReduceRow) (g : VecArgs) (s : State) (k : SlotId) (v : VOp) (x : ℕ)

theorem ReduceRow.fold_start : row.fold g s k v x x = (s.regs k).getD v.f.ds := by
  have (j : ℕ) (hj : j ≤ x) : row.fold g s k v x j = (s.regs k).getD v.f.ds := by
    induction j with
    | zero => rfl
    | succ j ih => rw [ReduceRow.fold, if_neg (by omega), ih (by omega)]
  exact this x le_rfl

theorem Regs.setD_self (r : Regs) (n : BitVec 5) : r.setD n (r.getD n) = r := by
  simp only [Regs.setD, Regs.getD]
  congr 1
  exact Vector.set_getElem_self ..

theorem ReduceRow.course_start : (row.course g s k v x).regs x = s.regs k := by
  have hnone : (List.range x).filter (fun i => decide (x ≤ i)) = [] :=
    List.filter_eq_nil_iff.2 fun i hi => by have := List.mem_range.1 hi; simp [this]
  change row.upTo g s k v x x (row.fold g s k v x x) = _
  rw [ReduceRow.upTo, hnone, row.fold_start, Regs.setD_self]
  rfl

theorem ReduceRow.upTo_succ {j : ℕ} (hx : x ≤ j) (d : Word64) :
    row.upTo g s k v x (j + 1) d = (row.upTo g s k v x j d).orFlags (row.flags g s k v x j) := by
  unfold ReduceRow.upTo
  rw [List.range_succ, List.filter_append, List.map_append, List.filter_singleton, decide_eq_true hx]
  simp only [cond_true, List.map_singleton, sticky_append]
  rfl

theorem ReduceRow.upTo_getD (j : ℕ) (d : Word64) : (row.upTo g s k v x j d).d[v.f.ds.toFin] = d := by
  simp [ReduceRow.upTo, Regs.setD]

theorem ReduceRow.upTo_set (j : ℕ) (d d' : Word64) :
    ({ row.upTo g s k v x j d with d := (row.upTo g s k v x j d).d.set v.f.ds.toFin d' } : Regs) = row.upTo g s k v x j d' := by
  simp [ReduceRow.upTo, Regs.setD]

end

/-- What a reduction into D[DS] makes of the registers. -/
theorem ROp.computeReduce_fold {o : ROp} (h : o.v.vop.toNat ≠ 0x50 ∧ o.v.vop.toNat ≠ 0x51) (r : Regs) (vals : ℕ × ℕ × ℕ) :
    o.computeReduce r vals =
      (let p := reduceStep o.v.vop.toNat o.v.f.fn.toNat ((o.type 1).getD 0) r.d[o.v.f.ds.toFin] vals.1
      ({ r with d := r.d.set o.v.f.ds.toFin p.1 }, p.2)) := by
  obtain ⟨a1, a2, a3⟩ := vals
  exact if_neg (not_or.2 h)

/-! ### Reductions over streams -/

section
variable {row : ReduceRow} (hrow : row ∈ Rows.reduction) {v : VOp} (hvop : v.vop = BitVec.ofNat 8 row.vop)
include hrow hvop

theorem ReduceRow.vop_toNat : v.vop.toNat = row.vop := by
  rw [hvop, BitVec.toNat_ofNat]
  exact Nat.mod_eq_of_lt (vrow_reduction row hrow).1

theorem ReduceRow.vop_eq {n : ℕ} (hn : n < 256) : v.vop = BitVec.ofNat 8 n ↔ row.vop = n := by
  rw [← BitVec.toNat_inj, ReduceRow.vop_toNat hrow hvop, BitVec.toNat_ofNat, Nat.mod_eq_of_lt hn]

theorem ReduceRow.uses_iff (o : Fin 4) : v.uses o = true ↔ o = 1 := by
  obtain ⟨-, -, -, -, -, hr⟩ := vrow_reduction row hrow
  rw [← ReduceRow.vop_toNat hrow hvop] at hr
  rw [VOp.uses_of hr]
  fin_cases o <;> simp

theorem ReduceRow.operates {x : Slot} {g : VecArgs} (hbad : x.desk.bad = []) (hnames : x.names g v (fun o => o = 1) 1) (htypes : row.types (g.main 1).ty) :
    x.operates g v (fun o => o = 1) 1 := by
  have huses := ReduceRow.uses_iff hrow hvop
  refine ⟨huses, VOp.bearer_of_not_uses (by simpa using mt (huses 0).1) ((huses 1).2 rfl), rfl, hbad, hnames, ?_⟩
  rintro n prev rfl -
  rw [ReduceRow.vop_toNat hrow hvop]
  exact typeOk_reduction row hrow _ prev htypes

end

/-- FN keeps the table of a reduction. -/
theorem ReduceRow.fn_lt {row : ReduceRow} (hrow : row ∈ Rows.reduction) {f : VFmt} (h : keepsRow row.vop f) : f.fn.toNat < 2 := by
  have hvop : ∀ row ∈ Rows.reduction, row.vop ≠ 0x1C ∧ row.vop ≠ 0x3F := by decide
  obtain ⟨h1, h2⟩ := hvop row hrow
  obtain ⟨-, -, -, -, -, -, -, -, hfn, -⟩ := h
  rw [if_neg h1, if_neg h2] at hfn
  split_ifs at hfn <;> omega

/-- A reduction whose operand is the stream `g.main 1`, read over the elements from `x` up to `n`. -/
structure ReduceRow.ready (row : ReduceRow) (s : State) (k : SlotId) (g : VecArgs) (v : VOp) (n x : ℕ) (D : Prop) : Prop where
  mem : row ∈ Rows.reduction
  vop : v.vop = BitVec.ofNat 8 row.vop
  types : row.types (g.main 1).ty
  operates : (s.slot k).operates g v (fun o => o = 1) 1
  feeds : s.feeds k g (fun o => o = 1) 1 x n 0 0 D

section
variable {row : ReduceRow} {s : State} {k : SlotId} {g : VecArgs} {v : VOp} {n x : ℕ} {D : Prop} (h : row.ready s k g v n x D)
  {j : ℕ} (hx : x ≤ j) (hj : j < n)
include h hx hj

omit hx hj in
theorem ReduceRow.ready.vops : v.vop ≠ 0x05 ∧ v.vop ≠ 0x02 := by
  obtain ⟨-, h5, h2, -⟩ := vrow_reduction row h.mem
  exact ⟨mt (ReduceRow.vop_eq h.mem h.vop (by decide)).1 h5, mt (ReduceRow.vop_eq h.mem h.vop (by decide)).1 h2⟩

omit hx hj in
theorem ReduceRow.ready.computes (hx : x ≤ j) (hon : g.active s k 1 j = true) :
    ((s.slot k).op 0 v).computeReduce ((row.course g s k v x).regs j) (g.args s k v ((s.slot k).op 0 v) n j)
      = (row.upTo g s k v x j (row.fold g s k v x (j + 1)), row.flags g s k v x j) := by
  obtain ⟨-, -, -, h50, h51, -⟩ := vrow_reduction row h.mem
  have hop : ((s.slot k).op 0 v).v = v := rfl
  have ht := h.operates.opType (pos := 0) 1 rfl
  simp only [Fin.val_one] at ht
  have ha : g.initial s k v ((s.slot k).op 0 v).scalar n j = g.elem s k 1 j := by
    obtain ⟨h5, h2⟩ := h.vops
    rw [VecArgs.initial, if_neg h5, if_neg h2, VecArgs.source, if_pos ((h.operates.uses 1).2 rfl)]
  have hd : ((row.course g s k v x).regs j).d[v.f.ds.toFin] = row.fold g s k v x j := row.upTo_getD ..
  have hvop := ReduceRow.vop_toNat h.mem h.vop
  refine (ROp.computeReduce_fold (hop ▸ hvop ▸ ⟨h50, h51⟩) _ _).trans ?_
  simp only [hop, ht, hvop, Option.getD_some, ha, hd]
  rw [ReduceRow.fold, if_pos ⟨hx, hon⟩, ReduceRow.flags, if_pos hon]
  exact congrArg (Prod.mk · _) (row.upTo_set ..)

theorem ReduceRow.ready.passes (hon : g.active s k 1 j = true → g.valid s k 1 j ∧ row.flags g s k v x j &&& v.traps.truncate 6 = 0) :
    (row.course g s k v x).passes s k 0 0 n [(s.slot k).op 0 v] D j := by
  refine ⟨fun w hw => (List.not_mem_nil hw).elim, fun t links live hst => ?_⟩
  have hn0 : ¬(0 : Fin 4) = 1 := by decide
  have hnext : (row.course g s k v x).regs (j + 1) = (row.upTo g s k v x j (row.fold g s k v x (j + 1))).orFlags (row.flags g s k v x j) :=
    row.upTo_succ g s k v x hx _
  rcases hact : g.active s k 1 j with _ | _
  · have hstay : (row.course g s k v x).regs (j + 1) = (row.course g s k v x).regs j := by
      rw [hnext, ReduceRow.fold, if_neg (by simp [hact]), ReduceRow.flags, if_neg (by simp [hact]), Regs.orFlags_zero]
      rfl
    rw [hstay]
    exact h.operates.elemStep_skips hst h.feeds hn0 (by omega) hj _ links live hact
  · obtain ⟨hval, hfl⟩ := hon hact
    rw [hnext]
    refine h.operates.elemStep_folds hst h.feeds hn0 (by omega) hj _ links live hact ?_ (h.computes hx hact) hfl
    rintro o - rfl
    rw [VecArgs.fits, if_neg fun e => h.vops.1 e.1]
    exact hval

theorem ReduceRow.ready.stops_source (hon : g.active s k 1 j = true) {sub : ℕ} (hc : s.addrCode (g.addr s k 1 j) (typeBytes (g.main 1).ty) sub) :
    (row.course g s k v x).stops s k 0 0 n [(s.slot k).op 0 v] D ⟨0, 8, sub, 1, 0, BitVec.ofInt 64 (g.addr s k 1 j), 0⟩ [0] j := by
  obtain ⟨b, hb, rfl⟩ := addrCode_addrSub hc
  have hn0 : ¬(0 : Fin 4) = 1 := by decide
  refine fun t links live hst => h.operates.elemStep_fold_fails hst h.feeds hn0 (by omega) hj _ links live hon h.vops.1 (fun e => absurd e (by decide)) (fun _ => h.vops.2)
    (n := 1) (by decide) rfl ?_ hb
  rintro o ho h0 rfl
  exact absurd ho (by decide)

theorem ReduceRow.ready.stops_trap (hon : g.active s k 1 j = true) (hval : g.valid s k 1 j) {cause sub : ℕ}
    (ht : trapCode (row.flags g s k v x j) (v.traps.truncate 6) cause sub) :
    (row.course g s k v x).stops s k 0 0 n [(s.slot k).op 0 v] D ⟨0, cause, sub, 9, 0, 0, row.flags g s k v x j⟩ [0] j := by
  have hn0 : ¬(0 : Fin 4) = 1 := by decide
  refine fun t links live hst => h.operates.elemStep_fold_traps hst h.feeds hn0 (by omega) hj _ links live hon ?_ (h.computes hx hon) ht
  rintro o - rfl
  rw [VecArgs.fits, if_neg fun e => h.vops.1 e.1]
  exact hval

omit hx hj in
theorem ReduceRow.ready.links : ∀ o ∈ [(s.slot k).op 0 v], o.writesLink = none := by
  simp only [List.mem_singleton, forall_eq]
  rw [ROp.writesLink, h.operates.ref_dst_none (by decide)]
  rfl

omit hx hj in
theorem ReduceRow.ready.check : checkEntry (s.slot k) false [(s.slot k).op 0 v] x n = if n < x then some ⟨0, 7, 0, 9, 0, 0, 0⟩ else none :=
  h.operates.checkEntry 0 (h.operates.overlap (s := s) (k := k) (lo := 0) (hi := 0) (fun e => absurd e (by decide)) (fun e => absurd e (by decide)) 0)

omit hx hj in
/-- An element of a reduction makes of the register what the row says. -/
theorem ReduceRow.ready.gives (hfn : v.f.fn.toNat < 2) (hx : x ≤ j) (hon : g.active s k 1 j = true) :
    row.gives v.f.fn.toNat (g.main 1).ty (row.fold g s k v x j) (g.elem s k 1 j) (row.fold g s k v x (j + 1)) (row.flags g s k v x j) := by
  rw [ReduceRow.fold, if_pos ⟨hx, hon⟩, ReduceRow.flags, if_pos hon]
  exact reductionRows_hold row h.mem _ _ _ _ h.types hfn (State.elemAt_lt s k (h.operates.main rfl).2.2.2.2.2.2.2.1 _ _)

omit hx hj in
/-- A stop clears the upper word of a binary32 target (04 R101). -/
theorem ReduceRow.ready.halted {f : ROp → Bool} (hf : f ((s.slot k).op 0 v) = false) (m : ℕ) (d : Word64) :
    (row.upTo g s k v x m d).halted [(s.slot k).op 0 v] ([(s.slot k).op 0 v].map f) = row.upTo g s k v x m
      (if (row.vop = 0x55 ∨ row.vop = 0x56) ∧ (g.main 1).ty = 1 then BitVec.ofNat 64 (d.toNat % 2 ^ 32) else d) := by
  have h55 : v.vop = 0x55 ↔ row.vop = 0x55 := ReduceRow.vop_eq h.mem h.vop (by decide)
  have h56 : v.vop = 0x56 ↔ row.vop = 0x56 := ReduceRow.vop_eq h.mem h.vop (by decide)
  have hop : ((s.slot k).op 0 v).v = v := rfl
  have ht := h.operates.opType (pos := 0) 1 rfl
  simp only [Fin.val_one] at ht
  have hmask : d &&& 0xFFFFFFFF = BitVec.ofNat 64 (d.toNat % 2 ^ 32) := by
    refine BitVec.eq_of_toNat_eq ?_
    rw [BitVec.toNat_and, BitVec.toNat_ofNat, Nat.mod_eq_of_lt (by omega)]
    exact Nat.and_two_pow_sub_one_eq_mod d.toNat 32
  simp only [Regs.halted, List.map_cons, List.map_nil, List.zip_cons_cons, List.zip_nil_right, List.foldl_cons, List.foldl_nil, hf, Bool.false_eq_true, if_false]
  simp only [ROp.clearUpper, hop, ht, h55, h56, Option.some.injEq]
  split_ifs
  · rw [row.upTo_getD, hmask]
    exact row.upTo_set ..
  · rfl

end

section
variable {row : ReduceRow} {s : State} {i : StreamId} {k : SlotId} {v : VOp} {es : List VEntry} {vl vx : Word32} {g : VecArgs} {D : Prop}
  (h : row.ready s k g v vl.toNat vx.toNat D) (hform : s.inForm k) (hk : s.slotOf i = some k)
  (hq : (s.slot k).eng.queue = ⟨[v], 1, vl, vx⟩ :: es) (hstop : (s.slot k).eng.stopped = false) (hsus : (s.slot k).eng.suspend = false)
  (hweight : D ∨ s.weightless k = false) {m : ℕ} (hx : vx.toNat ≤ m) (hm : m ≤ vl.toNat)
  (hok : ∀ j, vx.toNat ≤ j → j < m → g.active s k 1 j = true → g.valid s k 1 j ∧ row.flags g s k v vx.toNat j &&& v.traps.truncate 6 = 0)
include h hform hk hq hstop hsus hweight hx hok

/-- A reduction whose elements all pass (02 R54). -/
theorem ReduceRow.ready.runs_whole (he : m = vl.toNat) : exec (.vectorEntryExecute ⟨i, [], true⟩) s = .next (s.runEntry k ⟨[v], 1, vl, vx⟩ none)
    ∧ s.completes (s.runEntry k ⟨[v], 1, vl, vx⟩ none) k [] (row.upTo g s k v vx.toNat m (row.fold g s k v vx.toNat m)) D := by
  have hdone := entry_completes (e := ⟨[v], 1, vl, vx⟩) (resolve_single (s.slot k) v) (h.check.trans (if_neg (by omega))) hform hx (.inl h.links)
    (row.course_start g s k v _).symm (fun j h1 h2 => h.passes h1 (by omega) (hok j h1 h2)) hweight he
  rw [Course.made_nil fun _ => rfl] at hdone
  exact ⟨exec_front hk hq hstop hsus, hdone⟩

/-- A reduction that stops at element `m` (02 R53, R57; 04 R101). -/
theorem ReduceRow.ready.runs_to_stop {st : VStop} (hlt : m < vl.toNat)
    (hc : (row.course g s k v vx.toNat).stops s k 0 0 vl.toNat [(s.slot k).op 0 v] D st [0] m) (hgop : st.gop = 0) :
    ∃ t, exec (.vectorEntryExecute ⟨i, [], true⟩) s = .next t ∧ s.sameBytes t
      ∧ s.vecStopped t k (row.upTo g s k v vx.toNat m (if (row.vop = 0x55 ∨ row.vop = 0x56) ∧ (g.main 1).ty = 1
          then BitVec.ofNat 64 ((row.fold g s k v vx.toNat m).toNat % 2 ^ 32) else row.fold g s k v vx.toNat m))
        m st.cause st.sub st.opnd st.addr st.flags := by
  obtain ⟨f, hf, hst⟩ := entry_stops (e := ⟨[v], 1, vl, vx⟩) (resolve_single (s.slot k) v) (h.check.trans (if_neg (by omega))) hform hx (.inl h.links)
    (row.course_start g s k v _).symm (fun j h1 h2 => h.passes h1 (by omega) (hok j h1 h2)) hweight hlt hc
  have hreg : (row.course g s k v vx.toNat).regs m = row.upTo g s k v vx.toNat m (row.fold g s k v vx.toNat m) := rfl
  rw [Course.made_nil fun _ => rfl, hreg, h.halted (hf _ (by simp [Slot.op]))] at hst
  exact ⟨_, exec_front hk hq hstop hsus, hst.memories.sameBytes, hst.vecStopped hq hgop rfl⟩

end

end Sys2Proof.Machine
end

section
/-!
SUPPORT. Entries whose operands are contiguous arrays in the desk (02 R33-R37).
-/

namespace Sys2Proof.Machine

/-! ### Arrays in the desk -/

/-- The streams of an operation whose operands are contiguous arrays of types `ty` at `at_`. -/
def deskArgs (ty at_ : Fin 4 → ℕ) : VecArgs := ⟨fun o => plainStream (at_ o) (ty o), fun _ => plainStream 0 0, plainStream 0 0⟩

theorem inOwnDesk_iff {a n : ℕ} : inOwnDesk a n = true ↔ deskBase ≤ a ∧ a + n ≤ deskBase + deskBytes := by
  simp [inOwnDesk]

section
variable {x : Slot} {v : Word64} {ty base n : ℕ} (h : x.plainDesc v ty base n)
include h

theorem Slot.plainDesc.span : ty < 10 ∧ deskBase ≤ base ∧ base + typeBytes ty * n ≤ deskBase + deskBytes := by
  obtain ⟨-, -, -, -, -, -, hty, -, hin⟩ := h
  exact ⟨hty, inOwnDesk_iff.1 hin⟩

theorem Slot.plainDesc.element {j : ℕ} (hj : j < n) : inOwnDesk (base + j * typeBytes ty) (typeBytes ty) = true := by
  obtain ⟨-, h1, h2⟩ := h.span
  rw [inOwnDesk_iff]
  have : typeBytes ty * (j + 1) ≤ typeBytes ty * n := Nat.mul_le_mul_left _ hj
  rw [mul_add, mul_one] at this
  rw [Nat.mul_comm j]
  omega

end

theorem plainStream_addr {base ty : ℕ} (hty : ty < 10) (j : ℕ) (y : ℤ) : (plainStream base ty).addr j y = ((base + j * typeBytes ty : ℕ) : ℤ) := by
  unfold VStream.addr
  rw [if_neg (show (plainStream base ty).ty ≠ 10 by change ty ≠ 10; omega), if_pos (show (plainStream base ty).mode = 0 from rfl)]
  push_cast
  rfl

/-- An element of an array in the desk. -/
theorem State.elemAt_plain (s : State) {base ty : ℕ} (hty : ty < 10) (hbase : deskBase ≤ base) (k : SlotId) (j : ℕ) :
    s.elemAt k (plainStream base ty) ((base + j * typeBytes ty : ℕ) : ℤ) j = (s.slot k).elem ty base j := by
  unfold State.elemAt
  rw [if_neg (show (plainStream base ty).ty ≠ 10 by change ty ≠ 10; omega)]
  refine congrArg leNat (List.map_congr_left fun b _ => ?_)
  rw [Int.toNat_natCast, Nat.mul_comm j]
  refine (if_pos (show deskBase ≤ _ by omega)).trans (congrArg (s.slot k).desk.mem.read ?_)
  omega

section
variable {ty at_ : Fin 4 → ℕ} {o : Fin 4} (hty : ty o < 10) (s : State) (k : SlotId) (j : ℕ)
include hty

theorem deskArgs_addr : (deskArgs ty at_).addr s k o j = ((at_ o + j * typeBytes (ty o) : ℕ) : ℤ) := plainStream_addr hty j _

theorem deskArgs_elem (hbase : deskBase ≤ at_ o) : (deskArgs ty at_).elem s k o j = (s.slot k).elem (ty o) (at_ o) j := by
  rw [VecArgs.elem, deskArgs_addr hty]
  exact s.elemAt_plain hty hbase k j

end

/-! ### Rows over arrays in the desk -/

/-- The operands of `v` are arrays of the desk, of types that its row takes, apart from the destination. -/
structure ElemRow.onDesk (row : ElemRow) (s : State) (k : SlotId) (v : VOp) (n : ℕ) (ty at_ : Fin 4 → ℕ) : Prop where
  mem : row ∈ Rows.element
  vop : v.vop = BitVec.ofNat 8 row.vop
  scl : v.f.scl = 0
  bad : (s.slot k).desk.bad = []
  types : row.types (ty 0) (ty 1) (ty 2) (ty 3)
  plain : ∀ o : Fin 4, o.val ≤ row.srcs → (s.slot k).plainDesc (v.operand o) (ty o) (at_ o) n
  apart : ∀ o : Fin 4, o ≠ 0 → o.val ≤ row.srcs → at_ 0 + typeBytes (ty 0) * n ≤ at_ o ∨ at_ o + typeBytes (ty o) * n ≤ at_ 0

section
variable {row : ElemRow} {s : State} {k : SlotId} {v : VOp} {n : ℕ} {ty at_ : Fin 4 → ℕ} (h : row.onDesk s k v n ty at_)
include h

theorem ElemRow.onDesk.operates : (s.slot k).operates (deskArgs ty at_) v (row.named v) 0 := by
  refine ElemRow.operates h.mem h.vop h.bad (fun o ho => ⟨(h.plain o ho.1).holds, fun _ => rfl, fun hm => ?_, fun p inv hm => ?_⟩) h.types
  · exact absurd hm (Nat.zero_ne_add_one 1)
  · cases hm

omit h in
theorem ElemRow.onDesk.active (j : ℕ) : (deskArgs ty at_).active s k 0 j = true := rfl

theorem ElemRow.onDesk.legible {o : Fin 4} (ho : o.val ≤ row.srcs) {j : ℕ} (hj : j < n) :
    s.legible k ((deskArgs ty at_).addr s k o j) (typeBytes (ty o)) := by
  have hd := (h.plain o ho).element hj
  rw [deskArgs_addr (h.plain o ho).span.1]
  refine State.legible_of (s.badByte_desk hd) h.bad fun b _ hlow => ?_
  have := (inOwnDesk_iff.1 hd).1
  omega

theorem ElemRow.onDesk.valid {o : Fin 4} (ho : o.val ≤ row.srcs) {j : ℕ} (hj : j < n) : (deskArgs ty at_).valid s k o j := (h.legible ho hj).1

theorem ElemRow.onDesk.at_desk {o : Fin 4} (ho : o.val ≤ row.srcs) (j : ℕ) : (deskBase : ℤ) ≤ (deskArgs ty at_).addr s k o j := by
  rw [deskArgs_addr (h.plain o ho).span.1]
  have := (h.plain o ho).span.2.1
  omega

omit h in
/-- The streams that it reads. -/
theorem ElemRow.onDesk.reads {d : VStream} {f : ℕ → ℤ} (hr : (deskArgs ty at_).reads s k (row.named v) 0 d f) :
    ∃ o : Fin 4, o ≠ 0 ∧ o.val ≤ row.srcs ∧ d = (deskArgs ty at_).main o ∧ f = (deskArgs ty at_).addr s k o := by
  rcases hr with ⟨o, h0, ho, rfl, rfl⟩ | ⟨o, -, hm, -⟩ | ⟨hm, -⟩
  · exact ⟨o, h0, ho.1, rfl, rfl⟩
  · exact absurd hm (Nat.zero_ne_add_one 1)
  · exact absurd rfl hm

theorem ElemRow.onDesk.ready (hfits : ∀ j, (row.delivers (deskArgs ty at_) s k v n j).val < 2 ^ typeBits (ty 0)) :
    row.ready s k (deskArgs ty at_) v n 0 (at_ 0) (at_ 0 + typeBytes (ty 0) * n : ℕ) True := by
  have hmul {o : Fin 4} {j : ℕ} (hj : j < n) : j * typeBytes (ty o) + typeBytes (ty o) ≤ typeBytes (ty o) * n := by
    have : typeBytes (ty o) * (j + 1) ≤ typeBytes (ty o) * n := Nat.mul_le_mul_left _ hj
    rw [mul_add, mul_one] at this
    rw [Nat.mul_comm j]
    omega
  have hside {o : Fin 4} (h0 : o ≠ 0) (ho : o.val ≤ row.srcs) :
      (∀ j < n, (deskArgs ty at_).addr s k o j + typeBytes (ty o) ≤ at_ 0)
      ∨ ∀ j < n, ((at_ 0 + typeBytes (ty 0) * n : ℕ) : ℤ) ≤ (deskArgs ty at_).addr s k o j := by
    simp only [deskArgs_addr (h.plain o ho).span.1]
    rcases h.apart o h0 ho with hs | hs
    · exact .inr fun j _ => by omega
    · exact .inl fun j hj => by have := hmul (o := o) hj; omega
  refine ⟨h.mem, h.vop, hfits, fun e => ?_, h.types, h.operates, ⟨fun o i _ hm => ?_, fun i hm => ?_, fun o i h0 ho _ hi _ => ⟨h.legible ho.1 hi, ?_, fun _ => h.at_desk ho.1 i⟩⟩,
    ⟨fun j _ hj => ?_, fun d f hr => ?_⟩, fun hm => ?_, fun _ j _ hj => h.at_desk (Nat.zero_le _) j⟩
  · rw [h.scl] at e; exact absurd e (by decide)
  · exact absurd hm (Nat.zero_ne_add_one 1)
  · exact absurd rfl hm
  · exact (hside h0 ho.1).imp (fun hs => hs i hi) fun hs => hs i hi
  · rw [deskArgs_addr (h.plain 0 (Nat.zero_le _)).span.1]
    have := hmul (o := 0) hj
    change (at_ 0 : ℤ) ≤ _ ∧ _ + (typeBytes (ty 0) : ℤ) ≤ _
    omega
  · obtain ⟨o, h0, ho, rfl, rfl⟩ := ElemRow.onDesk.reads hr
    exact (hside h0 ho).imp (fun hs j _ hj => hs j hj) fun hs j _ hj => hs j hj
  · exact absurd hm Nat.zero_ne_one

end

end Sys2Proof.Machine
end

section
/-!
SUPPORT. What entries over arrays in the desk leave: sums, rows and reductions (02 R43, R46, R54, R60).
-/

namespace Sys2Proof.Machine

/-! ### Arrays that are written -/

theorem ext_byte {a b : Byte} (h : ∀ j < 8, a.getLsbD j = b.getLsbD j) : a = b := BitVec.eq_of_getLsbD_eq h

/-- An array of the desk is written element by element, and nothing else in the desk. -/
theorem State.wrote.array {s t : State} {k : SlotId} {base ty m : ℕ} (hty : ty < 10) (hbase : deskBase ≤ base) {P : ℕ → Prop} (hP : ∀ j, P j ↔ j < m)
    {val : ℕ → ℕ} (hw : s.wrote t k (plainStream base ty) (fun j => ((base + j * typeBytes ty : ℕ) : ℤ)) P val) :
    (∀ j < m, (t.slot k).elem ty base j = val j)
    ∧ ∀ o, (o < base - deskBase ∨ base - deskBase + typeBytes ty * m ≤ o) → (t.slot k).desk.mem.read o = (s.slot k).desk.mem.read o := by
  obtain ⟨hvals, hbits, -⟩ := hw
  have hpos := typeBytes_pos ty
  refine ⟨fun j hj => ?_, fun o ho => ?_⟩
  · rw [← t.elemAt_plain hty hbase]
    refine hvals j ((hP j).2 hj) fun j' hlt _ _ => ?_
    have : j * typeBytes ty < j' * typeBytes ty := Nat.mul_lt_mul_of_pos_right hlt hpos
    dsimp only
    omega
  · have hbyte : t.byteAt k (deskBase + o) = s.byteAt k (deskBase + o) := by
      refine ext_byte fun b hb => hbits _ b hb fun j hj hc => ?_
      obtain ⟨h1, h2, -⟩ := hc
      have hle : typeBytes ty * (j + 1) ≤ typeBytes ty * m := Nat.mul_le_mul_left _ ((hP j).1 hj)
      rw [mul_add, mul_one, Nat.mul_comm _ j] at hle
      dsimp only at h1
      have h2 : ((deskBase + o : ℕ) : ℤ) < (base + j * typeBytes ty : ℕ) + typeBytes ty := h2
      omega
    have hread (u : State) : u.byteAt k (deskBase + o) = (u.slot k).desk.mem.read o :=
      (if_pos (Nat.le_add_right _ _)).trans (congrArg _ (Nat.add_sub_cancel_left ..))
    rwa [hread, hread] at hbyte

/-! ### Rows over arrays -/

section
variable {row : ElemRow} {s t : State} {i : StreamId} {k : SlotId} {v : VOp} {es : List VEntry} {vl : Word32} {n m : ℕ} {ty at_ : Fin 4 → ℕ}
  (h : row.onDesk s k v n ty at_)

include h

/-- Arrays are written element by element, and nothing else in the desk. -/
theorem ElemRow.onDesk.wrote (hw : row.wroteTo s t k (deskArgs ty at_) v n 0 m) :
    (∀ j < m, (t.slot k).elem (ty 0) (at_ 0) j = (row.delivers (deskArgs ty at_) s k v n j).val)
    ∧ ∀ o, (o < at_ 0 - deskBase ∨ at_ 0 - deskBase + typeBytes (ty 0) * m ≤ o) → (t.slot k).desk.mem.read o = (s.slot k).desk.mem.read o := by
  obtain ⟨hty, hbase, -⟩ := (h.plain 0 (Nat.zero_le _)).span
  have haddr : (deskArgs ty at_).addr s k 0 = fun j => ((at_ 0 + j * typeBytes (ty 0) : ℕ) : ℤ) := funext fun j => deskArgs_addr hty s k j
  have hw : s.wrote t k (plainStream (at_ 0) (ty 0)) _ _ _ := hw
  rw [haddr] at hw
  exact hw.array hty hbase fun j => ⟨fun hj => hj.2.1, fun hj => ⟨Nat.zero_le _, hj, rfl⟩⟩

theorem ElemRow.onDesk.writes_desk (x m : ℕ) : ∀ w ∈ (row.course (deskArgs ty at_) s k v n x).made x m, deskBase ≤ w.1 := by
  intro w hw
  obtain ⟨j, -, hj⟩ := List.mem_flatMap.1 hw
  have hj : w ∈ [((deskArgs ty at_).main 0).write j ((deskArgs ty at_).addr s k 0 j) (row.delivers (deskArgs ty at_) s k v n j).val] := hj
  rw [List.mem_singleton.1 hj, VStream.write_addr]
  have := h.at_desk (Nat.zero_le _) j (o := 0)
  omega

theorem ElemRow.onDesk.fits {o : Fin 4} (ho : row.named v o) {j : ℕ} (hj : j < n) : row.fits (deskArgs ty at_) s k v n o j := by
  unfold ElemRow.fits
  split_ifs with hp
  · rw [hp.2] at ho
    exact fun hlt => h.valid ho.1 hlt
  · exact h.valid ho.1 hj

theorem ElemRow.onDesk.passes (hfits : ∀ j, (row.delivers (deskArgs ty at_) s k v n j).val < 2 ^ typeBits (ty 0)) {j : ℕ}
    (hfl : (row.delivers (deskArgs ty at_) s k v n j).flags &&& v.traps.truncate 6 = 0) (hj : j < n) :
    (row.course (deskArgs ty at_) s k v n 0).passes s k (at_ 0) (at_ 0 + typeBytes (ty 0) * n : ℕ) n [(s.slot k).op 0 v] True j :=
  (h.ready hfits).passes (Nat.zero_le _) hj (fun _ => ⟨fun _ _ ho => h.fits ho hj, hfl⟩) fun _ => h.valid (Nat.zero_le _) hj

end

/-- The entry at the front of slot `k` has ended in `t` with the registers `r`; nothing outside the desk of the slot has changed. -/
def State.endsInDesk (s t : State) (i : StreamId) (k : SlotId) (es : List VEntry) (r : Regs) : Prop :=
  exec (.vectorEntryExecute ⟨i, [], true⟩) s = .next t ∧ (t.slot k).eng.queue = es ∧ (t.slot k).eng.stopped = false ∧ t.regs k = { r with vx := 0 }
  ∧ t.mem = s.mem ∧ ∀ k', k' ≠ k → t.slot k' = s.slot k'

theorem State.completes.endsInDesk {s t : State} {i : StreamId} {k : SlotId} {ws : List EngineWrite} {r : Regs} (h : s.completes t k ws r True)
    (hx : exec (.vectorEntryExecute ⟨i, [], true⟩) s = .next t) (hws : ∀ w ∈ ws, deskBase ≤ w.1) {e : VEntry} {es : List VEntry}
    (hq : (s.slot k).eng.queue = e :: es) (hstop : (s.slot k).eng.stopped = false) : s.endsInDesk t i k es r := by
  obtain ⟨h1, h2, h3⟩ := h.vecDone hq hstop
  have hc := h.confined trivial hws
  exact ⟨hx, h1, h2, h3, hc.mem, hc.others⟩

section
variable {row : ElemRow} {s : State} {i : StreamId} {k : SlotId} {v : VOp} {es : List VEntry} {vl : Word32} {ty at_ : Fin 4 → ℕ}
  (h : row.onDesk s k v vl.toNat ty at_) (hfits : ∀ j, (row.delivers (deskArgs ty at_) s k v vl.toNat j).val < 2 ^ typeBits (ty 0))
  (hfl : ∀ j, (row.delivers (deskArgs ty at_) s k v vl.toNat j).flags &&& v.traps.truncate 6 = 0) (hform : s.inForm k) (hk : s.slotOf i = some k)
  (hq : (s.slot k).eng.queue = ⟨[v], 1, vl, 0⟩ :: es) (hstop : (s.slot k).eng.stopped = false)
include h hfits hfl hform hk hq hstop

theorem ElemRow.onDesk.runs_whole (hsus : (s.slot k).eng.suspend = false) :
    ∃ t, s.endsInDesk t i k es ((row.course (deskArgs ty at_) s k v vl.toNat 0).regs vl.toNat)
      ∧ row.wroteTo s t k (deskArgs ty at_) v vl.toNat 0 vl.toNat := by
  obtain ⟨hx, hdone, hw⟩ := (h.ready hfits).runs_whole hform hk hq hstop hsus (.inl trivial) (m := vl.toNat) (Nat.zero_le _)
    (fun j _ hj => ⟨fun _ => ⟨fun _ _ ho => h.fits ho hj, hfl j⟩, fun _ => h.valid (Nat.zero_le _) hj⟩) rfl
  exact ⟨_, hdone.endsInDesk hx (h.writes_desk 0 _) hq hstop, hw⟩

/-- VECTOR_SUSPEND_STOP at a group boundary (02 R60). -/
theorem ElemRow.onDesk.runs_suspended (hsus : (s.slot k).eng.suspend = true) {g : ℕ} (hg : 64 * g < vl.toNat) :
    ∃ t, exec (.vectorSuspendStop i ⟨g, []⟩) s = .next t
      ∧ s.stopsAt t k ⟨[v], 1, vl, 0⟩ ((row.course (deskArgs ty at_) s k v vl.toNat 0).made 0 (64 * g))
        ((row.course (deskArgs ty at_) s k v vl.toNat 0).regs (64 * g)) suspendedStop (BitVec.ofNat 32 (64 * g))
      ∧ row.wroteTo s t k (deskArgs ty at_) v vl.toNat 0 (64 * g) := by
  have hready := h.ready hfits
  obtain ⟨f, hst⟩ := entry_suspends (e := ⟨[v], 1, vl, 0⟩) (m := 64 * g) (resolve_single (s.slot k) v) (hready.check (Nat.zero_le _)) hform (Nat.zero_le _)
    (.inl hready.links) (Regs.raising_start _ _ _ _).symm (fun j _ hj => h.passes hfits (hfl j) (hj.trans hg)) (.inl trivial) hg (h.passes hfits (hfl _) hg)
  rw [hready.halted] at hst
  have hmiss : s.noteMisses i k ⟨[v], 1, vl, 0⟩ [] = s := by
    unfold State.noteMisses
    dsimp only
    split_ifs <;> rfl
  have hexec : exec (.vectorSuspendStop i ⟨g, []⟩) s = .next (s.runEntry k ⟨[v], 1, vl, 0⟩ (some (64 * g))) := by
    have hgroup : max g ((BitVec.toNat (0 : Word32) + 63) / 64) = g := max_eq_left (Nat.zero_le _)
    rw [exec_vectorSuspendStop, execVectorSuspendStop]
    simp only [hk, hq, hstop, hsus, hmiss, hgroup, hst.stopped]
    rfl
  exact ⟨_, hexec, hst, (hready.wrote hform (Nat.zero_le _) fun j _ hj _ => h.valid (Nat.zero_le _) (hj.trans hg)).sameMemories hst.memories⟩

end

/-- A run in which no element raises a flag keeps the registers. -/
theorem Regs.raising_quiet (r : Regs) (x : ℕ) {on : ℕ → Bool} {fl : ℕ → FlagSet} (h : ∀ j, fl j = 0) (m : ℕ) (hx : x ≤ m) : r.raising x on fl m = r := by
  induction m, hx using Nat.le_induction with
  | base => exact r.raising_start x on fl
  | succ m hx ih => rw [r.raising_succ hx, h, Regs.orFlags_zero, ih, ite_self]

end Sys2Proof.Machine
end

section
/-!
SUPPORT. The rows, sums and reductions over arrays in the desk as the obligation states them (02 R46, R54, R60, R66).
-/

namespace Sys2Proof.Machine

/-! ### What rows deliver from arrays -/

section
variable {row : ElemRow} {s : State} {k : SlotId} {v : VOp} {n : ℕ} {ty at_ : Fin 4 → ℕ} (h : row.onDesk s k v n ty at_)
include h

theorem ElemRow.onDesk.elem_eq {o : Fin 4} (ho : o.val ≤ row.srcs) (j : ℕ) : (deskArgs ty at_).elem s k o j = (s.slot k).elem (ty o) (at_ o) j :=
  deskArgs_elem (h.plain o ho).span.1 s k j (h.plain o ho).span.2.1

theorem ElemRow.onDesk.a2_eq (hsrc : 2 ≤ row.srcs) (j : ℕ) : (deskArgs ty at_).a2 s k v j = (s.slot k).elem (ty 2) (at_ 2) j := by
  rw [VecArgs.a2, if_neg (by rw [h.scl]; decide)]
  exact h.elem_eq hsrc j

theorem ElemRow.onDesk.a1_eq (j : ℕ) : row.a1 (deskArgs ty at_) s k v n j = (s.slot k).source1 row v n ty at_ j := by
  unfold ElemRow.a1 Slot.source1
  by_cases h0 : row.srcs = 0
  · simp only [if_pos h0]
  · have h1 (j : ℕ) : (deskArgs ty at_).elem s k 1 j = (s.slot k).elem (ty 1) (at_ 1) j := h.elem_eq (by simp; omega) j
    simp only [if_neg h0, h1]
    by_cases h5 : row.vop = 0x05
    · have hsrc := (fixed_sources row h.mem).1 h5
      simp only [VecArgs.picked, h.a2_eq hsrc.ge]
    · simp only [if_neg h5]

theorem ElemRow.onDesk.gives (hfn : row.fnOk v.f.fn.toNat) (j : ℕ) : row.gives ⟨v.f.fn.toNat, v.rm, ty 0, ty 1⟩ ((s.slot k).source1 row v n ty at_ j)
    ((s.slot k).elem (ty 2) (at_ 2) j) ((s.slot k).elem (ty 3) (at_ 3) j) j (row.delivers (deskArgs ty at_) s k v n j) := by
  have h2 (hs : 2 ≤ row.srcs) : (deskArgs ty at_).a2 s k v j = (s.slot k).elem (ty 2) (at_ 2) j := h.a2_eq hs j
  have h3 (hs : 3 ≤ row.srcs) : (deskArgs ty at_).elem s k 3 j = (s.slot k).elem (ty 3) (at_ 3) j := h.elem_eq hs j
  have hd : row.delivers (deskArgs ty at_) s k v n j = elemResult row.vop v.f.fn.toNat v.rm (ty 0) (ty 1) ((s.slot k).source1 row v n ty at_ j)
      ((s.slot k).elem (ty 2) (at_ 2) j) ((s.slot k).elem (ty 3) (at_ 3) j) j := by
    rw [ElemRow.delivers, h.a1_eq]
    exact elemResult_unused row h.mem _ _ _ _ _ _ _ _ _ _ h2 h3
  rw [hd]
  refine elementRows_hold row h.mem _ _ _ _ _ _ _ _ _ _ h.types hfn (h.a1_eq j ▸ ElemRow.a1_lt h.mem h.operates h.types n j) fun hs => ?_
  rw [← h2 hs]
  exact ElemRow.a2_lt h.operates hs j

theorem ElemRow.onDesk.delivers_lt (hfn : row.fnOk v.f.fn.toNat) (j : ℕ) : (row.delivers (deskArgs ty at_) s k v n j).val < 2 ^ typeBits (ty 0) :=
  ElemRow.delivers_lt h.mem h.operates h.types hfn n j

end

theorem Slot.operands.onDesk {s : State} {k : SlotId} {row : ElemRow} {v : VOp} {es : List VEntry} {vl : Word32} {n : ℕ} {ty at_ : Fin 4 → ℕ}
    (h : (s.slot k).operands row v n ty at_) (hrow : row ∈ Rows.element) (hf : (s.slot k).fronts v es vl row.vop) : row.onDesk s k v n ty at_ := by
  obtain ⟨htypes, -, h0, h1, h2, h3, hapart⟩ := h
  obtain ⟨-, -, -, hvop, hscl, -, hbad⟩ := hf
  refine ⟨hrow, hvop, hscl, hbad, htypes, fun o ho => ?_, fun o h0 ho => hapart o (Nat.one_le_iff_ne_zero.2 fun e => h0 (Fin.ext e)) ho⟩
  match o with
  | 0 => exact h0
  | 1 => exact h1 ho
  | 2 => exact h2 ho
  | 3 => exact h3 ho

/-- The registers after the flags of a list of elements. -/
theorem Regs.raising_all (r : Regs) (rs : ℕ → FRes) (n : ℕ) : r.raising 0 (fun _ => true) (fun j => (rs j).flags) n =
    { r with fpcsr := sticky r.fpcsr (((List.range n).map rs).map FRes.flags) } := by
  have hall : (List.range n).filter (fun i => decide (0 ≤ i) && true) = List.range n := List.filter_eq_self.2 fun i _ => by simp
  rw [Regs.raising, hall, List.map_map]
  rfl

/-! ### VADD of 64-bit unsigned elements -/

/-- The row of VADD (02 R66). -/
def vaddRow : ElemRow := ⟨0x30, 2, sameTypes isI, fun m a1 a2 _ _ x => m.wraps true (asInt m.td a1 + asInt m.td a2) x⟩

theorem vaddRow_mem : vaddRow ∈ Rows.element := List.mem_iff_getElem?.2 ⟨23, rfl⟩

theorem vadd_result (fn : ℕ) (rm : BitVec 3) (t1 a b c i : ℕ) : elemResult 0x30 fn rm 5 t1 a b c i = ⟨(a + b) % 2 ^ 64, 0⟩ := by
  have hint (x : ℕ) : asInt 5 x = (x : ℤ) % 2 ^ 64 := rfl
  have hr : elemResult 0x30 fn rm 5 t1 a b c i = ⟨ofInt 5 (asInt 5 a + asInt 5 b), ioFlag 5 (asInt 5 a + asInt 5 b)⟩ := rfl
  have hv : ofInt 5 (asInt 5 a + asInt 5 b) = (a + b) % 2 ^ 64 := by
    change ((asInt 5 a + asInt 5 b) % 2 ^ 64).toNat = _
    rw [hint, hint, ← Int.add_emod]
    norm_cast
  rw [hr, hv]
  rfl

section
variable {s : State} {k : SlotId} {v : VOp} {es : List VEntry} {vl : Word32} {d a b : ℕ} (h : (s.slot k).sums v es vl d a b)
include h

/-- Where its operands lie. -/
def sumPlaces (d a b : ℕ) (o : Fin 4) : ℕ := [d, a, b, 0].getD o.val 0

theorem Slot.sums.onDesk : vaddRow.onDesk s k v vl.toNat (fun _ => 5) (sumPlaces d a b) := by
  obtain ⟨-, -, hvop, hscl, hbad, hd, ha, hb, hda, hdb⟩ := h
  refine ⟨vaddRow_mem, hvop, hscl, hbad, ⟨rfl, rfl, rfl, rfl⟩, fun o ho => ?_, fun o h0 ho => ?_⟩
  · match o with
    | 0 => exact hd
    | 1 => exact ha
    | 2 => exact hb
    | 3 => exact absurd ho (by decide)
  · match o with
    | 0 => exact absurd rfl h0
    | 1 => exact hda
    | 2 => exact hdb
    | 3 => exact absurd ho (by decide)

theorem Slot.sums.delivers (j : ℕ) : vaddRow.delivers (deskArgs (fun _ => 5) (sumPlaces d a b)) s k v vl.toNat j =
    ⟨((s.slot k).elem 5 a j + (s.slot k).elem 5 b j) % 2 ^ 64, 0⟩ := by
  have h1 : vaddRow.a1 (deskArgs (fun _ => 5) (sumPlaces d a b)) s k v vl.toNat j = (s.slot k).elem 5 a j := Slot.sums.onDesk h |>.a1_eq j
  have h2 : (deskArgs (fun _ => 5) (sumPlaces d a b)).a2 s k v j = (s.slot k).elem 5 b j := Slot.sums.onDesk h |>.a2_eq le_rfl j
  rw [ElemRow.delivers, h1, h2]
  exact vadd_result ..

theorem Slot.sums.quiet (m : ℕ) : (vaddRow.course (deskArgs (fun _ => 5) (sumPlaces d a b)) s k v vl.toNat 0).regs m = s.regs k :=
  Regs.raising_quiet _ 0 (fun j => by rw [h.delivers]) m (Nat.zero_le _)

theorem Slot.sums.fits (j : ℕ) : (vaddRow.delivers (deskArgs (fun _ => 5) (sumPlaces d a b)) s k v vl.toNat j).val < 2 ^ typeBits 5 := by
  rw [h.delivers]
  exact Nat.mod_lt _ (Nat.two_pow_pos 64)

theorem Slot.sums.untrapped (j : ℕ) :
    (vaddRow.delivers (deskArgs (fun _ => 5) (sumPlaces d a b)) s k v vl.toNat j).flags &&& v.traps.truncate 6 = 0 := by
  rw [h.delivers]
  exact BitVec.zero_and

end

/-- In `t` the first `m` sums stand at `d`, and nothing else in the desk has changed. -/
def State.summed (s t : State) (k : SlotId) (d a b m : ℕ) : Prop :=
  (∀ j < m, (t.slot k).elem 5 d j = ((s.slot k).elem 5 a j + (s.slot k).elem 5 b j) % 2 ^ 64)
  ∧ ∀ o, (o < d - deskBase ∨ d - deskBase + 8 * m ≤ o) → (t.slot k).desk.mem.read o = (s.slot k).desk.mem.read o

section
variable {s : State} {i : StreamId} {k : SlotId} {v : VOp} {es : List VEntry} {vl : Word32} {d a b : ℕ} (h : (s.slot k).sums v es vl d a b)
  (hform : s.inForm k) (hk : s.slotOf i = some k)
include h

theorem Slot.sums.summed {t : State} {m : ℕ} (hw : vaddRow.wroteTo s t k (deskArgs (fun _ => 5) (sumPlaces d a b)) v vl.toNat 0 m) :
    s.summed t k d a b m := by
  obtain ⟨h1, h2⟩ := h.onDesk.wrote hw
  have hd : sumPlaces d a b 0 = d := rfl
  have h8 : typeBytes 5 = 8 := rfl
  simp only [hd, h8, h.delivers] at h1 h2
  exact ⟨h1, h2⟩

include hform hk

theorem Slot.sums.runs_whole (hsus : (s.slot k).eng.suspend = false) : ∃ t, s.endsInDesk t i k es (s.regs k) ∧ s.summed t k d a b vl.toNat := by
  obtain ⟨t, ht, hw⟩ := h.onDesk.runs_whole h.fits h.untrapped hform hk h.1 h.2.1 hsus
  rw [h.quiet] at ht
  exact ⟨t, ht, h.summed hw⟩

theorem Slot.sums.runs_suspended (hsus : (s.slot k).eng.suspend = true) {g : ℕ} (hg : 64 * g < vl.toNat) :
    ∃ t ws, exec (.vectorSuspendStop i ⟨g, []⟩) s = .next t ∧ s.summed t k d a b (64 * g)
      ∧ s.stopsAt t k ⟨[v], 1, vl, 0⟩ ws (s.regs k) suspendedStop (BitVec.ofNat 32 (64 * g)) := by
  obtain ⟨t, hx, hst, hw⟩ := h.onDesk.runs_suspended h.fits h.untrapped hform hk h.1 h.2.1 hsus hg
  rw [h.quiet] at hst
  exact ⟨t, _, hx, h.summed hw, hst⟩

end

/-! ### Reductions over an array -/

section
variable {row : ReduceRow} (hrow : row ∈ Rows.reduction) {s : State} {i : StreamId} {k : SlotId} {v : VOp} {es : List VEntry} {vl : Word32} {t1 a : ℕ}
  (hf : (s.slot k).fronts v es vl row.vop) (htypes : row.types t1) (hd : (s.slot k).plainDesc v.a1 t1 a vl.toNat)
include hrow hf htypes hd

/-- Its one source is an array of the desk. -/
theorem ReduceRow.ready_desk : row.ready s k (deskArgs (fun _ => t1) fun _ => a) v vl.toNat 0 True := by
  obtain ⟨-, -, -, hvop, -, -, hbad⟩ := hf
  refine ⟨hrow, hvop, htypes, ReduceRow.operates hrow hvop hbad ?_ htypes, ⟨fun o _ _ hm => ?_, fun _ hm => ?_, fun o j _ ho _ hj _ => ?_⟩⟩
  · rintro o rfl
    exact ⟨hd.holds, fun _ => rfl, fun hm => absurd hm (Nat.zero_ne_add_one 1), fun _ _ hm => by cases hm⟩
  · exact absurd hm (Nat.zero_ne_add_one 1)
  · exact absurd rfl hm
  · have hin := hd.element hj
    rw [deskArgs_addr hd.span.1]
    refine ⟨State.legible_of (s.badByte_desk hin) hbad fun b _ hlow => ?_, .inr (Nat.cast_nonneg _), fun _ => ?_⟩
    · have := (inOwnDesk_iff.1 hin).1
      omega
    · have := (inOwnDesk_iff.1 hin).1
      exact_mod_cast this

/-- A reduction with no condition enabled reads its whole array (02 R54). -/
theorem ReduceRow.runs_desk (hform : s.inForm k) (hk : s.slotOf i = some k) :
    ∃ t, s.endsInDesk t i k es (row.upTo (deskArgs (fun _ => t1) fun _ => a) s k v 0 vl.toNat
      (row.fold (deskArgs (fun _ => t1) fun _ => a) s k v 0 vl.toNat)) ∧ s.sameBytes t := by
  have hready := ReduceRow.ready_desk hrow hf htypes hd
  obtain ⟨hq, hstop, hsus, -, -, htraps, -⟩ := hf
  have hvalid (j : ℕ) (hj : j < vl.toNat) : (deskArgs (fun _ => t1) fun _ => a).valid s k 1 j := by
    have hin := hd.element hj
    have haddr : (deskArgs (fun _ => t1) fun _ => a).addr s k 1 j = _ := deskArgs_addr hd.span.1 s k j
    rw [VecArgs.valid, haddr]
    exact s.badByte_desk hin
  obtain ⟨hx, hdone⟩ := hready.runs_whole hform hk hq hstop hsus (.inl trivial) (m := vl.toNat) (Nat.zero_le _)
    (fun j _ hj _ => ⟨hvalid j hj, by rw [htraps]; exact BitVec.and_zero⟩) rfl
  exact ⟨_, hdone.endsInDesk hx (by simp) hq hstop, hdone.memories.sameBytes⟩

/-- What it makes of the register at each element. -/
theorem ReduceRow.gives_desk (hfn : v.f.fn.toNat < 2) (j : ℕ) :
    row.gives v.f.fn.toNat t1 (row.fold (deskArgs (fun _ => t1) fun _ => a) s k v 0 j) ((s.slot k).elem t1 a j)
      (row.fold (deskArgs (fun _ => t1) fun _ => a) s k v 0 (j + 1)) (row.flags (deskArgs (fun _ => t1) fun _ => a) s k v 0 j) := by
  have hgives := (ReduceRow.ready_desk hrow hf htypes hd).gives hfn (Nat.zero_le j) rfl
  have helem : (deskArgs (fun _ => t1) fun _ => a).elem s k 1 j = (s.slot k).elem t1 a j := deskArgs_elem hd.span.1 s k j hd.span.2.1
  rwa [helem] at hgives

omit hrow hf htypes hd in
theorem ReduceRow.upTo_all (g : VecArgs) (n : ℕ) (d : Word64) : row.upTo g s k v 0 n d =
    { (s.regs k).setD v.f.ds d with fpcsr := sticky (s.regs k).fpcsr ((List.range n).map (row.flags g s k v 0)) } := by
  have hall : (List.range n).filter (fun i => decide (0 ≤ i)) = List.range n := List.filter_eq_self.2 fun i _ => by simp
  rw [ReduceRow.upTo, hall]

end

end Sys2Proof.Machine
end

section
/-!
SUPPORT. QSUM and QDOT over arrays in the desk: exact sums in an accumulator (02 R54, R66; 04 R126, R128).
-/

namespace Sys2Proof.Machine

/-! ### One exact addition -/

/-- An addition within the range of an accumulator is exact and raises nothing (04 R128). -/
theorem addInt_inside (q : QVal) {i : ℤ} (h : -2 ^ 4287 ≤ q.n.toInt + i ∧ q.n.toInt + i < 2 ^ 4287) :
    q.addInt i = (⟨BitVec.ofInt 4288 (q.n.toInt + i), q.st⟩, 0) := by
  simp only [QVal.addInt]
  rw [if_neg (by rw [not_or, not_lt, not_le]; exact h)]

theorem zpow_toNat {k : ℤ} (h : 0 ≤ k) : ((2 ^ k.toNat : ℤ) : ℚ) = 2 ^ k := by
  rw [Int.cast_pow, Int.cast_ofNat, ← zpow_natCast, Int.toNat_of_nonneg h]

theorem scaled_units {m : ℕ} {c j : ℤ} (h : (j : ℚ) = m * 2 ^ c) : (if 0 ≤ c then (m : ℤ) * 2 ^ c.toNat else m / 2 ^ (-c).toNat) = j := by
  split_ifs with hc
  · have : ((m * 2 ^ c.toNat : ℤ) : ℚ) = j := by rw [h, Int.cast_mul, zpow_toNat hc, Int.cast_natCast]
    exact_mod_cast this
  · have hm : (m : ℤ) = j * 2 ^ (-c).toNat := by
      have : ((m : ℤ) : ℚ) = ((j * 2 ^ (-c).toNat : ℤ) : ℚ) := by
        rw [Int.cast_mul, zpow_toNat (by omega), h, zpow_neg, mul_assoc, mul_inv_cancel₀ (zpow_ne_zero _ two_ne_zero), mul_one, Int.cast_natCast]
      exact_mod_cast this
    rw [hm, Int.mul_ediv_cancel _ (by positivity)]

/-- A finite number that is a multiple of 2^−2148 is that many units (04 R126). -/
theorem toUnits_eq {neg : Bool} {m : ℕ} {e i : ℤ} (h : (i : ℚ) = ratOf neg m e * 2 ^ 2148) : toUnits neg m e = i := by
  have hscale : (i : ℚ) = (if neg then -1 else 1) * (m * 2 ^ (e + 2148)) := by
    have hp : (2 : ℚ) ^ (2148 : ℕ) = 2 ^ (2148 : ℤ) := (zpow_natCast 2 2148).symm
    rw [h, ratOf, hp, zpow_add₀ two_ne_zero]
    ring
  unfold toUnits
  generalize e + 2148 = c at hscale
  dsimp only
  cases neg
  · rw [scaled_units (j := i) (by simpa using hscale)]
    rfl
  · rw [scaled_units (j := -i) (by simp [hscale])]
    exact neg_neg i

/-! ### Accumulators -/

theorem toInt_ofInt_inside {i : ℤ} (h : -2 ^ 4287 ≤ i ∧ i < 2 ^ 4287) : (BitVec.ofInt 4288 i).toInt = i :=
  BitVec.toInt_ofInt_eq_self (by decide) h.1 h.2

/-- Putting back the state bits of an accumulator changes nothing. -/
theorem setQState_qState (fp : Word32) (n : Fin 4) : setQState fp n (qState fp n) = fp := by
  refine BitVec.eq_of_getLsbD_eq fun i hi => ?_
  have h7 (j : ℕ) : (7#32).getLsbD j = decide (j < 3) := by
    rw [BitVec.getLsbD, BitVec.toNat_ofNat]
    exact Nat.testBit_two_pow_sub_one 3 j
  have hn := n.isLt
  unfold setQState qState
  simp only [BitVec.getLsbD_or, BitVec.getLsbD_and, BitVec.getLsbD_not, BitVec.getLsbD_shiftLeft, BitVec.getLsbD_setWidth, BitVec.getLsbD_ushiftRight,
    BitVec.truncate, BitVec.zeroExtend, h7, hi, decide_true, Bool.true_and]
  by_cases h1 : i < 20 + 3 * n.val
  · simp [h1]
  · have h2 : 20 + 3 * n.val + (i - (20 + 3 * n.val)) = i := by omega
    by_cases h3 : i - (20 + 3 * n.val) < 3
    · simp [h1, h2, h3, show i - (20 + 3 * n.val) < 32 by omega]
    · simp [h1, h3]

/-- What QDOT (`two`) or QSUM adds to an accumulator at an element. -/
def QVal.takes (q : QVal) (p : FloatFmt) (two : Bool) (x y : ℕ) : QVal × FlagSet := if two then q.addProduct p x y else q.addValue p x

/-- The term of an element: exact, and finite. -/
def isTerm (p : FloatFmt) (two : Bool) (x y : ℕ) (i : ℤ) : Prop :=
  if two then ∃ g m e h l o, p.decode x = .fin g m e ∧ p.decode y = .fin h l o ∧ (i : ℚ) = ratOf g m e * ratOf h l o * 2 ^ 2148
  else ∃ g m e, p.decode x = .fin g m e ∧ (i : ℚ) = ratOf g m e * 2 ^ 2148

theorem addTerm_inside (q : QVal) {neg : Bool} {m : ℕ} {e i : ℤ} (hi : (i : ℚ) = ratOf neg m e * 2 ^ 2148)
    (h : -2 ^ 4287 ≤ q.n.toInt + i ∧ q.n.toInt + i < 2 ^ 4287) : q.addTerm (.fin neg m e) 0 = (⟨BitVec.ofInt 4288 (q.n.toInt + i), q.st⟩, 0) := by
  have hadd := addInt_inside q h
  have hu := toUnits_eq hi
  generalize (⟨BitVec.ofInt 4288 (q.n.toInt + i), q.st⟩ : QVal) = q' at hadd ⊢
  unfold QVal.addTerm
  dsimp only
  rw [hu, hadd]
  exact congrArg (Prod.mk q') BitVec.zero_or

theorem QVal.takes_one (q : QVal) (p : FloatFmt) (x y : ℕ) : q.takes p false x y = q.addTerm (p.decode x) (p.decode x).snan := if_neg Bool.false_ne_true

theorem QVal.takes_two (q : QVal) (p : FloatFmt) (x y : ℕ) : q.takes p true x y =
    q.addTerm (mulV (p.decode x) (p.decode y)).1 (mulV (p.decode x) (p.decode y)).2 := by
  unfold QVal.takes QVal.addProduct
  rw [if_pos rfl]

theorem takes_inside (q : QVal) {p : FloatFmt} {two : Bool} {x y : ℕ} {i : ℤ} (ht : isTerm p two x y i)
    (h : -2 ^ 4287 ≤ q.n.toInt + i ∧ q.n.toInt + i < 2 ^ 4287) : q.takes p two x y = (⟨BitVec.ofInt 4288 (q.n.toInt + i), q.st⟩, 0) := by
  cases two
  · obtain ⟨g, m, e, hx, hi⟩ := ht
    rw [QVal.takes_one, hx]
    exact addTerm_inside q hi h
  · obtain ⟨g, m, e, s, l, o, hx, hy, hi⟩ := ht
    rw [ratOf_mul] at hi
    rw [QVal.takes_two, hx, hy]
    exact addTerm_inside q hi h

/-- What QDOT and QSUM make of the registers. -/
theorem ROp.computeReduce_sum {o : ROp} {two : Bool} (h : o.v.vop.toNat = if two then 0x50 else 0x51) (r : Regs) (vals : ℕ × ℕ × ℕ) :
    o.computeReduce r vals = (let p := (r.qval o.v.f.qn.toFin).takes ((floatOf ((o.type 1).getD 0)).getD binary64) two vals.1 vals.2.1
      (r.setQval o.v.f.qn.toFin p.1, p.2)) := by
  obtain ⟨a1, a2, a3⟩ := vals
  unfold ROp.computeReduce QVal.takes
  cases two
  · rw [if_neg Bool.false_ne_true] at h
    simp only [h]
    rfl
  · rw [if_pos rfl] at h
    simp only [h]
    rfl

/-! ### Sums over arrays -/

/-- The operands of QDOT or QSUM. -/
def sumNamed (two : Bool) (o : Fin 4) : Prop := o = 1 ∨ (o = 2 ∧ two = true)

/-- The operation is QDOT (`two`) or QSUM over arrays of the desk. -/
structure Slot.accumulates (x : Slot) (v : VOp) (two : Bool) (t1 a b n : ℕ) : Prop where
  vop : v.vop = if two then 0x50 else 0x51
  scl : v.f.scl = 0
  bad : x.desk.bad = []
  type : t1 < 2
  first : x.plainDesc v.a1 t1 a n
  second : two = true → x.plainDesc v.a2 t1 b n

/-- The streams of QDOT or QSUM. -/
def sumArgs (t1 a b : ℕ) : VecArgs := deskArgs (fun _ => t1) fun o => if o = 2 then b else a

/-- The course of a sum: before element `j` the accumulator holds `upTo j`. -/
def sumCourse (r : Regs) (n : Fin 4) (upTo : ℕ → ℤ) : Course where
  regs j := { r with q := r.q.set n (BitVec.ofInt 4288 (upTo j)) }
  writes _ := []

theorem Regs.setQval_same (r : Regs) (n : Fin 4) (x : Acc) : r.setQval n ⟨x, (r.qval n).st⟩ = { r with q := r.q.set n x } := by
  rw [Regs.setQval, Regs.qval, setQState_qState]

/-- One step of the course. -/
theorem sumCourse_step (r : Regs) (n : Fin 4) {upTo : ℕ → ℤ} {term : ℕ → ℤ} {j : ℕ} (hsucc : upTo (j + 1) = upTo j + term j)
    (hin : -2 ^ 4287 ≤ upTo j ∧ upTo j < 2 ^ 4287) (hin' : -2 ^ 4287 ≤ upTo (j + 1) ∧ upTo (j + 1) < 2 ^ 4287) {p : FloatFmt} {two : Bool} {x y : ℕ}
    (ht : isTerm p two x y (term j)) : (let q := (((sumCourse r n upTo).regs j).qval n).takes p two x y
      (((sumCourse r n upTo).regs j).setQval n q.1, q.2)) = ((sumCourse r n upTo).regs (j + 1), 0) := by
  have hq : (((sumCourse r n upTo).regs j).qval n).n.toInt = upTo j := by
    have : (((sumCourse r n upTo).regs j).qval n).n = BitVec.ofInt 4288 (upTo j) := Vector.getElem_set_self ..
    rw [this, toInt_ofInt_inside hin]
  have hstep := takes_inside (((sumCourse r n upTo).regs j).qval n) ht (by rw [hq, ← hsucc]; exact hin')
  rw [hq, ← hsucc] at hstep
  rw [hstep]
  dsimp only
  rw [Regs.setQval_same]
  simp only [sumCourse, Vector.set_set]

section
variable {s : State} {k : SlotId} {v : VOp} {two : Bool} {t1 a b n : ℕ} (h : (s.slot k).accumulates v two t1 a b n)
include h

theorem Slot.accumulates.vop_toNat : v.vop.toNat = if two then 0x50 else 0x51 := by
  rw [h.vop]; cases two <;> rfl

theorem Slot.accumulates.plain {o : Fin 4} (ho : sumNamed two o) : (s.slot k).plainDesc (v.operand o) t1 (if o = 2 then b else a) n := by
  rcases ho with rfl | ⟨rfl, h2⟩
  · exact h.first
  · exact h.second h2

theorem Slot.accumulates.operates : (s.slot k).operates (sumArgs t1 a b) v (sumNamed two) 1 := by
  have huse (o : Fin 4) : v.uses o = true ↔ sumNamed two o := by
    have hr : (vrow v.vop.toNat).map VRow.operands = some (false, true, two, false) := by
      rw [h.vop_toNat]; cases two <;> rfl
    rw [VOp.uses_of hr, h.scl]
    unfold sumNamed
    fin_cases o <;> simp
  refine ⟨huse, VOp.bearer_of_not_uses (by simpa [sumNamed] using mt (huse 0).1) ((huse 1).2 (.inl rfl)), .inl rfl, h.bad,
    fun o ho => ⟨(h.plain ho).holds, fun _ => rfl, fun hm => absurd hm (Nat.zero_ne_add_one 1), fun _ _ hm => by cases hm⟩, fun o prev ho hprev => ?_⟩
  have hwide : t1 = 0 ∨ t1 = 1 := by have := h.type; omega
  have hty : ((sumArgs t1 a b).main o).ty = t1 := rfl
  rw [h.vop_toNat, hty]
  rcases ho with rfl | ⟨rfl, rfl⟩
  · cases two <;> simp [typeOk, hwide]
  · have : prev 1 = some t1 := hprev 1 le_rfl (by decide) (.inl rfl)
    simp [typeOk, hwide, this]

theorem Slot.accumulates.legible {o : Fin 4} (ho : sumNamed two o) {j : ℕ} (hj : j < n) :
    s.legible k ((sumArgs t1 a b).addr s k o j) (typeBytes t1) ∧ (deskBase : ℤ) ≤ (sumArgs t1 a b).addr s k o j := by
  have hin := (h.plain ho).element hj
  have hbase := (inOwnDesk_iff.1 hin).1
  have haddr : (sumArgs t1 a b).addr s k o j = _ := deskArgs_addr (h.plain ho).span.1 s k j
  rw [haddr]
  exact ⟨State.legible_of (s.badByte_desk hin) h.bad fun b _ hlow => by omega, by exact_mod_cast hbase⟩

theorem Slot.accumulates.feeds : s.feeds k (sumArgs t1 a b) (sumNamed two) 1 0 n 0 0 True := by
  refine ⟨fun o _ _ hm => ?_, fun _ hm => ?_, fun o j _ ho _ hj _ => ?_⟩
  · exact absurd hm (Nat.zero_ne_add_one 1)
  · exact absurd rfl hm
  · obtain ⟨h1, h2⟩ := h.legible ho hj
    exact ⟨h1, .inr ((Nat.cast_nonneg _).trans h2), fun _ => h2⟩

theorem Slot.accumulates.elem_eq {o : Fin 4} (ho : sumNamed two o) (j : ℕ) :
    (sumArgs t1 a b).elem s k o j = (s.slot k).elem t1 (if o = 2 then b else a) j :=
  deskArgs_elem (h.plain ho).span.1 s k j (h.plain ho).span.2.1

theorem Slot.accumulates.passes {p : FloatFmt} (hp : floatOf t1 = some p) {upTo : ℕ → ℤ} {term : ℕ → ℤ} (hsucc : ∀ j, upTo (j + 1) = upTo j + term j)
    (hin : ∀ j ≤ n, -2 ^ 4287 ≤ upTo j ∧ upTo j < 2 ^ 4287)
    (hterm : ∀ j < n, isTerm p two ((s.slot k).elem t1 a j) ((s.slot k).elem t1 b j) (term j)) {j : ℕ} (hj : j < n) :
    (sumCourse (s.regs k) v.f.qn.toFin upTo).passes s k 0 0 n [(s.slot k).op 0 v] True j := by
  have hn0 : ¬sumNamed two 0 := by simp [sumNamed]
  have hvop5 : v.vop ≠ 0x05 ∧ v.vop ≠ 0x02 := by rw [h.vop]; cases two <;> decide
  have hop : ((s.slot k).op 0 v).v = v := rfl
  have hty : (((s.slot k).op 0 v).type 1).getD 0 = t1 := by
    have := h.operates.opType (pos := 0) 1 (.inl rfl)
    simp only [Fin.val_one] at this
    rw [this]; rfl
  have h1 : (sumArgs t1 a b).initial s k v ((s.slot k).op 0 v).scalar n j = (s.slot k).elem t1 a j := by
    rw [VecArgs.initial, if_neg hvop5.1, if_neg hvop5.2, VecArgs.source, if_pos ((h.operates.uses 1).2 (.inl rfl)), h.elem_eq (.inl rfl)]
    rfl
  have h2 (h2 : two = true) : (sumArgs t1 a b).second s k v ((s.slot k).op 0 v).scalar j = (s.slot k).elem t1 b j := by
    rw [VecArgs.second, if_neg (by rw [h.scl]; decide), VecArgs.source, if_pos ((h.operates.uses 2).2 (.inr ⟨rfl, h2⟩)), h.elem_eq (.inr ⟨rfl, h2⟩)]
    rfl
  have hterm : isTerm p two ((sumArgs t1 a b).initial s k v ((s.slot k).op 0 v).scalar n j)
      ((sumArgs t1 a b).second s k v ((s.slot k).op 0 v).scalar j) (term j) := by
    have := hterm j hj
    rw [h1]
    cases two
    · exact this
    · rw [h2 rfl]; exact this
  refine ⟨fun w hw => (List.not_mem_nil hw).elim, fun t links live hst => ?_⟩
  have hcompute : ((s.slot k).op 0 v).computeReduce ((sumCourse (s.regs k) v.f.qn.toFin upTo).regs j) ((sumArgs t1 a b).args s k v ((s.slot k).op 0 v) n j)
      = ((sumCourse (s.regs k) v.f.qn.toFin upTo).regs (j + 1), 0) := by
    refine (ROp.computeReduce_sum (two := two) h.vop_toNat _ _).trans ?_
    rw [hty, hp]
    exact sumCourse_step (s.regs k) v.f.qn.toFin (hsucc j) (hin j hj.le) (hin (j + 1) hj) hterm
  have hpass := h.operates.elemStep_folds hst h.feeds hn0 (ops := [(s.slot k).op 0 v]) (by omega) hj _ links live rfl (fun o _ ho => ?_) hcompute BitVec.zero_and
  · rw [Regs.orFlags_zero] at hpass
    exact hpass
  · rw [VecArgs.fits, if_neg fun e => hvop5.1 e.1]
    exact (h.legible ho hj).1.1

/-- QDOT and QSUM add every term of their arrays (04 R128). -/
theorem Slot.accumulates.runs {i : StreamId} {es : List VEntry} {vl : Word32} (hn : n = vl.toNat) {p : FloatFmt} (hp : floatOf t1 = some p) {upTo : ℕ → ℤ}
    {term : ℕ → ℤ} (hzero : upTo 0 = (s.regs k).q[v.f.qn.toFin].toInt) (hsucc : ∀ j, upTo (j + 1) = upTo j + term j)
    (hin : ∀ j ≤ n, -2 ^ 4287 ≤ upTo j ∧ upTo j < 2 ^ 4287)
    (hterm : ∀ j < n, isTerm p two ((s.slot k).elem t1 a j) ((s.slot k).elem t1 b j) (term j)) (hform : s.inForm k) (hk : s.slotOf i = some k)
    (hq : (s.slot k).eng.queue = ⟨[v], 1, vl, 0⟩ :: es) (hstop : (s.slot k).eng.stopped = false) (hsus : (s.slot k).eng.suspend = false) :
    ∃ t, s.endsInDesk t i k es { s.regs k with q := (s.regs k).q.set v.f.qn.toFin (BitVec.ofInt 4288 (upTo n)) } ∧ s.sameBytes t := by
  subst hn
  have hn0 : ¬sumNamed two 0 := by simp [sumNamed]
  have hstart : (sumCourse (s.regs k) v.f.qn.toFin upTo).regs 0 = s.regs k := by
    simp only [sumCourse, hzero, BitVec.ofInt_toInt]
    exact congrArg (fun q => { s.regs k with q := q }) (Vector.set_getElem_self ..)
  have hlinks : ∀ o ∈ [(s.slot k).op 0 v], o.writesLink = none := by
    simp only [List.mem_singleton, forall_eq]
    rw [ROp.writesLink, h.operates.ref_dst_none hn0]
    rfl
  have hcheck : checkEntry (s.slot k) false [(s.slot k).op 0 v] 0 vl.toNat = none :=
    (h.operates.checkEntry 0 (h.operates.overlap (s := s) (k := k) (lo := 0) (hi := 0) (fun e => absurd e hn0) (fun e => absurd e hn0) 0)).trans
      (if_neg (Nat.not_lt_zero _))
  have hdone := entry_completes (e := ⟨[v], 1, vl, 0⟩) (m := vl.toNat) (resolve_single (s.slot k) v) hcheck hform (Nat.zero_le _) (.inl hlinks) hstart.symm
    (fun j _ hj => h.passes hp hsucc hin hterm hj) (.inl trivial) rfl
  rw [Course.made_nil fun _ => rfl] at hdone
  exact ⟨_, hdone.endsInDesk (exec_front hk hq hstop hsus) (by simp) hq hstop, hdone.memories.sameBytes⟩

end

end Sys2Proof.Machine
end

section
/-!
SUPPORT. The operations of a group whose elements pass over a link: their descriptors, and what they read and deliver (02 R41; 03 R76).
-/

namespace Sys2Proof.Machine

/-! ### What a row makes of its sources -/

/-- Source 1 of a row but VPERM: the scalar of VFILL, or the element `a`. -/
def ElemRow.first (row : ElemRow) (v : VOp) (a : ℕ) : ℕ := if row.vop = 0x02 then v.scalar.toNat else if row.srcs = 0 then 0 else a

/-- What the row delivers at element `i` from the sources `a`. -/
def ElemRow.makes (row : ElemRow) (v : VOp) (ty a : Fin 4 → ℕ) (i : ℕ) : FRes :=
  elemResult row.vop v.f.fn.toNat v.rm (ty 0) (ty 1) (row.first v (a 1)) (a 2) (a 3) i

section
variable {row : ElemRow} (hrow : row ∈ Rows.element) {v : VOp} {ty a : Fin 4 → ℕ} (htypes : row.types (ty 0) (ty 1) (ty 2) (ty 3))
  (ha : ∀ o : Fin 4, o ≠ 0 → o.val ≤ row.srcs → a o < 2 ^ typeBits (ty o))
include hrow htypes ha

theorem ElemRow.first_lt : row.first v (a 1) < 2 ^ typeBits (ty 1) := by
  have hfill := (fixed_sources row hrow).2
  unfold ElemRow.first
  by_cases hsrc : row.srcs = 0
  · have h64 : typeBits (ty 1) = 64 := by rw [type_of_no_source row hrow _ _ _ _ htypes hsrc]; rfl
    rw [if_pos hsrc, h64]
    split_ifs
    · exact v.scalar.isLt
    · exact Nat.two_pow_pos _
  · rw [if_neg fun e => hsrc (hfill e), if_neg hsrc]
    exact ha 1 (by decide) (Nat.one_le_iff_ne_zero.2 hsrc)

theorem ElemRow.makes_gives (hfn : row.fnOk v.f.fn.toNat) (i : ℕ) :
    row.gives ⟨v.f.fn.toNat, v.rm, ty 0, ty 1⟩ (row.first v (a 1)) (a 2) (a 3) i (row.makes v ty a i) :=
  elementRows_hold row hrow _ _ _ _ _ _ _ _ _ _ htypes hfn (ElemRow.first_lt hrow htypes ha) fun hs => ha 2 (by decide) hs

theorem ElemRow.makes_lt (hfn : row.fnOk v.f.fn.toNat) (i : ℕ) : (row.makes v ty a i).val < 2 ^ typeBits (ty 0) :=
  ElemRow.gives_lt row hrow _ _ _ _ _ _ _ _ htypes (ElemRow.first_lt hrow htypes ha) (fun hs => ha 2 (by decide) hs)
    (ElemRow.makes_gives hrow htypes ha hfn i)

end

/-! ### Members of a group -/

/-- The operands of `v` are arrays of the desk, of types that its row takes, but for operand `c`, which is link `l`. -/
structure Slot.member (x : Slot) (row : ElemRow) (v : VOp) (n : ℕ) (ty at_ : Fin 4 → ℕ) (c : Fin 4) (l : ℕ) : Prop where
  mem : row ∈ Rows.element
  vop : v.vop = BitVec.ofNat 8 row.vop
  perm : row.vop ≠ 0x05
  scl : v.f.scl = 0
  bad : x.desk.bad = []
  types : row.types (ty 0) (ty 1) (ty 2) (ty 3)
  linked : c.val ≤ row.srcs
  link : x.linkDesc (v.operand c) (ty c) l
  plain : ∀ o : Fin 4, o.val ≤ row.srcs → o ≠ c → x.plainDesc (v.operand o) (ty o) (at_ o) n

section
variable {x : Slot} {row : ElemRow} {v : VOp} {n : ℕ} {ty at_ : Fin 4 → ℕ} {c : Fin 4} {l : ℕ} (h : x.member row v n ty at_ c l)
include h

theorem Slot.member.uses (o : Fin 4) : v.uses o = true ↔ o.val ≤ row.srcs :=
  (ElemRow.uses_iff h.mem h.vop o).trans ⟨fun ho => ho.1, fun ho => ⟨ho, fun _ => h.scl⟩⟩

theorem Slot.member.link_lt : ty c < 10 ∧ l < 8 := by
  obtain ⟨-, -, -, -, -, -, hty, hl⟩ := h.link
  exact ⟨hty, hl⟩

theorem Slot.member.desc_link : x.desc v c = linkWords (ty c) l := h.link.readDesc

theorem Slot.member.link_spec (allowed : Bool) : (x.desc v c).trans = true ∧ (x.desc v c).link = l ∧ (x.desc v c).type = ty c
    ∧ (x.desc v c).masken = false ∧ (x.desc v c).mode = 0 ∧ (x.desc v c).rsvFault .data allowed = none := by
  rw [h.desc_link]
  exact linkWords_spec ⟨ty c, h.link_lt.1⟩ ⟨l, h.link_lt.2⟩ allowed

theorem Slot.member.says {o : Fin 4} (ho : o.val ≤ row.srcs) (hc : o ≠ c) :
    (x.desc v o).says (plainStream (at_ o) (ty o)) ∧ (x.desc v o).tidy := (h.plain o ho hc).holds.says

/-- What every descriptor of a member says. -/
theorem Slot.member.desc_spec {o : Fin 4} (ho : o.val ≤ row.srcs) : (x.desc v o).trans = decide (o = c) ∧ (x.desc v o).type = ty o
    ∧ (x.desc v o).masken = false ∧ (x.desc v o).mode = 0 ∧ ∀ allowed, (x.desc v o).rsvFault .data allowed = none := by
  by_cases hc : o = c
  · subst hc
    obtain ⟨h1, -, h3, h4, h5, -⟩ := h.link_spec true
    exact ⟨h1.trans (decide_eq_true rfl).symm, h3, h4, h5, fun allowed => (h.link_spec allowed).2.2.2.2.2⟩
  · obtain ⟨hs, ht⟩ := h.says ho hc
    exact ⟨hs.trans.trans (decide_eq_false hc).symm, hs.type, hs.masken, hs.mode,
      fun allowed => hs.rsvFault ht (h.plain o ho hc).holds.2.2.2 (fun _ => .inr rfl) fun hne => absurd rfl hne⟩

theorem Slot.member.finds : x.finds v where
  bad := h.bad
  place o ho := by
    by_cases hc : o = c
    · obtain ⟨h1, h2, -⟩ := hc ▸ h.link
      exact ⟨h1, h2⟩
    · obtain ⟨h1, h2, -⟩ := h.plain o ((h.uses o).1 ho) hc
      exact ⟨h1, h2⟩
  index o ho hm := by
    obtain ⟨-, -, -, h4, -⟩ := h.desc_spec ((h.uses o).1 ho)
    rw [h4] at hm; cases hm
  mask o ho hm := by
    obtain ⟨-, -, h3, -⟩ := h.desc_spec ((h.uses o).1 ho)
    rw [h3] at hm; cases hm

/-- Its references are those of its operands. -/
theorem Slot.member.refsOf (pos : ℕ) : x.refsOf pos v = ((List.finRange 4).filter v.uses).map (x.mainRef pos v) := by
  rw [h.finds.refsOf, List.map_eq_flatMap]
  refine List.flatMap_congr fun o ho => ?_
  obtain ⟨-, -, h3, h4, -⟩ := h.desc_spec ((h.uses o).1 (List.mem_filter.1 ho).2)
  rw [h3, h4]
  rfl

theorem Slot.member.readRefs (pos : ℕ) : (x.op pos v).readRefs = ((List.finRange 4).filter v.uses).map (x.mainRef pos v) := by
  have hall : (x.op pos v).readRefs = x.refsOf pos v := List.filter_eq_self.2 fun r hr => by
    have hr : r ∈ x.refsOf pos v := hr
    rw [h.refsOf] at hr
    obtain ⟨o, -, rfl⟩ := List.mem_map.1 hr
    rfl
  rw [hall, h.refsOf]

theorem Slot.member.mem_readRefs {pos : ℕ} {r : DRef} (hr : r ∈ (x.op pos v).readRefs) : ∃ o : Fin 4, o.val ≤ row.srcs ∧ r = x.mainRef pos v o := by
  rw [h.readRefs] at hr
  obtain ⟨o, ho, rfl⟩ := List.mem_map.1 hr
  exact ⟨o, (h.uses o).1 (List.mem_filter.1 ho).2, rfl⟩

theorem Slot.member.opType (pos : ℕ) {o : Fin 4} (ho : o.val ≤ row.srcs) : (x.op pos v).type o = some (ty o) := by
  rw [ROp.type, h.finds.ref_main pos ((h.uses o).2 ho)]
  exact congrArg some (h.desc_spec ho).2.1

theorem Slot.member.opType_zero (pos : ℕ) : (x.op pos v).type 0 = some (ty 0) := h.opType pos (o := 0) (Nat.zero_le _)

theorem Slot.member.opType_first (pos : ℕ) : ((x.op pos v).type 1).getD 0 = ty 1 := by
  by_cases hsrc : row.srcs = 0
  · have hn : v.uses 1 = false := by rw [← Bool.not_eq_true, h.uses]; simp [hsrc]
    have := h.finds.ref_main_none pos hn
    simp only [Fin.val_one] at this
    rw [ROp.type, this, type_of_no_source row h.mem _ _ _ _ h.types hsrc]
    rfl
  · have := h.opType pos (o := 1) (Nat.one_le_iff_ne_zero.2 hsrc)
    simp only [Fin.val_one] at this
    rw [this]; rfl

theorem Slot.member.typeFails {pos : ℕ} {r : DRef} (hr : r ∈ (x.op pos v).readRefs) : (x.op pos v).typeFails r = false := by
  obtain ⟨o, ho, rfl⟩ := h.mem_readRefs hr
  have hk : (x.mainRef pos v o).k = o := by simp [DRef.k, Slot.mainRef]
  change (!typeOk v.vop.toNat (x.mainRef pos v o).k (x.desc v o).type fun j => if j < (x.mainRef pos v o).k then (x.op pos v).type j else none) = false
  rw [hk, (h.desc_spec ho).2.1, ElemRow.vop_toNat h.mem h.vop, Bool.not_eq_false']
  obtain ⟨t0, t1, t2, t3⟩ := typeOk_element row h.mem _ _ _ _ (fun j => if j < o.val then (x.op pos v).type j else none) h.types
  have hp0 (hlt : 0 < o.val) : (if 0 < o.val then (x.op pos v).type 0 else none) = some (ty 0) := by rw [if_pos hlt, h.opType_zero]
  have hp1 (hlt : 1 < o.val) : (if 1 < o.val then (x.op pos v).type 1 else none) = some (ty 1) := by
    rw [if_pos hlt]
    exact h.opType pos (o := 1) (Nat.le_trans hlt.le ho)
  match o with
  | 0 => exact t0
  | 1 => exact t1 ho (hp0 (by decide))
  | 2 => exact t2 ho (hp0 (by decide)) (hp1 (by decide))
  | 3 => exact t3 ho (hp0 (by decide)) (hp1 (by decide))

end

/-! ### What a member reads at an element -/

/-- The sources of a member at element `i`, where its link holds `w`. -/
def Slot.memberSources (x : Slot) (ty at_ : Fin 4 → ℕ) (c : Fin 4) (w i : ℕ) (o : Fin 4) : ℕ := if o = c then w else x.elem (ty o) (at_ o) i

section
variable {s t : State} {k : SlotId} {row : ElemRow} {v : VOp} {n : ℕ} {ty at_ : Fin 4 → ℕ} {c : Fin 4} {l : ℕ}
  (h : (s.slot k).member row v n ty at_ c l) {lo up : ℕ}
  (hapart : ∀ o : Fin 4, o ≠ 0 → o.val ≤ row.srcs → o ≠ c → up ≤ at_ o ∨ at_ o + typeBytes (ty o) * n ≤ lo)
  (hst : s.shows t k lo up) (link : LinkFn) {i w : ℕ} (hi : i < n) (hw : c ≠ 0 → link l i = (some w, [])) (pos : ℕ)
include h

theorem Slot.member.sources_lt (hw : c ≠ 0 → w < 2 ^ typeBits (ty c)) (o : Fin 4) (h0 : o ≠ 0) (ho : o.val ≤ row.srcs) :
    (s.slot k).memberSources ty at_ c w i o < 2 ^ typeBits (ty o) := by
  unfold Slot.memberSources
  split_ifs with hc
  · rw [hc]
    exact hw (hc ▸ h0)
  · obtain ⟨hty, hbase, -⟩ := (h.plain o ho hc).span
    rw [← s.elemAt_plain hty hbase]
    exact State.elemAt_lt s k (d := plainStream (at_ o) (ty o)) hty.le _ _

theorem Slot.member.readIndex (o : Fin 4) : readIndex t k link ((s.slot k).op pos v) o i = (some 0, ⟨some 0, [], []⟩) := by
  unfold Machine.readIndex
  rw [h.finds.ref_index_none pos fun ho e => ?_]
  rw [(h.desc_spec ((h.uses o).1 ho)).2.2.2.1] at e
  cases e

theorem Slot.member.readMask : readMask t k link ((s.slot k).op pos v) i = (some true, ⟨some 1, [], []⟩) := by
  unfold Machine.readMask
  rw [h.finds.mask_none pos fun o ho => (h.desc_spec ((h.uses o).1 ho)).2.2.1]

theorem Slot.member.readable {o : Fin 4} (hapart : up ≤ at_ o ∨ at_ o + typeBytes (ty o) * n ≤ lo) (ho : o.val ≤ row.srcs) (hc : o ≠ c) (hi : i < n) :
    s.readable k lo up True ((at_ o + i * typeBytes (ty o) : ℕ) : ℤ) (typeBytes (ty o)) := by
  have hin := (h.plain o ho hc).element hi
  have hbase := (inOwnDesk_iff.1 hin).1
  have hmul : typeBytes (ty o) * (i + 1) ≤ typeBytes (ty o) * n := Nat.mul_le_mul_left _ hi
  rw [mul_add, mul_one, Nat.mul_comm _ i] at hmul
  exact ⟨State.legible_of (s.badByte_desk hin) h.bad fun b _ hlow => by omega, by omega, fun _ => by exact_mod_cast hbase⟩

include hapart hst hi hw

/-- A source is an element of its array, or what its link holds. -/
theorem Slot.member.readSource {o : Fin 4} (h0 : o ≠ 0) (ho : o.val ≤ row.srcs) :
    (Machine.readSource t k link ((s.slot k).op pos v) o i).gives ((s.slot k).memberSources ty at_ c w i o) True := by
  unfold Machine.readSource Slot.memberSources
  rw [h.finds.ref_main pos ((h.uses o).2 ho)]
  simp only [h.readIndex link pos o]
  by_cases hc : o = c
  · subst hc
    obtain ⟨htrans, hlink, -⟩ := h.link_spec true
    have hd : ((s.slot k).mainRef pos v o).d = (s.slot k).desc v o := rfl
    have hread (ra rb : ℕ) : readElem t k link ((s.slot k).mainRef pos v o) ra rb i 0 = ⟨some w, [], []⟩ := by
      unfold readElem
      rw [hd, htrans, hlink, hw h0]
      rfl
    rw [hread, if_pos rfl]
    exact ⟨rfl, rfl, by simp⟩
  · obtain ⟨hty, hbase, -⟩ := (h.plain o ho hc).span
    obtain ⟨hval, hfault, hdesk⟩ := hst.readElem_gives (r := (s.slot k).mainRef pos v o) (h.says ho hc).1 link (i := i) (y := 0)
      (plainStream_addr hty i 0) (h.readable (hapart o h0 ho hc) ho hc hi) 3 4
    rw [s.elemAt_plain hty hbase] at hval
    rw [if_neg hc]
    exact ⟨hval, by rw [hfault]; rfl, hdesk⟩

theorem Slot.member.source_gives {o : Fin 4} (h0 : o ≠ 0) : (Machine.readSource t k link ((s.slot k).op pos v) o i).gives
    (if o.val ≤ row.srcs then (s.slot k).memberSources ty at_ c w i o else 0) True := by
  by_cases ho : o.val ≤ row.srcs
  · rw [if_pos ho]
    exact h.readSource hapart hst link hi hw pos h0 ho
  · unfold Machine.readSource
    rw [h.finds.ref_main_none pos (by rw [← Bool.not_eq_true, h.uses]; exact ho), if_neg ho]
    exact ⟨rfl, rfl, by simp⟩

theorem Slot.member.firstRead (a : Option ℕ) : (((s.slot k).op pos v).firstRead t k link n i a).gives
    (row.first v ((s.slot k).memberSources ty at_ c w i 1)) True := by
  have h5 : ¬v.vop = 0x05 := mt (ElemRow.vop_eq h.mem h.vop (by decide)).1 h.perm
  have h2 : v.vop = 0x02 ↔ row.vop = 0x02 := ElemRow.vop_eq h.mem h.vop (by decide)
  have hop : ((s.slot k).op pos v).v = v := rfl
  unfold ROp.firstRead ElemRow.first
  rw [hop, if_neg h5]
  simp only [h2]
  split_ifs with hfill hsrc
  · exact ⟨rfl, rfl, by simp⟩
  · have := h.source_gives hapart hst link hi hw pos (o := 1) (by decide)
    rwa [if_neg (by simp [hsrc])] at this
  · exact h.readSource hapart hst link hi hw pos (o := 1) (by decide) (Nat.one_le_iff_ne_zero.2 hsrc)

/-- The reads of a member, and what it delivers. -/
theorem Slot.member.evalReads : ∃ out, evalReads t k link n ((s.slot k).op pos v) i = out ∧ out.faults = [] ∧ out.vals.isSome = true ∧ out.dstIdx = 0
    ∧ ((s.slot k).op pos v).value out i = some (row.makes v ty ((s.slot k).memberSources ty at_ c w i) i) ∧ ∀ a ∈ out.acc, a.desk = true := by
  have hop : ((s.slot k).op pos v).v = v := rfl
  have hscl : ¬((s.slot k).op pos v).v.f.scl = 1 := by rw [hop, h.scl]; decide
  obtain ⟨h2v, h2f, h2d⟩ := h.source_gives hapart hst link hi hw pos (o := 2) (by decide)
  obtain ⟨h3v, h3f, h3d⟩ := h.source_gives hapart hst link hi hw pos (o := 3) (by decide)
  have hx : Machine.readIndex t k link ((s.slot k).op pos v) 0 i = _ := h.readIndex link pos 0
  have hev := evalReads_of_active link (vl := n) (h.readMask link pos) hx (if_neg hscl)
  simp only [Fin.val_two] at h2v h2f h2d
  simp only [show ((3 : Fin 4) : ℕ) = 3 from rfl] at h3v h3f h3d
  obtain ⟨h1v, h1f, h1d⟩ := h.firstRead hapart hst link hi hw pos (some (if 2 ≤ row.srcs then (s.slot k).memberSources ty at_ c w i 2 else 0))
  rw [h2v, h1v, h3v, h1f, h2f, h3f] at hev
  refine ⟨_, hev, rfl, rfl, rfl, ?_, fun a ha => ?_⟩
  · simp only [ROp.value, hop, h.opType_zero, h.opType_first, ElemRow.vop_toNat h.mem h.vop, Option.getD_some, Option.some.injEq]
    exact elemResult_unused row h.mem _ _ _ _ _ _ _ _ _ _ (fun hs => if_pos hs) fun hs => if_pos hs
  · simp only [List.mem_append] at ha
    rcases ha with (((ha | ha) | ha) | ha) | ha
    exacts [(List.not_mem_nil ha).elim, (List.not_mem_nil ha).elim, h1d trivial a ha, h2d trivial a ha, h3d trivial a ha]

end

end Sys2Proof.Machine
end

section
/-!
SUPPORT. The checks of a group of two rows, the first of which writes a link that the second reads (02 R50, R55; 03 R75, R76).
-/

namespace Sys2Proof.Machine

section
variable {x : Slot} {row : ElemRow} {v : VOp} {n : ℕ} {ty at_ : Fin 4 → ℕ} {c : Fin 4} {l : ℕ} (h : x.member row v n ty at_ c l) (pos : ℕ)
include h

theorem Slot.member.ref_dst : (x.op pos v).ref 0 = some (x.mainRef pos v 0) := h.finds.ref_main pos ((h.uses 0).2 (Nat.zero_le _))

theorem Slot.member.writesLink : (x.op pos v).writesLink = if c = 0 then some (l, ty 0) else none := by
  obtain ⟨htrans, hty, -⟩ := h.desc_spec (o := 0) (Nat.zero_le _)
  have hd : (x.mainRef pos v 0).d = x.desc v 0 := rfl
  rw [ROp.writesLink, h.ref_dst, Option.bind_some, hd, htrans, hty]
  by_cases hc : c = 0
  · subst hc
    obtain ⟨-, hl, -⟩ := h.link_spec true
    rw [hl]; rfl
  · rw [if_neg hc, decide_eq_false (Ne.symm hc)]; rfl

/-- The source and the destination streams of a member that are no links. -/
theorem Slot.member.streams (hc : c = 0 ∨ c = 1) : (x.op pos v).readRefs.countP (fun r => !r.d.trans && !r.isDst) = row.srcs - c.val
    ∧ (x.op pos v).readRefs.countP (fun r => !r.d.trans && r.isDst) = 1 - (1 - c.val) := by
  have huses : v.uses = fun o : Fin 4 => decide (o.val ≤ row.srcs) := funext fun o => by
    rw [Bool.eq_iff_iff, h.uses, decide_eq_true_iff]
  have hsrcs : row.srcs ≤ 3 := (vrow_element row h.mem).2.1
  have hlinked := h.linked
  have hcount (p : Bool → Bool) : (x.op pos v).readRefs.countP (fun r => !r.d.trans && p r.isDst)
      = ((List.finRange 4).filter fun o : Fin 4 => decide (o.val ≤ row.srcs)).countP fun o => !decide (o = c) && p (decide (o = 0)) := by
    rw [h.readRefs, List.countP_map, huses]
    refine List.countP_congr fun o ho => ?_
    have ho : o.val ≤ row.srcs := of_decide_eq_true (List.mem_filter.1 ho).2
    have hdst : (x.mainRef pos v o).isDst = decide (o = 0) := by
      rw [Bool.eq_iff_iff, decide_eq_true_iff, DRef.isDst, beq_iff_eq, Slot.mainRef]
      exact ⟨fun e => Fin.ext (by simpa using e), fun e => by rw [e]; rfl⟩
    have htrans : (x.mainRef pos v o).d.trans = decide (o = c) := (h.desc_spec ho).1
    simp only [Function.comp_apply, hdst, htrans]
  have hfin : ∀ n < 4, ∀ c : Fin 4, c = 0 ∨ c = 1 → c.val ≤ n →
      ((List.finRange 4).filter fun o : Fin 4 => decide (o.val ≤ n)).countP (fun o => !decide (o = c) && !decide (o = 0)) = n - c.val
      ∧ ((List.finRange 4).filter fun o : Fin 4 => decide (o.val ≤ n)).countP (fun o => !decide (o = c) && decide (o = 0)) = 1 - (1 - c.val) := by decide
  obtain ⟨h1, h2⟩ := hfin row.srcs (by omega) c hc hlinked
  exact ⟨(hcount fun b => !b).trans h1, (hcount id).trans h2⟩

/-- Arrays that lie apart have hulls that lie apart (02 R50). -/
theorem Slot.member.hull_apart {d : Desc} {base size : ℕ} (hd : d.says (plainStream base size)) (hsize : size < 10) {o : Fin 4} (ho : o.val ≤ row.srcs)
    (ha : o ≠ c → base + typeBytes size * n ≤ at_ o ∨ at_ o + typeBytes (ty o) * n ≤ base) : hullsMeet (d.hull 0 n) ((x.desc v o).hull 0 n) = false := by
  by_cases hc : o = c
  · subst hc
    obtain ⟨htrans, -⟩ := h.link_spec true
    have : (x.desc v o).hull 0 n = none := by rw [Desc.hull, if_pos (.inl htrans)]
    exact hullsMeet_apart fun _ _ _ _ _ e => by rw [this] at e; cases e
  · refine hullsMeet_apart fun a b a' b' h1 h2 => ?_
    obtain ⟨⟨j, -, hj, rfl⟩, ⟨i, -, hi, rfl⟩⟩ := Desc.hull_ends hd h1
    obtain ⟨⟨j', -, hj', rfl⟩, ⟨i', -, hi', rfl⟩⟩ := Desc.hull_ends (h.says ho hc).1 h2
    have hty := (h.plain o ho hc).span.1
    have hend {i size : ℕ} (hi : i < n) : i * typeBytes size + typeBytes size ≤ typeBytes size * n := by
      have : typeBytes size * (i + 1) ≤ typeBytes size * n := Nat.mul_le_mul_left _ hi
      rwa [mul_add, mul_one, Nat.mul_comm _ i] at this
    have hi := hend (size := size) hi
    have hi' := hend (size := ty o) hi'
    have hs1 : (plainStream base size).ty = size := rfl
    have hs2 : (plainStream (at_ o) (ty o)).ty = ty o := rfl
    simp only [plainStream_addr hsize, plainStream_addr hty, hs1, hs2]
    have := ha hc
    omega

end

/-! ### A pair -/

/-- A group of two rows over `n` elements: the first writes link `l`, the second reads it as its first source, and its destination lies apart from every
array that is read. -/
structure Slot.pair (x : Slot) (row row' : ElemRow) (v v' : VOp) (n : ℕ) (ty at_ ty' at' : Fin 4 → ℕ) (l : ℕ) : Prop where
  writer : x.member row v n ty at_ 0 l
  reader : x.member row' v' n ty' at' 1 l
  type : ty' 1 = ty 0
  sources : row.srcs + row'.srcs ≤ 5
  apart : ∀ o : Fin 4, o ≠ 0 → o.val ≤ row.srcs → at' 0 + typeBytes (ty' 0) * n ≤ at_ o ∨ at_ o + typeBytes (ty o) * n ≤ at' 0
  apart' : ∀ o : Fin 4, o ≠ 0 → o.val ≤ row'.srcs → o ≠ 1 → at' 0 + typeBytes (ty' 0) * n ≤ at' o ∨ at' o + typeBytes (ty' o) * n ≤ at' 0

/-- The streams of a group keep their counts where its references do (03 R75). -/
theorem streamExcess_none {ops : List ROp} (hs : (ops.flatMap ROp.readRefs).countP (fun r => !r.d.trans && !r.isDst) ≤ 4)
    (hd : (ops.flatMap ROp.readRefs).countP (fun r => !r.d.trans && r.isDst) ≤ 2) : streamExcess ops = none := by
  have hgo (rs : List DRef) : ∀ src dst, src + rs.countP (fun r => !r.d.trans && !r.isDst) ≤ 4 → dst + rs.countP (fun r => !r.d.trans && r.isDst) ≤ 2 →
      streamExcess.go rs src dst = none := by
    induction rs with
    | nil => exact fun _ _ _ _ => rfl
    | cons r rs ih =>
      intro src dst h1 h2
      rw [List.countP_cons] at h1 h2
      unfold streamExcess.go
      rcases ht : r.d.trans with _ | _ <;> rcases hd : r.isDst with _ | _ <;> simp [ht, hd] at h1 h2 ⊢
      case false.false => rw [if_neg (by omega)]; exact ih _ _ (by omega) (by omega)
      case false.true => rw [if_neg (by omega)]; exact ih _ _ (by omega) (by omega)
      all_goals exact ih _ _ (by omega) (by omega)
  exact hgo _ 0 0 (by omega) (by omega)

section
variable {x : Slot} {row row' : ElemRow} {v v' : VOp} {n : ℕ} {ty at_ ty' at' : Fin 4 → ℕ} {l : ℕ} (h : x.pair row row' v v' n ty at_ ty' at' l)
include h

theorem Slot.pair.forall_readRefs {P : DRef → Prop} (h0 : ∀ o : Fin 4, o.val ≤ row.srcs → P (x.mainRef 0 v o))
    (h1 : ∀ o : Fin 4, o.val ≤ row'.srcs → P (x.mainRef 1 v' o)) : ∀ r ∈ [x.op 0 v, x.op 1 v'].flatMap ROp.readRefs, P r := by
  simp only [List.flatMap_cons, List.flatMap_nil, List.append_nil, List.mem_append]
  rintro r (hr | hr)
  · obtain ⟨o, ho, rfl⟩ := h.writer.mem_readRefs hr
    exact h0 o ho
  · obtain ⟨o, ho, rfl⟩ := h.reader.mem_readRefs hr
    exact h1 o ho

theorem Slot.pair.checkAddr : checkAddr [x.op 0 v, x.op 1 v'] = none := by
  have hoff {row : ElemRow} {v : VOp} {ty at_ : Fin 4 → ℕ} {c : Fin 4} (hm : x.member row v n ty at_ c l) {pos : ℕ} {r : DRef}
      (hr : r ∈ x.refsOf pos v) : r.off.isNone = false := by
    rw [hm.refsOf] at hr
    obtain ⟨o, -, rfl⟩ := List.mem_map.1 hr
    rfl
  refine List.findSome?_eq_none_iff.2 fun r hr => ?_
  rw [if_neg]
  simp only [allRefs, List.flatMap_cons, List.flatMap_nil, List.append_nil, List.mem_append] at hr
  rw [hr.elim (hoff h.writer) (hoff h.reader)]
  exact Bool.false_ne_true

theorem Slot.pair.checkRead : checkRead x [x.op 0 v, x.op 1 v'] = none := by
  refine List.findSome?_eq_none_iff.2 fun r _ => ?_
  cases r.off <;> simp [h.writer.bad]

theorem Slot.pair.checkRsv : checkRsv [x.op 0 v, x.op 1 v'] = none := by
  refine List.findSome?_eq_none_iff.2 (h.forall_readRefs (fun o ho => ?_) fun o ho => ?_)
  · exact Option.map_eq_none_iff.2 ((h.writer.desc_spec ho).2.2.2.2 _)
  · exact Option.map_eq_none_iff.2 ((h.reader.desc_spec ho).2.2.2.2 _)

theorem Slot.pair.checkType : checkType [x.op 0 v, x.op 1 v'] = none := by
  simp only [Machine.checkType, List.findSome?_eq_none_iff, List.mem_cons, List.not_mem_nil, or_false]
  rintro o (rfl | rfl) r hr
  · rw [h.writer.typeFails hr]; rfl
  · rw [h.reader.typeFails hr]; rfl

/-- The writer's link has no earlier writer, and the reader's has the right one (03 R76). -/
theorem Slot.pair.linkFails_writer {o : Fin 4} (ho : o.val ≤ row.srcs) : linkFails true [x.op 0 v, x.op 1 v'] (x.op 0 v) (x.mainRef 0 v o) = false := by
  have htrans : (x.mainRef 0 v o).d.trans = decide (o = 0) := (h.writer.desc_spec ho).1
  rw [linkFails, htrans]
  by_cases h0 : o = 0
  · subst h0; rfl
  · rw [decide_eq_false h0]; rfl

theorem Slot.pair.linkFails_reader {o : Fin 4} (ho : o.val ≤ row'.srcs) : linkFails true [x.op 0 v, x.op 1 v'] (x.op 1 v') (x.mainRef 1 v' o) = false := by
  have htrans : (x.mainRef 1 v' o).d.trans = decide (o = 1) := (h.reader.desc_spec ho).1
  by_cases h1 : o = 1
  · subst h1
    obtain ⟨-, hl, hty, -⟩ := h.reader.link_spec true
    have hown : (x.op 1 v').writesLink = none := (h.reader.writesLink 1).trans (if_neg (by decide))
    have hbefore : ([x.op 0 v, x.op 1 v'].filter fun q => decide (q.pos < (x.op 1 v').pos)) = [x.op 0 v] := rfl
    have hwriters : [x.op 0 v].filterMap ROp.writesLink = [(l, ty 0)] := by
      have : (x.op 0 v).writesLink = some (l, ty 0) := (h.writer.writesLink 0).trans (if_pos rfl)
      simp [this]
    have hlink : (x.mainRef 1 v' 1).d.link = l := hl
    have htype : (x.mainRef 1 v' 1).d.type = ty 0 := hty.trans h.type
    have hdst : (x.mainRef 1 v' 1).isDst = false := rfl
    rw [linkFails, htrans]
    simp only [hbefore, hwriters, hown, hlink, htype, hdst]
    simp
  · rw [linkFails, htrans, decide_eq_false h1]; rfl

theorem Slot.pair.checkLink : checkLink true [x.op 0 v, x.op 1 v'] = none := by
  have hfails : ([x.op 0 v, x.op 1 v'].findSome? fun o => o.readRefs.findSome? fun r =>
      if linkFails true [x.op 0 v, x.op 1 v'] o r then some (⟨0, 4, 0, r.opnd, r.pos, 0, 0⟩ : VStop) else none) = none := by
    simp only [List.findSome?_eq_none_iff, List.mem_cons, List.not_mem_nil, or_false]
    rintro o (rfl | rfl) r hr
    · obtain ⟨o, ho, rfl⟩ := h.writer.mem_readRefs hr
      rw [h.linkFails_writer ho]; rfl
    · obtain ⟨o, ho, rfl⟩ := h.reader.mem_readRefs hr
      rw [h.linkFails_reader ho]; rfl
  have hexcess : streamExcess [x.op 0 v, x.op 1 v'] = none := by
    obtain ⟨hs, hd⟩ := h.writer.streams 0 (.inl rfl)
    obtain ⟨hs', hd'⟩ := h.reader.streams 1 (.inr rfl)
    have hsum := h.sources
    have hlinked : 1 ≤ row'.srcs := h.reader.linked
    refine streamExcess_none ?_ ?_
    all_goals
      simp only [List.flatMap_cons, List.flatMap_nil, List.append_nil, List.countP_append, hs, hs', hd, hd', Fin.val_zero, Fin.val_one]
      omega
  unfold Machine.checkLink
  rw [hfails, hexcess]
  rfl

theorem Slot.pair.checkAlign : checkAlign [x.op 0 v, x.op 1 v'] = none := by
  have hone {row : ElemRow} {v : VOp} {ty at_ : Fin 4 → ℕ} {c : Fin 4} (hm : x.member row v n ty at_ c l) {o : Fin 4} (ho : o.val ≤ row.srcs) :
      (!(x.desc v o).trans && (x.desc v o).type != 10 && (x.desc v o).base % typeBytes (x.desc v o).type != 0) = false := by
    by_cases hc : o = c
    · rw [(hm.desc_spec ho).1, decide_eq_true hc]; rfl
    · obtain ⟨hs, -⟩ := hm.says ho hc
      obtain ⟨-, -, -, -, -, -, -, halign, -⟩ := hm.plain o ho hc
      have hbase : (x.desc v o).base % typeBytes (x.desc v o).type = 0 := by rw [hs.base, hs.type]; exact halign
      rw [hbase]; exact Bool.and_false _
  refine List.findSome?_eq_none_iff.2 (h.forall_readRefs (fun o ho => ?_) fun o ho => ?_)
  · exact if_neg (Bool.not_eq_true _ ▸ hone h.writer ho)
  · exact if_neg (Bool.not_eq_true _ ▸ hone h.reader ho)

theorem Slot.pair.checkOverlap : checkOverlap 0 n [x.op 0 v, x.op 1 v'] = none := by
  have hdst {row : ElemRow} {v : VOp} {pos : ℕ} {o : Fin 4} (ho : (x.mainRef pos v o).isDst = true) : o = 0 := by
    rw [DRef.isDst, beq_iff_eq, Slot.mainRef] at ho
    exact Fin.ext (by simpa using ho)
  have hs := (h.reader.says (o := 0) (Nat.zero_le _) (by decide)).1
  have hty := (h.reader.plain 0 (Nat.zero_le _) (by decide)).span.1
  have hmeets : ([x.op 0 v, x.op 1 v'].flatMap ROp.readRefs).any (fun q => hullsMeet ((x.desc v' 0).hull 0 n) (q.d.hull 0 n)
      && (if q.isDst then decide (q.pos < 1) else !exactIdentity (x.mainRef 1 v' 0) q)) = false := by
    refine List.any_eq_false.2 (h.forall_readRefs (fun o ho => ?_) fun o ho => ?_)
    · have : hullsMeet ((x.desc v' 0).hull 0 n) ((x.mainRef 0 v o).d.hull 0 n) = false :=
        h.writer.hull_apart hs hty ho fun h0 => h.apart o h0 ho
      rw [this]; exact Bool.false_ne_true
    · by_cases h0 : o = 0
      · subst h0
        have : (if (x.mainRef 1 v' 0).isDst then decide ((x.mainRef 1 v' 0).pos < 1) else !exactIdentity (x.mainRef 1 v' 0) (x.mainRef 1 v' 0)) = false := rfl
        rw [this, Bool.and_false]; exact Bool.false_ne_true
      · have : hullsMeet ((x.desc v' 0).hull 0 n) ((x.mainRef 1 v' o).d.hull 0 n) = false :=
          h.reader.hull_apart hs hty ho fun h1 => h.apart' o h0 ho h1
        rw [this]; exact Bool.false_ne_true
  refine List.findSome?_eq_none_iff.2 (h.forall_readRefs (fun o ho => ?_) fun o ho => ?_)
  all_goals refine if_neg (Bool.not_eq_true _ ▸ ?_)
  · have htrans : (x.mainRef 0 v o).d.trans = decide (o = 0) := (h.writer.desc_spec ho).1
    rw [overlapFails, htrans]
    rcases hd : (x.mainRef 0 v o).isDst with _ | _
    · rfl
    · rw [decide_eq_true (hdst (row := row) hd)]; rfl
  · rcases hd : (x.mainRef 1 v' o).isDst with _ | _
    · rw [overlapFails, hd]; rfl
    · obtain rfl := hdst (row := row') hd
      have hd : (x.mainRef 1 v' 0).d = x.desc v' 0 := rfl
      have hp : (x.mainRef 1 v' 0).pos = 1 := rfl
      have hmode : (x.desc v' 0).mode = 0 := hs.mode
      rw [overlapFails, hd, hp, hs.trans, hmode, hmeets]
      rfl

/-- Nothing precedes the elements of a pair. -/
theorem Slot.pair.checkEntry : checkEntry x true [x.op 0 v, x.op 1 v'] 0 n = none := by
  rw [Machine.checkEntry, h.checkAddr, h.checkRead, h.checkRsv, h.checkType, h.checkLink, h.checkAlign, h.checkOverlap, if_neg (Nat.not_lt_zero n)]
  rfl

end

end Sys2Proof.Machine
end

section
/-!
SUPPORT. A group of two rows from its first element to its end: each element passes over the link into the second row (02 R46; 03 R76, R80).
-/

namespace Sys2Proof.Machine

/-! ### Links along an element -/

/-- A link element that has been computed is read as it is. -/
theorem linkValue_done (s : State) (k : SlotId) (vl : ℕ) (ops : List ROp) (done : List (ℕ × ℕ × Option ℕ)) (fuel l i : ℕ) (y : Option ℕ) :
    linkValue s k vl ops ((l, i, y) :: done) (fuel + 1) l i = (y, []) := by
  simp [linkValue]

/-- An operation whose destination is a link hands its value on. -/
theorem elemStep_link {t : State} {k : SlotId} {vl : ℕ} {ops : List ROp} {i : ℕ} {a : Step1} {o : ROp} {d : DRef} (hd : o.ref 0 = some d)
    (htrans : d.d.trans = true) {out : EOut} (hout : evalReads t k (fun l j => linkValue t k vl ops a.links (ops.length + 1) l j) vl o i = out)
    (hfaults : out.faults = []) {r : FRes} (hvalue : o.value out i = some r) (htraps : o.v.traps = 0) :
    ∃ live, elemStep t k vl ops i a o =
      { a with live := live, acc := a.acc ++ out.acc, flags := a.flags ||| r.flags, links := (d.d.link, i, some r.val) :: a.links } := by
  have htrap : trapOf r.flags o.v.traps = none := trapOf_none (by rw [htraps]; exact BitVec.and_zero)
  refine ⟨if o.liveAt t k (fun l j => linkValue t k vl ops a.links (ops.length + 1) l j) i then insertNat o.pos a.live else a.live, ?_⟩
  unfold elemStep
  simp only [hout, hd, htrans, hfaults, hvalue, htrap, EOut.failed, if_true, List.append_nil, List.isEmpty_nil, Bool.not_true, Bool.false_eq_true, if_false,
    Option.map_some]

/-- An operation whose destination is an element of valid address writes its value there. -/
theorem elemStep_write {t : State} {k : SlotId} {vl : ℕ} {ops : List ROp} {i : ℕ} {a : Step1} {o : ROp} {d : DRef} (hd : o.ref 0 = some d)
    (htrans : d.d.trans = false) {out : EOut} (hout : evalReads t k (fun l j => linkValue t k vl ops a.links (ops.length + 1) l j) vl o i = out)
    (hfaults : out.faults = []) (hvals : out.vals.isSome = true) {r : FRes} (hvalue : o.value out i = some r) (htraps : o.v.traps = 0)
    (hvalid : t.badByte (d.d.elemAddr i out.dstIdx) (typeBytes d.d.type) = none) :
    ∃ live, elemStep t k vl ops i a o =
      { a with
        live := live
        acc := a.acc ++ out.acc ++ [mkAccess d (d.d.elemAddr i out.dstIdx).toNat i true false]
        flags := a.flags ||| r.flags
        writes := a.writes ++ [elemWrite d.d i (d.d.elemAddr i out.dstIdx).toNat r.val] } := by
  have htrap : trapOf r.flags o.v.traps = none := trapOf_none (by rw [htraps]; exact BitVec.and_zero)
  obtain ⟨live, -, hstep⟩ := elemStep_dst hd htrans hout
  obtain ⟨p, hp⟩ := Option.isSome_iff_exists.1 hvals
  refine ⟨live, ?_⟩
  rw [hstep]
  simp only [hp, hvalue, htrap, hvalid, hfaults, List.append_nil]

/-! ### The course of a pair -/

/-- Before element `j` the flags of both rows up to it have been raised; element `j` writes what the second row delivers. -/
def pairCourse (r : Regs) (base ty : ℕ) (rs rs' : ℕ → FRes) : Course where
  regs j := { r with fpcsr := sticky r.fpcsr (((List.range j).map rs ++ (List.range j).map rs').map FRes.flags) }
  writes := (plainStream base ty).writesOf (fun j => ((base + j * typeBytes ty : ℕ) : ℤ)) (fun _ => true) fun j => (rs' j).val

/-- The order in which flags are raised does not matter (04 R107). -/
theorem sticky_perm (f : Word32) {l l' : List FlagSet} (h : l.Perm l') : sticky f l = sticky f l' := by
  refine h.foldl_eq' (fun a _ b _ z => ?_) f
  rw [BitVec.or_assoc, BitVec.or_comm (a.zeroExtend 32), ← BitVec.or_assoc]

theorem pairCourse_succ (r : Regs) (base ty : ℕ) (rs rs' : ℕ → FRes) (j : ℕ) : (pairCourse r base ty rs rs').regs (j + 1) =
    ((pairCourse r base ty rs rs').regs j).orFlags ((rs j).flags ||| (rs' j).flags) := by
  have hperm : (((List.range (j + 1)).map rs ++ (List.range (j + 1)).map rs').map FRes.flags).Perm
      (((List.range j).map rs ++ (List.range j).map rs').map FRes.flags ++ [(rs j).flags] ++ [(rs' j).flags]) := by
    rw [List.range_succ]
    simp only [List.map_append, List.map_cons, List.map_nil, List.append_assoc]
    refine List.Perm.append_left _ ?_
    rw [← List.append_assoc, ← List.append_assoc]
    exact List.perm_append_comm.append_right _
  simp only [pairCourse, Regs.orFlags, sticky_perm _ hperm, sticky_append, BitVec.zeroExtend, BitVec.setWidth_or, BitVec.or_assoc]

theorem pairCourse_within {x : Slot} {v : Word64} {base ty n : ℕ} (hd : x.plainDesc v ty base n) (r : Regs) (rs rs' : ℕ → FRes) {j : ℕ} (hj : j < n) :
    ∀ w ∈ (pairCourse r base ty rs rs').writes j, w.within (base : ℕ) (base + typeBytes ty * n : ℕ) ∧ deskBase ≤ w.1 := by
  intro w hw
  have hw : w ∈ [(plainStream base ty).write j ((base + j * typeBytes ty : ℕ) : ℤ) (rs' j).val] := hw
  have hin := inOwnDesk_iff.1 (hd.element hj)
  have hmul : typeBytes ty * (j + 1) ≤ typeBytes ty * n := Nat.mul_le_mul_left _ hj
  rw [mul_add, mul_one, Nat.mul_comm _ j] at hmul
  have hs : (plainStream base ty).ty = ty := rfl
  rw [List.mem_singleton.1 hw]
  unfold EngineWrite.within oneSide
  rw [VStream.write_addr, VStream.write_size, hs, Int.toNat_natCast]
  omega

/-! ### A pair from its first element to its end -/

section
variable {s : State} {k : SlotId} {row row' : ElemRow} {v v' : VOp} {n : ℕ} {ty at_ ty' at' : Fin 4 → ℕ} {l : ℕ}
  (h : (s.slot k).pair row row' v v' n ty at_ ty' at' l)

/-- What the first row delivers at element `j`. -/
def Slot.pairFirst (x : Slot) (row : ElemRow) (v : VOp) (ty at_ : Fin 4 → ℕ) (j : ℕ) : FRes := row.makes v ty (x.memberSources ty at_ 0 0 j) j

/-- What the second row makes of it. -/
def Slot.pairSecond (x : Slot) (row row' : ElemRow) (v v' : VOp) (ty at_ ty' at' : Fin 4 → ℕ) (j : ℕ) : FRes :=
  row'.makes v' ty' (x.memberSources ty' at' 1 (x.pairFirst row v ty at_ j).val j) j

include h

theorem Slot.pair.first_gives (hfn : row.fnOk v.f.fn.toNat) (j : ℕ) :
    row.gives ⟨v.f.fn.toNat, v.rm, ty 0, ty 1⟩ (row.first v ((s.slot k).elem (ty 1) (at_ 1) j)) ((s.slot k).elem (ty 2) (at_ 2) j)
      ((s.slot k).elem (ty 3) (at_ 3) j) j ((s.slot k).pairFirst row v ty at_ j) :=
  ElemRow.makes_gives h.writer.mem h.writer.types (h.writer.sources_lt fun e => absurd rfl e) hfn j

theorem Slot.pair.first_lt (hfn : row.fnOk v.f.fn.toNat) (j : ℕ) : ((s.slot k).pairFirst row v ty at_ j).val < 2 ^ typeBits (ty 0) :=
  ElemRow.makes_lt h.writer.mem h.writer.types (h.writer.sources_lt fun e => absurd rfl e) hfn j

theorem Slot.pair.second_sources_lt (hfn : row.fnOk v.f.fn.toNat) (j : ℕ) (o : Fin 4) (h0 : o ≠ 0) (ho : o.val ≤ row'.srcs) :
    (s.slot k).memberSources ty' at' 1 ((s.slot k).pairFirst row v ty at_ j).val j o < 2 ^ typeBits (ty' o) :=
  h.reader.sources_lt (fun _ => by rw [h.type]; exact h.first_lt hfn j) o h0 ho

theorem Slot.pair.second_gives (hfn : row.fnOk v.f.fn.toNat) (hfn' : row'.fnOk v'.f.fn.toNat) (j : ℕ) :
    row'.gives ⟨v'.f.fn.toNat, v'.rm, ty' 0, ty' 1⟩ ((s.slot k).pairFirst row v ty at_ j).val ((s.slot k).elem (ty' 2) (at' 2) j)
      ((s.slot k).elem (ty' 3) (at' 3) j) j ((s.slot k).pairSecond row row' v v' ty at_ ty' at' j) := by
  have hg := ElemRow.makes_gives (v := v') h.reader.mem h.reader.types (h.second_sources_lt hfn j) hfn' j
  have hsrc : row'.srcs ≠ 0 := Nat.one_le_iff_ne_zero.1 h.reader.linked
  have hfill : row'.vop ≠ 0x02 := fun e => hsrc ((fixed_sources row' h.reader.mem).2 e)
  rw [ElemRow.first, if_neg hfill, if_neg hsrc] at hg
  exact hg

theorem Slot.pair.second_lt (hfn : row.fnOk v.f.fn.toNat) (hfn' : row'.fnOk v'.f.fn.toNat) (j : ℕ) :
    ((s.slot k).pairSecond row row' v v' ty at_ ty' at' j).val < 2 ^ typeBits (ty' 0) :=
  ElemRow.makes_lt h.reader.mem h.reader.types (h.second_sources_lt hfn j) hfn' j

theorem Slot.pair.destination : (s.slot k).plainDesc (v'.operand 0) (ty' 0) (at' 0) n := h.reader.plain 0 (Nat.zero_le _) (by decide)

/-- The course of the pair. -/
def Slot.pair.course (_ : (s.slot k).pair row row' v v' n ty at_ ty' at' l) : Course :=
  pairCourse (s.regs k) (at' 0) (ty' 0) ((s.slot k).pairFirst row v ty at_) ((s.slot k).pairSecond row row' v v' ty at_ ty' at')

theorem Slot.pair.passes (htraps : v.traps = 0) (htraps' : v'.traps = 0) {j : ℕ} (hj : j < n) :
    h.course.passes s k (at' 0 : ℕ) (at' 0 + typeBytes (ty' 0) * n : ℕ) n [(s.slot k).op 0 v, (s.slot k).op 1 v'] True j := by
  have hwithin := pairCourse_within h.destination (s.regs k) ((s.slot k).pairFirst row v ty at_) ((s.slot k).pairSecond row row' v v' ty at_ ty' at') hj
  refine ⟨fun w hw => (hwithin w hw).1, fun t links live hst => ?_⟩
  generalize hops : [(s.slot k).op 0 v, (s.slot k).op 1 v'] = ops
  obtain ⟨out, hev, hfault, -, -, hval, hdesk⟩ := h.writer.evalReads (fun o h0 ho _ => h.apart o h0 ho) hst
    (fun l j => linkValue t k n ops (Step1.start (h.course.regs j) links live).links (ops.length + 1) l j) (w := 0) hj (fun e => absurd rfl e) 0
  obtain ⟨htrans, hlink, -⟩ := h.writer.link_spec true
  obtain ⟨live₁, hstep⟩ := elemStep_link (a := Step1.start (h.course.regs j) links live) (ops := ops) (h.writer.ref_dst 0) htrans hev hfault hval htraps
  have hd : ((s.slot k).mainRef 0 v 0).d.link = l := hlink
  rw [hd] at hstep
  generalize ha : elemStep t k n ops j (Step1.start (h.course.regs j) links live) ((s.slot k).op 0 v) = a at hstep
  have hlinks : a.links = (l, j, some ((s.slot k).pairFirst row v ty at_ j).val) :: links := by rw [hstep]; rfl
  obtain ⟨out', hev', hfault', hvals', hidx', hval', hdesk'⟩ := h.reader.evalReads h.apart' hst
    (fun l j => linkValue t k n ops a.links (ops.length + 1) l j) hj (fun _ => by rw [hlinks]; exact linkValue_done ..) 1
  have hs := (h.reader.says (o := 0) (Nat.zero_le _) (by decide)).1
  have htype : ((s.slot k).mainRef 1 v' 0).d.type = ty' 0 := hs.type
  have haddr : ((s.slot k).mainRef 1 v' 0).d.elemAddr j out'.dstIdx = ((at' 0 + j * typeBytes (ty' 0) : ℕ) : ℤ) :=
    (hs.elemAddr j _).trans (plainStream_addr h.destination.span.1 j _)
  have hvalid : t.badByte (((s.slot k).mainRef 1 v' 0).d.elemAddr j out'.dstIdx) (typeBytes ((s.slot k).mainRef 1 v' 0).d.type) = none := by
    rw [haddr, htype, State.badByte_congr hst.repair]
    exact s.badByte_desk (h.destination.element hj)
  obtain ⟨live₂, hstep'⟩ := elemStep_write (a := a) (ops := ops) (h.reader.ref_dst 1) hs.trans hev' hfault' hvals' hval' htraps' hvalid
  rw [← hops, List.foldl_cons, List.foldl_cons, List.foldl_nil, hops, ha, hstep', hstep]
  refine ⟨rfl, ?_, ?_, fun _ w hw => ?_⟩
  · refine Eq.trans ?_ (pairCourse_succ (s.regs k) (at' 0) (ty' 0) _ _ j).symm
    exact congrArg (Regs.orFlags _) (congrArg (· ||| _) BitVec.zero_or)
  · rw [haddr]
    exact congrArg (fun w => [w]) (hs.elemWrite j _ _)
  · rw [haddr, Int.toNat_natCast] at hw
    simp only [Step1.start, List.nil_append, List.mem_append, List.mem_singleton] at hw
    rcases hw with (hw | hw) | rfl
    · exact hdesk w hw
    · exact hdesk' w hw
    · exact decide_eq_true (inOwnDesk_iff.1 (h.destination.element hj)).1

end

/-- A pair runs to its end (02 R46). -/
theorem Slot.pair.runs {s : State} {i : StreamId} {k : SlotId} {row row' : ElemRow} {v v' : VOp} {es : List VEntry} {vl : Word32}
    {ty at_ ty' at' : Fin 4 → ℕ} {l : ℕ} (h : (s.slot k).pair row row' v v' vl.toNat ty at_ ty' at' l) (hfn : row.fnOk v.f.fn.toNat)
    (hfn' : row'.fnOk v'.f.fn.toNat) (htraps : v.traps = 0) (htraps' : v'.traps = 0) (hform : s.inForm k) (hk : s.slotOf i = some k)
    (hq : (s.slot k).eng.queue = ⟨[v, v'], 3, vl, 0⟩ :: es) (hstop : (s.slot k).eng.stopped = false) (hsus : (s.slot k).eng.suspend = false) :
    ∃ t, exec (.vectorEntryExecute ⟨i, [], true⟩) s = .next t ∧ t.vecDone k es (h.course.regs vl.toNat)
      ∧ (∀ j < vl.toNat, (t.slot k).elem (ty' 0) (at' 0) j = ((s.slot k).pairSecond row row' v v' ty at_ ty' at' j).val)
      ∧ ∀ o, (o < at' 0 - deskBase ∨ at' 0 - deskBase + typeBytes (ty' 0) * vl.toNat ≤ o) → (t.slot k).desk.mem.read o = (s.slot k).desk.mem.read o := by
  obtain ⟨hty, hbase, -⟩ := h.destination.span
  have hdone := entry_completes (e := ⟨[v, v'], 3, vl, 0⟩) (c := h.course) (m := vl.toNat) rfl h.checkEntry hform (Nat.zero_le _) (.inr rfl) rfl
    (fun j _ hj => h.passes htraps htraps' hj) (.inl trivial) rfl
  have hwrote := (State.wrote_written (d := plainStream (at' 0) (ty' 0)) h.destination.holds.2.2.2 hform (idx := fun _ => 0) (w := fun _ => true)
    (val := fun j => ((s.slot k).pairSecond row row' v v' ty at_ ty' at' j).val) (fun j => (plainStream_addr hty j 0).symm) (Nat.zero_le vl.toNat)
    fun j _ hj _ => ⟨s.badByte_desk (h.destination.element hj), h.second_lt hfn hfn' j⟩).sameMemories hdone.memories
  exact ⟨_, exec_front hk hq hstop hsus, hdone.vecDone hq hstop, hwrote.array hty hbase fun j => ⟨fun hj => hj.2.1, fun hj => ⟨Nat.zero_le _, hj, rfl⟩⟩⟩

end Sys2Proof.Machine
end

section
/-!
O37: vector execution.
-/

namespace Sys2Proof.Machine

/-- Settles O37: an entry runs along a course of registers and writes, from its checks to its end, its stop or its suspension; each clause names the course
of its rows. -/
theorem aVectorSumIsComputed : Obligations.AVectorSumIsComputed := by
  unfold Obligations.AVectorSumIsComputed
  refine ⟨?_, ?_, ?_, ?_, ?_, ?_⟩
  · intro row hrow s i k v es vl vx g hwf hk hkeeps hvop hq hstop hsus r x n named ty dst runs htypes hnames hcompute hmoves ⟨lo, up, hlo, hup⟩
      a2 picked a1 fits sources on writes en
    have hform := State.inForm_of_memWf hwf k
    have hfn := ElemRow.fnOk_of_keepsRow row hrow v.f hkeeps
    have hoperates := ElemRow.operates hrow hvop hcompute.2.2.1 hnames htypes
    have hready : row.ready s k g v n x lo up False :=
      ⟨hrow, hvop, ElemRow.delivers_lt hrow hoperates htypes hfn n, scalar_type row hrow v.f _ _ _ _ hkeeps htypes, htypes,
        hoperates,
        hcompute.feeds fun d at_ hd j h1 h2 _ => (hup d at_ hd).imp (fun h => h j h1 h2) fun h => h j h1 h2, ⟨hlo, hup⟩, hmoves, False.elim⟩
    refine ⟨fun hlt => ?_, row.delivers g s k v n, fun j _ _ _ => ElemRow.delivers_gives hrow hoperates htypes hfn n j, ?_⟩
    · have h := entry_checked (e := ⟨[v], 1, vl, vx⟩) (st := ⟨0, 7, 0, 9, 0, 0, 0⟩) s k
        ((hready.operates.checkEntry 0 (hready.operates.overlap (fun _ => hready.apart) (fun _ => hmoves) 0)).trans (if_pos hlt))
      exact ⟨_, exec_front hk hq hstop hsus, h.vecStopped hq rfl (ofNat_toNat vx), h.memories.sameBytes⟩
    · intro m hx hm hok wrote now
      have hwrites (j : ℕ) : g.writes s k 0 j = true ↔ writes j := Bool.or_eq_true_iff
      have hok' (j : ℕ) (h1 : x ≤ j) (h2 : j < m) := And.intro (hok j h1 h2).1 fun hw => (hok j h1 h2).2 ((hwrites j).1 hw)
      have hwrote {t : State} (h : row.wroteTo s t k g v n x m) : wrote t :=
        State.wrote.congr h (fun j => and_congr_right fun _ => and_congr_right fun _ => hwrites j) fun _ _ => rfl
      have hstops {st : VStop} (hlt : m < n) (hc : (row.course g s k v n x).stops s k lo up n [(s.slot k).op 0 v] False st [] m) (hgop : st.gop = 0) :
          runs fun t => wrote t ∧ s.vecStopped t k now m st.cause st.sub st.opnd st.addr st.flags := by
        obtain ⟨t, ht, hw, hv⟩ := hready.runs_to_stop hform hk hq hstop hsus (.inr hcompute.weighs) hx hok' hlt hc hgop
        exact ⟨t, ht, hwrote hw, hv⟩
      refine ⟨fun he => ?_, fun hlt hon h5 o sub h0 ho hlow hc => ?_, fun hlt hon hfit cause sub ht => ?_, fun hlt hw hfit sub hc => ?_⟩
      · obtain ⟨ht, hdone, hw⟩ := hready.runs_whole hform hk hq hstop hsus (.inr hcompute.weighs) hx hok' he
        exact ⟨_, ht, hwrote hw, hdone.vecDone hq hstop⟩
      · exact hstops hlt (hready.stops_source hx hlt hon h5 h0 ho hlow hc) rfl
      · exact hstops hlt (hready.stops_trap hx hlt hon hfit ht) rfl
      · exact hstops hlt (hready.stops_destination hx hlt ((hwrites m).2 hw) hfit hc) rfl
  · intro row hrow s i k v es vl vx g hwf hk hkeeps hvop hq hstop hsus r x n t1 on en runs htypes hnames hcompute
    have hform := State.inForm_of_memWf hwf k
    have hready : row.ready s k g v n x False :=
      ⟨hrow, hvop, htypes, ReduceRow.operates hrow hvop hcompute.2.2.1 hnames htypes, hcompute.feeds fun _ _ _ _ _ _ h0 => .inr h0⟩
    refine ⟨row.fold g s k v x, row.flags g s k v x, row.fold_start g s k v x, fun j hx _ => ⟨hready.gives (ReduceRow.fn_lt hrow hkeeps) hx, fun hoff => ?_⟩, ?_⟩
    · have hoff : g.active s k 1 j = false := hoff
      exact ⟨by rw [ReduceRow.fold, if_neg (by simp [hoff])], by rw [ReduceRow.flags, if_neg (by simp [hoff])]⟩
    · intro m hx hm hok upTo stopped
      have hstops {st : VStop} (hlt : m < n) (hc : (row.course g s k v x).stops s k 0 0 n [(s.slot k).op 0 v] False st [0] m) (hgop : st.gop = 0) :
          runs fun t => s.vecStopped t k stopped m st.cause st.sub st.opnd st.addr st.flags :=
        hready.runs_to_stop hform hk hq hstop hsus (.inr hcompute.weighs) hx hok hlt hc hgop
      refine ⟨fun he => ?_, fun hlt hon sub hc => ?_, fun hlt hon hval cause sub ht => ?_⟩
      · obtain ⟨ht, hdone⟩ := hready.runs_whole hform hk hq hstop hsus (.inr hcompute.weighs) hx hok he
        exact ⟨_, ht, hdone.memories.sameBytes, hdone.vecDone hq hstop⟩
      · exact hstops hlt (hready.stops_source hx hlt hon hc) rfl
      · exact hstops hlt (hready.stops_trap hx hlt hon hval ht) rfl
  · intro row hrow s i k v es vl vx _ hk hvop hq hstop hsus hbad
    exact ElemRow.misplaced_stops hrow hk hvop hq hstop hsus hbad
  · intro row hrow row' hrow' h5 h5' hsrc hsum s i k v v' es vl ty at_ ty' at' l hwf hk x n hq hstop hsus hbad hvop hvop' hscl hscl' htraps htraps'
      hkeeps hkeeps' htypes htypes' arrays hlink hlink' hty hdst harr harr' a1
    have hpos {o : Fin 4} (h0 : o ≠ 0) : 1 ≤ o.val := Nat.one_le_iff_ne_zero.2 fun e => h0 (Fin.ext e)
    have hpos' {o : Fin 4} (h0 : o ≠ 0) (h1 : o ≠ 1) : 2 ≤ o.val :=
      Nat.succ_le_of_lt (lt_of_le_of_ne (hpos h0) fun e => h1 (Fin.ext e.symm))
    have hwriter : x.member row v n ty at_ 0 l :=
      ⟨hrow, hvop, h5, hscl, hbad, htypes, Nat.zero_le _, hlink, fun o ho h0 => (harr o (hpos h0) ho).1⟩
    have hreader : x.member row' v' n ty' at' 1 l := by
      refine ⟨hrow', hvop', h5', hscl', hbad, htypes', hsrc, hty.symm ▸ hlink', fun o ho h1 => ?_⟩
      by_cases h0 : o = 0
      · exact h0 ▸ hdst
      · exact (harr' o (hpos' h0 h1) ho).1
    have hpair : x.pair row row' v v' n ty at_ ty' at' l :=
      ⟨hwriter, hreader, hty, hsum, fun o h0 ho => (harr o (hpos h0) ho).2, fun o h0 ho h1 => (harr' o (hpos' h0 h1) ho).2⟩
    have hfn := ElemRow.fnOk_of_keepsRow row hrow v.f hkeeps
    have hfn' := ElemRow.fnOk_of_keepsRow row' hrow' v'.f hkeeps'
    obtain ⟨t, ht, hdone, hvals, hother⟩ := hpair.runs hfn hfn' htraps htraps' (State.inForm_of_memWf hwf k) hk hq hstop hsus
    refine ⟨t, (List.range n).map (x.pairFirst row v ty at_), (List.range n).map (x.pairSecond row row' v v' ty at_ ty' at'), by simp, by simp, ht, hdone,
      fun j hj hj' => ?_, hother⟩
    rw [List.length_map, List.length_range] at hj
    simp only [List.getElem_map, List.getElem_range]
    exact ⟨hvals j hj, hpair.first_gives hfn j, hpair.second_gives hfn hfn' j⟩
  · intro s i k v es vl d a b hwf hk hsums x sum keeps
    have hform := State.inForm_of_memWf hwf k
    refine ⟨fun hsus => ?_, fun g hsus hg => ?_⟩
    · obtain ⟨t, ⟨hx, hq, hs, hr, hm, ho⟩, h1, h2⟩ := hsums.runs_whole hform hk hsus
      exact ⟨t, hx, ⟨h1, h2, hm, ho⟩, hq, hs, hr⟩
    · obtain ⟨t, ws, hx, ⟨h1, h2⟩, hst⟩ := hsums.runs_suspended hform hk hsus hg
      have hsize : 512 * g = 8 * (64 * g) := by omega
      exact ⟨t, hx, h1, fun o ho => h2 o (hsize ▸ ho), hst.queue, hst.stopped, hst.suspend, hst.cause, hst.regs⟩
  · intro s i k v es vl hwf hk x n ends
    have hform := State.inForm_of_memWf hwf k
    refine ⟨fun row hrow ty at_ hf hops => ?_, fun row hrow t1 a hf htypes hfn hd => ?_, ?_⟩
    · have hdesk := hops.onDesk hrow hf
      have hfn := hops.2.1
      obtain ⟨hq, hstop, hsus, -, -, htraps, -⟩ := hf
      have hfl (j : ℕ) : (row.delivers (deskArgs ty at_) s k v n j).flags &&& v.traps.truncate 6 = 0 := by rw [htraps]; exact BitVec.and_zero
      obtain ⟨t, ⟨hx, hq', hs', hr, hm, ho⟩, hw⟩ := hdesk.runs_whole (hdesk.delivers_lt hfn) hfl hform hk hq hstop hsus
      obtain ⟨h1, h2⟩ := hdesk.wrote hw
      refine ⟨t, (List.range n).map (row.delivers (deskArgs ty at_) s k v n), by simp, ⟨hx, hq', hs', ?_, hm, ho⟩, fun j hj => ?_, h2⟩
      · exact hr.trans (congrArg (fun r : Regs => { r with vx := 0 }) (Regs.raising_all _ _ n))
      · rw [List.length_map, List.length_range] at hj
        rw [List.getElem_map, List.getElem_range]
        exact ⟨h1 j hj, hdesk.gives hfn j⟩
    · obtain ⟨t, ⟨hx, hq', hs', hr, hm, ho⟩, hsame⟩ := ReduceRow.runs_desk hrow hf htypes hd hform hk
      rw [ReduceRow.upTo_all] at hr
      refine ⟨t, row.fold (deskArgs (fun _ => t1) fun _ => a) s k v 0, (List.range n).map (row.flags (deskArgs (fun _ => t1) fun _ => a) s k v 0), by simp, rfl,
        fun j hj => ?_, ⟨hx, hq', hs', hr, hm, ho⟩, hsame⟩
      rw [List.getElem_map, List.getElem_range]
      exact ReduceRow.gives_desk hrow hf htypes hd hfn j
    · intro p t1 a b term ht1 hp hd q upTo hin adds
      have hsucc (j : ℕ) : upTo (j + 1) = upTo j + term j := by
        simp only [upTo, List.sum_range_succ, add_assoc]
      have hzero : upTo 0 = (s.regs k).q[v.f.qn.toFin].toInt := by simp [upTo, q]
      refine ⟨fun hf hterm => ?_, fun hf hd2 hterm => ?_⟩
      · obtain ⟨hq, hstop, hsus, hvop, hscl, -, hbad⟩ := hf
        have hsum : (s.slot k).accumulates v false t1 a b n := ⟨hvop, hscl, hbad, ht1, hd, fun e => by cases e⟩
        obtain ⟨t, ⟨hx, h1, h2, h3, h4, h5⟩, h6⟩ := hsum.runs rfl hp hzero hsucc hin hterm hform hk hq hstop hsus
        exact ⟨t, ⟨hx, h1, h2, h3, h4, h5⟩, h6⟩
      · obtain ⟨hq, hstop, hsus, hvop, hscl, -, hbad⟩ := hf
        have hsum : (s.slot k).accumulates v true t1 a b n := ⟨hvop, hscl, hbad, ht1, hd, fun _ => hd2⟩
        obtain ⟨t, ⟨hx, h1, h2, h3, h4, h5⟩, h6⟩ := hsum.runs rfl hp hzero hsucc hin hterm hform hk hq hstop hsus
        exact ⟨t, ⟨hx, h1, h2, h3, h4, h5⟩, h6⟩

end Sys2Proof.Machine
end
